-- ==== Sys2Proof/Word.lean ====
section
/-! DEFINITION. The word and octet types of the device: every register and indirect word is 32 bits (R325), frames and
images are octets. -/

namespace Sys2Proof

/-- A 32-bit register word. -/
abbrev Word := BitVec 32

/-- An octet of a frame, an image or a record. -/
abbrev Octet := BitVec 8

end Sys2Proof
end

