-- ==== Sys2Proof/Syntax.lean ====
section
/-! DEFINITION. The commands of the block: one constructor of `Instr` per row of spec/opcode_table.json, with the operands
that the row's rule leaves to the sender or to the world outside the digital logic (a host word, a frame, a sensor reading,
an analog outcome, the verdict of a cryptographic check). -/

namespace Sys2Proof

/-- The port a register access enters by, in the coding of DEV_CMD_STATUS.PORT (R346). -/
inductive Port where
  | spi | inb | preload | stream
  deriving DecidableEq, Repr

/-- An output pin with a loop-back check: an OUT pair or a PPS pin (R78). -/
inductive OutPin where
  | out (n : Nat)
  | pps (m : Nat)
  deriving DecidableEq, Repr

/-- The two reset balls of R274. -/
inductive Ball where
  | porst | wrst
  deriving DecidableEq, Repr

/-- A unit that takes part in an idle handshake (R276): the two L1 subsystems and the eight L0 blocks of R277. -/
inductive IdleUnit where
  | management
  | intake
  | block (b : Nat)
  deriving DecidableEq, Repr

/-- The stamp header of a mirrored frame (R151), field by field. -/
structure Stamp where
  secLo : Nat
  ns : Nat
  frac : Nat
  channel : Nat
  port : Nat
  dir : Bool
  tsValid : Bool
  fcsErr : Bool
  trunc : Bool
  oneStep : Bool
  path : Nat
  seq : Nat
  deriving DecidableEq, Repr

/-- One operation of an in-band request (R312). -/
structure InbOp where
  write : Bool
  width : Nat
  addr : Nat
  data0 : Word
  data1 : Word
  deriving DecidableEq, Repr

/-- An in-band management request as firmware sees it (R312). `macOk` is the verdict of the HMAC check of R313;
`swPort` and `lane` are where the frame came from and where the response goes (R314); `eth` holds its link-layer header. -/
structure InbRequest where
  session : Word
  dieId : Nat
  seq : Nat
  ops : List InbOp
  macOk : Bool
  swPort : Nat
  lane : Nat
  eth : List Octet
  deriving DecidableEq, Repr

/-- Where an in-band session request came from (R314): the mirror lane, and its link-layer header. -/
structure InbOrigin where
  lane : Nat
  eth : List Octet
  deriving DecidableEq, Repr

/-- A level that a HOP pin has taken (R88): true high. -/
structure PinLevel where
  pin : Nat
  level : Bool
  deriving DecidableEq, Repr

/-- An entry of a channel's list of references (R114). -/
structure ListEntry where
  ch : Nat
  idx : Nat
  deriving DecidableEq, Repr

/-- A mirror receive lane at the end of a frame, with the FEC blocks corrected and not correctable since its last one (R167, R193). -/
structure LaneFec where
  lane : Nat
  corr : Nat
  unc : Nat
  deriving DecidableEq, Repr

/-- An Update-IR of the test access port (R361, R363): the six bits shifted in, and what the scans before it left in the boundary register. -/
structure TapScan where
  opcode : Nat
  cells : BitVec 502
  deriving DecidableEq, Repr

/-- A temperature conversion (R299) in sixteenths of a degree, and the errors of the processor's RAM corrected since the last one (R296). -/
structure SensorReading where
  temp : Int
  ramCorr : Nat
  deriving DecidableEq, Repr

/-- The reading of one input that an engine iteration takes (R106): the edges accepted since the previous iteration, the timestamp of the
last of them in units of 2^-16 master cycle, and whether the TDC was not stale over the whole span. -/
structure Reading where
  edges : Nat
  ts : Int
  fresh : Bool
  deriving DecidableEq, Repr

/-- A hop request that an engine result may carry (R87): its own channel, or its own channel's group. -/
inductive HopReq where
  | own
  | ownGroup
  deriving DecidableEq, Repr

/-- What one iteration of a loop program computes (R122). The loop response itself belongs to the vendor programs (R118), so it reaches
the model as this operand. `adj` and `step` are in units of 2^-16 ns. `phase`, in units of 2^-8 ns, is what the program measures: the time
offset from the master, the phase against the selected input before its build-out zero, or the XP phase before TOFS. `checkOk` is the
result check code; `offset` is the ENG offset of the post in its tick; `persist` are checkpoint words 32 to 127 as (word, value) pairs;
`corrected` counts the single-bit errors of data memory that the iteration's accesses corrected (R116). -/
structure EngResult where
  p : Nat
  adj : Int
  step : Option Int
  hop : Option HopReq
  phase : Int
  checkOk : Bool
  offset : Nat
  persist : List (Nat × Word)
  corrected : Nat
  deriving DecidableEq, Repr

/-- What the best-master comparison uses of an Announce (R155), most significant quantity first, with stepsRemoved and the sender's
port identity apart. -/
structure Announce where
  prio1 : Nat
  clockClass : Nat
  accuracy : Nat
  variance : Nat
  prio2 : Nat
  gmId : Nat
  steps : Nat
  sender : Nat
  deriving DecidableEq, Repr

/-- The timestamp a STAMP_ACK or a stamp carries (R147, R151): seconds [31:0], nanoseconds, 2^-16 ns. -/
structure Timestamp where
  secLo : Nat
  ns : Nat
  frac : Nat
  deriving DecidableEq, Repr

/-- A HOP record of the event stream (R208): execution tick, offset of H in master cycles, target and sources. -/
structure HopRec where
  sseq : Nat
  exec : Nat
  ofs : Nat
  chTarget : Bool
  ch : Nat
  gmask : Nat
  sources : Nat
  preset : Nat
  deriving DecidableEq, Repr

/-- One input of a READINGS record (R208): index, qualification state, stale flag and reading. -/
structure InputReading where
  idx : Nat
  state : Nat
  stale : Bool
  reading : Reading
  deriving DecidableEq, Repr

/-- R83: a preset as the armed slot or the in-flight registers hold it. -/
structure Preset where
  idx : Nat
  pnom : Nat
  pres : Word
  theta : Word
  divm1 : Nat
  nextIdx : Nat
  chain : Bool
  keepRate : Bool
  ldDiv : Bool
  ldPhofs : Bool
  valid : Bool
  deriving DecidableEq, Repr

/-- R89: a committed hop whose edge E has not passed: its in-flight words, its instant H and its sources. -/
structure InFlight where
  preset : Preset
  h : Nat
  sources : Nat
  deriving DecidableEq, Repr

/-- A channel's live state, iteration phase and checkpoint as a COPY record carries them (R230): states by the codes of R12, the master-cycle
instant of a hop in flight counted from the boundary of the capture. -/
structure ChanCopy where
  state : Nat
  held : Nat
  p : Nat
  resAcc : Nat
  patK : Int
  long : Bool
  time : Nat
  anchor : Int
  thetaLive : Int
  thetaTarget : Int
  adjPend : Int
  lockRun : Nat
  unlRun : Nat
  arming : Option Preset
  armed : Option Preset
  inflight : Option InFlight
  zero : Int
  rezero : Bool
  t0 : Nat
  words : List (Nat × Word)
  checkpoint : List (Nat × Word)
  deriving DecidableEq, Repr

/-- What the checks of R285 leave to the flash device and the signature machinery: the reading, the flash's slot size S in octets
(R281), and the SHA-384 and ECDSA verdicts of causes 4 and 5. The other checks are computed from the image. -/
structure ImageVerdict where
  readOk : Bool
  slotSize : Nat
  keyOk : Bool
  sigOk : Bool
  deriving DecidableEq, Repr

/-- One entry of the section table (R282). -/
structure SectEntry where
  type : Nat
  offset : Nat
  length : Nat
  crc : Nat
  deriving DecidableEq, Repr

/-- The header of an image (R282); `sects` are its NSECT entries. -/
structure ImgHeader where
  magic : Nat
  format : Nat
  length : Nat
  device : Nat
  secVer : Nat
  imgVer : Nat
  pubKey : List Octet
  sects : List SectEntry
  hdrCrc : Nat
  deriving DecidableEq, Repr

/-- A hop preset entry of section 6 (R283): channel, preset index and words 0 to 5 of R83. -/
structure PresetEntry where
  ch : Nat
  idx : Nat
  words : List Word
  deriving DecidableEq, Repr

/-- One record of section 3 (R283): the channel's program and its parameter words 0 to 31. -/
structure ProgRec where
  ch : Nat
  prog : Nat
  params : List Word
  deriving DecidableEq, Repr

/-- The journal policy of section 7 (R307). -/
structure JournalPolicy where
  t1Days : Nat
  t2Days : Nat
  t3Gb : Nat
  t1Mask : Nat
  t2Mask : Nat
  deriving DecidableEq, Repr

/-- An Onion image (R282, R283), decoded: `idMode`, `oui` and `ids` are the identity binding section, `preload` the register
preload pairs, `pstore` the program store words, `ruleA` and `ruleB` words 0 to 16 of each rule, `hopCtl` the 25 hop control
words. A section that is absent is `none` or empty. -/
structure Image where
  verdict : ImageVerdict
  header : ImgHeader
  idMode : Nat
  oui : Nat
  ids : List (Nat × Nat)
  preload : List (Nat × Word)
  pstore : List Word
  programs : List ProgRec
  ruleA : Option (List (List Word))
  ruleB : Option (List (List Word))
  hopCtl : Option (List Word)
  presets : List PresetEntry
  policy : Option JournalPolicy
  deriving DecidableEq, Repr

/-- The boot sources, in the coding of RST_BOOT_STS.SRC (R294). -/
inductive BootSrc where
  | slotA | slotB | host | clone
  deriving DecidableEq, Repr

/-- One calibration slot of the flash (R251): its fields, and the words of its tables and records that differ from the nominal
ones, each with its index in space 0x07 (R258). -/
structure CalSlot where
  magic : Nat
  seq : Nat
  dieId : Nat
  format : Nat
  words : List (Nat × Word)
  crc : Nat
  commit : Nat
  deriving DecidableEq, Repr

/-- What the measurement of an item gives: for item 0 the tuning word averaged over 0.1 ms (R240); for a table, the samples found high
at each code (R238) or the edges in each tap (R239), apart for the odd- and the even-numbered samples or edges (R242), the samples
taken per code in each half, and the handover offset δ in units of 2^-16 fs (R249). -/
structure CalMeasure where
  tune : Nat
  odd : List Nat
  even : List Nat
  samples : Nat
  delta : Int
  deriving DecidableEq, Repr

/-- A firmware slot as the boot ROM checks it (R297). -/
structure FwSlot where
  verdict : ImageVerdict
  header : ImgHeader
  deriving DecidableEq, Repr

/-- What an update has put into its slot (R310): a firmware image or an Onion image. -/
inductive UpdSlot where
  | firmware (slot : FwSlot)
  | image (img : Image)
  deriving DecidableEq, Repr

/-- A record read from a journal tier (R309): its sixteen words. -/
abbrev JournalRec := List Word

/-- What a tick shows of the master: its length in master cycles (R46), and the loop's tuning word, largest and mean phase error
(R53), the last two in ps. -/
structure MasterSample where
  cycles : Nat
  tune : Nat
  phMax : Nat
  phErr : Int
  deriving DecidableEq, Repr

/-- The commands: one constructor per row of spec/opcode_table.json, in the table's order. -/
inductive Instr where
  | applyTickBoundary (m : MasterSample)
  | registerWrite (port : Port) (addr : Nat) (data : Word)
  | spiWrite (addr : Nat) (words : List Word)
  | spiWriteFixed (addr : Nat) (words : List Word)
  | spiRead (addr n : Nat)
  | spiReadFixed (addr n : Nat)
  | spiStatus
  | spiBadOpcode (opcode : Nat)
  | spiTransactionEnd (short partialWord : Bool)
  | inBandRequest (req : InbRequest)
  | inBandSessionRequest (dieId : Nat) (macOk : Bool) (swPort : Nat) (origin : InbOrigin)
  | devKeyWrite (port : Port) (data : Word)
  | devGateWrite (port : Port) (data : Word)
  | gateRampStep (b : Nat)
  | modeReqAutomatic (port : Port)
  | modeReqHoldFreerun (port : Port)
  | modeReqForceHoldover (port : Port)
  | modeReqService (port : Port)
  | modeReqInvalid (port : Port) (value : Nat)
  | mailboxGo (port : Port) (data : Word)
  | mailboxOpenRead (port : Port)
  | mailboxCloseRead (port : Port)
  | snapshotTake (port : Port) (data : Word) (engOfs : Nat)
  | snapshotCoherentCapture
  | indAddrWrite (port : Port) (data : Word)
  | indDataRead (port : Port)
  | indDataWrite (port : Port) (data : Word)
  | cfgCrcCommit (port : Port) (data : Word)
  | cfgCrcRefWrite (port : Port) (data : Word)
  | crcScanStart
  | crcScanEnd
  | retune (port : Port)
  | relock (port : Port)
  | bandsel (port : Port)
  | acquisitionSettleDone
  | bandSearchDone (vco band tune : Nat)
  | masterLockDeclared (durationUs tune : Nat)
  | acquisitionAttemptTimeout
  | masterUnlock
  | masterLockRecovered
  | unlockGraceExpired
  | masterUnlockTimeout
  | xoReferenceMissing
  | xoReferenceResumed
  | tset (port : Port) (c : Nat)
  | slewCancel (port : Port) (c : Nat)
  | outCtlWrite (port : Port) (data : Word)
  | outputStart (pin : OutPin)
  | outputStop (pin : OutPin)
  | driverChangeMuteEnd (n : Nat)
  | loopbackMiss (pin : OutPin)
  | loopbackExtra (pin : OutPin)
  | loopbackFaultClear (pin : OutPin)
  | sliceSwap (n : Nat)
  | channelLockDeclared (c : Nat)
  | channelLockLost (c : Nat)
  | hopPinEdge (pin : PinLevel) (cyc : Nat)
  | hopHoldoffExpired (p : Nat)
  | hopCommand (port : Port) (data : Word) (cyc : Nat)
  | hopArmingComplete (c : Nat)
  | hopTakesEffect (c : Nat)
  | refinActivityTimeout (i : Nat)
  | refinSignalReturn (i : Nat)
  | refinFreqGateClose (i : Nat) (offset : Int)
  | refinSoakExpired (i : Nat)
  | refinHitHoldExpired (i : Nat)
  | refinHitPersistExpired (i : Nat)
  | refinLockout (port : Port) (i : Nat)
  | refinRelease (port : Port) (i : Nat)
  | refConfigWrite (port : Port) (i word : Nat) (data : Word)
  | waitToRestoreExpired (entry : ListEntry)
  | engineIteration (c : Nat) (reading : Reading) (result : EngResult)
  | engineRestart (port : Port) (c : Nat)
  | engineRetireCommand (port : Port) (e : Nat)
  | engineParityError (e : Nat)
  | engineWatchdogExpired (e : Nat)
  | engineDmemUncorrectable (e : Nat)
  | engineOverrun (e : Nat)
  | spareLoadComplete (c : Nat)
  | pstoreScrub (corrected : Nat) (uncorrectable : Bool)
  -- R147: a return message by its fields TYPE, SEQ, PAYLOAD or its parts, and CRC; a bad one by octets 0 to 18 and CRC
  | twlHopMessage (type : Octet) (seq : BitVec 16) (payload : BitVec 128) (crc : Word) (cyc : Nat)
  | twlStampAck (type : Octet) (seq tag status : BitVec 16) (stamp : BitVec 96) (crc : Word)
  | twlRxBadMessage (body : BitVec 152) (crc : Word)
  | twlRxBlockLock
  | twlRxBlockLockLoss
  | stampTagExpired (tag : Nat)
  | announceReceiptTimeout (f : Nat)
  | syncReceiptTimeout (f : Nat)
  | originSyncDue (s : Nat)
  | originAnnounceDue (s : Nat)
  | delayReqDue (f : Nat)
  | pdelayReqDue (f : Nat)
  | exchangeResponseTimeout (f : Nat)
  | esmcQlTimeout (i : Nat)
  | esmcInfoPduDue (k : Nat)
  | esmcEventPduSend (k : Nat)
  | mirrorFrameArrival (lane : LaneFec) (octets : List Octet)
  | mirBlockLockLoss (lane : Nat)
  | parsePassStart
  | parsePassDecision (parseLane : Nat)
  | frameRelease (lane : Nat)
  | reorderTimeout (lane : Nat)
  | fragmentEntryAged (e : Nat)
  | bankSwap (port : Port)
  | slowPathEntryConsumed
  | heartbeatToggle
  | heartbeatEdge (k : Nat)
  | heartbeatInputDead (k : Nat)
  | claimWaitExpired
  | activeNFall
  | formWaitExpired
  | pairLaneFrameReceived (lane : Nat) (crcOk tickMatches : Bool) (tick epoch : Nat) (act : Bool) (unknownRecords : Nat)
  | pairLinkUp
  | pairLinkLoss (blockLock : Bool)
  | hello (pos : Bool) (pairId pref : Nat) (revert : Bool) (hash : Word)
  | role (roleCode mode : Nat) (claim : Bool) (phase : Nat) (gridB : Int)
  | yield (cause tick : Nat)
  | hopStreamRecord (r : HopRec)
  | retireRecord (c tick : Nat)
  | digest (tick : Nat) (crc : Word) (flags : Nat)
  | chdig (tick : Nat) (crcs : List Nat)
  | epochOffer (epoch : Nat)
  | epochStart (epoch tick : Nat)
  | epochCommit (epoch : Nat)
  | epochAck (epoch tick : Nat)
  | epochAbort (epoch : Nat)
  | epochHandover (epoch tick : Nat)
  | resetReq
  | config (sseq exec : Nat) (pairs : List (Nat × Word)) (endOfGroup : Bool)
  | readings (sseq exec mcc : Nat) (inputs : List InputReading)
  | message (sseq exec target : Nat) (stamp : Stamp) (octets : List Octet)
  | ql (sseq exec input ssm essm : Nat)
  | copy (c tick : Nat) (data : ChanCopy)
  | cloneRequest (pos : Bool) (dieId : Nat)
  | cloneData (octets : Nat)
  | epochPaceComplete (g : Int) (linkDelay : Nat)
  | epochStaticComplete (ok : Bool)
  | channelJoinComplete (c : Nat) (replayed : ChanCopy)
  | stepDigest
  | digestLate
  | epochTimeout
  | epochRetryDue
  | coldWindowExpired
  | revertWaitExpired
  | handover (port : Port)
  | resync (port : Port)
  | abort (port : Port)
  | peerReset (port : Port)
  | calTemperatureCheck
  | calPeriodExpired
  | calRun (port : Port)
  | calStore (port : Port)
  | calRotationStart
  | calItemStart
  | calMeasureComplete (m : CalMeasure)
  | calItemAccept
  | calItemEnd
  | calBlendStep
  | calStoreIntervalExpired
  | calStoreOperationComplete (ok : Bool)
  | calStoreResume
  | powerOnResetAssert
  | powerOnResetRelease
  | intoscSettleComplete (straps : Nat)
  | intoscStop
  | xoMissingEdge
  | xoMonitorWindow (count : Nat)
  | systemPllLock
  | muxProofWindow (toSpll proved : Bool)
  | muxSwitchComplete
  | muxSwitchTimeout
  | freqCountStart (port : Port) (data : Word)
  | freqCountDone (count : Nat)
  | resetBallEdge (b : Ball) (level : Bool)
  | resetBallLevelTaken (b : Ball) (straps : Nat)
  | resetHoldExpired (s : Nat) (straps : Nat)
  | idleAcknowledge (u : IdleUnit)
  | idleTimeout (u : IdleUnit)
  | softResetComplete (b : Nat)
  | hostResetManagement (port : Port)
  | hostResetIntake (port : Port)
  | hostResetWarm (port : Port)
  | hostResetCold (port : Port)
  | softResetTwlReceiver (port : Port)
  | softResetMirPcs (port : Port)
  | softResetPlPcs (port : Port)
  | softResetCalSequencer (port : Port)
  | softResetFlash (port : Port)
  | softResetEmmc (port : Port)
  | softResetSensor (port : Port)
  | softResetFreqCounter (port : Port)
  | bootCalSlotsRead (factory slotA slotB : CalSlot)
  | firmwareSlotCheck (slotB : Bool) (slot : FwSlot)
  | bootImageCheck (src : BootSrc) (img : Image)
  | xoAbsentTimeout
  | cloneTimeout
  | intrefTrimComplete (vco band tune : Nat)
  | hostLoadChunk (port : Port) (words : Nat)
  | hostLoadChunkConsumed
  | hostLoadEnd (port : Port)
  | hostLoadCheckComplete (img : Image)
  | hostLoadAbort (port : Port)
  | tapUpdateIr (ir : TapScan)
  | tapReset
  | mgmtWatchdogExpired
  | lockstepMismatch
  | sensorConversion (k : Nat) (reading : SensorReading)
  | supplyConversion (k mv : Nat)
  | powerFailWarning (rail : Nat)
  | powerFailClear
  | eventTierCopy (n : Nat)
  | journalOpen (sectors : Nat) (held : List Nat)
  | journalCapture
  | journalAggregate
  | journalCheckpoint
  | journalCaptureDropped
  | emmcCommandComplete (index : Nat) (ok : Bool) (status : Word)
  | journalRead (port : Port)
  | journalReadComplete
  | updateStart (port : Port) (target : Nat)
  | updateChunk (port : Port) (words : Nat)
  | updateChunkProgrammed (ok : Bool)
  | updateEnd (port : Port)
  | updateCheckComplete (programmed : Bool) (slot : UpdSlot)
  | updateActivate (port : Port)
  | updateAbort (port : Port)
  | updateResume
  | fuseAdv (port : Port)
  | fuseProgramComplete
  | activeNRise
  | intoscReturn
  | mirBlockLockAcquired (lane : Nat)
  | tdcEdgeDrop (i : Nat)
  | peerHopRouterEntry (cyc : Nat)
  deriving DecidableEq, Repr

end Sys2Proof
end

