-- ==== Sys2Proof/Decode.lean ====
section
/-! DEFINITION. The decoder of table words. The table gives no row of this block any bits: commands are events, register accesses and
records, not instruction words (opcode_table.json). No word spells a command. -/

namespace Sys2Proof

/-- The command that the low `nbits` bits of `w` spell: none, since no row of the table has bits. -/
def decodeTableWord (_nbits _w : Nat) : Option Instr := none

end Sys2Proof
end

