-- ==== Sys2Proof/Machine/Bits.lean ====
section
/-! DEFINITION. Plain arithmetic on bits and octets: fields of numbers, signed fields, the CRC-32 of R144, octet strings. -/

namespace Sys2Proof.Machine

/-- Bits `hi` down to `lo` of a number. -/
def bitsOf (n hi lo : Nat) : Nat := n / 2 ^ lo % 2 ^ (hi - lo + 1)

/-- Bit `k` of a number. -/
def bitOf (n k : Nat) : Bool := n / 2 ^ k % 2 == 1

/-- The number with bit `k` set to `b`. -/
def withBit (n k : Nat) (b : Bool) : Nat :=
  if bitOf n k == b then n else if b then n + 2 ^ k else n - 2 ^ k

/-- 1 for true. -/
def flag (b : Bool) : Nat := if b then 1 else 0

/-- The signed value of an unsigned `w`-bit field. -/
def signedOf (w n : Nat) : Int := if n < 2 ^ (w - 1) then (n : Int) else (n : Int) - 2 ^ w

/-- The unsigned `w`-bit field of a signed value. -/
def fieldOf (w : Nat) (x : Int) : Nat := (x % (2 ^ w : Nat)).toNat

/-- A signed value held inside `[lo, hi]`. -/
def clampInt (x lo hi : Int) : Int := max lo (min x hi)

/-- A quotient rounded to nearest, halves away from zero for positive operands (assumption 9). -/
def roundDiv (a b : Nat) : Nat := (2 * a + b) / (2 * b)

/-- The number of ones among the low `w` bits. -/
def popCount (n : Nat) : Nat → Nat
  | 0 => 0
  | w + 1 => flag (bitOf n w) + popCount n w

/-- The index of the lowest one among bits `from` to `from + w - 1`. -/
def lowestBit (n : Nat) : Nat → Nat → Option Nat
  | 0, _ => none
  | w + 1, k => if bitOf n k then some k else lowestBit n w (k + 1)

/-- One bit of the reflected CRC-32 of IEEE 802.3. -/
def crcBit (c : BitVec 32) : BitVec 32 :=
  if c.getLsbD 0 then (c >>> 1) ^^^ 0xEDB88320#32 else c >>> 1

/-- One octet of the CRC-32. -/
def crcOctet (c : BitVec 32) (o : Octet) : BitVec 32 :=
  (List.range 8).foldl (fun c _ => crcBit c) (c ^^^ o.setWidth 32)

/-- R144: the CRC-32 of an octet string: polynomial, initial value, final complement and bit order of IEEE 802.3. -/
def crc32 (os : List Octet) : Word := ~~~ (os.foldl crcOctet 0xFFFFFFFF#32)

/-- The octets of a number, least significant first. -/
def octetsLe (n : Nat) : Nat → List Octet
  | 0 => []
  | k + 1 => BitVec.ofNat 8 n :: octetsLe (n / 256) k

/-- The octets of a number, most significant first. -/
def octetsBe (n k : Nat) : List Octet := (octetsLe n k).reverse

/-- The number that octets spell, most significant first. -/
def ofOctetsBe (os : List Octet) : Nat := os.foldl (fun n o => n * 256 + o.toNat) 0

/-- Octet `i` of a string; octets past the end read 0. -/
def octAt (os : List Octet) (i : Nat) : Nat := (os.getD i 0).toNat

/-- The number that `k` octets from `i` spell, most significant first. -/
def beAt (os : List Octet) (i k : Nat) : Nat := ofOctetsBe ((List.range k).map fun j => os.getD (i + j) 0)

/-- Replace the entry at `i` of a list, leaving others. -/
def setAt {α : Type} (l : List α) (i : Nat) (a : α) : List α := l.set i a

end Sys2Proof.Machine
end

