-- ==== Sys2Proof/Config.lean ====
section
/-! DEFINITION. The values the spec leaves open: opaque constants without a body, so that no proof can lean on a value.
A function of a counter (`State.free`) gives a fresh value each time; a function of a code gives one value per code. -/

namespace Sys2Proof

/-- A natural number the spec does not state, fresh for each counter value (assumption 4). -/
opaque Config.freeNat : Nat → Nat

/-- A word the spec does not state, fresh for each counter value (assumption 4). -/
opaque Config.freeWord : Nat → Word

/-- A signed quantity the spec does not state, fresh for each counter value (assumption 4). -/
opaque Config.freeInt : Nat → Int

/-- The trigger code of a mode-change entry of the event log: R303 names the item and gives no coding. -/
opaque Config.modeTrigger : Nat → Word

/-- The subcode of a pair entry of the event log: R303 names the item and gives no coding. -/
opaque Config.pairSubcode : Nat → Word

/-- The reason code of an in-band refusal in the event log: R303 names the item and gives no coding. -/
opaque Config.inbandReason : Nat → Word

/-- The HMAC-SHA-256 of an in-band response under the key in the fuses, which the spec does not give (R312). -/
opaque Config.inbandMac : List Octet → Nat

/-- The CRC-32 of a step digest over the quantities of its channels: R219 names what it covers and no serialisation. -/
opaque Config.digestCrc : List (List Int) → Word

/-- The CRC-16 of one channel of a CHDIG record: R208 names it and gives no serialisation. -/
opaque Config.channelCrc : List Int → Nat

/-- The portNumber of a flow's or a stream's port identity: R156 and R159 name the identity and give no number. -/
opaque Config.portNumber : Nat → Nat

/-- Words of journal records that stood on the eMMC before the journal was opened, by tier and index; word 16 is the tick: the
content of the part's memory is outside the device. -/
opaque Config.oldRecord : Nat → Nat → Nat → Word

/-- The first sector of each journal tier's region: R307 gives the order of the regions and not where they start. -/
opaque Config.tierSector : Nat → Nat

/-- Word `w` of the data memory of engine `e` after the run that draw `n` names: R139 leaves the contents to the vendor programs. -/
opaque Config.dmemWord (e w n : Nat) : Word

/-- Whether word `w` of the data memory of engine `e`, retired for an uncorrectable error, is one that holds it; `n` as in `dmemWord`. R129
does not say which word it was. -/
opaque Config.dmemFault (e w n : Nat) : Bool

/-- Octet `j` of the body of a Gnoavo record of a type, from its contents: R208 lists them and gives no layout. -/
opaque Config.recordBody (type : Nat) (contents : List Int) (j : Nat) : Octet

end Sys2Proof
end

