-- ==== Sys2Proof/Machine/RegMap.lean ====
section
/-! DEFINITION. The register map: every register the block maps of spec/ name (02 R52 R53, 03 R79 to R82, 04 R102 R103,
05 R135 to R139, 06 R165 R166, 07 R193 to R198, 08 R235 R236, 09 R256 to R258, 10 R291 to R295, 11 R317 to R319,
12 R345 to R347), with its address, index stride, count, reset value, the masks of its field classes (R5) and the masks of
the bits each reset level restores (R10), and every field by name. Words of the indirect spaces of R343 that hold storage
are registers here too: their key is (space + 2) × 2^24 + word index. -/

namespace Sys2Proof.Machine

/-- Every register, by the manual's name. An indexed register is one name with an index. -/
inductive Rg where
  | MSYN_REF | MSYN_NINT | MSYN_NNUM | MSYN_NDEN | MSYN_LOOP | MSYN_CMD | MSYN_STS | MSYN_TUNE | MSYN_PHERR
  | MSYN_ACQ | MSYN_UNLOCK_CNT | MSYN_REFMISS_CNT | MSYN_TICKSLIP_CNT | MSYN_ATTEMPT_FAIL_CNT
  | MSYN_LANE_SW_CNT | MSYN_XOF | CH_CFG | CH_PNOM_LO | CH_PNOM_HI | CH_PRES | CH_PHOFS | CH_DRIZZLE
  | CH_LOCK | CH_HOP | CH_TSET_SH | CH_TSET_SL | CH_TSET_NS | CH_TSET_FR | CH_CMD | CH_STS | CH_PHERR
  | CH_RATE | CH_LOCK_CNT | CH_UNLOCK_CNT | CH_OVERRIDE_CNT | CH_LATE_CNT | CH_STEP_CNT | CH_HOP_CNT
  | OUT_CFG | OUT_DIV | OUT_DRV | OUT_STS | OUT_LB_MISS_CNT | OUT_LB_EXTRA_CNT | PPS_CFG | PPS_WIDTH
  | PPS_OFS | PPS_LB_CNT | OUT_CTL | OUT_FAULT | OUT_PPS_STS | HOP_PIN_CFG | HOP_CTL | HOP_CMD | HOP_GRP_CFG
  | HOP_PIN_CNT | HOP_HOLDOFF_CNT | HOP_BUSY_CNT | HOP_NOARM_CNT | HOP_ARMFAIL_CNT | HOP_IGNORED_CNT
  | HOP_LOGLOST_CNT | HOP_GRP_CNT | REF_CFG | REF_FNOM | REF_QUAL | REF_HIT | REF_STS | REF_FOFS
  | REF_DISQ_CNT | REF_HIT_CNT | REFIN_CMD | REFIN_QUAL0 | REFIN_QUAL1 | REFIN_STALE0 | REFIN_STALE1
  | REFIN_SWITCH_CNT | REFIN_TDC_DROP_CNT | ENG_CHMAP | ENG_CTL | ENG_CMD | ENG_POOL | ENG_LAST_RETIRE
  | ENG_COLL | ENG_RETIRED | ENG_RETIRED16 | ENG_SPARE_FREE | ENG_RETIRE_CNT | ENG_PARITY_CNT | ENG_WDOG_CNT
  | ENG_PLAUS_CNT | ENG_DMEM_UNC_CNT | ENG_OVERRUN_CNT | ENG_DMEM_CORR_CNT | ENG_PSTORE_CORR_CNT
  | ENG_COLL_LATE_CNT | ENG_OVC_ENTRY_CNT | ENG_OVC_EXIT_CNT | TWL_CTL | TWL_STS | ESMC_CTL | TWL_RX_CRC_CNT
  | TWL_RX_BLK_CNT | TWL_RX_SEQGAP_CNT | TWL_RX_TYPE_CNT | TWL_HOP_RX_CNT | TWL_ACK_DROP_CNT
  | TWL_ACK_ORPHAN_CNT | TWL_CONV_DROP_CNT | FLOW_CFG | FLOW_ASYM | FLOW_STS | FLOW_MISS_CNT | ORIG_CFG
  | ORIG_INT | ORIG_STS | ORIG_DROP_CNT | ESMC_MAP | ESMC_TX | ESMC_RX_CNT | ESMC_TIMEOUT_CNT | ESMC_BAD_CNT
  | ESMC_TX_CNT | MIR_CTL | MIR_REORDER | MIR_STS | MIR_RX_FRAMES_CNT | MIR_FCS_CNT | MIR_RUNT_CNT
  | MIR_GIANT_CNT | MIR_BLK_CNT | MIR_FEC_CORR_CNT | MIR_FEC_UNC_CNT | MIR_SEQ_GAP_CNT | MIR_SEQ_LATE_CNT
  | MIR_TX_FRAMES_CNT | MIR_PGRP | TPL_CTL | TPL_OCT | PARSE_CTL | PARSE_BANK_CMD | PARSE_BANK_STS
  | PARSE_SLOW_POL0 | PARSE_SLOW_POL1 | PARSE_SLOW_STS | PARSE_FLOW_POL | PARSE_REQ_POL | PARSE_ESMC_POL
  | PARSE_FRAG_STS | PARSE_SW_FCS_CNT | PARSE_TRUNC_CNT | PARSE_TOO_DEEP_CNT | PARSE_WINDOW_CNT
  | PARSE_LEN_ETH_CNT | PARSE_LEN_HSR_CNT | PARSE_LEN_IP4_CNT | PARSE_LEN_IP6_CNT | PARSE_LEN_UDP_CNT
  | PARSE_LEN_PTP_CNT | PARSE_LEN_TLV_CNT | PARSE_LEN_ESMC_CNT | PARSE_IP_HDR_CNT | PARSE_IP6_FRAG_CNT
  | PARSE_FRAG_MISS_CNT | PARSE_FRAG_FULL_CNT | PARSE_FRAG_SLOW_CNT | PARSE_NOMATCH_CNT | PARSE_DROP_RULE_CNT
  | PARSE_TARGET_CNT | PARSE_PTP_SLOW_CNT | PARSE_FLOW_POLICE_CNT | PARSE_REQ_POLICE_CNT
  | PARSE_ESMC_POLICE_CNT | PARSE_SLOW_POLICE_CNT | PARSE_SLOW_FULL_CNT | PARSE_INTAKE_OVF_CNT
  | PARSE_RECIRC_CNT | PARSE_DELIVER_CNT | PARSE_SLOW_CNT | PARSE_SWAP_CNT | PARSE_SWAP_DEFER_CNT | PAIR_CFG
  | PAIR_ALIGN | PAIR_TIMERS | PAIR_EPOCH_CFG | PAIR_LINK | PAIR_CMD | PAIR_STS | PAIR_EPOCH_STS | PAIR_DIV
  | PAIR_TRIM | PAIR_PHASE | PAIR_GRID | PAIR_REL | PAIR_LINK_LOSS_CNT | PAIR_HB0_MISS_CNT
  | PAIR_HB1_MISS_CNT | PAIR_PEER_DEATH_CNT | PAIR_RX_ERR_CNT | PAIR_DIGEST_MISMATCH_CNT
  | PAIR_DIGEST_LATE_CNT | PAIR_EVT_LATE_CNT | PAIR_EVQ_DROP_CNT | PAIR_TAKEOVER_HITLESS_CNT
  | PAIR_TAKEOVER_COLD_CNT | PAIR_HANDOVER_CNT | PAIR_EPOCH_COMMIT_CNT | PAIR_EPOCH_ABORT_CNT
  | PAIR_REPAIR_CNT | PAIR_CLAIM_BLOCK_CNT | CAL_CTL | CAL_CMD | CAL_STS | CAL_SEQ | CAL_ROT_CNT
  | CAL_ITEM_OK_CNT | CAL_REJ_MONO_CNT | CAL_REJ_TAP_CNT | CAL_REJ_SPAN_CNT | CAL_REJ_INL_CNT
  | CAL_ABORT_UNLOCK_CNT | CAL_DISCARD_HOP_CNT | CAL_SKIP_SWAP_CNT | CAL_ABORT_RESET_CNT | CAL_TRIG_TEMP_CNT
  | CAL_STORE_CNT | CAL_STORE_FAIL_CNT | CAL_STORE_BLOCK_CNT | CAL_SLOT_INVALID_CNT | CLK_CTL | CLK_STS
  | CLK_XOCNT | CLK_FC_CTL | CLK_FC_RES | CLK_XOFAIL_CNT | CLK_MUX_CNT | CLK_MUX_REJ_CNT | CLK_MUX_FORCE_CNT
  | CLK_RAMP_CNT | RST_STS | RST_LAST | RST_BASIC | RST_BOOT_STS | RST_CMD | RST_SOFT | RST_IDLE_TMO
  | RST_HLOAD_CTL | RST_PORST_CNT | RST_WRST_CNT | RST_WDOG_CNT | RST_HOST_CNT | RST_PEER_CNT | RST_CRC_CNT
  | RST_UPDATE_CNT | RST_FORCED_CNT | RST_REACH0 | RST_REACH1 | RST_IDLE_STS | RST_HLOAD_STS | RST_HLOAD_WIN
  | MGMT_CTL | MGMT_STS | MGMT_FW_STS | MGMT_TEMP_WARN | MGMT_PFW_CTL | MGMT_ARB | MGMT_TEMP | MGMT_SUP
  | MGMT_JRN_CTL | MGMT_JRN_RDIDX | MGMT_JRN_STS | MGMT_EMMC_STS | MGMT_UPD_CTL | MGMT_UPD_STS | MGMT_INB_STS
  | MGMT_RAM_CORR_CNT | MGMT_TEMP_WARN_CNT | MGMT_SUP_WARN_CNT | MGMT_PFW_CNT | MGMT_LOG_LOST_CNT
  | MGMT_LOG_OVW_CNT | MGMT_EVT_OVW_CNT | MGMT_JRN_LOST_CNT | MGMT_EMMC_ERR_CNT | MGMT_UPD_OK_CNT
  | MGMT_UPD_FAIL_CNT | MGMT_INB_OK_CNT | MGMT_INB_AUTH_CNT | MGMT_INB_REPLAY_CNT | MGMT_INB_REJ_CNT
  | MGMT_FW_REFUSE_CNT | MGMT_JRN_RDBUF | MGMT_UPD_WIN | DEV_ID | DEV_REV | DEV_MODE | DEV_MODE_REQ
  | DEV_STRAP | DEV_KEY | DEV_GATE | DEV_CMD_STATUS | DEV_LOST_WRITES | DEV_REJECT_CNT | DEV_DEFER_CNT
  | DEV_ALERT | DEV_ALERT_EN | DEV_BUSERR_CNT | DEV_SPI_ERR_CNT | CFG_CRC_LIVE | CFG_CRC_REF | CFG_CRC_CTL
  | CFG_CRC_MISMATCH_CNT | MBX_SEL | MBX_STAT | MBX_D | SNAP_CMD | SNAP_STAT | IND_ADDR | IND_DATA | IND_CTL
  | SNAP_HOLD | PSTORE | PARAM | PERSIST | DMEM | RULE_A | HIT_A | RULE_B | HIT_B | PRESET | TAP | CALREC
  deriving DecidableEq, Repr

/-- What the maps say of one register. `base + stride * i` is the byte address (or key) of index `i`, `reset + step * i`
its reset word; `cfg`, `cfh`, `par`, `cmd`, `cnt` are the masks of its CFG, CFH, CMD parameter, CMD bit and CNT fields
(R5, R366); `guard` says that it holds a guarded field (R7); `l1` to `l4` are the bits restored first at that level (R10). -/
structure Info where
  base : Nat
  stride : Nat
  count : Nat
  reset : Nat
  step : Nat
  cfg : Nat
  cfh : Nat
  par : Nat
  cmd : Nat
  cnt : Nat
  guard : Bool
  l1 : Nat
  l2 : Nat
  l3 : Nat
  l4 : Nat
  deriving DecidableEq, Repr

/-- A plain counter register: class CNT, 32 bits (R6), restored at L2. -/
def Info.counter (base stride count : Nat) : Info :=
  ⟨base, stride, count, 0, 0, 0, 0, 0, 0, 0xffffffff, false, 0, 0xffffffff, 0, 0⟩

/-- A status register without host-writable bits, restored at the levels given. -/
def Info.status (base stride count reset l1 l2 l3 l4 : Nat) : Info :=
  ⟨base, stride, count, reset, 0, 0, 0, 0, 0, 0, false, l1, l2, l3, l4⟩

/-- A configuration register: CFG bits only, unguarded, restored at L3. -/
def Info.config (base stride count reset cfg : Nat) : Info :=
  ⟨base, stride, count, reset, 0, cfg, 0, 0, 0, 0, false, 0, 0, cfg, 0⟩

/-- The map entry of each register. -/
def Rg.info : Rg → Info
  | .MSYN_REF => ⟨0x30000, 0, 1, 0, 0, 0x17, 0, 0, 0, 0, true, 0, 0, 0x17, 0⟩
  | .MSYN_NINT => ⟨0x30004, 0, 1, 0x140, 0, 0x3ff, 0, 0, 0, 0, true, 0, 0, 0x3ff, 0⟩
  | .MSYN_NNUM => ⟨0x30008, 0, 1, 0, 0, 0xffffffff, 0, 0, 0, 0, true, 0, 0, 0xffffffff, 0⟩
  | .MSYN_NDEN => ⟨0x3000c, 0, 1, 1, 0, 0xffffffff, 0, 0, 0, 0, true, 0, 0, 0xffffffff, 0⟩
  | .MSYN_LOOP => ⟨0x30010, 0, 1, 0x320423, 0, 0xff0737, 0, 0, 0, 0, true, 0, 0, 0xff0737, 0⟩
  | .MSYN_CMD => ⟨0x30014, 0, 1, 0, 0, 0, 0, 0, 7, 0, true, 0, 7, 0, 0⟩
  | .MSYN_STS => .status 0x30040 0 1 0 0 0 0x3f7fff 0
  | .MSYN_TUNE => .status 0x30044 0 1 0x80000 0 0 0xfffff 0
  | .MSYN_PHERR => .status 0x30048 0 1 0 0 0 0xffffffff 0
  | .MSYN_ACQ => .status 0x3004c 0 1 0 0 0 0xffffffff 0
  | .MSYN_UNLOCK_CNT => .counter 0x30080 0 1
  | .MSYN_REFMISS_CNT => .counter 0x30084 0 1
  | .MSYN_TICKSLIP_CNT => .counter 0x30088 0 1
  | .MSYN_ATTEMPT_FAIL_CNT => .counter 0x3008c 0 1
  | .MSYN_LANE_SW_CNT => .counter 0x30090 0 1
  | .MSYN_XOF => ⟨0x300c0, 0, 1, 0x2625a00, 0, 0x7ffffff, 0, 0, 0, 0, true, 0, 0, 0x7ffffff, 0⟩
  | .CH_CFG => .config 0x80000 0x400 0x200 0 3
  | .CH_PNOM_LO => ⟨0x80004, 0x400, 0x200, 0, 0, 0, 0xffffffff, 0, 0, 0, false, 0, 0, 0xffffffff, 0⟩
  | .CH_PNOM_HI => ⟨0x80008, 0x400, 0x200, 0x8000, 0, 0, 0xffffffff, 0, 0, 0, false, 0, 0, 0xffffffff, 0⟩
  | .CH_PRES => ⟨0x8000c, 0x400, 0x200, 0, 0, 0, 0xffffffff, 0, 0, 0, false, 0, 0, 0xffffffff, 0⟩
  | .CH_PHOFS => ⟨0x80010, 0x400, 0x200, 0, 0, 0, 0xffffffff, 0, 0, 0, false, 0, 0, 0xffffffff, 0⟩
  | .CH_DRIZZLE => .config 0x80014 0x400 0x200 0x64 0x3fff
  | .CH_LOCK => .config 0x80018 0x400 0x200 0x14 0xffff
  | .CH_HOP => .config 0x8001c 0x400 0x200 0 0x13f1f
  | .CH_TSET_SH => ⟨0x80020, 0x400, 0x200, 0, 0, 0xffff, 0, 0, 0, 0, false, 0, 0xffff, 0, 0⟩
  | .CH_TSET_SL => ⟨0x80024, 0x400, 0x200, 0, 0, 0xffffffff, 0, 0, 0, 0, false, 0, 0xffffffff, 0, 0⟩
  | .CH_TSET_NS => ⟨0x80028, 0x400, 0x200, 0, 0, 0x3fffffff, 0, 0, 0, 0, false, 0, 0x3fffffff, 0, 0⟩
  | .CH_TSET_FR => ⟨0x8002c, 0x400, 0x200, 0, 0, 0xffff, 0, 0, 0, 0, false, 0, 0xffff, 0, 0⟩
  | .CH_CMD => ⟨0x80030, 0x400, 0x200, 0, 0, 0, 0, 0, 3, 0, false, 0, 3, 0, 0⟩
  | .CH_STS => .status 0x80040 0x400 0x200 0 0 0 0x80007f7f 0
  | .CH_PHERR => .status 0x80044 0x400 0x200 0 0 0 0xffffffff 0
  | .CH_RATE => .status 0x80048 0x400 0x200 0 0 0 0xffffffff 0
  | .CH_LOCK_CNT => .counter 0x80080 0x400 0x200
  | .CH_UNLOCK_CNT => .counter 0x80084 0x400 0x200
  | .CH_OVERRIDE_CNT => .counter 0x80088 0x400 0x200
  | .CH_LATE_CNT => .counter 0x8008c 0x400 0x200
  | .CH_STEP_CNT => .counter 0x80090 0x400 0x200
  | .CH_HOP_CNT => .counter 0x80094 0x400 0x200
  | .OUT_CFG => ⟨0x100000, 0x10, 0x80, 0x8000, 1, 0xf1ff, 0, 0, 0, 0, false, 0, 0, 0xf1ff, 0⟩
  | .OUT_DIV => ⟨0x100004, 0x10, 0x80, 0, 0, 0, 0xffffff, 0, 0, 0, false, 0, 0, 0xffffff, 0⟩
  | .OUT_DRV => .config 0x100008 0x10 0x80 0 0xffff0033
  | .OUT_STS => .status 0x10000c 0x10 0x80 0 0 0 0x7f 0
  | .OUT_LB_MISS_CNT => .counter 0x100800 8 0x80
  | .OUT_LB_EXTRA_CNT => .counter 0x100804 8 0x80
  | .PPS_CFG => .config 0x100c00 0x10 0x10 0x8000 0x91ff
  | .PPS_WIDTH => .config 0x100c04 0x10 0x10 0x186a0 0xfffff
  | .PPS_OFS => .config 0x100c08 0x10 0x10 0 0xffffffff
  | .PPS_LB_CNT => .counter 0x100c0c 0x10 0x10
  | .OUT_CTL => .config 0x100d00 0 1 0 7
  | .OUT_FAULT => .status 0x100d04 4 4 0 0 0 0xffffffff 0
  | .OUT_PPS_STS => .status 0x100d14 0 1 0 0 0 0xffffffff 0
  | .HOP_PIN_CFG => ⟨0x8040000, 1, 8, 0, 0, 0xe1ffff0f, 0, 0, 0, 0, false, 0, 0xe1ffff0f, 0, 0⟩
  | .HOP_CTL => ⟨0x8040008, 0, 1, 0x400, 0, 0xf00, 0, 0, 0, 0, false, 0, 0xf00, 0, 0⟩
  | .HOP_CMD => ⟨0x8040009, 0, 1, 0, 0, 0, 0, 0x41ffffff, 0x80000000, 0, false, 0, 0xc1ffffff, 0, 0⟩
  | .HOP_GRP_CFG => ⟨0x8040010, 1, 0x10, 0, 0, 0xf, 0, 0, 0, 0, false, 0, 0xf, 0, 0⟩
  | .HOP_PIN_CNT => .counter 0x8040020 1 8
  | .HOP_HOLDOFF_CNT => .counter 0x8040028 0 1
  | .HOP_BUSY_CNT => .counter 0x8040029 0 1
  | .HOP_NOARM_CNT => .counter 0x804002a 0 1
  | .HOP_ARMFAIL_CNT => .counter 0x804002b 0 1
  | .HOP_IGNORED_CNT => .counter 0x804002c 0 1
  | .HOP_LOGLOST_CNT => .counter 0x804002d 0 1
  | .HOP_GRP_CNT => .counter 0x8040030 1 0x10
  | .REF_CFG => .config 0x110000 0x20 0x24 0 0xe000ffff
  | .REF_FNOM => .config 0x110004 0x20 0x24 0x989680 0x7fffffff
  | .REF_QUAL => .config 0x110008 0x20 0x24 0x14005c 0xffffffff
  | .REF_HIT => .config 0x11000c 0x20 0x24 0xa140064 0xffffffff
  | .REF_STS => .status 0x110010 0x20 0x24 0 0 0 0xf 0
  | .REF_FOFS => .status 0x110014 0x20 0x24 0 0 0 0xffffffff 0
  | .REF_DISQ_CNT => .counter 0x110018 0x20 0x24
  | .REF_HIT_CNT => .counter 0x11001c 0x20 0x24
  | .REFIN_CMD => ⟨0x110800, 0, 1, 0, 0, 0, 0, 0x3f, 0xc0000000, 0, false, 0, 0xc000003f, 0, 0⟩
  | .REFIN_QUAL0 => .status 0x110804 0 1 0 0 0 0xffffffff 0
  | .REFIN_QUAL1 => .status 0x110808 0 1 0 0 0 0xf 0
  | .REFIN_STALE0 => .status 0x11080c 0 1 0 0 0 0xffffffff 0
  | .REFIN_STALE1 => .status 0x110810 0 1 0 0 0 0xf 0
  | .REFIN_SWITCH_CNT => .counter 0x110840 0 1
  | .REFIN_TDC_DROP_CNT => .counter 0x110844 0 1
  | .ENG_CHMAP => ⟨0x120000, 4, 0x200, 0, 0x400, 0xf, 0xffc00, 0, 0, 0, false, 0, 0, 0xffeffc3f, 0⟩
  | .ENG_CTL => ⟨0x120800, 0, 1, 0x114, 0, 0x17f, 0, 0, 0, 0, true, 0, 0x17f, 0, 0⟩
  | .ENG_CMD => ⟨0x120804, 0, 1, 0, 0, 0, 0, 0x3ff0000, 0xc0000000, 0, true, 0, 0xc3ff0000, 0, 0⟩
  | .ENG_POOL => .status 0x120808 0 1 0x1000 0 0 0x11f1f 0
  | .ENG_LAST_RETIRE => .status 0x12080c 0 1 0 0 0 0xffffe1ff 0
  | .ENG_COLL => .status 0x120810 0 1 0 0 0x1ff03ff 0 0
  | .ENG_RETIRED => .status 0x120840 4 0x10 0 0 0 0xffffffff 0
  | .ENG_RETIRED16 => .status 0x120880 0 1 0 0 0 0xffff 0
  | .ENG_SPARE_FREE => .status 0x120884 0 1 0xffff 0 0 0xffff 0
  | .ENG_RETIRE_CNT => .counter 0x1208c0 0 1
  | .ENG_PARITY_CNT => .counter 0x1208c4 0 1
  | .ENG_WDOG_CNT => .counter 0x1208c8 0 1
  | .ENG_PLAUS_CNT => .counter 0x1208cc 0 1
  | .ENG_DMEM_UNC_CNT => .counter 0x1208d0 0 1
  | .ENG_OVERRUN_CNT => .counter 0x1208d4 0 1
  | .ENG_DMEM_CORR_CNT => .counter 0x1208d8 0 1
  | .ENG_PSTORE_CORR_CNT => .counter 0x1208dc 0 1
  | .ENG_COLL_LATE_CNT => .counter 0x1208e0 0 1
  | .ENG_OVC_ENTRY_CNT => .counter 0x1208e4 0 1
  | .ENG_OVC_EXIT_CNT => .counter 0x1208e8 0 1
  | .TWL_CTL => .config 0x130000 0 1 3 0x1ff03
  | .TWL_STS => .status 0x130004 0 1 0 0 0 3 0
  | .ESMC_CTL => .config 0x130008 0 1 0 1
  | .TWL_RX_CRC_CNT => .counter 0x130040 0 1
  | .TWL_RX_BLK_CNT => .counter 0x130044 0 1
  | .TWL_RX_SEQGAP_CNT => .counter 0x130048 0 1
  | .TWL_RX_TYPE_CNT => .counter 0x13004c 0 1
  | .TWL_HOP_RX_CNT => .counter 0x130050 0 1
  | .TWL_ACK_DROP_CNT => .counter 0x130054 0 1
  | .TWL_ACK_ORPHAN_CNT => .counter 0x130058 0 1
  | .TWL_CONV_DROP_CNT => .counter 0x13005c 0 1
  | .FLOW_CFG => .config 0x130400 0x10 0x40 0 0x8ffbffff
  | .FLOW_ASYM => .config 0x130404 0x10 0x40 0x80000000 0xffffffff
  | .FLOW_STS => .status 0x130408 0x10 0x40 0 0 0 0xffffff80 0
  | .FLOW_MISS_CNT => .counter 0x13040c 0x10 0x40
  | .ORIG_CFG => .config 0x130800 0x10 0x40 0 0xfffff0ff
  | .ORIG_INT => .config 0x130804 0x10 0x40 0x80800dcc 0xffff0fff
  | .ORIG_STS => .status 0x130808 0x10 0x40 0 0 0 0xffff0000 0
  | .ORIG_DROP_CNT => .counter 0x13080c 0x10 0x40
  | .ESMC_MAP => ⟨0x130c00, 4, 0x20, 0x1000, 0, 0x83ff0000, 0, 0, 0, 0, false, 0, 0, 0x83ff1fff, 0⟩
  | .ESMC_TX => .config 0x130c80 4 8 0 0x8ffbf000
  | .ESMC_RX_CNT => .counter 0x130cc0 0 1
  | .ESMC_TIMEOUT_CNT => .counter 0x130cc4 0 1
  | .ESMC_BAD_CNT => .counter 0x130cc8 0 1
  | .ESMC_TX_CNT => .counter 0x130ccc 0 1
  | .MIR_CTL => .config 0x140000 0 1 0xff 0xff0fff
  | .MIR_REORDER => .config 0x140004 0 1 0x28 0xff
  | .MIR_STS => .status 0x140008 0 1 0 0xff 0 0 0
  | .MIR_RX_FRAMES_CNT => .counter 0x140100 0x40 4
  | .MIR_FCS_CNT => .counter 0x140104 0x40 4
  | .MIR_RUNT_CNT => .counter 0x140108 0x40 4
  | .MIR_GIANT_CNT => .counter 0x14010c 0x40 4
  | .MIR_BLK_CNT => .counter 0x140110 0x40 4
  | .MIR_FEC_CORR_CNT => .counter 0x140114 0x40 4
  | .MIR_FEC_UNC_CNT => .counter 0x140118 0x40 4
  | .MIR_SEQ_GAP_CNT => .counter 0x14011c 0x40 4
  | .MIR_SEQ_LATE_CNT => .counter 0x140120 0x40 4
  | .MIR_TX_FRAMES_CNT => .counter 0x140124 0x40 4
  | .MIR_PGRP => .config 0x140200 4 0x40 0 0xb01f0000
  | .TPL_CTL => .config 0x140400 0x80 0x18 0 0x837fff00
  | .TPL_OCT => .config 0x140400 4 0x300 0 0xffffffff
  | .PARSE_CTL => .config 0x150000 0 1 1 0x71
  | .PARSE_BANK_CMD => ⟨0x150004, 0, 1, 0, 0, 0, 0, 0, 1, 0, false, 0, 1, 0, 0⟩
  | .PARSE_BANK_STS => .status 0x150008 0 1 0 0xff0c 0 0xffff0001 0
  | .PARSE_SLOW_POL0 => .config 0x15000c 0 1 0x10004e20 0xffffffff
  | .PARSE_SLOW_POL1 => .config 0x150010 0 1 0x40007d0 0xffffffff
  | .PARSE_SLOW_STS => .status 0x150014 0 1 0 0x7ff 0 0 0
  | .PARSE_FLOW_POL => .config 0x150018 0 1 0x100100 0xffffff
  | .PARSE_REQ_POL => .config 0x15001c 0 1 0x40010000 0xffffffff
  | .PARSE_ESMC_POL => .config 0x150020 0 1 0x4000800 0xffffffff
  | .PARSE_FRAG_STS => .status 0x150024 0 1 0 0x1ff 0 0 0
  | .PARSE_SW_FCS_CNT => .counter 0x150040 0 1
  | .PARSE_TRUNC_CNT => .counter 0x150044 0 1
  | .PARSE_TOO_DEEP_CNT => .counter 0x150048 0 1
  | .PARSE_WINDOW_CNT => .counter 0x15004c 0 1
  | .PARSE_LEN_ETH_CNT => .counter 0x150050 0 1
  | .PARSE_LEN_HSR_CNT => .counter 0x150054 0 1
  | .PARSE_LEN_IP4_CNT => .counter 0x150058 0 1
  | .PARSE_LEN_IP6_CNT => .counter 0x15005c 0 1
  | .PARSE_LEN_UDP_CNT => .counter 0x150060 0 1
  | .PARSE_LEN_PTP_CNT => .counter 0x150064 0 1
  | .PARSE_LEN_TLV_CNT => .counter 0x150068 0 1
  | .PARSE_LEN_ESMC_CNT => .counter 0x15006c 0 1
  | .PARSE_IP_HDR_CNT => .counter 0x150070 0 1
  | .PARSE_IP6_FRAG_CNT => .counter 0x150074 0 1
  | .PARSE_FRAG_MISS_CNT => .counter 0x150078 0 1
  | .PARSE_FRAG_FULL_CNT => .counter 0x15007c 0 1
  | .PARSE_FRAG_SLOW_CNT => .counter 0x150080 0 1
  | .PARSE_NOMATCH_CNT => .counter 0x150084 0 1
  | .PARSE_DROP_RULE_CNT => .counter 0x150088 0 1
  | .PARSE_TARGET_CNT => .counter 0x15008c 0 1
  | .PARSE_PTP_SLOW_CNT => .counter 0x150090 0 1
  | .PARSE_FLOW_POLICE_CNT => .counter 0x150094 0 1
  | .PARSE_REQ_POLICE_CNT => .counter 0x150098 0 1
  | .PARSE_ESMC_POLICE_CNT => .counter 0x15009c 0 1
  | .PARSE_SLOW_POLICE_CNT => .counter 0x1500a0 0 1
  | .PARSE_SLOW_FULL_CNT => .counter 0x1500a4 0 1
  | .PARSE_INTAKE_OVF_CNT => .counter 0x1500a8 0 1
  | .PARSE_RECIRC_CNT => .counter 0x1500ac 0 1
  | .PARSE_DELIVER_CNT => .counter 0x1500b0 0 1
  | .PARSE_SLOW_CNT => .counter 0x1500b4 0 1
  | .PARSE_SWAP_CNT => .counter 0x1500b8 0 1
  | .PARSE_SWAP_DEFER_CNT => .counter 0x1500bc 0 1
  | .PAIR_CFG => ⟨0x160000, 0, 1, 0x4000000, 0, 0xfc00ffff, 0, 0, 0, 0, true, 0, 0, 0xfc00ffff, 0⟩
  | .PAIR_ALIGN => .config 0x160004 0 1 0x19 0x1ff7fff
  | .PAIR_TIMERS => .config 0x160008 0 1 0x140a2014 0xffffffff
  | .PAIR_EPOCH_CFG => .config 0x16000c 0 1 0x2a803c64 0xffcfffff
  | .PAIR_LINK => .config 0x160010 0 1 0 0xff
  | .PAIR_CMD => ⟨0x160014, 0, 1, 0, 0, 0, 0, 0, 0xf0000000, 0, true, 0, 0xf0000000, 0, 0⟩
  | .PAIR_STS => .status 0x160040 0 1 0 0 0xffeff000 0x100000 0
  | .PAIR_EPOCH_STS => .status 0x160044 0 1 0 0 0xffffffff 0 0
  | .PAIR_DIV => .status 0x160048 0 1 0 0 0xfff0ffff 0 0
  | .PAIR_TRIM => .status 0x16004c 0 1 0 0 0 0xffffffff 0
  | .PAIR_PHASE => .status 0x160050 0 1 0 0 0 0xffffffff 0
  | .PAIR_GRID => .status 0x160054 0 1 0 0 0xffffffff 0 0
  | .PAIR_REL => .status 0x160058 0 1 0 0 0xffffffff 0 0
  | .PAIR_LINK_LOSS_CNT => .counter 0x160080 0 1
  | .PAIR_HB0_MISS_CNT => .counter 0x160084 0 1
  | .PAIR_HB1_MISS_CNT => .counter 0x160088 0 1
  | .PAIR_PEER_DEATH_CNT => .counter 0x16008c 0 1
  | .PAIR_RX_ERR_CNT => .counter 0x160090 0 1
  | .PAIR_DIGEST_MISMATCH_CNT => .counter 0x160094 0 1
  | .PAIR_DIGEST_LATE_CNT => .counter 0x160098 0 1
  | .PAIR_EVT_LATE_CNT => .counter 0x16009c 0 1
  | .PAIR_EVQ_DROP_CNT => .counter 0x1600a0 0 1
  | .PAIR_TAKEOVER_HITLESS_CNT => .counter 0x1600a4 0 1
  | .PAIR_TAKEOVER_COLD_CNT => .counter 0x1600a8 0 1
  | .PAIR_HANDOVER_CNT => .counter 0x1600ac 0 1
  | .PAIR_EPOCH_COMMIT_CNT => .counter 0x1600b0 0 1
  | .PAIR_EPOCH_ABORT_CNT => .counter 0x1600b4 0 1
  | .PAIR_REPAIR_CNT => .counter 0x1600b8 0 1
  | .PAIR_CLAIM_BLOCK_CNT => .counter 0x1600bc 0 1
  | .CAL_CTL => .config 0x40000 0 1 0x7803c9e 0xffffffff
  | .CAL_CMD => ⟨0x40004, 0, 1, 0, 0, 0, 0, 0, 3, 0, false, 0, 3, 0, 0⟩
  | .CAL_STS => .status 0x40008 0 1 0xff000300 0 0 0xfffef300 0
  | .CAL_SEQ => .status 0x4000c 0 1 0 0 0 0xffffffff 0
  | .CAL_ROT_CNT => .counter 0x40040 0 1
  | .CAL_ITEM_OK_CNT => .counter 0x40044 0 1
  | .CAL_REJ_MONO_CNT => .counter 0x40048 0 1
  | .CAL_REJ_TAP_CNT => .counter 0x4004c 0 1
  | .CAL_REJ_SPAN_CNT => .counter 0x40050 0 1
  | .CAL_REJ_INL_CNT => .counter 0x40054 0 1
  | .CAL_ABORT_UNLOCK_CNT => .counter 0x40058 0 1
  | .CAL_DISCARD_HOP_CNT => .counter 0x4005c 0 1
  | .CAL_SKIP_SWAP_CNT => .counter 0x40060 0 1
  | .CAL_ABORT_RESET_CNT => .counter 0x40064 0 1
  | .CAL_TRIG_TEMP_CNT => .counter 0x40068 0 1
  | .CAL_STORE_CNT => .counter 0x4006c 0 1
  | .CAL_STORE_FAIL_CNT => .counter 0x40070 0 1
  | .CAL_STORE_BLOCK_CNT => .counter 0x40074 0 1
  | .CAL_SLOT_INVALID_CNT => .counter 0x40078 0 1
  | .CLK_CTL => ⟨0x10000, 0, 1, 0x4000, 0, 0xff00, 0, 0, 0, 0, true, 0, 0, 0xff00, 0⟩
  | .CLK_STS => .status 0x10004 0 1 0x20 0 0 0xffff01f0 0xe
  | .CLK_XOCNT => .status 0x10008 0 1 0 0 0 0 0xffffffff
  | .CLK_FC_CTL => ⟨0x1000c, 0, 1, 0x1402524, 0, 0x1f03f3f, 0, 0, 0x80000000, 0, false, 0, 0x80000000, 0x1f03f3f, 0⟩
  | .CLK_FC_RES => .status 0x10010 0 1 0 0 0xffffffff 0 0
  | .CLK_XOFAIL_CNT => ⟨0x10040, 0, 1, 0, 0, 0, 0, 0, 0, 0xffffffff, false, 0, 0, 0xffffffff, 0⟩
  | .CLK_MUX_CNT => .counter 0x10044 0 1
  | .CLK_MUX_REJ_CNT => .counter 0x10048 0 1
  | .CLK_MUX_FORCE_CNT => .counter 0x1004c 0 1
  | .CLK_RAMP_CNT => .counter 0x10050 0 1
  | .RST_STS => .status 0x20000 0 1 0 0 0x3ff 0 0
  | .RST_LAST => .status 0x20004 0 1 0x50000001 0 0 0 0xf0000fff
  | .RST_BASIC => .status 0x20008 0 1 0 0 0 0xf 0
  | .RST_BOOT_STS => .status 0x2000c 0 1 0 0 0xf8ffff00 0 0
  | .RST_CMD => ⟨0x20010, 0, 1, 0, 0, 0, 0, 3, 0x80000000, 0, true, 0, 0x80000003, 0, 0⟩
  | .RST_SOFT => ⟨0x20014, 0, 1, 0, 0, 0, 0, 0, 0xffff00ff, 0, true, 0, 0xffff00ff, 0, 0⟩
  | .RST_IDLE_TMO => .config 0x20018 0 1 0x64 0x3fff
  | .RST_HLOAD_CTL => ⟨0x2001c, 0, 1, 0x200, 0, 0x3ff, 0, 0, 0xe0000000, 0, false, 0, 0xe00003ff, 0, 0⟩
  | .RST_PORST_CNT => ⟨0x20040, 0, 1, 0, 0, 0, 0, 0, 0, 0xffffffff, false, 0, 0, 0, 0xffffffff⟩
  | .RST_WRST_CNT => ⟨0x20044, 0, 1, 0, 0, 0, 0, 0, 0, 0xffffffff, false, 0, 0, 0, 0xffffffff⟩
  | .RST_WDOG_CNT => ⟨0x20048, 0, 1, 0, 0, 0, 0, 0, 0, 0xffffffff, false, 0, 0, 0, 0xffffffff⟩
  | .RST_HOST_CNT => ⟨0x2004c, 0, 1, 0, 0, 0, 0, 0, 0, 0xffffffff, false, 0, 0, 0, 0xffffffff⟩
  | .RST_PEER_CNT => ⟨0x20050, 0, 1, 0, 0, 0, 0, 0, 0, 0xffffffff, false, 0, 0, 0, 0xffffffff⟩
  | .RST_CRC_CNT => ⟨0x20054, 0, 1, 0, 0, 0, 0, 0, 0, 0xffffffff, false, 0, 0, 0, 0xffffffff⟩
  | .RST_UPDATE_CNT => ⟨0x20058, 0, 1, 0, 0, 0, 0, 0, 0, 0xffffffff, false, 0, 0, 0, 0xffffffff⟩
  | .RST_FORCED_CNT => ⟨0x2005c, 0, 1, 0, 0, 0, 0, 0, 0, 0xffffffff, false, 0, 0, 0, 0xffffffff⟩
  | .RST_REACH0 => .status 0x20080 0 1 0x43211345 0 0 0 0
  | .RST_REACH1 => .status 0x20084 0 1 0x444 0 0 0 0
  | .RST_IDLE_STS => .status 0x20088 0 1 0 0 0x3ff 0 0
  | .RST_HLOAD_STS => .status 0x2008c 0 1 0 0 0xf1ffffff 0 0
  | .RST_HLOAD_WIN => ⟨0x20800, 4, 0x200, 0, 0, 0xffffffff, 0, 0, 0, 0, false, 0, 0xffffffff, 0, 0⟩
  | .MGMT_CTL => .config 0x170000 0 1 0x30a 0x3ff
  | .MGMT_STS => .status 0x170004 0 1 0 0x1f0f 0 0 0
  | .MGMT_FW_STS => .status 0x170008 0 1 0 0xffffffff 0 0 0
  | .MGMT_TEMP_WARN => .config 0x17000c 0 1 0x200690 0xffffffff
  | .MGMT_PFW_CTL => ⟨0x170010, 0, 1, 0xc13100a8, 0, 0xc1ff01ff, 0, 0, 0, 0, true, 0, 0, 0xc1ff01ff, 0⟩
  | .MGMT_ARB => .status 0x170014 0 1 0 0 0 0 0
  | .MGMT_TEMP => .status 0x170040 4 8 0 0 0xffff 0 0
  | .MGMT_SUP => .status 0x170080 4 5 0 0 0x3ffff 0 0
  | .MGMT_JRN_CTL => ⟨0x1700c0, 0, 1, 0, 0, 0, 0, 0, 0x80000000, 0, false, 0x80000000, 0, 0, 0⟩
  | .MGMT_JRN_RDIDX => ⟨0x1700c4, 0, 1, 0, 0, 0xffffffff, 0, 0, 0, 0, false, 0xffffffff, 0, 0, 0⟩
  | .MGMT_JRN_STS => .status 0x1700c8 0 1 0 0xe00001ff 0 0 0
  | .MGMT_EMMC_STS => .status 0x1700cc 0 1 0 0xffffffff 0 0 0
  | .MGMT_UPD_CTL => ⟨0x170100, 0, 1, 0x200, 0, 0x30003ff, 0, 0, 0xfc000000, 0, true, 0xff0003ff, 0, 0, 0⟩
  | .MGMT_UPD_STS => .status 0x170104 0 1 0 0xffffffff 0 0 0
  | .MGMT_INB_STS => .status 0x170108 0 1 0 0xffffffff 0 0 0
  | .MGMT_RAM_CORR_CNT => .counter 0x170140 0 1
  | .MGMT_TEMP_WARN_CNT => .counter 0x170144 0 1
  | .MGMT_SUP_WARN_CNT => .counter 0x170148 0 1
  | .MGMT_PFW_CNT => .counter 0x17014c 0 1
  | .MGMT_LOG_LOST_CNT => .counter 0x170150 0 1
  | .MGMT_LOG_OVW_CNT => .counter 0x170154 0 1
  | .MGMT_EVT_OVW_CNT => .counter 0x170158 0 1
  | .MGMT_JRN_LOST_CNT => .counter 0x17015c 0 1
  | .MGMT_EMMC_ERR_CNT => .counter 0x170160 0 1
  | .MGMT_UPD_OK_CNT => .counter 0x170164 0 1
  | .MGMT_UPD_FAIL_CNT => .counter 0x170168 0 1
  | .MGMT_INB_OK_CNT => .counter 0x17016c 0 1
  | .MGMT_INB_AUTH_CNT => .counter 0x170170 0 1
  | .MGMT_INB_REPLAY_CNT => .counter 0x170174 0 1
  | .MGMT_INB_REJ_CNT => .counter 0x170178 0 1
  | .MGMT_FW_REFUSE_CNT => .counter 0x17017c 0 1
  | .MGMT_JRN_RDBUF => .status 0x170180 4 0x10 0 0xffffffff 0 0 0
  | .MGMT_UPD_WIN => ⟨0x170800, 4, 0x200, 0, 0, 0xffffffff, 0, 0, 0, 0, false, 0xffffffff, 0, 0, 0⟩
  | .DEV_ID => .status 0 0 1 0x95120a01 0 0 0 0
  | .DEV_REV => .status 4 0 1 0x110 0 0 0 0
  | .DEV_MODE => .status 0x10 0 1 0 0 0xf 0 0
  | .DEV_MODE_REQ => ⟨0x14, 0, 1, 0xf, 0, 0xf, 0, 0, 0, 0, false, 0, 0xf, 0, 0⟩
  | .DEV_STRAP => .status 0x20 0 1 0 0 0 0 0
  | .DEV_KEY => .status 0x30 0 1 0 0 0 0 0
  | .DEV_GATE => ⟨0x40, 0, 1, 0, 0, 0xffff1fff, 0, 0, 0, 0, false, 0, 0xffff1fff, 0, 0⟩
  | .DEV_CMD_STATUS => .status 0x50 0 1 0 0 0xfcffffff 0 0
  | .DEV_LOST_WRITES => .counter 0x54 0 1
  | .DEV_REJECT_CNT => .counter 0x58 0 1
  | .DEV_DEFER_CNT => .counter 0x5c 0 1
  | .DEV_ALERT => .status 0x60 0 1 0 0 0xfff 0 0
  | .DEV_ALERT_EN => .config 0x64 0 1 0x7ff 0xfff0fff
  | .DEV_BUSERR_CNT => .counter 0x68 0 1
  | .DEV_SPI_ERR_CNT => .counter 0x6c 0 1
  | .CFG_CRC_LIVE => .status 0x80 0 1 0 0 0 0xffffffff 0
  | .CFG_CRC_REF => ⟨0x84, 0, 1, 0, 0, 0, 0xffffffff, 0, 0, 0, false, 0, 0, 0xffffffff, 0⟩
  | .CFG_CRC_CTL => ⟨0x88, 0, 1, 0x81, 0, 0xb1, 0, 0, 0x80000000, 0, true, 0, 0x80000000, 0x1b1, 0⟩
  | .CFG_CRC_MISMATCH_CNT => .counter 0x8c 0 1
  | .MBX_SEL => ⟨0x100, 0, 1, 0, 0, 0x4f0001ff, 0, 0, 0x80000000, 0, false, 0, 0xcf0001ff, 0, 0⟩
  | .MBX_STAT => .status 0x104 0 1 0 0 0xffff01ff 0 0
  | .MBX_D => .status 0x110 4 4 0 0 0 0 0
  | .SNAP_CMD => ⟨0x200, 0, 1, 0, 0, 0x3f, 0, 0, 0xc0000000, 0, false, 0, 0xc000003f, 0, 0⟩
  | .SNAP_STAT => .status 0x204 0 1 0 0 0xc000ffff 0 0
  | .IND_ADDR => ⟨0x300, 0, 1, 0, 0, 0, 0xffffffff, 0, 0, 0, false, 0, 0xffffffff, 0, 0⟩
  | .IND_DATA => .status 0x304 0 1 0 0 0 0 0
  | .IND_CTL => ⟨0x308, 0, 1, 1, 0, 3, 0, 0, 0, 0, false, 0, 3, 0, 0⟩
  | .SNAP_HOLD => .status 0x180000 4 0x400 0 0 0xffffffff 0 0
  | .PSTORE => .status 0x3000000 1 0x8000 0 0 0 0xffffffff 0
  | .PARAM => .config 0x4000000 1 0x40000 0 0xffffffff
  | .PERSIST => .status 0x4000000 1 0x40000 0 0 0 0xffffffff 0
  | .DMEM => .status 0x4080000 1 0x42000 0 0 0 0xffffffff 0
  | .RULE_A => .config 0x5000000 1 0x20000 0 0xffffffff
  | .HIT_A => .counter 0x5000000 1 0x20000
  | .RULE_B => .config 0x6000000 1 0x20000 0 0xffffffff
  | .HIT_B => .counter 0x6000000 1 0x20000
  | .PRESET => .config 0x8000000 1 0x40000 0 0xffffffff
  | .TAP => .status 0x9000000 1 0x9200 0 0 0 0xffffffff 0
  | .CALREC => .status 0x900a000 1 0x490 0 0 0 0xffffffff 0

/-- The registers of block DEV, in map order. -/
def Rg.devRegs : List Rg :=
  [.DEV_ID, .DEV_REV, .DEV_MODE, .DEV_MODE_REQ, .DEV_STRAP, .DEV_KEY, .DEV_GATE, .DEV_CMD_STATUS,
   .DEV_LOST_WRITES, .DEV_REJECT_CNT, .DEV_DEFER_CNT, .DEV_ALERT, .DEV_ALERT_EN, .DEV_BUSERR_CNT,
   .DEV_SPI_ERR_CNT, .CFG_CRC_LIVE, .CFG_CRC_REF, .CFG_CRC_CTL, .CFG_CRC_MISMATCH_CNT, .MBX_SEL, .MBX_STAT,
   .MBX_D, .SNAP_CMD, .SNAP_STAT, .IND_ADDR, .IND_DATA, .IND_CTL]

/-- The registers of block CLK, in map order. -/
def Rg.clkRegs : List Rg :=
  [.CLK_CTL, .CLK_STS, .CLK_XOCNT, .CLK_FC_CTL, .CLK_FC_RES, .CLK_XOFAIL_CNT, .CLK_MUX_CNT, .CLK_MUX_REJ_CNT,
   .CLK_MUX_FORCE_CNT, .CLK_RAMP_CNT]

/-- The registers of block RST, in map order. -/
def Rg.rstRegs : List Rg :=
  [.RST_STS, .RST_LAST, .RST_BASIC, .RST_BOOT_STS, .RST_CMD, .RST_SOFT, .RST_IDLE_TMO, .RST_HLOAD_CTL,
   .RST_PORST_CNT, .RST_WRST_CNT, .RST_WDOG_CNT, .RST_HOST_CNT, .RST_PEER_CNT, .RST_CRC_CNT, .RST_UPDATE_CNT,
   .RST_FORCED_CNT, .RST_REACH0, .RST_REACH1, .RST_IDLE_STS, .RST_HLOAD_STS, .RST_HLOAD_WIN]

/-- The registers of block MSYN, in map order. -/
def Rg.msynRegs : List Rg :=
  [.MSYN_REF, .MSYN_NINT, .MSYN_NNUM, .MSYN_NDEN, .MSYN_LOOP, .MSYN_CMD, .MSYN_STS, .MSYN_TUNE, .MSYN_PHERR,
   .MSYN_ACQ, .MSYN_UNLOCK_CNT, .MSYN_REFMISS_CNT, .MSYN_TICKSLIP_CNT, .MSYN_ATTEMPT_FAIL_CNT, .MSYN_LANE_SW_CNT,
   .MSYN_XOF]

/-- The registers of block CAL, in map order. -/
def Rg.calRegs : List Rg :=
  [.CAL_CTL, .CAL_CMD, .CAL_STS, .CAL_SEQ, .CAL_ROT_CNT, .CAL_ITEM_OK_CNT, .CAL_REJ_MONO_CNT, .CAL_REJ_TAP_CNT,
   .CAL_REJ_SPAN_CNT, .CAL_REJ_INL_CNT, .CAL_ABORT_UNLOCK_CNT, .CAL_DISCARD_HOP_CNT, .CAL_SKIP_SWAP_CNT,
   .CAL_ABORT_RESET_CNT, .CAL_TRIG_TEMP_CNT, .CAL_STORE_CNT, .CAL_STORE_FAIL_CNT, .CAL_STORE_BLOCK_CNT,
   .CAL_SLOT_INVALID_CNT]

/-- The registers of block CH, in map order. -/
def Rg.chRegs : List Rg :=
  [.CH_CFG, .CH_PNOM_LO, .CH_PNOM_HI, .CH_PRES, .CH_PHOFS, .CH_DRIZZLE, .CH_LOCK, .CH_HOP, .CH_TSET_SH,
   .CH_TSET_SL, .CH_TSET_NS, .CH_TSET_FR, .CH_CMD, .CH_STS, .CH_PHERR, .CH_RATE, .CH_LOCK_CNT, .CH_UNLOCK_CNT,
   .CH_OVERRIDE_CNT, .CH_LATE_CNT, .CH_STEP_CNT, .CH_HOP_CNT]

/-- The registers of block OUT, in map order. -/
def Rg.outRegs : List Rg :=
  [.OUT_CFG, .OUT_DIV, .OUT_DRV, .OUT_STS, .OUT_LB_MISS_CNT, .OUT_LB_EXTRA_CNT, .PPS_CFG, .PPS_WIDTH, .PPS_OFS,
   .PPS_LB_CNT, .OUT_CTL, .OUT_FAULT, .OUT_PPS_STS]

/-- The registers of block REFIN, in map order. -/
def Rg.refinRegs : List Rg :=
  [.REF_CFG, .REF_FNOM, .REF_QUAL, .REF_HIT, .REF_STS, .REF_FOFS, .REF_DISQ_CNT, .REF_HIT_CNT, .REFIN_CMD,
   .REFIN_QUAL0, .REFIN_QUAL1, .REFIN_STALE0, .REFIN_STALE1, .REFIN_SWITCH_CNT, .REFIN_TDC_DROP_CNT]

/-- The registers of block ENG, in map order. -/
def Rg.engRegs : List Rg :=
  [.ENG_CHMAP, .ENG_CTL, .ENG_CMD, .ENG_POOL, .ENG_LAST_RETIRE, .ENG_COLL, .ENG_RETIRED, .ENG_RETIRED16,
   .ENG_SPARE_FREE, .ENG_RETIRE_CNT, .ENG_PARITY_CNT, .ENG_WDOG_CNT, .ENG_PLAUS_CNT, .ENG_DMEM_UNC_CNT,
   .ENG_OVERRUN_CNT, .ENG_DMEM_CORR_CNT, .ENG_PSTORE_CORR_CNT, .ENG_COLL_LATE_CNT, .ENG_OVC_ENTRY_CNT,
   .ENG_OVC_EXIT_CNT]

/-- The registers of block TWL, in map order. -/
def Rg.twlRegs : List Rg :=
  [.TWL_CTL, .TWL_STS, .ESMC_CTL, .TWL_RX_CRC_CNT, .TWL_RX_BLK_CNT, .TWL_RX_SEQGAP_CNT, .TWL_RX_TYPE_CNT,
   .TWL_HOP_RX_CNT, .TWL_ACK_DROP_CNT, .TWL_ACK_ORPHAN_CNT, .TWL_CONV_DROP_CNT, .FLOW_CFG, .FLOW_ASYM, .FLOW_STS,
   .FLOW_MISS_CNT, .ORIG_CFG, .ORIG_INT, .ORIG_STS, .ORIG_DROP_CNT, .ESMC_MAP, .ESMC_TX, .ESMC_RX_CNT,
   .ESMC_TIMEOUT_CNT, .ESMC_BAD_CNT, .ESMC_TX_CNT]

/-- The registers of block MIR, in map order. -/
def Rg.mirRegs : List Rg :=
  [.MIR_CTL, .MIR_REORDER, .MIR_STS, .MIR_RX_FRAMES_CNT, .MIR_FCS_CNT, .MIR_RUNT_CNT, .MIR_GIANT_CNT,
   .MIR_BLK_CNT, .MIR_FEC_CORR_CNT, .MIR_FEC_UNC_CNT, .MIR_SEQ_GAP_CNT, .MIR_SEQ_LATE_CNT, .MIR_TX_FRAMES_CNT,
   .MIR_PGRP, .TPL_CTL, .TPL_OCT]

/-- The registers of block PARSE, in map order. -/
def Rg.parseRegs : List Rg :=
  [.PARSE_CTL, .PARSE_BANK_CMD, .PARSE_BANK_STS, .PARSE_SLOW_POL0, .PARSE_SLOW_POL1, .PARSE_SLOW_STS,
   .PARSE_FLOW_POL, .PARSE_REQ_POL, .PARSE_ESMC_POL, .PARSE_FRAG_STS, .PARSE_SW_FCS_CNT, .PARSE_TRUNC_CNT,
   .PARSE_TOO_DEEP_CNT, .PARSE_WINDOW_CNT, .PARSE_LEN_ETH_CNT, .PARSE_LEN_HSR_CNT, .PARSE_LEN_IP4_CNT,
   .PARSE_LEN_IP6_CNT, .PARSE_LEN_UDP_CNT, .PARSE_LEN_PTP_CNT, .PARSE_LEN_TLV_CNT, .PARSE_LEN_ESMC_CNT,
   .PARSE_IP_HDR_CNT, .PARSE_IP6_FRAG_CNT, .PARSE_FRAG_MISS_CNT, .PARSE_FRAG_FULL_CNT, .PARSE_FRAG_SLOW_CNT,
   .PARSE_NOMATCH_CNT, .PARSE_DROP_RULE_CNT, .PARSE_TARGET_CNT, .PARSE_PTP_SLOW_CNT, .PARSE_FLOW_POLICE_CNT,
   .PARSE_REQ_POLICE_CNT, .PARSE_ESMC_POLICE_CNT, .PARSE_SLOW_POLICE_CNT, .PARSE_SLOW_FULL_CNT,
   .PARSE_INTAKE_OVF_CNT, .PARSE_RECIRC_CNT, .PARSE_DELIVER_CNT, .PARSE_SLOW_CNT, .PARSE_SWAP_CNT,
   .PARSE_SWAP_DEFER_CNT]

/-- The registers of block PAIR, in map order. -/
def Rg.pairRegs : List Rg :=
  [.PAIR_CFG, .PAIR_ALIGN, .PAIR_TIMERS, .PAIR_EPOCH_CFG, .PAIR_LINK, .PAIR_CMD, .PAIR_STS, .PAIR_EPOCH_STS,
   .PAIR_DIV, .PAIR_TRIM, .PAIR_PHASE, .PAIR_GRID, .PAIR_REL, .PAIR_LINK_LOSS_CNT, .PAIR_HB0_MISS_CNT,
   .PAIR_HB1_MISS_CNT, .PAIR_PEER_DEATH_CNT, .PAIR_RX_ERR_CNT, .PAIR_DIGEST_MISMATCH_CNT, .PAIR_DIGEST_LATE_CNT,
   .PAIR_EVT_LATE_CNT, .PAIR_EVQ_DROP_CNT, .PAIR_TAKEOVER_HITLESS_CNT, .PAIR_TAKEOVER_COLD_CNT,
   .PAIR_HANDOVER_CNT, .PAIR_EPOCH_COMMIT_CNT, .PAIR_EPOCH_ABORT_CNT, .PAIR_REPAIR_CNT, .PAIR_CLAIM_BLOCK_CNT]

/-- The registers of block MGMT, in map order. -/
def Rg.mgmtRegs : List Rg :=
  [.MGMT_CTL, .MGMT_STS, .MGMT_FW_STS, .MGMT_TEMP_WARN, .MGMT_PFW_CTL, .MGMT_ARB, .MGMT_TEMP, .MGMT_SUP,
   .MGMT_JRN_CTL, .MGMT_JRN_RDIDX, .MGMT_JRN_STS, .MGMT_EMMC_STS, .MGMT_UPD_CTL, .MGMT_UPD_STS, .MGMT_INB_STS,
   .MGMT_RAM_CORR_CNT, .MGMT_TEMP_WARN_CNT, .MGMT_SUP_WARN_CNT, .MGMT_PFW_CNT, .MGMT_LOG_LOST_CNT,
   .MGMT_LOG_OVW_CNT, .MGMT_EVT_OVW_CNT, .MGMT_JRN_LOST_CNT, .MGMT_EMMC_ERR_CNT, .MGMT_UPD_OK_CNT,
   .MGMT_UPD_FAIL_CNT, .MGMT_INB_OK_CNT, .MGMT_INB_AUTH_CNT, .MGMT_INB_REPLAY_CNT, .MGMT_INB_REJ_CNT,
   .MGMT_FW_REFUSE_CNT, .MGMT_JRN_RDBUF, .MGMT_UPD_WIN]

/-- The registers of block SNAP, in map order. -/
def Rg.snapRegs : List Rg :=
  [.SNAP_HOLD]

/-- The words of the indirect spaces, in space and index order. -/
def Rg.indRegs : List Rg :=
  [.HOP_PIN_CFG, .HOP_CTL, .HOP_CMD, .HOP_GRP_CFG, .HOP_PIN_CNT, .HOP_HOLDOFF_CNT, .HOP_BUSY_CNT, .HOP_NOARM_CNT,
   .HOP_ARMFAIL_CNT, .HOP_IGNORED_CNT, .HOP_LOGLOST_CNT, .HOP_GRP_CNT, .PSTORE, .PARAM, .PERSIST, .DMEM, .RULE_A,
   .HIT_A, .RULE_B, .HIT_B, .PRESET, .TAP, .CALREC]

/-- One named field: bits `hi` down to `lo` of register `r`. -/
structure Fld where
  r : Rg
  hi : Nat
  lo : Nat
  deriving DecidableEq, Repr

abbrev MSYN_REF.DBL : Fld := ⟨.MSYN_REF, 4, 4⟩
abbrev MSYN_REF.RDIV : Fld := ⟨.MSYN_REF, 2, 0⟩
abbrev MSYN_NINT.NINT : Fld := ⟨.MSYN_NINT, 9, 0⟩
abbrev MSYN_NNUM.NNUM : Fld := ⟨.MSYN_NNUM, 31, 0⟩
abbrev MSYN_NDEN.NDEN : Fld := ⟨.MSYN_NDEN, 31, 0⟩
abbrev MSYN_LOOP.UNL_GRACE : Fld := ⟨.MSYN_LOOP, 23, 16⟩
abbrev MSYN_LOOP.LOCK_K : Fld := ⟨.MSYN_LOOP, 10, 8⟩
abbrev MSYN_LOOP.LD_WIN : Fld := ⟨.MSYN_LOOP, 5, 4⟩
abbrev MSYN_LOOP.BW : Fld := ⟨.MSYN_LOOP, 2, 0⟩
abbrev MSYN_CMD.BANDSEL : Fld := ⟨.MSYN_CMD, 2, 2⟩
abbrev MSYN_CMD.RELOCK : Fld := ⟨.MSYN_CMD, 1, 1⟩
abbrev MSYN_CMD.RETUNE : Fld := ⟨.MSYN_CMD, 0, 0⟩
abbrev MSYN_STS.ATTEMPT : Fld := ⟨.MSYN_STS, 21, 20⟩
abbrev MSYN_STS.STATE : Fld := ⟨.MSYN_STS, 19, 16⟩
abbrev MSYN_STS.LANE_SRC : Fld := ⟨.MSYN_STS, 14, 12⟩
abbrev MSYN_STS.BAND : Fld := ⟨.MSYN_STS, 11, 7⟩
abbrev MSYN_STS.VCO : Fld := ⟨.MSYN_STS, 6, 6⟩
abbrev MSYN_STS.BAND_MARGIN : Fld := ⟨.MSYN_STS, 5, 5⟩
abbrev MSYN_STS.NPEND : Fld := ⟨.MSYN_STS, 4, 4⟩
abbrev MSYN_STS.REFMISS : Fld := ⟨.MSYN_STS, 3, 3⟩
abbrev MSYN_STS.HELD : Fld := ⟨.MSYN_STS, 2, 2⟩
abbrev MSYN_STS.ACQ : Fld := ⟨.MSYN_STS, 1, 1⟩
abbrev MSYN_STS.LOCK : Fld := ⟨.MSYN_STS, 0, 0⟩
abbrev MSYN_TUNE.TUNE : Fld := ⟨.MSYN_TUNE, 19, 0⟩
abbrev MSYN_PHERR.PHMAX : Fld := ⟨.MSYN_PHERR, 31, 16⟩
abbrev MSYN_PHERR.PHERR : Fld := ⟨.MSYN_PHERR, 15, 0⟩
abbrev MSYN_ACQ.MARGIN : Fld := ⟨.MSYN_ACQ, 31, 26⟩
abbrev MSYN_ACQ.ATTEMPTS : Fld := ⟨.MSYN_ACQ, 25, 24⟩
abbrev MSYN_ACQ.LOCK_TIME : Fld := ⟨.MSYN_ACQ, 23, 0⟩
abbrev MSYN_XOF.XOF : Fld := ⟨.MSYN_XOF, 26, 0⟩
abbrev CH_CFG.STEP_EN : Fld := ⟨.CH_CFG, 1, 1⟩
abbrev CH_CFG.EN : Fld := ⟨.CH_CFG, 0, 0⟩
abbrev CH_PNOM_LO.PFRAC_LO : Fld := ⟨.CH_PNOM_LO, 31, 0⟩
abbrev CH_PNOM_HI.PINT : Fld := ⟨.CH_PNOM_HI, 31, 8⟩
abbrev CH_PNOM_HI.PFRAC_HI : Fld := ⟨.CH_PNOM_HI, 7, 0⟩
abbrev CH_PRES.RNUM : Fld := ⟨.CH_PRES, 31, 16⟩
abbrev CH_PRES.RDEN : Fld := ⟨.CH_PRES, 15, 0⟩
abbrev CH_PHOFS.THETA : Fld := ⟨.CH_PHOFS, 31, 0⟩
abbrev CH_DRIZZLE.RATE : Fld := ⟨.CH_DRIZZLE, 13, 0⟩
abbrev CH_LOCK.WIN : Fld := ⟨.CH_LOCK, 15, 0⟩
abbrev CH_HOP.HOP_EN : Fld := ⟨.CH_HOP, 16, 16⟩
abbrev CH_HOP.ARM_IDX : Fld := ⟨.CH_HOP, 13, 8⟩
abbrev CH_HOP.GRP_EN : Fld := ⟨.CH_HOP, 4, 4⟩
abbrev CH_HOP.GROUP : Fld := ⟨.CH_HOP, 3, 0⟩
abbrev CH_TSET_SH.SEC_HI : Fld := ⟨.CH_TSET_SH, 15, 0⟩
abbrev CH_TSET_SL.SEC_LO : Fld := ⟨.CH_TSET_SL, 31, 0⟩
abbrev CH_TSET_NS.NS : Fld := ⟨.CH_TSET_NS, 29, 0⟩
abbrev CH_TSET_FR.FRAC : Fld := ⟨.CH_TSET_FR, 15, 0⟩
abbrev CH_CMD.SLEW_CANCEL : Fld := ⟨.CH_CMD, 1, 1⟩
abbrev CH_CMD.TSET : Fld := ⟨.CH_CMD, 0, 0⟩
abbrev CH_STS.EN_LIVE : Fld := ⟨.CH_STS, 31, 31⟩
abbrev CH_STS.ARMED : Fld := ⟨.CH_STS, 14, 14⟩
abbrev CH_STS.ARMED_IDX : Fld := ⟨.CH_STS, 13, 8⟩
abbrev CH_STS.RATE_SAT : Fld := ⟨.CH_STS, 6, 6⟩
abbrev CH_STS.STEP_OK : Fld := ⟨.CH_STS, 5, 5⟩
abbrev CH_STS.SLEW : Fld := ⟨.CH_STS, 4, 4⟩
abbrev CH_STS.GRP_PEND : Fld := ⟨.CH_STS, 3, 3⟩
abbrev CH_STS.STATE : Fld := ⟨.CH_STS, 2, 0⟩
abbrev CH_PHERR.PHERR : Fld := ⟨.CH_PHERR, 31, 0⟩
abbrev CH_RATE.RATE : Fld := ⟨.CH_RATE, 31, 0⟩
abbrev OUT_CFG.LB_EN : Fld := ⟨.OUT_CFG, 15, 15⟩
abbrev OUT_CFG.INV : Fld := ⟨.OUT_CFG, 14, 14⟩
abbrev OUT_CFG.HOPDIV : Fld := ⟨.OUT_CFG, 13, 13⟩
abbrev OUT_CFG.EN : Fld := ⟨.OUT_CFG, 12, 12⟩
abbrev OUT_CFG.SRC : Fld := ⟨.OUT_CFG, 8, 0⟩
abbrev OUT_DIV.DIVM1 : Fld := ⟨.OUT_DIV, 23, 0⟩
abbrev OUT_DRV.DESKEW : Fld := ⟨.OUT_DRV, 31, 16⟩
abbrev OUT_DRV.SWING : Fld := ⟨.OUT_DRV, 5, 4⟩
abbrev OUT_DRV.TYPE : Fld := ⟨.OUT_DRV, 1, 0⟩
abbrev OUT_STS.OVERSPEED : Fld := ⟨.OUT_STS, 6, 6⟩
abbrev OUT_STS.DESKEW_PEND : Fld := ⟨.OUT_STS, 5, 5⟩
abbrev OUT_STS.LB_FAULT : Fld := ⟨.OUT_STS, 4, 4⟩
abbrev OUT_STS.CALSTALE : Fld := ⟨.OUT_STS, 3, 3⟩
abbrev OUT_STS.SLICE : Fld := ⟨.OUT_STS, 2, 2⟩
abbrev OUT_STS.STATE : Fld := ⟨.OUT_STS, 1, 0⟩
abbrev PPS_CFG.LB_EN : Fld := ⟨.PPS_CFG, 15, 15⟩
abbrev PPS_CFG.EN : Fld := ⟨.PPS_CFG, 12, 12⟩
abbrev PPS_CFG.SRC : Fld := ⟨.PPS_CFG, 8, 0⟩
abbrev PPS_WIDTH.WIDTH : Fld := ⟨.PPS_WIDTH, 19, 0⟩
abbrev PPS_OFS.OFS : Fld := ⟨.PPS_OFS, 31, 0⟩
abbrev OUT_CTL.MUTE_ALL : Fld := ⟨.OUT_CTL, 2, 2⟩
abbrev OUT_CTL.INTREF_OK : Fld := ⟨.OUT_CTL, 1, 1⟩
abbrev OUT_CTL.EARLY : Fld := ⟨.OUT_CTL, 0, 0⟩
abbrev OUT_FAULT.LB_FAULT : Fld := ⟨.OUT_FAULT, 31, 0⟩
abbrev OUT_PPS_STS.RUN : Fld := ⟨.OUT_PPS_STS, 31, 16⟩
abbrev OUT_PPS_STS.LB_FAULT : Fld := ⟨.OUT_PPS_STS, 15, 0⟩
abbrev HOP_PIN_CFG.EN : Fld := ⟨.HOP_PIN_CFG, 31, 31⟩
abbrev HOP_PIN_CFG.EDGE : Fld := ⟨.HOP_PIN_CFG, 30, 30⟩
abbrev HOP_PIN_CFG.TGT : Fld := ⟨.HOP_PIN_CFG, 29, 29⟩
abbrev HOP_PIN_CFG.CH : Fld := ⟨.HOP_PIN_CFG, 24, 16⟩
abbrev HOP_PIN_CFG.HOLDOFF : Fld := ⟨.HOP_PIN_CFG, 15, 8⟩
abbrev HOP_PIN_CFG.GROUP : Fld := ⟨.HOP_PIN_CFG, 3, 0⟩
abbrev HOP_CTL.PAIR_LEAD : Fld := ⟨.HOP_CTL, 11, 8⟩
abbrev HOP_CMD.GO : Fld := ⟨.HOP_CMD, 31, 31⟩
abbrev HOP_CMD.TGT : Fld := ⟨.HOP_CMD, 30, 30⟩
abbrev HOP_CMD.CH : Fld := ⟨.HOP_CMD, 24, 16⟩
abbrev HOP_CMD.GMASK : Fld := ⟨.HOP_CMD, 15, 0⟩
abbrev HOP_GRP_CFG.ENG_EN : Fld := ⟨.HOP_GRP_CFG, 3, 3⟩
abbrev HOP_GRP_CFG.TWL_EN : Fld := ⟨.HOP_GRP_CFG, 2, 2⟩
abbrev HOP_GRP_CFG.HOST_EN : Fld := ⟨.HOP_GRP_CFG, 1, 1⟩
abbrev HOP_GRP_CFG.EN : Fld := ⟨.HOP_GRP_CFG, 0, 0⟩
abbrev REF_CFG.EN : Fld := ⟨.REF_CFG, 31, 31⟩
abbrev REF_CFG.TYPE : Fld := ⟨.REF_CFG, 30, 30⟩
abbrev REF_CFG.EDGE : Fld := ⟨.REF_CFG, 29, 29⟩
abbrev REF_CFG.PREDIVM1 : Fld := ⟨.REF_CFG, 15, 0⟩
abbrev REF_FNOM.FNOM : Fld := ⟨.REF_FNOM, 30, 0⟩
abbrev REF_QUAL.SOAK : Fld := ⟨.REF_QUAL, 31, 16⟩
abbrev REF_QUAL.WIN : Fld := ⟨.REF_QUAL, 15, 0⟩
abbrev REF_HIT.HYST : Fld := ⟨.REF_HIT, 31, 24⟩
abbrev REF_HIT.HIT_HOLD : Fld := ⟨.REF_HIT, 23, 16⟩
abbrev REF_HIT.HIT_THR : Fld := ⟨.REF_HIT, 15, 0⟩
abbrev REF_STS.STALE : Fld := ⟨.REF_STS, 3, 3⟩
abbrev REF_STS.STATE : Fld := ⟨.REF_STS, 2, 0⟩
abbrev REF_FOFS.FOFS : Fld := ⟨.REF_FOFS, 31, 0⟩
abbrev REFIN_CMD.LOCKOUT : Fld := ⟨.REFIN_CMD, 31, 31⟩
abbrev REFIN_CMD.RELEASE : Fld := ⟨.REFIN_CMD, 30, 30⟩
abbrev REFIN_CMD.IDX : Fld := ⟨.REFIN_CMD, 5, 0⟩
abbrev REFIN_QUAL0.BITS : Fld := ⟨.REFIN_QUAL0, 31, 0⟩
abbrev REFIN_QUAL1.BITS : Fld := ⟨.REFIN_QUAL1, 3, 0⟩
abbrev REFIN_STALE0.BITS : Fld := ⟨.REFIN_STALE0, 31, 0⟩
abbrev REFIN_STALE1.BITS : Fld := ⟨.REFIN_STALE1, 3, 0⟩
abbrev ENG_CHMAP.SEL_VALID : Fld := ⟨.ENG_CHMAP, 31, 31⟩
abbrev ENG_CHMAP.SEL_IDX : Fld := ⟨.ENG_CHMAP, 30, 28⟩
abbrev ENG_CHMAP.SEL : Fld := ⟨.ENG_CHMAP, 27, 21⟩
abbrev ENG_CHMAP.ENGIDX : Fld := ⟨.ENG_CHMAP, 19, 10⟩
abbrev ENG_CHMAP.NOMEAS : Fld := ⟨.ENG_CHMAP, 5, 5⟩
abbrev ENG_CHMAP.OVC_IMM : Fld := ⟨.ENG_CHMAP, 4, 4⟩
abbrev ENG_CHMAP.PROG : Fld := ⟨.ENG_CHMAP, 3, 0⟩
abbrev ENG_CTL.SCRUB_EN : Fld := ⟨.ENG_CTL, 8, 8⟩
abbrev ENG_CTL.WDOG : Fld := ⟨.ENG_CTL, 6, 0⟩
abbrev ENG_CMD.RETIRE : Fld := ⟨.ENG_CMD, 31, 31⟩
abbrev ENG_CMD.RESTART : Fld := ⟨.ENG_CMD, 30, 30⟩
abbrev ENG_CMD.IDX : Fld := ⟨.ENG_CMD, 25, 16⟩
abbrev ENG_POOL.PSTORE_OK : Fld := ⟨.ENG_POOL, 16, 16⟩
abbrev ENG_POOL.SPARES_FREE : Fld := ⟨.ENG_POOL, 12, 8⟩
abbrev ENG_POOL.RETIRED : Fld := ⟨.ENG_POOL, 4, 0⟩
abbrev ENG_LAST_RETIRE.CAUSE : Fld := ⟨.ENG_LAST_RETIRE, 31, 29⟩
abbrev ENG_LAST_RETIRE.IDLE : Fld := ⟨.ENG_LAST_RETIRE, 28, 28⟩
abbrev ENG_LAST_RETIRE.NOSPARE : Fld := ⟨.ENG_LAST_RETIRE, 27, 27⟩
abbrev ENG_LAST_RETIRE.SPARE : Fld := ⟨.ENG_LAST_RETIRE, 26, 23⟩
abbrev ENG_LAST_RETIRE.ENGINE : Fld := ⟨.ENG_LAST_RETIRE, 22, 13⟩
abbrev ENG_LAST_RETIRE.CHANNEL : Fld := ⟨.ENG_LAST_RETIRE, 8, 0⟩
abbrev ENG_COLL.LAST_JOIN : Fld := ⟨.ENG_COLL, 24, 16⟩
abbrev ENG_COLL.HWM : Fld := ⟨.ENG_COLL, 9, 0⟩
abbrev ENG_RETIRED.BITS : Fld := ⟨.ENG_RETIRED, 31, 0⟩
abbrev ENG_RETIRED16.BITS : Fld := ⟨.ENG_RETIRED16, 15, 0⟩
abbrev ENG_SPARE_FREE.BITS : Fld := ⟨.ENG_SPARE_FREE, 15, 0⟩
abbrev TWL_CTL.RX_INV : Fld := ⟨.TWL_CTL, 16, 16⟩
abbrev TWL_CTL.TX_INV : Fld := ⟨.TWL_CTL, 15, 8⟩
abbrev TWL_CTL.RX_EN : Fld := ⟨.TWL_CTL, 1, 1⟩
abbrev TWL_CTL.TX_EN : Fld := ⟨.TWL_CTL, 0, 0⟩
abbrev TWL_STS.RX_LOCK : Fld := ⟨.TWL_STS, 1, 1⟩
abbrev TWL_STS.FRAMES : Fld := ⟨.TWL_STS, 0, 0⟩
abbrev ESMC_CTL.OPT : Fld := ⟨.ESMC_CTL, 0, 0⟩
abbrev FLOW_CFG.EN : Fld := ⟨.FLOW_CFG, 31, 31⟩
abbrev FLOW_CFG.CHANNEL : Fld := ⟨.FLOW_CFG, 27, 19⟩
abbrev FLOW_CFG.PORT : Fld := ⟨.FLOW_CFG, 17, 8⟩
abbrev FLOW_CFG.DOMAIN : Fld := ⟨.FLOW_CFG, 7, 0⟩
abbrev FLOW_ASYM.LPRIO : Fld := ⟨.FLOW_ASYM, 31, 24⟩
abbrev FLOW_ASYM.ASYM : Fld := ⟨.FLOW_ASYM, 23, 0⟩
abbrev FLOW_STS.STATE : Fld := ⟨.FLOW_STS, 31, 29⟩
abbrev FLOW_STS.RANK : Fld := ⟨.FLOW_STS, 28, 23⟩
abbrev FLOW_STS.CLASS : Fld := ⟨.FLOW_STS, 22, 15⟩
abbrev FLOW_STS.STEPS : Fld := ⟨.FLOW_STS, 14, 7⟩
abbrev ORIG_CFG.EN : Fld := ⟨.ORIG_CFG, 31, 31⟩
abbrev ORIG_CFG.PROFILE : Fld := ⟨.ORIG_CFG, 30, 29⟩
abbrev ORIG_CFG.ONESTEP : Fld := ⟨.ORIG_CFG, 28, 28⟩
abbrev ORIG_CFG.CHANNEL : Fld := ⟨.ORIG_CFG, 27, 19⟩
abbrev ORIG_CFG.RESP : Fld := ⟨.ORIG_CFG, 18, 18⟩
abbrev ORIG_CFG.PGROUP : Fld := ⟨.ORIG_CFG, 17, 12⟩
abbrev ORIG_CFG.DOMAIN : Fld := ⟨.ORIG_CFG, 7, 0⟩
abbrev ORIG_INT.PRIO2 : Fld := ⟨.ORIG_INT, 31, 24⟩
abbrev ORIG_INT.PRIO1 : Fld := ⟨.ORIG_INT, 23, 16⟩
abbrev ORIG_INT.LOG_ANN : Fld := ⟨.ORIG_INT, 11, 8⟩
abbrev ORIG_INT.LOG_SYNC : Fld := ⟨.ORIG_INT, 7, 4⟩
abbrev ORIG_INT.LOG_DREQ : Fld := ⟨.ORIG_INT, 3, 0⟩
abbrev ORIG_STS.CLASS : Fld := ⟨.ORIG_STS, 31, 24⟩
abbrev ORIG_STS.STEPS : Fld := ⟨.ORIG_STS, 23, 16⟩
abbrev ESMC_MAP.EN : Fld := ⟨.ESMC_MAP, 31, 31⟩
abbrev ESMC_MAP.PORT : Fld := ⟨.ESMC_MAP, 25, 16⟩
abbrev ESMC_MAP.NOQL : Fld := ⟨.ESMC_MAP, 12, 12⟩
abbrev ESMC_MAP.SSM : Fld := ⟨.ESMC_MAP, 11, 8⟩
abbrev ESMC_MAP.ESSM : Fld := ⟨.ESMC_MAP, 7, 0⟩
abbrev ESMC_TX.EN : Fld := ⟨.ESMC_TX, 31, 31⟩
abbrev ESMC_TX.CHANNEL : Fld := ⟨.ESMC_TX, 27, 19⟩
abbrev ESMC_TX.PGROUP : Fld := ⟨.ESMC_TX, 17, 12⟩
abbrev MIR_CTL.TX_INV : Fld := ⟨.MIR_CTL, 23, 20⟩
abbrev MIR_CTL.RX_INV : Fld := ⟨.MIR_CTL, 19, 16⟩
abbrev MIR_CTL.FEC_EN : Fld := ⟨.MIR_CTL, 11, 8⟩
abbrev MIR_CTL.TX_EN : Fld := ⟨.MIR_CTL, 7, 4⟩
abbrev MIR_CTL.RX_EN : Fld := ⟨.MIR_CTL, 3, 0⟩
abbrev MIR_REORDER.TMO : Fld := ⟨.MIR_REORDER, 7, 0⟩
abbrev MIR_STS.SEQ_SYNC : Fld := ⟨.MIR_STS, 7, 4⟩
abbrev MIR_STS.BLOCK_LOCK : Fld := ⟨.MIR_STS, 3, 0⟩
abbrev MIR_PGRP.EN : Fld := ⟨.MIR_PGRP, 31, 31⟩
abbrev MIR_PGRP.LANE : Fld := ⟨.MIR_PGRP, 29, 28⟩
abbrev MIR_PGRP.TPL : Fld := ⟨.MIR_PGRP, 20, 16⟩
abbrev TPL_CTL.VALID : Fld := ⟨.TPL_CTL, 31, 31⟩
abbrev TPL_CTL.L3 : Fld := ⟨.TPL_CTL, 25, 24⟩
abbrev TPL_CTL.LEN : Fld := ⟨.TPL_CTL, 22, 16⟩
abbrev TPL_CTL.L3_OFS : Fld := ⟨.TPL_CTL, 15, 8⟩
abbrev TPL_OCT.OCTETS : Fld := ⟨.TPL_OCT, 31, 0⟩
abbrev PARSE_CTL.DEFAULT : Fld := ⟨.PARSE_CTL, 6, 4⟩
abbrev PARSE_CTL.EN : Fld := ⟨.PARSE_CTL, 0, 0⟩
abbrev PARSE_BANK_CMD.SWAP : Fld := ⟨.PARSE_BANK_CMD, 0, 0⟩
abbrev PARSE_BANK_STS.GEN : Fld := ⟨.PARSE_BANK_STS, 31, 16⟩
abbrev PARSE_BANK_STS.INFLIGHT : Fld := ⟨.PARSE_BANK_STS, 15, 8⟩
abbrev PARSE_BANK_STS.DEFER : Fld := ⟨.PARSE_BANK_STS, 3, 3⟩
abbrev PARSE_BANK_STS.RETIRING : Fld := ⟨.PARSE_BANK_STS, 2, 2⟩
abbrev PARSE_BANK_STS.ACTIVE : Fld := ⟨.PARSE_BANK_STS, 0, 0⟩
abbrev PARSE_SLOW_POL0.BURST : Fld := ⟨.PARSE_SLOW_POL0, 31, 20⟩
abbrev PARSE_SLOW_POL0.RATE : Fld := ⟨.PARSE_SLOW_POL0, 19, 0⟩
abbrev PARSE_SLOW_POL1.BURST : Fld := ⟨.PARSE_SLOW_POL1, 31, 20⟩
abbrev PARSE_SLOW_POL1.RATE : Fld := ⟨.PARSE_SLOW_POL1, 19, 0⟩
abbrev PARSE_SLOW_STS.DEPTH : Fld := ⟨.PARSE_SLOW_STS, 10, 0⟩
abbrev PARSE_FLOW_POL.BURST : Fld := ⟨.PARSE_FLOW_POL, 23, 16⟩
abbrev PARSE_FLOW_POL.RATE : Fld := ⟨.PARSE_FLOW_POL, 15, 0⟩
abbrev PARSE_REQ_POL.BURST : Fld := ⟨.PARSE_REQ_POL, 31, 20⟩
abbrev PARSE_REQ_POL.RATE : Fld := ⟨.PARSE_REQ_POL, 19, 0⟩
abbrev PARSE_ESMC_POL.BURST : Fld := ⟨.PARSE_ESMC_POL, 31, 20⟩
abbrev PARSE_ESMC_POL.RATE : Fld := ⟨.PARSE_ESMC_POL, 19, 0⟩
abbrev PARSE_FRAG_STS.USED : Fld := ⟨.PARSE_FRAG_STS, 8, 0⟩
abbrev PAIR_CFG.EN : Fld := ⟨.PAIR_CFG, 31, 31⟩
abbrev PAIR_CFG.REVERT : Fld := ⟨.PAIR_CFG, 30, 30⟩
abbrev PAIR_CFG.PREF : Fld := ⟨.PAIR_CFG, 29, 28⟩
abbrev PAIR_CFG.RST_ACCEPT : Fld := ⟨.PAIR_CFG, 27, 27⟩
abbrev PAIR_CFG.LB_YIELD : Fld := ⟨.PAIR_CFG, 26, 26⟩
abbrev PAIR_CFG.PAIR_ID : Fld := ⟨.PAIR_CFG, 15, 0⟩
abbrev PAIR_ALIGN.FCH : Fld := ⟨.PAIR_ALIGN, 24, 16⟩
abbrev PAIR_ALIGN.OIDX : Fld := ⟨.PAIR_ALIGN, 14, 8⟩
abbrev PAIR_ALIGN.WIN : Fld := ⟨.PAIR_ALIGN, 7, 0⟩
abbrev PAIR_TIMERS.HB_WIN : Fld := ⟨.PAIR_TIMERS, 31, 24⟩
abbrev PAIR_TIMERS.CLAIM_WIN : Fld := ⟨.PAIR_TIMERS, 23, 16⟩
abbrev PAIR_TIMERS.LINK_WIN : Fld := ⟨.PAIR_TIMERS, 15, 8⟩
abbrev PAIR_TIMERS.FORM_WAIT : Fld := ⟨.PAIR_TIMERS, 7, 0⟩
abbrev PAIR_EPOCH_CFG.VERIFY_N : Fld := ⟨.PAIR_EPOCH_CFG, 31, 22⟩
abbrev PAIR_EPOCH_CFG.RWTR : Fld := ⟨.PAIR_EPOCH_CFG, 19, 8⟩
abbrev PAIR_EPOCH_CFG.EPOCH_TMO : Fld := ⟨.PAIR_EPOCH_CFG, 7, 0⟩
abbrev PAIR_LINK.TX_INV : Fld := ⟨.PAIR_LINK, 7, 4⟩
abbrev PAIR_LINK.RX_INV : Fld := ⟨.PAIR_LINK, 3, 0⟩
abbrev PAIR_CMD.HANDOVER : Fld := ⟨.PAIR_CMD, 31, 31⟩
abbrev PAIR_CMD.RESYNC : Fld := ⟨.PAIR_CMD, 30, 30⟩
abbrev PAIR_CMD.ABORT : Fld := ⟨.PAIR_CMD, 29, 29⟩
abbrev PAIR_CMD.PEER_RESET : Fld := ⟨.PAIR_CMD, 28, 28⟩
abbrev PAIR_STS.ROLE : Fld := ⟨.PAIR_STS, 31, 30⟩
abbrev PAIR_STS.FORMED : Fld := ⟨.PAIR_STS, 29, 29⟩
abbrev PAIR_STS.PEER_ALIVE : Fld := ⟨.PAIR_STS, 28, 28⟩
abbrev PAIR_STS.HB1_OK : Fld := ⟨.PAIR_STS, 27, 27⟩
abbrev PAIR_STS.HB0_OK : Fld := ⟨.PAIR_STS, 26, 26⟩
abbrev PAIR_STS.LINK_UP : Fld := ⟨.PAIR_STS, 25, 25⟩
abbrev PAIR_STS.IN_STEP : Fld := ⟨.PAIR_STS, 24, 24⟩
abbrev PAIR_STS.ALIGNED : Fld := ⟨.PAIR_STS, 23, 23⟩
abbrev PAIR_STS.PACED : Fld := ⟨.PAIR_STS, 22, 22⟩
abbrev PAIR_STS.GRID_OK : Fld := ⟨.PAIR_STS, 21, 21⟩
abbrev PAIR_STS.TRIM_HELD : Fld := ⟨.PAIR_STS, 20, 20⟩
abbrev PAIR_STS.ACTIVE_N_LOW : Fld := ⟨.PAIR_STS, 19, 19⟩
abbrev PAIR_STS.CLAIM_BLOCK : Fld := ⟨.PAIR_STS, 18, 18⟩
abbrev PAIR_STS.PEER_ERR : Fld := ⟨.PAIR_STS, 17, 17⟩
abbrev PAIR_STS.COLD : Fld := ⟨.PAIR_STS, 16, 16⟩
abbrev PAIR_STS.PEER_MODE : Fld := ⟨.PAIR_STS, 15, 12⟩
abbrev PAIR_EPOCH_STS.EPOCH : Fld := ⟨.PAIR_EPOCH_STS, 31, 16⟩
abbrev PAIR_EPOCH_STS.PHASE : Fld := ⟨.PAIR_EPOCH_STS, 15, 13⟩
abbrev PAIR_EPOCH_STS.LAST_ABORT : Fld := ⟨.PAIR_EPOCH_STS, 12, 10⟩
abbrev PAIR_EPOCH_STS.JOINED : Fld := ⟨.PAIR_EPOCH_STS, 9, 0⟩
abbrev PAIR_DIV.JUDGED : Fld := ⟨.PAIR_DIV, 31, 30⟩
abbrev PAIR_DIV.CH_VALID : Fld := ⟨.PAIR_DIV, 29, 29⟩
abbrev PAIR_DIV.CHANNEL : Fld := ⟨.PAIR_DIV, 28, 20⟩
abbrev PAIR_DIV.DTICK : Fld := ⟨.PAIR_DIV, 15, 0⟩
abbrev PAIR_TRIM.RHO : Fld := ⟨.PAIR_TRIM, 31, 0⟩
abbrev PAIR_PHASE.PSI : Fld := ⟨.PAIR_PHASE, 31, 0⟩
abbrev PAIR_GRID.G : Fld := ⟨.PAIR_GRID, 31, 16⟩
abbrev PAIR_GRID.LINKDLY : Fld := ⟨.PAIR_GRID, 15, 0⟩
abbrev PAIR_REL.TICK_OFS : Fld := ⟨.PAIR_REL, 31, 0⟩
abbrev CAL_CTL.STORE_MIN : Fld := ⟨.CAL_CTL, 31, 20⟩
abbrev CAL_CTL.PERIOD : Fld := ⟨.CAL_CTL, 19, 8⟩
abbrev CAL_CTL.AUTO : Fld := ⟨.CAL_CTL, 7, 7⟩
abbrev CAL_CTL.TTHR : Fld := ⟨.CAL_CTL, 6, 0⟩
abbrev CAL_CMD.STORE : Fld := ⟨.CAL_CMD, 1, 1⟩
abbrev CAL_CMD.RUN : Fld := ⟨.CAL_CMD, 0, 0⟩
abbrev CAL_STS.ITEM : Fld := ⟨.CAL_STS, 31, 24⟩
abbrev CAL_STS.ROTATING : Fld := ⟨.CAL_STS, 23, 23⟩
abbrev CAL_STS.PAUSED : Fld := ⟨.CAL_STS, 22, 22⟩
abbrev CAL_STS.PENDING : Fld := ⟨.CAL_STS, 21, 21⟩
abbrev CAL_STS.STORING : Fld := ⟨.CAL_STS, 20, 20⟩
abbrev CAL_STS.STORE_PEND : Fld := ⟨.CAL_STS, 19, 19⟩
abbrev CAL_STS.PFW_BLOCK : Fld := ⟨.CAL_STS, 18, 18⟩
abbrev CAL_STS.ALERT : Fld := ⟨.CAL_STS, 17, 17⟩
abbrev CAL_STS.BLENDS : Fld := ⟨.CAL_STS, 15, 12⟩
abbrev CAL_STS.SLOT : Fld := ⟨.CAL_STS, 9, 8⟩
abbrev CAL_SEQ.SEQ : Fld := ⟨.CAL_SEQ, 31, 0⟩
abbrev CLK_CTL.RAMP_DWELL : Fld := ⟨.CLK_CTL, 15, 8⟩
abbrev CLK_STS.RAMPING : Fld := ⟨.CLK_STS, 31, 16⟩
abbrev CLK_STS.FC_DONE : Fld := ⟨.CLK_STS, 8, 8⟩
abbrev CLK_STS.FC_BUSY : Fld := ⟨.CLK_STS, 7, 7⟩
abbrev CLK_STS.FORCED : Fld := ⟨.CLK_STS, 6, 6⟩
abbrev CLK_STS.ROOT_INT : Fld := ⟨.CLK_STS, 5, 5⟩
abbrev CLK_STS.SPLL_LOCK : Fld := ⟨.CLK_STS, 4, 4⟩
abbrev CLK_STS.XO_OK : Fld := ⟨.CLK_STS, 3, 3⟩
abbrev CLK_STS.MON_ARMED : Fld := ⟨.CLK_STS, 2, 2⟩
abbrev CLK_STS.INTOSC_OK : Fld := ⟨.CLK_STS, 1, 1⟩
abbrev CLK_XOCNT.EXPECT : Fld := ⟨.CLK_XOCNT, 31, 16⟩
abbrev CLK_XOCNT.COUNT : Fld := ⟨.CLK_XOCNT, 15, 0⟩
abbrev CLK_FC_CTL.START : Fld := ⟨.CLK_FC_CTL, 31, 31⟩
abbrev CLK_FC_CTL.GATE : Fld := ⟨.CLK_FC_CTL, 24, 20⟩
abbrev CLK_FC_CTL.REF : Fld := ⟨.CLK_FC_CTL, 13, 8⟩
abbrev CLK_FC_CTL.TGT : Fld := ⟨.CLK_FC_CTL, 5, 0⟩
abbrev CLK_FC_RES.COUNT : Fld := ⟨.CLK_FC_RES, 31, 0⟩
abbrev RST_STS.L1I : Fld := ⟨.RST_STS, 9, 9⟩
abbrev RST_STS.L1M : Fld := ⟨.RST_STS, 8, 8⟩
abbrev RST_STS.SOFT : Fld := ⟨.RST_STS, 7, 0⟩
abbrev RST_LAST.LEVEL : Fld := ⟨.RST_LAST, 31, 28⟩
abbrev RST_LAST.SOURCES : Fld := ⟨.RST_LAST, 11, 0⟩
abbrev RST_BASIC.CAUSE : Fld := ⟨.RST_BASIC, 3, 0⟩
abbrev RST_BOOT_STS.KIND : Fld := ⟨.RST_BOOT_STS, 31, 30⟩
abbrev RST_BOOT_STS.SRC : Fld := ⟨.RST_BOOT_STS, 29, 28⟩
abbrev RST_BOOT_STS.ACCEPTED : Fld := ⟨.RST_BOOT_STS, 27, 27⟩
abbrev RST_BOOT_STS.CAUSE_CLONE : Fld := ⟨.RST_BOOT_STS, 23, 20⟩
abbrev RST_BOOT_STS.CAUSE_HOST : Fld := ⟨.RST_BOOT_STS, 19, 16⟩
abbrev RST_BOOT_STS.CAUSE_B : Fld := ⟨.RST_BOOT_STS, 15, 12⟩
abbrev RST_BOOT_STS.CAUSE_A : Fld := ⟨.RST_BOOT_STS, 11, 8⟩
abbrev RST_CMD.GO : Fld := ⟨.RST_CMD, 31, 31⟩
abbrev RST_CMD.REQ : Fld := ⟨.RST_CMD, 1, 0⟩
abbrev RST_SOFT.MASK : Fld := ⟨.RST_SOFT, 31, 16⟩
abbrev RST_SOFT.SOFT : Fld := ⟨.RST_SOFT, 7, 0⟩
abbrev RST_IDLE_TMO.TMO : Fld := ⟨.RST_IDLE_TMO, 13, 0⟩
abbrev RST_HLOAD_CTL.CHUNK : Fld := ⟨.RST_HLOAD_CTL, 31, 31⟩
abbrev RST_HLOAD_CTL.END : Fld := ⟨.RST_HLOAD_CTL, 30, 30⟩
abbrev RST_HLOAD_CTL.ABORT : Fld := ⟨.RST_HLOAD_CTL, 29, 29⟩
abbrev RST_HLOAD_CTL.WORDS : Fld := ⟨.RST_HLOAD_CTL, 9, 0⟩
abbrev RST_IDLE_STS.WAIT_L1 : Fld := ⟨.RST_IDLE_STS, 9, 8⟩
abbrev RST_IDLE_STS.WAIT : Fld := ⟨.RST_IDLE_STS, 7, 0⟩
abbrev RST_HLOAD_STS.STATE : Fld := ⟨.RST_HLOAD_STS, 31, 28⟩
abbrev RST_HLOAD_STS.OCTETS : Fld := ⟨.RST_HLOAD_STS, 24, 0⟩
abbrev RST_HLOAD_WIN.OCTETS : Fld := ⟨.RST_HLOAD_WIN, 31, 0⟩
abbrev MGMT_CTL.JRN_EN : Fld := ⟨.MGMT_CTL, 9, 9⟩
abbrev MGMT_CTL.INB_EN : Fld := ⟨.MGMT_CTL, 8, 8⟩
abbrev MGMT_CTL.WDOG : Fld := ⟨.MGMT_CTL, 7, 0⟩
abbrev MGMT_STS.SUP_WARN : Fld := ⟨.MGMT_STS, 12, 8⟩
abbrev MGMT_STS.PFW : Fld := ⟨.MGMT_STS, 3, 3⟩
abbrev MGMT_STS.TEMP_WARN : Fld := ⟨.MGMT_STS, 2, 2⟩
abbrev MGMT_STS.ROM_SVC : Fld := ⟨.MGMT_STS, 1, 1⟩
abbrev MGMT_STS.FW_RUN : Fld := ⟨.MGMT_STS, 0, 0⟩
abbrev MGMT_FW_STS.CAUSE_B : Fld := ⟨.MGMT_FW_STS, 31, 28⟩
abbrev MGMT_FW_STS.CAUSE_A : Fld := ⟨.MGMT_FW_STS, 27, 24⟩
abbrev MGMT_FW_STS.SLOT : Fld := ⟨.MGMT_FW_STS, 23, 23⟩
abbrev MGMT_FW_STS.SEC_VER : Fld := ⟨.MGMT_FW_STS, 22, 16⟩
abbrev MGMT_FW_STS.FW_VER : Fld := ⟨.MGMT_FW_STS, 15, 0⟩
abbrev MGMT_TEMP_WARN.HYST : Fld := ⟨.MGMT_TEMP_WARN, 31, 16⟩
abbrev MGMT_TEMP_WARN.THR : Fld := ⟨.MGMT_TEMP_WARN, 15, 0⟩
abbrev MGMT_PFW_CTL.EN18 : Fld := ⟨.MGMT_PFW_CTL, 31, 31⟩
abbrev MGMT_PFW_CTL.EN33 : Fld := ⟨.MGMT_PFW_CTL, 30, 30⟩
abbrev MGMT_PFW_CTL.THR33 : Fld := ⟨.MGMT_PFW_CTL, 24, 16⟩
abbrev MGMT_PFW_CTL.THR18 : Fld := ⟨.MGMT_PFW_CTL, 8, 0⟩
abbrev MGMT_ARB.COUNT : Fld := ⟨.MGMT_ARB, 6, 0⟩
abbrev MGMT_TEMP.TEMP : Fld := ⟨.MGMT_TEMP, 15, 0⟩
abbrev MGMT_SUP.HIGH : Fld := ⟨.MGMT_SUP, 17, 17⟩
abbrev MGMT_SUP.LOW : Fld := ⟨.MGMT_SUP, 16, 16⟩
abbrev MGMT_SUP.MV : Fld := ⟨.MGMT_SUP, 15, 0⟩
abbrev MGMT_JRN_CTL.READ : Fld := ⟨.MGMT_JRN_CTL, 31, 31⟩
abbrev MGMT_JRN_RDIDX.TIER : Fld := ⟨.MGMT_JRN_RDIDX, 31, 30⟩
abbrev MGMT_JRN_RDIDX.INDEX : Fld := ⟨.MGMT_JRN_RDIDX, 29, 0⟩
abbrev MGMT_JRN_STS.STATE : Fld := ⟨.MGMT_JRN_STS, 31, 30⟩
abbrev MGMT_JRN_STS.SHORT : Fld := ⟨.MGMT_JRN_STS, 29, 29⟩
abbrev MGMT_JRN_STS.T1_DAYS : Fld := ⟨.MGMT_JRN_STS, 8, 0⟩
abbrev MGMT_EMMC_STS.SECTORS : Fld := ⟨.MGMT_EMMC_STS, 31, 0⟩
abbrev MGMT_UPD_CTL.START : Fld := ⟨.MGMT_UPD_CTL, 31, 31⟩
abbrev MGMT_UPD_CTL.CHUNK : Fld := ⟨.MGMT_UPD_CTL, 30, 30⟩
abbrev MGMT_UPD_CTL.END : Fld := ⟨.MGMT_UPD_CTL, 29, 29⟩
abbrev MGMT_UPD_CTL.ACTIVATE : Fld := ⟨.MGMT_UPD_CTL, 28, 28⟩
abbrev MGMT_UPD_CTL.ABORT : Fld := ⟨.MGMT_UPD_CTL, 27, 27⟩
abbrev MGMT_UPD_CTL.FUSE_ADV : Fld := ⟨.MGMT_UPD_CTL, 26, 26⟩
abbrev MGMT_UPD_CTL.TARGET : Fld := ⟨.MGMT_UPD_CTL, 25, 24⟩
abbrev MGMT_UPD_CTL.WORDS : Fld := ⟨.MGMT_UPD_CTL, 9, 0⟩
abbrev MGMT_UPD_STS.STATE : Fld := ⟨.MGMT_UPD_STS, 31, 29⟩
abbrev MGMT_UPD_STS.CAUSE : Fld := ⟨.MGMT_UPD_STS, 28, 25⟩
abbrev MGMT_UPD_STS.OCTETS : Fld := ⟨.MGMT_UPD_STS, 24, 0⟩
abbrev MGMT_INB_STS.SESSION : Fld := ⟨.MGMT_INB_STS, 31, 0⟩
abbrev MGMT_JRN_RDBUF.OCTETS : Fld := ⟨.MGMT_JRN_RDBUF, 31, 0⟩
abbrev MGMT_UPD_WIN.OCTETS : Fld := ⟨.MGMT_UPD_WIN, 31, 0⟩
abbrev DEV_ID.ID : Fld := ⟨.DEV_ID, 31, 0⟩
abbrev DEV_REV.GRADE : Fld := ⟨.DEV_REV, 11, 8⟩
abbrev DEV_REV.MAJOR : Fld := ⟨.DEV_REV, 7, 4⟩
abbrev DEV_REV.MINOR : Fld := ⟨.DEV_REV, 3, 0⟩
abbrev DEV_MODE.MODE : Fld := ⟨.DEV_MODE, 3, 0⟩
abbrev DEV_MODE_REQ.REQ : Fld := ⟨.DEV_MODE_REQ, 3, 0⟩
abbrev DEV_STRAP.SYS : Fld := ⟨.DEV_STRAP, 6, 6⟩
abbrev DEV_STRAP.POS : Fld := ⟨.DEV_STRAP, 5, 5⟩
abbrev DEV_STRAP.CLK : Fld := ⟨.DEV_STRAP, 4, 2⟩
abbrev DEV_STRAP.BOOT : Fld := ⟨.DEV_STRAP, 1, 0⟩
abbrev DEV_GATE.MASK : Fld := ⟨.DEV_GATE, 31, 16⟩
abbrev DEV_GATE.GATE : Fld := ⟨.DEV_GATE, 12, 0⟩
abbrev DEV_CMD_STATUS.REASON : Fld := ⟨.DEV_CMD_STATUS, 31, 28⟩
abbrev DEV_CMD_STATUS.PORT : Fld := ⟨.DEV_CMD_STATUS, 27, 26⟩
abbrev DEV_CMD_STATUS.ADDR : Fld := ⟨.DEV_CMD_STATUS, 23, 0⟩
abbrev DEV_ALERT.CAUSE : Fld := ⟨.DEV_ALERT, 11, 0⟩
abbrev DEV_ALERT_EN.IRQ_EN : Fld := ⟨.DEV_ALERT_EN, 27, 16⟩
abbrev DEV_ALERT_EN.ALERT_EN : Fld := ⟨.DEV_ALERT_EN, 11, 0⟩
abbrev CFG_CRC_LIVE.CRC : Fld := ⟨.CFG_CRC_LIVE, 31, 0⟩
abbrev CFG_CRC_REF.CRC : Fld := ⟨.CFG_CRC_REF, 31, 0⟩
abbrev CFG_CRC_CTL.COMMIT : Fld := ⟨.CFG_CRC_CTL, 31, 31⟩
abbrev CFG_CRC_CTL.ARMED : Fld := ⟨.CFG_CRC_CTL, 8, 8⟩
abbrev CFG_CRC_CTL.AUTO : Fld := ⟨.CFG_CRC_CTL, 7, 7⟩
abbrev CFG_CRC_CTL.POLICY : Fld := ⟨.CFG_CRC_CTL, 5, 4⟩
abbrev CFG_CRC_CTL.EN : Fld := ⟨.CFG_CRC_CTL, 0, 0⟩
abbrev MBX_SEL.GO : Fld := ⟨.MBX_SEL, 31, 31⟩
abbrev MBX_SEL.AUTO : Fld := ⟨.MBX_SEL, 30, 30⟩
abbrev MBX_SEL.SRC : Fld := ⟨.MBX_SEL, 27, 24⟩
abbrev MBX_SEL.INDEX : Fld := ⟨.MBX_SEL, 8, 0⟩
abbrev MBX_STAT.VALID : Fld := ⟨.MBX_STAT, 31, 31⟩
abbrev MBX_STAT.OPEN : Fld := ⟨.MBX_STAT, 30, 30⟩
abbrev MBX_STAT.PEND : Fld := ⟨.MBX_STAT, 29, 29⟩
abbrev MBX_STAT.OWNER : Fld := ⟨.MBX_STAT, 28, 28⟩
abbrev MBX_STAT.SRC : Fld := ⟨.MBX_STAT, 27, 24⟩
abbrev MBX_STAT.CSEQ : Fld := ⟨.MBX_STAT, 23, 16⟩
abbrev MBX_STAT.INDEX : Fld := ⟨.MBX_STAT, 8, 0⟩
abbrev MBX_D.DATA : Fld := ⟨.MBX_D, 31, 0⟩
abbrev SNAP_CMD.TAKE : Fld := ⟨.SNAP_CMD, 31, 31⟩
abbrev SNAP_CMD.TICK : Fld := ⟨.SNAP_CMD, 30, 30⟩
abbrev SNAP_CMD.PAGE : Fld := ⟨.SNAP_CMD, 5, 0⟩
abbrev SNAP_STAT.BUSY : Fld := ⟨.SNAP_STAT, 31, 31⟩
abbrev SNAP_STAT.COHERENT : Fld := ⟨.SNAP_STAT, 30, 30⟩
abbrev SNAP_STAT.SEQ : Fld := ⟨.SNAP_STAT, 15, 0⟩
abbrev IND_ADDR.SPACE : Fld := ⟨.IND_ADDR, 31, 24⟩
abbrev IND_ADDR.INDEX : Fld := ⟨.IND_ADDR, 23, 0⟩
abbrev IND_DATA.DATA : Fld := ⟨.IND_DATA, 31, 0⟩
abbrev IND_CTL.INC : Fld := ⟨.IND_CTL, 1, 0⟩
abbrev SNAP_HOLD.VALUE : Fld := ⟨.SNAP_HOLD, 31, 0⟩

end Sys2Proof.Machine
end

