-- ==== Sys2Proof/Machine/Parse.lean ====
section
/-! DEFINITION. The parser of the frame intake as pure functions over octets: the header walk (R172 to R176), the PTP and ESMC
messages it finds, and the classification key (R177). Offsets count from octet 0 of the mirrored frame. -/

namespace Sys2Proof.Machine

/-- The IPv4 fields that key the fragment table (R182). -/
structure FragKey where
  src : Nat
  dst : Nat
  proto : Nat
  ident : Nat
  deriving DecidableEq, Repr

/-- What a pass's walk has found (R177). `body` is the offset of the PTP or ESMC message, `avail` the octets it may use,
`inner` the offset of an encapsulated Ethernet frame, `frag` the key of a first IPv4 fragment, `ip` the offset of the IP header, `prp`
whether the frame ends in a PRP trailer. -/
structure Walk where
  base : Nat
  kind : Nat
  ntag : Nat
  vidOuter : Nat
  vidInner : Nat
  etype : Nat
  dport : Nat
  src : Nat
  labels : Nat
  hsr : Bool
  exts : Nat
  body : Nat
  avail : Nat
  inner : Nat
  frag : Option FragKey
  ip : Nat
  prp : Bool
  deriving DecidableEq, Repr

/-- The outcome of a walk (R188 rows 3 and 4): classified on what it found, dropped with a counter, sent to the slow path with
a cause and a counter, or a later IPv4 fragment. -/
inductive WalkOut where
  | found (w : Walk)
  | drop (cnt : Rg)
  | slow (cause : Nat) (cnt : Rg)
  | laterFrag (k : FragKey)
  deriving DecidableEq, Repr

/-- The frame a walk runs over: its octets, whether the copy is truncated, and whether this is the second pass. -/
structure WalkIn where
  os : List Octet
  trunc : Bool
  second : Bool
  deriving DecidableEq, Repr

/-- R175: with TRUNC = 1 a length that reaches to `e`, past the end of the copy, is no contradiction. -/
def WalkIn.pastCopy (x : WalkIn) (e : Nat) : Bool := x.trunc && decide (x.os.length < e)

/-- R172, IEC 62439-3 (assumption 132): a PRP trailer: suffix 0x88FB and the size of the LSDU, which starts at `p` and ends with the trailer. -/
def WalkIn.prpAt (x : WalkIn) (p : Nat) : Bool :=
  let n := x.os.length
  !x.trunc && decide (p + 6 ≤ n) && beAt x.os (n - 2) 2 == 0x88FB && beAt x.os (n - 4) 2 % 4096 == n - p

/-- R173: the parse window, octets 0 to 255 of the outer frame. -/
def parseWindow : Nat := 256

/-- R175: the minimum messageLength of a messageType; an undefined type has the common header only. -/
def ptpMin : Nat → Nat
  | 0 | 1 | 8 | 12 => 44
  | 13 => 48
  | 2 | 3 | 9 | 10 => 54
  | 11 => 64
  | _ => 34

/-- R175: the octets from `i` to `e` are an exact chain of PTP TLVs. -/
def tlvChain (os : List Octet) : Nat → Nat → Nat → Bool
  | 0, i, e => i == e
  | f + 1, i, e =>
    if i = e then true
    else if e < i + 4 then false
    else
      let l := beAt os (i + 2) 2
      l % 2 == 0 && i + 4 + l ≤ e && tlvChain os f (i + 4 + l) e

/-- The TLV types of a PTP message, for the check of R180. -/
def tlvTypes (os : List Octet) : Nat → Nat → Nat → List Nat
  | 0, _, _ => []
  | f + 1, i, e =>
    if e < i + 4 then [] else beAt os i 2 :: tlvTypes os f (i + 4 + beAt os (i + 2) 2) e

/-- R175: every ESMC TLV from `i` ends inside the frame and a QL TLV is 4 octets long. A zero type ends the chain. -/
def esmcChain (os : List Octet) (trunc : Bool) : Nat → Nat → Bool
  | 0, _ => true
  | f + 1, i =>
    if os.length < i + 3 || octAt os i == 0 then true
    else
      let l := beAt os (i + 1) 2
      (octAt os i != 1 || l == 4) && 3 ≤ l && (trunc || i + l ≤ os.length) && esmcChain os trunc f (i + l)

/-- The offset of the first ESMC TLV of type `t` from `i`. -/
def esmcTlv (os : List Octet) (t : Nat) : Nat → Nat → Option Nat
  | 0, _ => none
  | f + 1, i =>
    if os.length < i + 3 || octAt os i == 0 then none
    else if octAt os i == t then some i
    else esmcTlv os t f (i + max 3 (beAt os (i + 1) 2))

/-- R173, R175: the checks of a PTP message at `p` that may use `avail` octets. -/
def walkPtp (x : WalkIn) (w : Walk) (kind p avail : Nat) : WalkOut :=
  let mt := octAt x.os p % 16
  let len := beAt x.os (p + 2) 2
  if parseWindow < p + ptpMin mt then .slow 3 .PARSE_WINDOW_CNT
  else if w.frag.isNone && (len < ptpMin mt || (avail < len && !x.pastCopy (p + len))) then .drop .PARSE_LEN_PTP_CNT
  else if w.frag.isNone && !x.pastCopy (p + len)
      && !tlvChain x.os 2048 (p + ptpMin mt) (p + len) then .drop .PARSE_LEN_TLV_CNT
  else .found { w with kind := kind, body := p, avail := avail }

/-- R172, R173, R175: a slow-protocols frame at `p`: ESMC or another subtype. -/
def walkSlow (x : WalkIn) (w : Walk) (p : Nat) : WalkOut :=
  if octAt x.os p == 0x0A && beAt x.os (p + 1) 3 == 0x0019A7 && beAt x.os (p + 4) 2 == 1 then
    let qlEnd := match esmcTlv x.os 1 512 (p + 10) with
      | some i => i + 4
      | none => p + 10
    if parseWindow < qlEnd then .slow 3 .PARSE_WINDOW_CNT
    else if !esmcChain x.os x.trunc 512 (p + 10) then .drop .PARSE_LEN_ESMC_CNT
    else .found { w with kind := 4, body := p, avail := x.os.length - p }
  else .found { w with kind := 5, body := p }

/-- R172, R175: a UDP header at `p`; `pay` is the IP payload less its extension headers, `v6` the IP version. -/
def walkUdp (x : WalkIn) (w : Walk) (p pay : Nat) (v6 : Bool) : WalkOut :=
  let len := beAt x.os (p + 4) 2
  let dport := beAt x.os (p + 2) 2
  let w := { w with dport := dport }
  if parseWindow < p + 8 then .slow 3 .PARSE_WINDOW_CNT
  else if w.frag.isNone && (len < 8 || (len != pay && !x.pastCopy (p + len))) then .drop .PARSE_LEN_UDP_CNT
  else if dport == 319 || dport == 320 then walkPtp x w (if v6 then 3 else 2) (p + 8) (len - 8)
  else if dport == 4789 && bitOf (octAt x.os (p + 8)) 3 then
    if x.second then .slow 2 .PARSE_TOO_DEEP_CNT
    else if parseWindow < p + 16 then .slow 3 .PARSE_WINDOW_CNT
    else .found { w with kind := 9, src := beAt x.os (p + 12) 3, inner := p + 16 }
  else .found { w with kind := if v6 then 7 else 6 }

/-- The ones-complement sum of `k` half-words from `p`, folded; 0xFFFF for a correct IPv4 header (R176). -/
def ipSum (os : List Octet) (p k : Nat) : Nat :=
  let s := (List.range k).foldl (fun a j => a + beAt os (p + 2 * j) 2) 0
  let s := s % 65536 + s / 65536
  s % 65536 + s / 65536

/-- R172, R175, R176, R182: an IPv4 header at `p`. -/
def walkIp4 (x : WalkIn) (w : Walk) (p : Nat) : WalkOut :=
  let ihl := octAt x.os p % 16
  let total := beAt x.os (p + 2) 2
  let fragw := beAt x.os (p + 6) 2
  let key : FragKey := ⟨beAt x.os (p + 12) 4, beAt x.os (p + 16) 4, octAt x.os (p + 9), beAt x.os (p + 4) 2⟩
  let w := { w with src := key.src, kind := 6, ip := p }
  if parseWindow < p + 20 then .slow 3 .PARSE_WINDOW_CNT
  else if octAt x.os p / 16 != 4 || ihl < 5 then .drop .PARSE_IP_HDR_CNT
  else if parseWindow < p + 4 * ihl then .slow 3 .PARSE_WINDOW_CNT
  else if ipSum x.os p (2 * ihl) != 0xFFFF then .drop .PARSE_IP_HDR_CNT
  else if total < 4 * ihl || (x.os.length - p < total && !x.trunc) then .drop .PARSE_LEN_IP4_CNT
  else if fragw % 8192 != 0 then .laterFrag key
  else
    let w := { w with frag := if bitOf fragw 13 then some key else none }
    if key.proto == 17 then walkUdp x w (p + 4 * ihl) (total - 4 * ihl) false
    else .found w

/-- R172: the IPv6 extension headers from `p`, the payload ending at `e`. -/
def walkExt (x : WalkIn) (w : Walk) (e : Nat) : Nat → Nat → Nat → WalkOut
  | 0, _, _ => .slow 2 .PARSE_TOO_DEEP_CNT
  | f + 1, nh, p =>
    if nh = 44 then .slow 4 .PARSE_IP6_FRAG_CNT
    else if nh = 17 then walkUdp x w p (e - p) true
    else if nh = 0 || nh = 43 || nh = 60 then
      let l := 8 + 8 * octAt x.os (p + 1)
      if w.exts = 2 then .slow 2 .PARSE_TOO_DEEP_CNT
      else if parseWindow < p + l then .slow 3 .PARSE_WINDOW_CNT
      else if e < p + l && !x.pastCopy (p + l) then .drop .PARSE_LEN_IP6_CNT
      else walkExt x { w with exts := w.exts + 1 } e f (octAt x.os p) (p + l)
    else .found { w with kind := 7 }

/-- R172, R175, R176: an IPv6 header at `p`. -/
def walkIp6 (x : WalkIn) (w : Walk) (p : Nat) : WalkOut :=
  let pay := beAt x.os (p + 4) 2
  let w := { w with src := beAt x.os (p + 20) 4, kind := 7, ip := p }
  if parseWindow < p + 40 then .slow 3 .PARSE_WINDOW_CNT
  else if octAt x.os p / 16 != 6 then .drop .PARSE_IP_HDR_CNT
  else if x.os.length - (p + 40) < pay && !x.trunc then .drop .PARSE_LEN_IP6_CNT
  else walkExt x w (p + 40 + pay) 4 (octAt x.os (p + 6)) (p + 40)

/-- R172: MPLS labels from `p`, then the header after the bottom label. -/
def walkMpls (x : WalkIn) (w : Walk) : Nat → Nat → WalkOut
  | 0, _ => .slow 2 .PARSE_TOO_DEEP_CNT
  | f + 1, p =>
    let l := beAt x.os p 4
    if w.labels = 4 then .slow 2 .PARSE_TOO_DEEP_CNT
    else if parseWindow < p + 4 then .slow 3 .PARSE_WINDOW_CNT
    else if !bitOf l 8 then walkMpls x { w with labels := w.labels + 1 } f (p + 4)
    else
      let w := { w with labels := w.labels + 1 }
      let nib := octAt x.os (p + 4) / 16
      if x.os.length ≤ p + 4 then .found w
      else if nib = 4 then walkIp4 x w (p + 4)
      else if nib = 6 then walkIp6 x w (p + 4)
      else if nib = 0 then
        if x.second then .slow 2 .PARSE_TOO_DEEP_CNT
        else if parseWindow < p + 8 then .slow 3 .PARSE_WINDOW_CNT
        else .found { w with kind := 8, src := l / 4096, inner := p + 8 }
      else .found w

/-- R172: the walk from the EtherType at offset `p`. -/
def walkType (x : WalkIn) (w : Walk) : Nat → Nat → WalkOut
  | 0, _ => .slow 2 .PARSE_TOO_DEEP_CNT
  | f + 1, p =>
    let et := beAt x.os p 2
    let w := { w with etype := if et < 0x0600 then 0 else et, prp := w.prp || x.prpAt (p + 2) }
    if parseWindow < p + 2 then .slow 3 .PARSE_WINDOW_CNT
    else if x.os.length < p + 2 then .found w
    else if et < 0x0600 then
      if x.os.length - (p + 2) < et && !x.trunc then .drop .PARSE_LEN_ETH_CNT else .found w
    else if et = 0x8100 || et = 0x88A8 then
      if w.ntag = 3 then .slow 2 .PARSE_TOO_DEEP_CNT
      else
        let vid := beAt x.os (p + 2) 2 % 4096
        walkType x { w with ntag := w.ntag + 1, vidOuter := if w.ntag = 0 then vid else w.vidOuter, vidInner := vid } f (p + 4)
    else if et = 0x892F then
      if w.hsr then .slow 2 .PARSE_TOO_DEEP_CNT
      else if parseWindow < p + 6 then .slow 3 .PARSE_WINDOW_CNT
      else
        let size := beAt x.os (p + 2) 2 % 4096
        let cov := x.os.length - (p + 2)
        if size != cov && !(x.trunc && cov < size) then .drop .PARSE_LEN_HSR_CNT
        else walkType x { w with hsr := true } f (p + 6)
    else if et = 0x8847 || et = 0x8848 then walkMpls x w 5 (p + 2)
    else if et = 0x0800 then walkIp4 x w (p + 2)
    else if et = 0x86DD then walkIp6 x w (p + 2)
    else if et = 0x88F7 then walkPtp x w 1 (p + 2) (x.os.length - (p + 2))
    else if et = 0x8809 then walkSlow x w (p + 2)
    else .found w

/-- R172: the walk of one pass over the Ethernet frame at `base`. -/
def walk (x : WalkIn) (base : Nat) : WalkOut :=
  if parseWindow < base + 14 then .slow 3 .PARSE_WINDOW_CNT
  else walkType x ⟨base, 0, 0, 0, 0, 0, 0, 0, 0, false, 0, 0, 0, 0, none, 0, false⟩ 8 (base + 12)

/-- Whether the walk ended at a PTP message. -/
def Walk.isPtp (w : Walk) : Bool := w.kind == 1 || w.kind == 2 || w.kind == 3

/-- R177: the key words K0 to K7 of a pass. -/
def Walk.key (w : Walk) (os : List Octet) (mlane : Nat) (port dir channel path : Nat) (second : Bool) : List Nat :=
  let da := beAt os w.base 6
  let ptp (n : Nat) := if w.isPtp then n else 0
  [ flag w.frag.isSome * 2 ^ 31 + port * 2 ^ 21 + dir * 2 ^ 20 + channel * 2 ^ 11 + path * 2 ^ 9 + mlane * 2 ^ 7
      + flag second * 2 ^ 6 + w.ntag * 2 ^ 4 + w.kind,
    w.vidOuter * 2 ^ 16 + w.vidInner,
    w.etype * 2 ^ 16 + w.dport,
    w.src,
    da / 2 ^ 16,
    da % 2 ^ 16 * 2 ^ 16 + ptp (octAt os w.body % 16 * 2 ^ 12 + octAt os (w.body + 4)),
    ptp (beAt os (w.body + 20) 4),
    ptp (beAt os (w.body + 24) 4) ]

end Sys2Proof.Machine
end

