-- ==== Sys2Proof/Machine/Tab.lean ====
section
/-! DEFINITION. Sparse tables: a list of (key, value) pairs in one canonical form, keys strictly rising and no entry equal to
what an unlisted key reads as. The block's word memories and its arrays of units are held in them. -/

namespace Sys2Proof.Machine

/-- A sparse table: (key, value) pairs, keys strictly rising. -/
abbrev Tab (α : Type) := List (Nat × α)

/-- The value at key `k`; an unlisted key holds `d`. -/
def Tab.get {α : Type} (d : α) : Tab α → Nat → α
  | [], _ => d
  | (j, v) :: t, k => if j = k then v else Tab.get d t k

/-- The table without key `k`. -/
def Tab.erase {α : Type} : Tab α → Nat → Tab α
  | [], _ => []
  | (j, v) :: t, k => if j = k then Tab.erase t k else (j, v) :: Tab.erase t k

/-- Insert `(k, v)` in front of the first larger key. -/
def Tab.insert {α : Type} : Tab α → Nat → α → Tab α
  | [], k, v => [(k, v)]
  | (j, w) :: t, k, v => if k < j then (k, v) :: (j, w) :: t else (j, w) :: Tab.insert t k v

/-- Store `v` at key `k`; storing the default removes the entry. -/
def Tab.set {α : Type} [DecidableEq α] (d : α) (t : Tab α) (k : Nat) (v : α) : Tab α :=
  if v = d then Tab.erase t k else Tab.insert (Tab.erase t k) k v

/-- Whether every key exceeds `k`. -/
def Tab.above {α : Type} (k : Nat) : Tab α → Bool
  | [] => true
  | (j, _) :: t => decide (k < j) && Tab.above k t

/-- The canonical form: keys strictly rising, no entry equal to the default. -/
def Tab.wf {α : Type} [DecidableEq α] (d : α) : Tab α → Bool
  | [] => true
  | (k, v) :: t => decide (v ≠ d) && Tab.above k t && Tab.wf d t

end Sys2Proof.Machine
end

