-- ==== Sys2Proof/Machine/State.lean ====
section
/-! DEFINITION. The state of the block as plain data: every register (as a sparse word table), every channel, output, input,
engine, queue, store, counter and mode the spec gives it, the queue of waiting commands, and the state after reset. -/

namespace Sys2Proof.Machine

/-- R12: the state of a channel, in its coding. -/
inductive ChState where
  | free | acq | lock | overcast | frozen
  deriving DecidableEq, Repr

/-- The code of R12. -/
def ChState.code : ChState → Nat
  | .free => 0 | .acq => 1 | .lock => 2 | .overcast => 3 | .frozen => 4

/-- The state of a code of R12. -/
def ChState.ofCode : Nat → ChState
  | 0 => .free | 1 => .acq | 2 => .lock | 3 => .overcast | _ => .frozen

/-- R96: the HOP_LAST record of a channel. -/
structure HopLast where
  h : Nat
  tick : Nat
  sources : Nat
  idx : Nat
  cnt : Nat
  deriving DecidableEq, Repr

/-- One stretch of a channel's applied rate (R125): from tick `tick` on, (P0 − P) / P in units of 2^-80, in LOCK or not. -/
structure RateSeg where
  tick : Nat
  rate : Int
  locked : Bool
  deriving DecidableEq, Repr

/-- R122: a posted result that waits for its boundary: what it applies, its phase error, the tick at which it applies, its fresh flag,
and whether it missed a boundary (R19). -/
structure Posted where
  res : EngResult
  phErr : Int
  applyAt : Nat
  fresh : Bool
  late : Bool
  deriving DecidableEq, Repr

/-- R130: a takeover under way: the spare's engine index, whether its load is complete, whether the catch-up iteration has
started. -/
structure Takeover where
  spare : Nat
  loaded : Bool
  started : Bool
  deriving DecidableEq, Repr

/-- The live state of one channel, beside its registers. Time, θ and adjustments are in units of 2^-48 × 10^-7 ns, which
makes the nominal tick, the Drizzle budget and 2^-16 ns whole numbers. -/
structure Chan where
  /-- R12, R63 -/
  state : ChState
  /-- R63: the state held before freezing -/
  held : ChState
  /-- R54: the live period word, 24.40 -/
  p : Nat
  /-- R368: P0 at the time of freezing, when a group changed P0 of a FROZEN channel -/
  frozenP0 : Option Nat
  /-- R54: FREE entered under Hold FREERUN, keeping the live P -/
  keptRate : Bool
  /-- R55: the residue accumulator, the pattern multiple up to which it has run, and whether its last carry lengthened the period in
  progress -/
  resAcc : Nat
  patK : Int
  long : Bool
  /-- R57: the time counter -/
  time : Nat
  /-- R57: the counter has started (the channel has been enabled with the master locked) -/
  running : Bool
  /-- R92: the part of the tick still to run at the present word, as a fraction -/
  restNum : Nat
  restDen : Nat
  /-- R58 -/
  anchor : Int
  /-- R60 -/
  thetaLive : Int
  thetaTarget : Int
  adj : Int
  /-- R63: consecutive iterations inside W, and beyond 2W -/
  lockRun : Nat
  unlRun : Nat
  /-- R84: the index whose copy is under way, with the preset as the store held it at the start -/
  arming : Option Preset
  /-- R84: the armed slot -/
  armed : Option Preset
  /-- R89 -/
  inflight : Option InFlight
  /-- R96: a hop taken since the last boundary -/
  hopDone : Option InFlight
  hopLast : Option HopLast
  /-- R140, R96: the hop flag of the present tick -/
  hopFlag : Bool
  /-- R122: the tick t0 at which the program last started; none while no iteration runs -/
  t0 : Option Nat
  /-- R96, R121: the filter restarts at the next iteration -/
  restart : Bool
  /-- R122: the posted result -/
  posted : Option Posted
  /-- R130 -/
  takeover : Option Takeover
  /-- R130: the channel's engine was retired; it freezes at the next boundary -/
  freezePend : Bool
  /-- R114: list entries whose wait to restore has run out -/
  wtrDone : List Nat
  /-- R121: an input has been selected since the program started -/
  everSelected : Bool
  /-- R115: the build-out zero in units of 2^-8 ns; the next iteration takes the present phase difference as it -/
  zero : Int
  rezero : Bool
  /-- R125: applied rates, newest first -/
  hist : List RateSeg
  /-- R125: tick of the last fresh iteration on a qualified input -/
  lastFresh : Option Nat
  /-- R126: the estimate in use in OVERCAST, in units of 2^-80; its drift slope per tick as a fraction; the tick of entry -/
  ovcRate : Int
  ovcNum : Int
  ovcDen : Nat
  ovcTick : Nat
  /-- R18, R96: engine results for the period, and for the phase, are overridden at the next application -/
  ovP : Bool
  ovPhase : Bool
  /-- R157: the last selected entry was a flow -/
  lastFlow : Bool
  /-- R20, R335: time, P and P0 of the last boundary, while a hop has taken effect since -/
  shown : Option (Nat × Nat × Nat)
  deriving DecidableEq, Repr

/-- The nominal period word 128.0, the reset value of CH_PNOM (R79). -/
def Chan.resetP : Nat := 128 * 2 ^ 40

/-- A channel as L3 and L4 leave it. -/
def Chan.reset : Chan where
  state := .free
  held := .free
  p := Chan.resetP
  frozenP0 := none
  keptRate := false
  resAcc := 0
  patK := 0
  long := false
  time := 0
  running := false
  restNum := 1
  restDen := 1
  anchor := 0
  thetaLive := 0
  thetaTarget := 0
  adj := 0
  lockRun := 0
  unlRun := 0
  arming := none
  armed := none
  inflight := none
  hopDone := none
  hopLast := none
  hopFlag := false
  t0 := none
  restart := false
  posted := none
  takeover := none
  freezePend := false
  wtrDone := []
  everSelected := false
  zero := 0
  rezero := false
  hist := []
  lastFresh := none
  ovcRate := 0
  ovcNum := 0
  ovcDen := 1
  ovcTick := 0
  ovP := false
  ovPhase := false
  lastFlow := false
  shown := none

/-- What an output or a PPS pin holds beside its registers (R61, R71, R73, R94, R369). -/
structure Pin where
  /-- R71: a condition failed; the pin completes its high phase and then stops -/
  stopping : Bool
  /-- R71: the source channel in force -/
  src : Nat
  /-- R94: the origin of the division, and a change whose first rising edge has not passed: divider minus 1, multiple -/
  k0 : Int
  divPend : Option (Nat × Int)
  /-- R73: a driver change waits for its 1 µs at the muted level -/
  muteWait : Bool
  /-- R73: the deskew in force -/
  deskew : Nat
  /-- R369: PPS width and offset in force -/
  width : Nat
  ofs : Int
  /-- R61, R95, R369: the last rising edge and the earliest next one, in channel time, while a step or an offset change bounds it -/
  hold : Option (Int × Int)
  deriving DecidableEq, Repr

/-- A pin as L3 and L4 leave it. -/
def Pin.reset : Pin where
  stopping := false
  src := 0
  k0 := 0
  divPend := none
  muteWait := false
  deskew := 0
  width := 100000
  ofs := 0
  hold := none

/-- What a reference input holds beside its registers (R106, R109 to R111). -/
structure RefIn where
  /-- R111: the timestamp of the last fresh reading, in units of 2^-16 master cycle -/
  lastTs : Option Int
  /-- R110: a gate has closed since the input entered FREQ, so the last period is known -/
  gated : Bool
  deriving DecidableEq, Repr

/-- An input as L3 and L4 leave it. -/
def RefIn.reset : RefIn where
  lastTs := none
  gated := false

/-- One word of a write group: its register, index and value (R17). -/
structure GWord where
  r : Rg
  i : Nat
  w : Word
  deriving DecidableEq, Repr

/-- A write group (R17): its words in the order written, and the port it came by. -/
structure Group where
  port : Port
  words : List GWord
  deriving DecidableEq, Repr

/-- One entry of the event log (R303). DATA is three words; the CRC is computed when the entry is read. -/
structure LogEntry where
  tick : Nat
  code : Nat
  block : Nat
  sev : Nat
  seq : Nat
  d0 : Word
  d1 : Word
  d2 : Word
  deriving DecidableEq, Repr

/-- The master synthesiser beside its registers (02). -/
structure Msyn where
  /-- R50: the words in use: REF, NINT, NNUM, NDEN, XOF -/
  useRef : Word
  useNint : Word
  useNnum : Word
  useNden : Word
  useXof : Word
  /-- R39: the bandwidth code in force -/
  bw : Nat
  /-- R45: the master-cycle count at the last boundary, and whether it has started -/
  mcc : Nat
  counting : Bool
  /-- R46: the previous sample -/
  sample : Option Nat
  /-- R42: the settle of the first attempt has been waited for -/
  settled : Bool
  /-- R14, R51, R57: a lock has been declared (or the word held under R287) since L3 or L4 -/
  everLocked : Bool
  /-- R50: a SERVICE command waits for its boundary, its bit in MSYN_CMD; the port that wrote it -/
  svcStart : Option Port
  /-- R50: outputs muted by a command until the first boundary after lock -/
  cmdMute : Bool
  /-- R44: the present loss of lock was declared as an unlock, with its 1 ms window open -/
  unlocked : Bool
  /-- R42, R287: the acquisition ended in its third failure -/
  failed : Bool
  /-- R287: the tuning word is held, trimmed against the internal root multiplier -/
  intref : Bool
  /-- R47: MSYN_STS.STATE as it stood when the loop was held -/
  heldStage : Nat
  /-- R26, R287: the tuning word is held for BASIC, so returning edges do not resume the loop -/
  heldBasic : Bool
  /-- R48: the master was locked at the last boundary, so the engines of this tick produce results -/
  lockTick : Bool
  deriving DecidableEq, Repr

/-- The master as L3 and L4 leave it. -/
def Msyn.reset : Msyn where
  useRef := 0
  useNint := 320
  useNnum := 0
  useNden := 1
  useXof := 40000000
  bw := 3
  mcc := 0
  counting := false
  sample := none
  settled := false
  everLocked := false
  svcStart := none
  cmdMute := false
  unlocked := false
  failed := false
  intref := false
  heldStage := 0
  heldBasic := false
  lockTick := false

/-- One message that the device originates, as it leaves on the mirror transmit lanes (R150, R156, R161, R190). -/
inductive MsgKind where
  | sync (s : Nat)
  | followUp (s : Nat)
  | announce (s : Nat)
  | delayResp (s : Nat)
  | pdelayResp (s : Nat)
  | pdelayRespFollowUp (s : Nat)
  | delayReq (f : Nat)
  | pdelayReq (f : Nat)
  | esmcInfo (k : Nat)
  | esmcEvent (k : Nat)
  | esmcDnu (i : Nat)
  | inbandResponse
  deriving DecidableEq, Repr

/-- A message on its way to the switch (R190, R191): tag, channel, destination, KIND, its link-layer and network header octets
(a PTP message starts where they end) and what it carries. `body` holds the PTP fields the rules give, as (name code, value) pairs: 1 sequenceId, 2 seconds, 3 nanoseconds, 4 fraction, 5 clockClass, 6 stepsRemoved,
7 priority1, 8 priority2, 9 grandmaster identity, 10 logMessageInterval, 11 SSM, 12 enhanced SSM, 13 domain, 14 requesting
port identity, 15 clockAccuracy, 16 offsetScaledLogVariance, 17 currentUtcOffset, 18 timeSource, 19 flags of an Announce, 30 source port
identity, 31 correctionField, 32 the correction of a Pdelay_Resp_Follow_Up, 33 to 35 the flags and cascade counts of an enhanced QL TLV; and of an in-band response 20 TYPE, 21 STATUS,
22 SESSION, 23 SEQ, 29 DIE_ID, and for each operation 27 OPC, 28 ADDR, 24 OPSTAT, 25 DATA0, 26 DATA1. -/
structure OutMsg where
  kind : MsgKind
  tag : Nat
  lane : Nat
  seq : Nat
  channel : Nat
  port : Nat
  pgroup : Nat
  dest : Nat
  oneStep : Bool
  hkind : Nat
  hdr : List Octet
  body : List (Nat × Int)
  deriving DecidableEq, Repr

/-- R150: an outstanding tag: the message it belongs to and the tick at which that message left. -/
structure TagEntry where
  msg : OutMsg
  sent : Nat
  deriving DecidableEq, Repr

/-- R152, R158: a stamp of an exchange, in the scale of each channel that uses it: channel and time in units of 2^-16 ns. A channel for
which the stamp was discarded is not listed. -/
abbrev Stamps := List (Nat × Int)

/-- R158, R159: the exchange a flow is building, times in units of 2^-16 ns. Of peer delay t3 and p4 are p1 and p4, and `turn` is p3 − p2. -/
structure Exchange where
  t1 : Option Int
  t2 : Stamps
  cSync : Int
  syncSeq : Nat
  syncChannel : Nat
  followDue : Bool
  reqSeq : Nat
  reqOut : Bool
  t3 : Stamps
  t4 : Option Int
  p4 : Stamps
  turn : Option Int
  cResp : Int
  respDone : Bool
  deriving DecidableEq, Repr

/-- An exchange with nothing in it. -/
def Exchange.empty : Exchange := ⟨none, [], 0, 0, 0, false, 0, false, [], none, [], none, 0, false⟩

/-- A message flow (R154 to R159). -/
structure Flow where
  /-- the last qualified Announce, and the last received one -/
  announce : Option Announce
  lastAnn : Option Announce
  /-- R154: Announce messages seen within the window of 4 intervals, up to 2; the ticks of the last Announce and of the last Sync -/
  annSeen : Nat
  annTick : Option Nat
  syncTick : Option Nat
  /-- R154: a Sync has arrived and its timeout has not run out -/
  syncOk : Bool
  /-- R191: the lane and the headers of the last Sync -/
  lane : Nat
  hdr : List Octet
  /-- R159: the next sequenceId of the flow's requests -/
  nextSeq : Nat
  exch : Exchange
  /-- R158, R159: channel and offset of each exchange completed since that channel's last iteration, newest first -/
  done : Stamps
  deriving DecidableEq, Repr

/-- A flow as L3 and L4 leave it. -/
def Flow.reset : Flow := ⟨none, none, 0, none, none, false, 0, [], 0, .empty, []⟩

/-- An origin stream or ESMC transmit group: its sequence numbers and, for ESMC, the last quality sent. -/
structure Stream where
  syncSeq : Nat
  annSeq : Nat
  lastQl : Option (Nat × Nat)
  deriving DecidableEq, Repr

/-- A stream as L3 and L4 leave it. -/
def Stream.reset : Stream := ⟨0, 0, none⟩

/-- R61, R152: a step or hop of a channel: its tick, its master cycles after the boundary of that tick, and the channel's time in units of
time just before and just after it. -/
structure Jump where
  tick : Nat
  ofs : Nat
  old : Int
  new : Int
  deriving DecidableEq, Repr

/-- The time distribution block beside its registers (06). -/
structure Twl where
  /-- R146: the tick whose lane frames are being sent -/
  frameTick : Option Nat
  /-- R148: SEQ of the last message that took part -/
  rxSeq : Option Nat
  /-- R150 -/
  nextTag : Nat
  tags : Tab (Option TagEntry)
  /-- R190: SEQ of each transmit lane -/
  laneSeq : Tab Nat
  flows : Tab Flow
  streams : Tab Stream
  esmc : Tab Stream
  /-- messages that have left since the last boundary, oldest first -/
  sent : List OutMsg
  /-- R153: messages originated in the present second, and its first tick -/
  secCount : Nat
  secStart : Nat
  /-- R191: IPv4 identification count of each template -/
  ipId : Tab Nat
  /-- R152: the last steps and hops of a channel, newest first -/
  jump : Tab (List Jump)
  /-- R160: the tick of the last quality level of an input, plus 1 -/
  qlTick : Tab Nat
  /-- R215: quality levels received in step, none for QL-FAILED -/
  ownQl : Tab (Option (Option (Nat × Nat)))
  deriving DecidableEq, Repr

/-- The block as L3 and L4 leave it. -/
def Twl.reset : Twl := ⟨none, none, 0, [], [], [], [], [], [], 0, 0, [], [], [], []⟩

/-- A frame inside the intake (R168): its lane, its stamp and its octets from octet 0 to the last before the original FCS. -/
structure Frame where
  lane : Nat
  stamp : Stamp
  os : List Octet
  deriving DecidableEq, Repr

/-- A pass that waits or runs (R170, R184): the frame, the pass, the offset of the Ethernet frame it walks, its generation, and the
reserved-share flag of each COPY rule that has decided a pass of the frame (R179). -/
structure Pass where
  frame : Frame
  second : Bool
  base : Nat
  gen : Nat
  copies : List Bool
  deriving DecidableEq, Repr

/-- What a decided frame will do at its release (R179, R180, R188); `ip` is the offset of its IP header. -/
inductive Fate where
  | drop
  | deliver (target flow kind body ip : Nat)
  | slow (cause : Nat) (rsv : Bool)
  deriving DecidableEq, Repr

/-- A decided frame that waits for its release (R186), with the copies it owes the slow path. -/
structure Decided where
  frame : Frame
  fate : Fate
  copies : List Bool
  deriving DecidableEq, Repr

/-- R186: a receive lane's order: the expected number, the held frames, and those released but not yet taken out; the next frame that
enters sets the expected number afresh. -/
structure LaneOrder where
  expect : Option Nat
  held : List Decided
  ready : List Decided
  fresh : Bool
  deriving DecidableEq, Repr

/-- A lane before its first frame. -/
def LaneOrder.reset : LaneOrder := ⟨none, [], [], false⟩

/-- R189: an entry of the slow-path queue. -/
structure SlowEntry where
  cause : Nat
  frame : Frame
  deriving DecidableEq, Repr

/-- R182, R198: a live entry of the fragment table; `at` is the tick of the last fragment that wrote or matched it. -/
structure FragEntry where
  key : FragKey
  slow : Bool
  rsv : Bool
  at_ : Nat
  deriving DecidableEq, Repr

/-- R181: a token bucket: millionths of a token missing from the full bucket as of a tick. -/
structure Bucket where
  missing : Nat
  tick : Nat
  deriving DecidableEq, Repr

/-- The frame intake beside its registers (07). -/
structure Intake where
  fifo : List Frame
  recirc : List Pass
  /-- R170: what each parse lane runs, and the next lane in the round robin -/
  passes : Tab (Option Pass)
  nextLane : Nat
  lanes : Tab LaneOrder
  slow : List SlowEntry
  frags : Tab (Option FragEntry)
  buckets : Tab Bucket
  deriving DecidableEq, Repr

/-- The intake as L1 of frame intake and every wider level leave it. -/
def Intake.reset : Intake := ⟨[], [], [], 0, [], [], [], []⟩

/-- A record this unit puts into its Gnoavo lane frames (R208). -/
inductive PairRec where
  | hello (pos : Bool) (pairId pref : Nat) (revert : Bool) (hash : Word) (fwVersion : Nat)
  | role (role mode : Nat) (claim : Bool) (phase : Nat) (gridB : Int)
  | yield (cause tick : Nat)
  | hop (r : HopRec)
  | retire (c tick : Nat)
  | digest (tick : Nat) (crc : Word) (flags : Nat)
  | epochOffer (epoch : Nat)
  | epochStart (epoch tick : Nat)
  | epochCommit (epoch : Nat)
  | epochAck (epoch tick : Nat)
  | epochAbort (epoch : Nat)
  | epochHandover (epoch tick : Nat)
  | resetReq
  | config (sseq exec : Nat) (pairs : List (Nat × Word)) (endOfGroup : Bool)
  | readings (sseq exec mcc : Nat) (inputs : List InputReading)
  | message (sseq exec target : Nat) (stamp : Stamp) (octets : List Octet)
  | ql (sseq exec input ssm essm : Nat)
  | chdig (tick : Nat) (crcs : List Nat)
  | copy (c tick : Nat) (data : ChanCopy)
  | static (first : Nat) (words : List Word)
  | cloneRequest (pos : Bool) (dieId : Nat)
  | cloneData (octets : Nat)
  deriving DecidableEq, Repr

/-- An event of the stream that waits for its EXEC boundary (R212), in this unit's own tick numbering. -/
structure StreamEv where
  exec : Nat
  ev : PairRec
  deriving DecidableEq, Repr

/-- R219, R220: the unit's own digest of a tick (in the active's numbering): CRC, evidence flags, CRC-16 of each channel. -/
structure DigestRec where
  tick : Nat
  crc : Word
  flags : Nat
  chs : List Nat
  deriving DecidableEq, Repr

/-- The pair logic beside its registers (08). -/
structure Pair where
  /-- R204: the ACTIVE_N line is held low by the peer, and by this unit; it has read high for the claim wait -/
  peerLow : Bool
  drive : Bool
  waitDone : Bool
  /-- R202: levels of HB_OUT1 and HB_OUT0 -/
  hbOut : Bool × Bool
  /-- R21, R203: heartbeat inputs with an edge in the present tick -/
  hbEdge : List Nat
  /-- R205: the unit seeks to form a pair; it wants to claim once its wait has passed -/
  forming : Bool
  claimWant : Bool
  /-- R200, R204, R205: the last HELLO passed identity and hash; it failed identity; PREF and REVERT agree; a HELLO has shown them to
  differ -/
  helloOk : Bool
  helloBad : Bool
  prefAgreed : Bool
  helloMismatch : Bool
  /-- R208: role of the peer's last ROLE record -/
  peerRole : Nat
  /-- R211: own SSEQ and the next SSEQ expected -/
  sseq : Nat
  rxSseq : Option Nat
  /-- R207: records waiting for a frame, oldest first; an event gets its SSEQ and EXEC as it leaves. The tick of the last frames, their ACT
  flag and epoch number, and what they carried on which lane -/
  out : List PairRec
  frameTick : Option Nat
  sentAct : Bool
  sentEpoch : Nat
  lastFrame : List (Nat × PairRec)
  /-- R204: the tick of the first ROLE record of an unbroken run that shows a claim; R226: the tick at which the role was taken or given -/
  claimFrom : Option Nat
  roleTick : Nat
  /-- R212: events that wait for their boundary, EXEC in this unit's numbering -/
  stream : List StreamEv
  /-- R212: words of a streamed group whose end has not come -/
  cfgOpen : List GWord
  /-- R212: the readings in force from the stream, for selection in step, and the active's master-cycle count they name; per input one more
  than the EXEC tick of its last fresh and of its last stale reading -/
  streamInputs : List InputReading
  streamMcc : Nat
  seen : Tab (Nat × Nat)
  /-- R211: the unit streams events to its peer -/
  streaming : Bool
  /-- R223: a takeover trigger has been seen -/
  takeoverPend : Bool
  /-- R226: boundary h of a handover; this unit is the old active; the boundary at which it releases ACTIVE_N -/
  handoverAt : Option Nat
  handoverOld : Bool
  releaseAt : Option Nat
  /-- R222: a yield that waits for the boundary, with its cause; R25: the unit enters STANDBY_DETACHED at the boundary -/
  yieldPend : Option Nat
  detachPend : Bool
  /-- R228: STANDBY_STEP held after a link loss; the edge that ends it has come -/
  holdStep : Bool
  leftOnEdge : Bool
  /-- R219: this interval's evidence flags; own digests, newest first; the peer's last digest -/
  evidence : Nat
  digests : List DigestRec
  peerDigest : Option (Nat × Word × Nat)
  /-- R229: consecutive matching digests of VERIFY; boundary c of the commit; an epoch is due -/
  verified : Nat
  commitAt : Option Nat
  epochDue : Bool
  /-- R229, R230: configuration words of STATIC that have come; channels whose copy has come; channels joined; the active's next word and next
  channel to copy, and the channels that a hop has put back -/
  copyWords : List (Nat × Word)
  copyPend : List Nat
  joined : List Nat
  wordNext : Nat
  copyNext : Nat
  recopy : List Nat
  /-- R231: channels under repair, with the active tick of the freeze [31:0]; those whose copy the active has sent -/
  repair : List (Nat × Nat)
  copied : List Nat
  /-- R225, R231: channels under repair at a takeover, and its tick -/
  coldChans : List Nat
  coldTick : Nat
  /-- R227: a revertive request -/
  revertAsk : Bool
  /-- R216: the active's tick number less the own one, in use; the peer's less the own one at its last valid frame -/
  rel : Int
  frameRel : Int
  /-- R207, R216: own tick, ACT flag and epoch number of the peer's last valid frame -/
  frameOwn : Option Nat
  frameAct : Bool
  frameEpoch : Nat
  /-- R217: what the rate trim has added to the master-cycle count since pacing started, in units of 2^-40 cycle -/
  trimAcc : Int
  /-- R218: consecutive follower iterations within WIN -/
  alignRun : Nat
  deriving DecidableEq, Repr

/-- The pair logic as L2, L3 and L4 leave it. -/
def Pair.reset : Pair where
  peerLow := false
  drive := false
  waitDone := false
  hbOut := (false, false)
  hbEdge := []
  forming := false
  claimWant := false
  helloOk := false
  helloBad := false
  prefAgreed := false
  helloMismatch := false
  peerRole := 0
  sseq := 0
  rxSseq := none
  out := []
  frameTick := none
  sentAct := false
  sentEpoch := 0
  lastFrame := []
  claimFrom := none
  roleTick := 0
  stream := []
  cfgOpen := []
  streamInputs := []
  streamMcc := 0
  seen := []
  streaming := false
  takeoverPend := false
  handoverAt := none
  handoverOld := false
  releaseAt := none
  yieldPend := none
  detachPend := false
  holdStep := false
  leftOnEdge := false
  evidence := 0
  digests := []
  peerDigest := none
  verified := 0
  commitAt := none
  epochDue := false
  copyWords := []
  copyPend := []
  joined := []
  wordNext := 0
  copyNext := 0
  recopy := []
  repair := []
  copied := []
  coldChans := []
  coldTick := 0
  revertAsk := false
  rel := 0
  frameRel := 0
  frameOwn := none
  frameAct := false
  frameEpoch := 0
  trimAcc := 0
  alignRun := 0

/-- The captured image of a snapshot (R337): register values, channels and header quantities as of the capture. -/
structure Snap where
  regs : Tab Word
  chans : Tab Chan
  tick : Nat
  mcc : Nat
  coherent : Bool
  ofs : Nat
  seq : Nat
  deriving DecidableEq, Repr

/-- R97, R100: a trigger target with a channel committed for the instant H: its sources so far, the lowest-numbered channel committed and
its preset, the tick and master-cycle offset of H, and whether the event stream has it. -/
structure HopNote where
  h : Nat
  toChannel : Bool
  ch : Nat
  gmask : Nat
  sources : Nat
  first : Nat
  idx : Nat
  exec : Nat
  ofs : Nat
  sent : Bool
  deriving DecidableEq, Repr

/-- What a port of the register interface holds (12). -/
structure PortSt where
  /-- R329: 0 closed, 2 opened in the present transaction or frame, 1 opened in the one before -/
  keyAge : Nat
  /-- R17: the words of the open write group -/
  open_ : List GWord
  /-- R322: faults of the present transaction and of the one before -/
  busErr : Bool
  reject : Bool
  prevPartial : Bool
  prevBusErr : Bool
  prevReject : Bool
  /-- R321: the present transaction is a STATUS -/
  status : Bool
  deriving DecidableEq, Repr

/-- A port after reset. -/
def PortSt.reset : PortSt := ⟨0, [], false, false, false, false, false, false⟩

/-- The DEV and SNAP blocks beside their registers (12). -/
structure Dev where
  spi : PortSt
  inb : PortSt
  /-- R322: transactions of at least four octets, modulo 16 -/
  tseq : Nat
  /-- R321: the status header and the words of the last SPI transaction, as sent on HMISO -/
  header : Nat
  readWords : List Word
  /-- R17: groups whose end has been seen, oldest first -/
  groups : List Group
  /-- R64: the value last written to each shadow, by register key, while a write to it is pending -/
  shadow : Tab (Option Word)
  /-- R268: blocks whose slice clock ramps, with the steps done -/
  ramping : List (Nat × Nat)
  /-- R343: the prefetched word -/
  fetched : Word
  /-- R337: the holding store; the boundary of a waiting coherent capture has passed -/
  snap : Option Snap
  snapDue : Bool
  /-- R341: a scan runs; COMMIT waited when it began; REF was written before it began -/
  scan : Bool
  scanCommit : Bool
  refWritten : Bool
  /-- R344: the last comparison mismatched -/
  crcAlert : Bool
  /-- R336: a MBX_SEL write deferred until the mailbox closes -/
  mbxDefer : Option (Port × Word)
  /-- R26: BASIC decided, channels freeze at the next boundary -/
  freezePend : Bool
  /-- R74, R287: BASIC was entered from BOOT without an XO; its outputs wait for OUT_CTL.INTREF_OK; BASIC was entered with outputs
  muted -/
  basicNoXo : Bool
  basicGate : Bool
  basicMuted : Bool
  /-- R24: the request in force at the last boundary -/
  reqInForce : Nat
  /-- R289: SERVICE was entered from BOOT without an accepted image -/
  svcNoImage : Bool
  /-- R14, R122: the loop programs have not started since the last reset; they start as the device begins to run -/
  progsDue : Bool
  /-- R15: the tick number, and whether the first boundary has passed -/
  tick : Nat
  ticking : Bool
  /-- R97: the tick of the last hop record; hops whose record has not been written -/
  hopLogTick : Option Nat
  hopNotes : List HopNote
  /-- R90: the instant H of the router cycle in hand, and the channels that one of its triggers has met -/
  hopCyc : Option (Nat × List Nat)
  /-- R139: engines retired for a word of data memory that holds an uncorrectable error -/
  badDmem : List Nat
  deriving DecidableEq, Repr

/-- The block as L3 and L4 leave it. -/
def Dev.reset : Dev where
  spi := .reset
  inb := .reset
  tseq := 0
  header := 0
  readWords := []
  groups := []
  shadow := []
  ramping := []
  fetched := 0
  snap := none
  snapDue := false
  scan := false
  scanCommit := false
  refWritten := false
  crcAlert := false
  mbxDefer := none
  freezePend := false
  basicNoXo := false
  basicGate := false
  basicMuted := false
  reqInForce := 0xF
  svcNoImage := false
  progsDue := true
  tick := 0
  ticking := false
  hopLogTick := none
  hopNotes := []
  hopCyc := none
  badDmem := []

/-- A blend in progress (R249): the object's table number (R258) and its steps done, 0 to 80, with the handover
offset of a slice or the former table of a TDC. -/
structure Blend where
  table : Nat
  step : Nat
  delta : Int
  old : List Nat
  deriving DecidableEq, Repr

/-- An erased slot of the flash: every octet reads 0xFF; its words are listed nowhere, and nothing uses them (R254). -/
def erasedSlot : CalSlot := ⟨0xFFFFFFFF, 0xFFFFFFFF, 0xFFFFFFFFFFFFFFFF, 0xFFFFFFFF, [], 0xFFFFFFFF, 0xFFFFFFFF⟩

/-- Calibration beside its registers (09). -/
structure Cal where
  /-- R245: a triggered rotation starts at the next boundary; the next item of the rotation -/
  startDue : Bool
  nextItem : Option Nat
  /-- R241: master-cycle count at the start of the item's slot -/
  itemMcc : Nat
  /-- R244: sensor readings at the start of the last rotation -/
  tempRef : List Int
  /-- R241: the measurement held for its check; a hop fell into the measure phase; the item's outcome so far: 0 open, 1 accepted,
  2 no table -/
  measured : Option CalMeasure
  hopDiscard : Bool
  outcome : Nat
  /-- R248: generators that await their swap, with the handover offset measured -/
  swapPend : List (Nat × Int)
  /-- R249 -/
  blends : List Blend
  /-- R252: highest valid SEQ slot (1 A, 2 B, 0 none) and value, a table accepted since the last committed store, the interval
  has passed, the operation of a store that runs (1 erase, 2 data, 3 CRC, 4 verify, 5 COMMIT), a store abandoned under a
  power-fail warning -/
  highSlot : Nat
  highSeq : Nat
  acceptedSince : Bool
  intervalDue : Bool
  storeOp : Nat
  abandoned : Bool
  /-- R253: the warning has come during the operation under way; R252: a rotation has ended, so that a due store is looked for at the
  boundary -/
  abandonDue : Bool
  storeDue : Bool
  /-- R251, R252: the slot that a store writes, as it will stand once committed; the working slots as the device last read or wrote
  them -/
  image : CalSlot
  slotA : CalSlot
  slotB : CalSlot
  /-- R249: the table that a TDC had before its item was accepted -/
  tdcOld : List Nat
  /-- R244: a rotation is due at the first boundary in modes 3 to 8 after a release of L2 -/
  l2Trigger : Bool
  deriving DecidableEq, Repr

/-- Calibration as L3 and L4 leave it. -/
def Cal.reset : Cal where
  startDue := false
  nextItem := none
  itemMcc := 0
  tempRef := [0, 0, 0, 0, 0, 0, 0, 0]
  measured := none
  hopDiscard := false
  outcome := 0
  swapPend := []
  blends := []
  highSlot := 0
  highSeq := 0
  acceptedSince := false
  intervalDue := false
  storeOp := 0
  abandoned := false
  abandonDue := false
  storeDue := false
  image := erasedSlot
  slotA := erasedSlot
  slotB := erasedSlot
  tdcOld := []
  l2Trigger := false

/-- The stages of a switch of ROOT through the glitch-free multiplexer (R267). -/
inductive MuxStage where
  | idle | switching (toSpll : Bool)
  deriving DecidableEq, Repr

/-- Clocking, reset and boot beside their registers (10). -/
structure Rst where
  /-- R273: level codes of R294 in force: L4 5, L3 4, L2 3, none 0 -/
  level : Nat
  /-- R271: asserted sources with the level of their reach -/
  asserted : List (Nat × Nat)
  /-- R275, R276: sources of L1 or L0 reach whose handshake runs -/
  waiting : List (Nat × Nat)
  /-- R274: the level last seen at each ball and the level taken (true high) -/
  porstBall : Bool
  wrstBall : Bool
  porstTaken : Bool
  wrstTaken : Bool
  /-- R261, R262: supplies good, settle count complete; sources held pending while the oscillator is stopped -/
  supplies : Bool
  settled : Bool
  heldPend : List Nat
  /-- R265: windows in range and out of range in a row; a failure has been declared and XO_OK not set since -/
  goodWin : Nat
  badWin : Nat
  xoFailed : Bool
  /-- R267 -/
  mux : MuxStage
  /-- R15, R273: the tick number restarts; the coming BOOT is cold -/
  cold : Bool
  /-- R280: sources still to try, the clone request open, a CLONE record has answered it, every source refused -/
  toTry : List BootSrc
  cloneOpen : Bool
  cloneSeen : Bool
  refusedAll : Bool
  /-- R287: the XO counts as absent in this BOOT; the preload has ended -/
  xoAbsent : Bool
  preloaded : Bool
  /-- R36: a retune at the end of the preload runs -/
  retuning : Bool
  /-- R288: outputs are muted until BOOT ends -/
  bootMute : Bool
  /-- R245, R250: SELFCAL's rotation has completed -/
  selfcalDone : Bool
  /-- R360, R361: the instruction of the test access port -/
  tap : Nat
  /-- R363: the 502 cells of the boundary register, as the last scan left their update stage (their order is the model's,
  assumption 141); the outputs that were off or muted as TEST began (R362) -/
  cells : BitVec 502
  tapMuted : List Nat
  deriving DecidableEq, Repr

/-- The reset controller as power-on reset leaves it, supplies up and the settle count under way. -/
def Rst.reset : Rst where
  level := 5
  asserted := [(0, 5)]
  waiting := []
  porstBall := true
  wrstBall := true
  porstTaken := true
  wrstTaken := true
  supplies := true
  settled := false
  heldPend := []
  goodWin := 0
  badWin := 0
  xoFailed := false
  mux := .idle
  cold := true
  toTry := []
  cloneOpen := false
  cloneSeen := false
  refusedAll := false
  xoAbsent := false
  preloaded := false
  retuning := false
  bootMute := true
  selfcalDone := false
  tap := 2
  cells := 0
  tapMuted := []

/-- The fuses (R270, R272, R311, R312): constants of a part, but for the anti-rollback counter. -/
structure Fuse where
  grade : Nat
  dieId : Nat
  /-- R272: the raw entries of sources 1 to 11 -/
  reach : List Nat
  arb : Nat
  /-- R313: the key fuses are all zero -/
  keyZero : Bool
  deriving DecidableEq, Repr

/-- The fuses of the part the model takes at reset (assumption 12). -/
def Fuse.reset : Fuse := ⟨1, 0, [0, 0, 0, 0, 0, 0, 0, 0, 0, 0, 0], 0, true⟩

/-- R305: what a second has gathered for a channel. -/
structure SecAcc where
  sum : Int
  n : Nat
  max : Nat
  hops : Nat
  deriving DecidableEq, Repr

/-- A second with nothing gathered. -/
def SecAcc.reset : SecAcc := ⟨0, 0, 0, 0⟩

/-- R306: what a period has gathered for a channel. -/
structure AggAcc where
  tick : Nat
  secs : Nat
  states : List Nat
  flags : Nat
  phSum : Int
  phMin : Int
  phMax : Int
  rSum : Int
  rMin : Int
  rMax : Int
  hops : Nat
  selChg : Nat
  lastSel : Nat
  unl0 : Nat
  deriving DecidableEq, Repr

/-- A period with nothing gathered. -/
def AggAcc.reset : AggAcc := ⟨0, 0, [0, 0, 0, 0, 0], 0, 0, 0, 0, 0, 0, 0, 0, 0, 0, 0⟩

/-- One tier of the journal (R306, R319): capacity, records found at opening whose content the model does not know, records
written since (oldest first, with their ticks), and records lost by overwriting. -/
structure Tier where
  cap : Nat
  old : Nat
  recs : List (Nat × JournalRec)
  lost : Nat
  deriving DecidableEq, Repr

/-- A tier before opening. -/
def Tier.reset : Tier := ⟨0, 0, [], 0⟩

/-- The management subsystem beside its registers (11). -/
structure Mgmt where
  /-- R302: the ring by SEQ mod 2048, the next SEQ, and the SEQ up to which firmware has copied -/
  log : Tab LogEntry
  logSeq : Nat
  logCopied : Nat
  /-- R302: the tick in which the port last took an entry -/
  logTick : Option Nat
  /-- R313 -/
  lastSeq : Nat
  /-- R297: slots still to try, slot B first -/
  fwTry : List Bool
  /-- R300: conversions outside and inside the window in a row, per rail -/
  supBad : Tab Nat
  supGood : Tab Nat
  /-- R301: rails below their power-fail threshold -/
  pfwRails : List Nat
  /-- R304 to R309 -/
  policy : JournalPolicy
  t1 : Tier
  t2 : Tier
  t3 : Tier
  captures : List (Nat × List JournalRec)
  capCount : Nat
  sec : Tab SecAcc
  agg : Tab AggAcc
  /-- R298, R308: records of each tier at the last index checkpoint -/
  ckpt : List Nat
  emmcFails : Nat
  readPend : Bool
  /-- R310: the target under update; START waits for a store; the warning has paused the check of the slot -/
  updTarget : Nat
  updWait : Bool
  updChecking : Bool
  /-- R311: SEC_VER of firmware A, B and image A, B as last checked -/
  secVers : List (Option Nat)
  fuseAdv : Option Nat
  /-- R289: octets of the host load -/
  hostLen : Nat
  /-- R156: MODE, OUI and CLOCKIDs of the identity binding in force -/
  idMode : Nat
  oui : Nat
  ids : List (Nat × Nat)
  /-- R205: the program-store hash -/
  hash : Word
  deriving DecidableEq, Repr

/-- R307: the policy without a section: all channels. -/
def JournalPolicy.unset : JournalPolicy := ⟨90, 9131, 20, 2 ^ 512 - 1, 2 ^ 512 - 1⟩

/-- The subsystem as L3 and L4 leave it. -/
def Mgmt.reset : Mgmt where
  log := []
  logSeq := 0
  logCopied := 0
  logTick := none
  lastSeq := 0
  fwTry := []
  supBad := []
  supGood := []
  pfwRails := []
  policy := JournalPolicy.unset
  t1 := .reset
  t2 := .reset
  t3 := .reset
  captures := []
  capCount := 0
  sec := []
  agg := []
  ckpt := [0, 0, 0]
  emmcFails := 0
  readPend := false
  updTarget := 0
  updWait := false
  updChecking := false
  secVers := [none, none, none, none]
  fuseAdv := none
  hostLen := 0
  idMode := 0
  oui := 0
  ids := []
  hash := 0

/-- What drives the pins (R361 to R363): the device itself, the boundary cells, nothing (HIGHZ), or the cells with the AC drivers of the
pairs pulsing once or in a train of 8 TCK cycles. -/
inductive PinDrive where
  | device | cells | highZ | acPulse | acTrain
  deriving DecidableEq, Repr

/-- The levels of the pins that show the state (R11, R26, R201, R204, R279, R344). -/
structure Pins where
  mode : Nat
  lifeline : Bool
  alertLow : Bool
  hirqLow : Bool
  activeLow : Bool
  /-- the lanes of TWL_TX, MIR_TX and PL_TX: 0 electrical idle, 1 idle blocks, 2 frames, 3 under TAP control -/
  twlTx : Nat
  mirTx : Nat
  plTx : Nat
  /-- the flash pins: 0 not driven, 1 FCS_N high and FSCK low, 2 active, 3 under TAP control -/
  flash : Nat
  /-- MMC_RST_N is low -/
  mmcReset : Bool
  /-- R362, R363: what drives the pins -/
  drive : PinDrive
  deriving DecidableEq, Repr

/-- The pins before the settle count (R279). -/
def Pins.reset : Pins := ⟨0, false, false, false, false, 0, 0, 0, 0, true, .device⟩

/-- Why a command stops the model: no command does, since the spec gives every one an effect. -/
inductive Fault where
  deriving DecidableEq, Repr

/-- Why a command has no meaning in the model. -/
inductive Refusal where
  /-- Raised by an arm of `exec` whose meaning is not written. Safe: nothing can be proved of the command's effect. -/
  | notModelled (mnemonic : String)
  deriving DecidableEq, Repr

/-- The block. `regs` holds, at each register word's key, the difference (exclusive or) between the word and its reset value;
an unlisted word stands at its reset value. -/
structure State where
  /-- the commands that wait, first in, first out -/
  pending : List Instr
  regs : Tab Word
  chans : Tab Chan
  outs : Tab Pin
  pps : Tab Pin
  refs : Tab RefIn
  msyn : Msyn
  /-- R132: results posted in the present tick: ENG offset and engine -/
  posts : List (Nat × Nat)
  /-- R139: engine data memories belong to the vendor programs; what stands for the contents of engine e is a free value, named by
  the draw at its last run (key 528: the draw at the last L3 or L4) -/
  dmem : Tab Nat
  twl : Twl
  intake : Intake
  pair : Pair
  cal : Cal
  rst : Rst
  fuse : Fuse
  mgmt : Mgmt
  dev : Dev
  /-- R88: HOP pins in holdoff -/
  holdoff : List Nat
  pins : Pins
  /-- the model's own field: how many free values have been drawn -/
  free : Nat
  deriving DecidableEq, Repr

/-- The machine right after power-on reset has been asserted: L4 in force, the settle count under way (R261). -/
def State.reset : State where
  pending := []
  regs := []
  chans := []
  outs := []
  pps := []
  refs := []
  msyn := .reset
  posts := []
  dmem := []
  twl := .reset
  intake := .reset
  pair := .reset
  cal := .reset
  rst := .reset
  fuse := .reset
  mgmt := .reset
  dev := .reset
  holdoff := []
  pins := .reset
  free := 0

end Sys2Proof.Machine
end

