-- ==== Sys2Proof/Machine/Ops.lean ====
section
/-! DEFINITION. The named operations over the state: registers and fields, counters, the event log, rejections, the device
mode, entry to BASIC, the pins. -/

namespace Sys2Proof.Machine

/-! ### Registers -/

/-- The key of register `r`, index `i`, in the register table: its byte address, or its indirect key. -/
def Rg.key (r : Rg) (i : Nat) : Nat := r.info.base + r.info.stride * i

/-- The reset value of a register word. Parameter words, tap words and records follow R119,
R254 (the nominal table) and R258. -/
def Rg.resetWord (r : Rg) (i : Nat) : Word :=
  match r with
  | .PARAM => BitVec.ofNat 32 (match i % 512 with
      | 0 => 1000 | 1 => 10000 | 2 => 0x009602C3 | 3 => 0x012C0004 | 6 => 0x708 | 7 => 0xF4240 | _ => 0)
  | .TAP => BitVec.ofNat 32 ((2 * (i % 128) + 1) * 128 * 65536 + 2 * (i % 128) * 128)
  | .CALREC => if i % 4 = 3 then 0x40000000#32 else 0
  | _ => BitVec.ofNat 32 (r.info.reset + r.info.step * i)

/-- A register word. -/
def State.rd (s : State) (r : Rg) (i : Nat := 0) : Word := Tab.get 0 s.regs (r.key i) ^^^ r.resetWord i

/-- Write a register word. -/
def State.wr (s : State) (r : Rg) (i : Nat) (w : Word) : State :=
  { s with regs := Tab.set 0 s.regs (r.key i) (w ^^^ r.resetWord i) }

/-- The value of a field of a word. -/
def Fld.of (f : Fld) (w : Word) : Nat := bitsOf w.toNat f.hi f.lo

/-- The word with a field replaced; bits of the value beyond the field are dropped. -/
def Fld.put (f : Fld) (w : Word) (v : Nat) : Word :=
  w - BitVec.ofNat 32 (f.of w * 2 ^ f.lo) + BitVec.ofNat 32 (v % 2 ^ (f.hi - f.lo + 1) * 2 ^ f.lo)

/-- A field of a register. -/
def State.get (s : State) (f : Fld) (i : Nat := 0) : Nat := f.of (s.rd f.r i)

/-- Whether a field is not zero. -/
def State.on (s : State) (f : Fld) (i : Nat := 0) : Bool := s.get f i != 0

/-- Set a field of a register. -/
def State.set (s : State) (f : Fld) (v : Nat) (i : Nat := 0) : State := s.wr f.r i (f.put (s.rd f.r i) v)

/-- Set a one-bit field. -/
def State.setB (s : State) (f : Fld) (b : Bool) (i : Nat := 0) : State := s.set f (flag b) i

/-- Set or clear bit `k` inside a field that is a bitmap. -/
def State.setBit (s : State) (f : Fld) (k : Nat) (b : Bool) (i : Nat := 0) : State :=
  s.set f (withBit (s.get f i) k b) i

/-- R6: add to a counter, which saturates. -/
def State.add (s : State) (r : Rg) (n : Nat) (i : Nat := 0) : State :=
  s.wr r i (BitVec.ofNat 32 (min 0xFFFFFFFF ((s.rd r i).toNat + n)))

/-- R6: count one event. -/
def State.inc (s : State) (r : Rg) (i : Nat := 0) : State := s.add r 1 i

/-! ### Units -/

/-- The live state of channel `c`. -/
def State.chan (s : State) (c : Nat) : Chan := Tab.get .reset s.chans c

/-- Replace the live state of channel `c`. -/
def State.setChan (s : State) (c : Nat) (x : Chan) : State := { s with chans := Tab.set .reset s.chans c x }

/-- Output `n` beside its registers. -/
def State.out (s : State) (n : Nat) : Pin := Tab.get .reset s.outs n

/-- Replace output `n`. -/
def State.setOut (s : State) (n : Nat) (x : Pin) : State := { s with outs := Tab.set .reset s.outs n x }

/-- PPS pin `m` beside its registers. -/
def State.ppsPin (s : State) (m : Nat) : Pin := Tab.get .reset s.pps m

/-- Replace PPS pin `m`. -/
def State.setPps (s : State) (m : Nat) (x : Pin) : State := { s with pps := Tab.set .reset s.pps m x }

/-- Input `i` beside its registers. -/
def State.refin (s : State) (i : Nat) : RefIn := Tab.get .reset s.refs i

/-- Replace input `i`. -/
def State.setRefin (s : State) (i : Nat) (x : RefIn) : State := { s with refs := Tab.set .reset s.refs i x }

/-- Flow `f` beside its registers. -/
def State.flow (s : State) (f : Nat) : Flow := Tab.get .reset s.twl.flows f

/-- Replace flow `f`. -/
def State.setFlow (s : State) (f : Nat) (x : Flow) : State := { s with twl := { s.twl with flows := Tab.set .reset s.twl.flows f x } }

/-- Fold an action over the indices below `n`. -/
def State.upto (n : Nat) (f : Nat → State → State) (s : State) : State :=
  (List.range n).foldl (fun s i => f i s) s

/-- Apply `f` when `b` holds. -/
def State.cond (b : Bool) (f : State → State) (s : State) : State := if b then f s else s

/-! ### Free values -/

/-- Draw a free word (assumption 4). -/
def State.drawWord (s : State) : Word × State := (Config.freeWord s.free, { s with free := s.free + 1 })

/-- Draw a free signed quantity (assumption 4). -/
def State.drawInt (s : State) : Int × State := (Config.freeInt s.free, { s with free := s.free + 1 })

/-- Draw a free number below `n` (assumption 4). -/
def State.drawNat (s : State) (n : Nat) : Nat × State := (Config.freeNat s.free % n, { s with free := s.free + 1 })

/-- R139: engine `e` has run or been loaded: its data memory holds something new. -/
def State.runDmem (s : State) (e : Nat) : State :=
  { s with dmem := Tab.set 0 s.dmem e s.free, free := s.free + 1 }

/-- R139: the draw that stands for the contents of the data memory of engine `e`. -/
def State.dmemDraw (s : State) (e : Nat) : Nat := Tab.get (Tab.get 0 s.dmem 528) s.dmem e

/-- R139: word `w` of the data memory of engine `e` holds an uncorrectable error. -/
def State.dmemBad (s : State) (e w : Nat) : Bool := s.dev.badDmem.contains e && Config.dmemFault e w (s.dmemDraw e)

/-- R139: word `w` of the data memory of engine `e`, as a read finds it. -/
def State.dmemWord (s : State) (e w : Nat) : Word := if s.dmemBad e w then 0 else Config.dmemWord e w (s.dmemDraw e)

/-! ### Write groups: the shadows (R64) -/

/-- Whether a pending word stands at key `k`. -/
def Dev.holdsWord (d : Dev) (k : Nat) : Bool :=
  let at_ (ws : List GWord) : Bool := ws.any fun g => g.r.key g.i == k
  at_ d.spi.open_ || at_ d.inb.open_ || d.groups.any fun g => at_ g.words

/-- A shadow without a pending write returns to its live value. -/
def State.syncShadow (s : State) : State :=
  { s with dev := { s.dev with shadow := s.dev.shadow.filter fun kv => s.dev.holdsWord kv.1 } }

/-! ### The event log (R302, R303) -/

/-- The octets of an entry, CRC included. -/
def LogEntry.octets (e : LogEntry) : List Octet :=
  let o := octetsLe e.tick 8 ++ octetsLe e.code 2 ++ octetsLe e.block 1 ++ octetsLe e.sev 1 ++ octetsLe e.seq 4
    ++ octetsLe e.d0.toNat 4 ++ octetsLe e.d1.toNat 4 ++ octetsLe e.d2.toNat 4
  o ++ octetsLe (crc32 o).toNat 4

/-- An entry that stands for an empty place of the ring; it reads 0. -/
def LogEntry.none : LogEntry := ⟨0, 0, 0, 0, 0, 0, 0, 0⟩

/-- R302: the port may still be busy: it took an entry in this tick or in the one before. It is busy for 320 ns of the 1 µs of a
tick, and the model does not place entries within a tick (assumption 33). -/
def State.logRecent (s : State) : Bool := s.mgmt.logTick.any fun k => decide (s.dev.tick ≤ k + 1)

/-- R302: the port takes an entry. The oldest is overwritten; one not yet copied to the event tier is then counted. -/
def State.logTake (s : State) (code block sev : Nat) (d0 d1 d2 : Word) : State :=
  let m := s.mgmt
  let e : LogEntry := ⟨s.dev.tick, code, block, sev, m.logSeq, d0, d1, d2⟩
  let lost := 2048 ≤ m.logSeq && m.logCopied + 2048 ≤ m.logSeq
  let s := { s with mgmt := { m with
    log := Tab.set .none m.log (m.logSeq % 2048) e
    logSeq := (m.logSeq + 1) % 2 ^ 32
    logCopied := if lost then m.logCopied + 1 else m.logCopied
    logTick := some s.dev.tick } }
  s.cond lost (·.inc .MGMT_LOG_OVW_CNT)

/-- R302: write an entry. One that may find the port busy is lost or taken as a free value says, and a lost one is counted. In TEST the
management subsystem is held (R22) and nothing is written. -/
def State.log (s : State) (code block sev : Nat) (d0 d1 d2 : Word) : State :=
  if s.get DEV_MODE.MODE = 11 then s
  else if s.logRecent then
    let (k, s) := s.drawNat 2
    if k = 1 then s.inc .MGMT_LOG_LOST_CNT else s.logTake code block sev d0 d1 d2
  else s.logTake code block sev d0 d1 d2

/-! ### Mode -/

/-- R11: the operating mode. -/
def State.mode (s : State) : Nat := s.get DEV_MODE.MODE

/-- Modes 3 to 6: a running device (R23). -/
def State.isRun (s : State) : Bool := 3 ≤ s.mode && s.mode ≤ 6

/-- STANDBY_STEP. -/
def State.isStep (s : State) : Bool := s.mode == 7

/-- Modes 3 to 8 and SERVICE (R22). -/
def State.liveModes (s : State) : Bool := (3 ≤ s.mode && s.mode ≤ 8) || s.mode == 10

/-- Modes in which engines run (R22, R11): not in SERVICE entered from BOOT without an image, where none has started (R14). -/
def State.enginesRun (s : State) : Bool := s.liveModes && !(s.mode == 10 && s.dev.svcNoImage)

/-- Frame intake runs: by the mode (R11), and outside L1 of frame intake (R270). -/
def State.intakeRuns (s : State) : Bool := s.liveModes && !s.on RST_STS.L1I

/-- The management subsystem runs: not under L2 or wider, not under its L1, not held by TEST (R22, R270). -/
def State.mgmtRuns (s : State) : Bool := s.mode != 0 && s.mode != 11 && !s.on RST_STS.L1M

/-- The unit holds the active role. -/
def State.isActive (s : State) : Bool := s.get PAIR_STS.ROLE == 1

/-- The unit holds the standby role. -/
def State.isStandby (s : State) : Bool := s.get PAIR_STS.ROLE == 2

/-- R89: the peer is in STANDBY_STEP and this unit is the active. -/
def State.peerInStep (s : State) : Bool := s.isActive && s.on PAIR_STS.IN_STEP

/-- R25, R303: the entry of the event log for a change of mode. Entry to TEST writes none. -/
def State.modeLog (s : State) (old m : Nat) : State :=
  if old = m ∨ m = 11 then s
  else s.log 1 14 0 (BitVec.ofNat 32 old) (BitVec.ofNat 32 m) (Config.modeTrigger (old * 16 + m))

/-- Change the device mode and log the transition (R25). -/
def State.setMode (s : State) (m : Nat) : State :=
  if s.mode = m then s else (s.set DEV_MODE.MODE m).modeLog s.mode m

/-! ### Rejections (R332) -/

/-- The code of a port in DEV_CMD_STATUS (R346). -/
def portCode : Port → Nat
  | .spi => 0 | .inb => 1 | .preload => 2 | .stream => 3

/-- A port's state; the preload and the stream have none. -/
def State.port (s : State) (p : Port) : PortSt := if p = .inb then s.dev.inb else s.dev.spi

/-- Replace a host port's state. -/
def State.setPort (s : State) (p : Port) (x : PortSt) : State :=
  match p with
  | .spi => { s with dev := { s.dev with spi := x } }
  | .inb => { s with dev := { s.dev with inb := x } }
  | _ => s

/-- The record of DEV_CMD_STATUS. -/
def State.record (s : State) (reason : Nat) (p : Port) (addr : Nat) : State :=
  s.wr .DEV_CMD_STATUS 0 (BitVec.ofNat 32 (reason * 2 ^ 28 + portCode p * 2 ^ 26 + addr % 2 ^ 24))

/-- R332: reject an item with a reason. -/
def State.reject (s : State) (reason : Nat) (p : Port) (addr : Nat) : State :=
  ((s.record reason p addr).inc .DEV_REJECT_CNT).setPort p { s.port p with reject := true }

/-- R332: defer an item. -/
def State.defer (s : State) (p : Port) (addr : Nat) : State := (s.record 8 p addr).inc .DEV_DEFER_CNT

/-! ### Channel quantities -/

/-- Units of time (2^-48 × 10^-7 ns) in one nanosecond. -/
def tuNs : Nat := 10 ^ 7 * 2 ^ 48

/-- Units of time in 2^-16 ns. -/
def tuTheta : Nat := 10 ^ 7 * 2 ^ 32

/-- Units of time in one second. -/
def tuSec : Nat := 10 ^ 9 * tuNs

/-- R57: the time counter wraps at 2^48 s. -/
def tuWrap : Nat := 2 ^ 48 * tuSec

/-- The live nominal period word P0 of channel `c`. -/
def State.p0 (s : State) (c : Nat) : Nat := (s.rd .CH_PNOM_HI c).toNat * 2 ^ 32 + (s.rd .CH_PNOM_LO c).toNat

/-- Tnom of a period word, in units of time: P0 × 78.125 ps. -/
def tnomOf (p0 : Nat) : Nat := p0 * 20 * 10 ^ 7

/-- CH_CFG.EN, live. -/
def State.chEn (s : State) (c : Nat) : Bool := s.on CH_CFG.EN c

/-- R118: the program of channel `c`. -/
def State.prog (s : State) (c : Nat) : Nat := s.get ENG_CHMAP.PROG c

/-- Parameter word `w` of channel `c` (R119). -/
def State.param (s : State) (c w : Nat) : Nat := (s.rd .PARAM (c * 512 + w)).toNat

/-- R119: entry `k` of the channel's priority list: valid flag and source code. -/
def State.entry (s : State) (c k : Nat) : Nat := bitsOf (s.param c (4 + k / 4)) (8 * (k % 4) + 7) (8 * (k % 4))

/-- The valid entries of the list: index and source code, highest priority first. -/
def State.entries (s : State) (c : Nat) : List (Nat × Nat) :=
  ((List.range 8).map fun k => (k, s.entry c k)).filterMap fun (k, e) => if 128 ≤ e then some (k, e - 128) else none

/-- R23: a steered channel: a steered program with a non-empty list. -/
def State.steered (s : State) (c : Nat) : Bool :=
  (s.prog c == 1 || s.prog c == 2 || s.prog c == 3 || s.prog c == 6) && !(s.entries c).isEmpty

/-- R25: the program counts as steered for the state a FROZEN channel leaves for. -/
def State.progSteered (s : State) (c : Nat) : Bool := s.steered c

/-- Change a channel's state: both lock counts restart (R63). -/
def Chan.to (x : Chan) (st : ChState) : Chan := { x with state := st, lockRun := 0, unlRun := 0 }

/-- R38: a tuning word outside 20 % to 80 % of full scale. -/
def outsideMargin (tune : Nat) : Bool := decide (tune * 10 < 2 * 2 ^ 20) || decide (8 * 2 ^ 20 < tune * 10)

/-! ### A channel's quantities, as of the tick in force (R20, R335) -/

/-- Time of the last boundary. -/
def Chan.tickTime (x : Chan) : Nat := x.shown.elim x.time (·.1)

/-- Period word of the last boundary. -/
def Chan.tickP (x : Chan) : Nat := x.shown.elim x.p (·.2.1)

/-- Nominal period word of the last boundary, `p0` being the live one. -/
def Chan.tickP0 (x : Chan) (p0 : Nat) : Nat := x.shown.elim p0 (·.2.2)

/-- R59: (P0 − P) / P in units of 2^-48 as of the last boundary, before saturation. -/
def chanRate48 (x : Chan) (p0 : Nat) : Int :=
  (((x.tickP0 p0 : Int) - x.tickP) * 2 ^ 48).tdiv (max 1 x.tickP)

/-- R59: the limit of CH_RATE. -/
def rateLimit : Int := 2 ^ 31 - 1

/-- R59: CH_RATE. -/
def chanRate (x : Chan) (p0 : Nat) : Int := clampInt (chanRate48 x p0) (-rateLimit) rateLimit

/-- R59: CH_RATE is saturated. -/
def rateSat (x : Chan) (p0 : Nat) : Bool := decide (rateLimit ≤ (chanRate48 x p0).natAbs)

/-! ### Leaving the active role, BASIC -/

/-- R201, R204, R226, R279: this unit drives ACTIVE_N low. -/
def State.drivesActive (s : State) : Bool :=
  s.pair.drive && s.liveModes

/-- PAIR_STS as it reads: ACTIVE_N_LOW shows the line of a paired unit (R236). -/
def State.pairSts (s : State) : Word :=
  PAIR_STS.ACTIVE_N_LOW.put (s.rd .PAIR_STS) (flag (s.on PAIR_CFG.EN && s.mode != 0 && (s.pair.peerLow || s.drivesActive)))

/-- A pair entry of the event log (R303); the subcodes are free (assumption 5). -/
def State.pairLog (s : State) (sub : Nat) : State :=
  s.log 0xA 10 1 (Config.pairSubcode sub) s.pairSts (s.rd .PAIR_EPOCH_STS)

/-- R211: records that leave in the event stream. -/
def PairRec.isEvent : PairRec → Bool
  | .hop _ | .config .. | .readings .. | .message .. | .ql .. => true
  | _ => false

/-- R211: events that both units execute at a boundary; hops have their own instant (R100). -/
def PairRec.isTimed : PairRec → Bool
  | .config .. | .message .. | .ql .. => true
  | _ => false

/-- R211, R228: the unit stops streaming. Events that have not left execute on this unit alone. -/
def State.stopStream (s : State) : State :=
  let exec := s.dev.tick + 1 + s.get HOP_CTL.PAIR_LEAD
  { s with pair := { s.pair with
      streaming := false, streamInputs := [], seen := [], recopy := []
      stream := s.pair.stream ++ (s.pair.out.filter PairRec.isTimed).map fun r => ⟨exec, r⟩
      out := s.pair.out.filter fun r => !r.isEvent } }

/-- R5, R226, R229: PAIR_CMD bits HANDOVER and RESYNC clear when what they asked for is done, or can no longer be. -/
def State.endPairCmd (s : State) : State := (s.set PAIR_CMD.HANDOVER 0).set PAIR_CMD.RESYNC 0

/-- R222: the active releases ACTIVE_N and queues a YIELD record. Into SERVICE and STANDBY_DETACHED it goes as a standby. -/
def State.yieldNow (s : State) (cause : Nat) : State :=
  if s.isActive && s.on PAIR_STS.FORMED then
    let s := s.stopStream.endPairCmd
    let s := { s with pair := { s.pair with
      drive := false, handoverAt := none, out := s.pair.out ++ [PairRec.yield cause s.dev.tick] } }
    let s := (s.set PAIR_STS.IN_STEP 0).set PAIR_EPOCH_STS.PHASE 0
    (s.set PAIR_STS.ROLE (if cause = 2 ∨ cause = 3 ∨ cause = 4 then 2 else 0)).pairLog 1
  else s

/-- The record word 3 field LAST of table `t` (R258): result of the last item. -/
def State.setCalLast (s : State) (t v : Nat) : State :=
  let w := s.rd .CALREC (t * 4 + 3)
  s.wr .CALREC (t * 4 + 3) (BitVec.ofNat 32 (w.toNat - bitsOf w.toNat 28 26 * 2 ^ 26 + v * 2 ^ 26))

/-- The table that item `k` measures: a TDC's, or the idle slice's of an edge generator (R237, R258). -/
def State.itemTable (s : State) (k : Nat) : Nat :=
  if k ≤ 36 then 255 + k else 2 * (k - 37) + (1 - s.get OUT_STS.SLICE (k - 37))

/-- R106, R246: set or clear the stale state of TDC `i`. -/
def State.setStale (s : State) (i : Nat) (b : Bool) : State := s.setB REF_STS.STALE b i

/-- R250: abort the item in progress; a TDC stops being stale. -/
def State.calAbort (s : State) (cnt : Rg) : State :=
  let k := s.get CAL_STS.ITEM
  let s := { s with cal := { s.cal with measured := none, hopDiscard := false, outcome := 0 } }
  if k = 0xFF then s
  else
    let s := (s.inc cnt).set CAL_STS.ITEM 0xFF
    let s := s.cond (decide (1 ≤ k)) fun s => s.setCalLast (s.itemTable k) 6
    s.cond (decide (1 ≤ k) && decide (k ≤ 36)) fun s => s.setStale (k - 1) false

/-- R250: the item in progress aborts and the rotation pauses; that item starts again once lock recovers. -/
def State.calPause (s : State) : State :=
  if s.on CAL_STS.ROTATING then
    let k := s.get CAL_STS.ITEM
    let next := if k = 0xFF then s.cal.nextItem else some k
    let s := (s.calAbort .CAL_ABORT_UNLOCK_CNT).set CAL_STS.PAUSED 1
    { s with cal := { s.cal with nextItem := next } }
  else s

/-- R250: a rotation ends where the level, BASIC or an L0 ends it; a store that is due is looked for at the boundary (R252). -/
def State.calEndRotation (s : State) : State :=
  let s := s.calAbort .CAL_ABORT_RESET_CNT
  let s := ((s.set CAL_STS.ROTATING 0).set CAL_STS.PAUSED 0).set CAL_STS.PENDING 0
  { s with cal := { s.cal with startDue := false, nextItem := none, storeDue := true } }

/-- R26, R47: freeze the loop filter and hold the tuning word for BASIC; an acquisition in progress ends. A master that was never started
shows HELD too (assumption 122). -/
def State.holdMaster (s : State) : State :=
  let s := ((s.set MSYN_STS.HELD 1).set MSYN_STS.STATE 7).set MSYN_STS.ACQ 0 |>.set MSYN_STS.ATTEMPT 0
  { s with msyn := { s.msyn with heldBasic := true } }

/-- A unit that enters BASIC leaves step and role: a standby in BASIC cannot take over, and nothing of the pair stays due. -/
def State.leavePair (s : State) : State :=
  let s := { s with pair := { s.pair with
    forming := false, claimWant := false, takeoverPend := false, handoverAt := none, yieldPend := none, detachPend := false
    holdStep := false, leftOnEdge := false, commitAt := none, epochDue := false } }.endPairCmd
  let s := (s.set PAIR_STS.IN_STEP 0).set PAIR_EPOCH_STS.PHASE 0
  s.cond s.isStandby (·.set PAIR_STS.ROLE 0)

/-- R26: entry to BASIC. The mode changes and the heartbeats stop at the decision; channels freeze at the next boundary. A unit
in RESET, BASIC or TEST does not enter. -/
def State.enterBasic (s : State) (cause : Nat) : State :=
  if s.mode = 0 ∨ s.mode = 9 ∨ s.mode = 11 then s
  else
    let from_ := s.mode
    let early := from_ == 2 && s.on OUT_CTL.EARLY && s.msyn.everLocked
    let runsOn := s.get RST_BOOT_STS.KIND == 2 && !s.rst.bootMute
    let s := s.set RST_BASIC.CAUSE cause
    let s := s.yieldNow 1
    let s := s.calEndRotation
    let s := s.cond (cause == 2 || cause == 3 || cause == 8 || cause == 9) State.holdMaster
    let s := s.cond (cause == 5 && (s.get MGMT_UPD_STS.STATE == 1 || s.get MGMT_UPD_STS.STATE == 5)) fun s => s.set MGMT_UPD_STS.STATE 0
    let s := { s with
      dev := { s.dev with
        freezePend := true
        basicNoXo := cause == 8
        basicGate := from_ == 1 && cause == 8 && !runsOn
        basicMuted := (from_ == 1 && (cause != 8 || !s.on RST_BOOT_STS.ACCEPTED) && !runsOn)
          || (from_ == 2 && !early) || (from_ == 10 && s.dev.svcNoImage)
        svcNoImage := false }
      posts := [] }
    let s := s.leavePair
    (s.setMode 9).log 3 14 2 (BitVec.ofNat 32 cause) 0 0

/-! ### Alerts and pins (R344) -/

/-- R344: the standing causes, one bit each. -/
def State.alerts (s : State) : Nat :=
  let m := s.mode
  let faults := (List.range 128).any (fun n => s.on OUT_STS.LB_FAULT n) || s.get OUT_PPS_STS.LB_FAULT != 0
  let hb := s.on PAIR_STS.PEER_ALIVE && !(s.on PAIR_STS.HB0_OK && s.on PAIR_STS.HB1_OK)
  flag (!s.on MSYN_STS.LOCK && 2 ≤ m && m ≤ 10)
    + 2 * flag (!s.on CLK_STS.INTOSC_OK || s.on CLK_STS.FORCED || (!s.on CLK_STS.XO_OK && m != 0 && m != 1))
    + 4 * flag faults
    + 8 * flag (s.on PAIR_STS.COLD || s.on PAIR_STS.PEER_ERR || s.on PAIR_STS.CLAIM_BLOCK || hb)
    + 16 * flag (s.on CAL_STS.ALERT)
    + 32 * flag (s.on MGMT_STS.TEMP_WARN)
    + 64 * flag (s.on MGMT_STS.SUP_WARN || s.on MGMT_STS.PFW)
    + 128 * flag (s.get MGMT_JRN_STS.STATE == 2 || s.on MGMT_STS.ROM_SVC)
    + 256 * flag s.dev.crcAlert
    + 512 * flag (decide (popCount (s.get ENG_SPARE_FREE.BITS) 16 < 16))
    + 1024 * flag (m == 9)
    + 2048 * flag (s.on MBX_STAT.VALID)

/-- Whether the alert balls are driven (R279): not in RESET, and under TAP control in TEST. -/
def State.alertsShown (s : State) : Bool := s.mode != 0 && s.mode != 11

/-- R11, R201, R279: the mirror transmit lanes carry frames: not those of a standby. -/
def State.mirTransmits (s : State) : Bool := ((3 ≤ s.mode && s.mode ≤ 8) || s.mode == 10) && !s.isStandby

/-- R361: the opcodes whose instruction takes control of the pins. -/
def tapTakesPins (op : Nat) : Bool := op == 0 || op == 3 || op == 4 || op == 5 || op == 6

/-- R361 to R363: what drives the pins. -/
def State.pinDrive (s : State) : PinDrive :=
  if s.mode ≠ 11 ∨ !tapTakesPins s.rst.tap then .device
  else match s.rst.tap with
    | 3 => .highZ
    | 5 => .acPulse
    | 6 => .acTrain
    | _ => .cells

/-- Cell `k` of the boundary register. -/
def State.cell (s : State) (k : Nat) : Bool := s.rst.cells.getLsbD k

/-- R363: what single-ended output `k` carries from its data and enable cells: HB_OUT0, HB_OUT1, MODE3 to MODE0, LIFELINE, HMISO, FSCK,
FCS_N, MMC_CLK and MMC_RST_N in their order. An output that nothing drives counts as low. -/
def State.cellOut (s : State) (k : Nat) : Bool := s.pinDrive != .highZ && s.cell (433 + 2 * k) && s.cell (434 + 2 * k)

/-- R363: whether the data cell of open-drain pin `k` (ACTIVE_N, ALERT_N, HIRQ_N) pulls it low. -/
def State.cellLow (s : State) (k : Nat) : Bool := s.pinDrive != .highZ && !s.cell (457 + 2 * k)

/-- R279: what a group of pins carries: 0 before the settle count, 3 from the boundary cells; in TEST as under L3. -/
def State.pinUse (s : State) (v : Nat) : Nat :=
  if !s.rst.settled then 0 else if s.pinDrive ≠ .device then 3 else if s.mode = 11 then 1 else v

/-- R233, R279: the PL lanes carry frames in a pair, and in BOOT for a clone request. -/
def State.plFrames (s : State) : Bool :=
  s.mode != 0 && (if s.mode = 1 then s.rst.cloneOpen else s.on PAIR_CFG.EN)

/-- The pins as the device's own logic has them (R11, R26, R201, R279, R344, R362). -/
def State.ownPins (s : State) : Pins where
  mode := s.mode
  lifeline := s.mode == 9
  alertLow := s.alertsShown && (s.alerts.land (s.get DEV_ALERT_EN.ALERT_EN) != 0)
  hirqLow := s.alertsShown && (s.alerts.land (s.get DEV_ALERT_EN.IRQ_EN) != 0)
  activeLow := s.drivesActive
  twlTx := s.pinUse (if s.on TWL_STS.FRAMES then 2 else 1)
  mirTx := s.pinUse (if s.mirTransmits then 2 else 1)
  plTx := s.pinUse (if s.plFrames then 2 else 1)
  flash := s.pinUse (if s.mode = 0 then 1 else 2)
  mmcReset := !s.rst.settled || s.mode == 0 || s.mode == 11 || s.on RST_STS.L1M
  drive := s.pinDrive

/-- The pins as the state requires them: the boundary cells drive them while a pin-control instruction stands (R362). -/
def State.pinsOf (s : State) : Pins :=
  if s.pinDrive = .device then s.ownPins
  else { s.ownPins with
    mode := 8 * flag (s.cellOut 2) + 4 * flag (s.cellOut 3) + 2 * flag (s.cellOut 4) + flag (s.cellOut 5)
    lifeline := s.cellOut 6, mmcReset := !s.cellOut 11
    activeLow := s.cellLow 0, alertLow := s.cellLow 1, hirqLow := s.cellLow 2 }

/-- The pins follow the state. -/
def State.settle (s : State) : State := { s with pins := s.pinsOf }

/-- A command completes: the pins follow, and the next state is answered. -/
def done (s : State) : Host.Outcome State Fault Refusal := .next s.settle

/-- A command that names unit `i` of `n` and takes `s` to `t`: a unit the device does not have does nothing (assumption 30). -/
def onUnit (i n : Nat) (s t : State) : Host.Outcome State Fault Refusal := done (if i < n then t else s)

end Sys2Proof.Machine
end

