-- ==== Sys2Proof/Machine/Channel.lean ====
section
/-! DEFINITION. The synthesis channels (03, 05): period words, channel time, Drizzle, states, selection of a reference, lock
counting, engine results, Overcast. -/

namespace Sys2Proof.Machine

/-! ### Period and time -/

/-- R368, R91: P0(new) × P(old) / P0(old), rounded to 2^-40. -/
def carryRate (p0new pold p0old : Nat) : Nat := roundDiv (p0new * pold) (max 1 p0old)

/-- (P0 − P) / P in units of 2^-80. -/
def rate80 (p0 p : Nat) : Int := (((p0 : Int) - p) * 2 ^ 80).tdiv (max 1 p)

/-- The period word of a rate in units of 2^-80: P0 / (1 + rate). -/
def periodOf (p0 : Nat) (r : Int) : Nat := roundDiv (p0 * 2 ^ 80) (max 1 (2 ^ 80 + r).toNat)

/-- The channel's present pattern multiple: ⌊(time − θ − anchor) / Tnom⌋ (R58). -/
def patternIndex (x : Chan) (p0 : Nat) : Int := ((x.time : Int) - x.thetaLive - x.anchor) / (max 1 (tnomOf p0) : Nat)

/-- Add a signed amount to a time counter, modulo 2^48 s. -/
def addTime (t : Nat) (d : Int) : Nat := (((t : Int) + d) % (tuWrap : Nat)).toNat

/-- R57, R92: the advance over the rest of the tick at the present words: 1,000 ns × P0 / P. -/
def tickAdvance (x : Chan) (p0 : Nat) : Nat := 1000 * tuNs * x.restNum * p0 / (max 1 x.restDen * max 1 x.p)

/-- R55: run the residue accumulator up to the present pattern multiple: each channel period passed adds RNUM, and a carry lengthens the
period that it begins by 2^-40 of a master cycle. A multiple that phase movement passes again counts once. -/
def State.runResidue (s : State) (c : Nat) : State :=
  let x := s.chan c
  let k := patternIndex x (s.p0 c)
  let n := (k - x.patK).toNat
  if n = 0 then s
  else
    let num := s.get CH_PRES.RNUM c
    let den := s.get CH_PRES.RDEN c
    if 2 ≤ den ∧ num < den then
      s.setChan c { x with
        patK := k, resAcc := (x.resAcc + n * num) % den, long := decide (den ≤ (x.resAcc + (n - 1) * num) % den + num) }
    else s.setChan c { x with patK := k, resAcc := 0, long := false }

/-- R55: the length of the channel period in progress, in 2^-40 master cycles. -/
def Chan.period (x : Chan) : Nat := x.p + flag x.long

/-- The accumulator goes on from the present pattern multiple, where the pattern or the time has been set anew. -/
def State.syncPattern (s : State) (c : Nat) : State :=
  let x := s.chan c
  s.setChan c { x with patK := patternIndex x (s.p0 c) }

/-- R57: one tick of channel time. -/
def State.advance (s : State) (c : Nat) : State :=
  let x := s.chan c
  if s.chEn c && x.running then
    (s.setChan c { x with time := addTime x.time (tickAdvance x (s.p0 c)), restNum := 1, restDen := 1, shown := none }).runResidue c
  else s

/-- R60: one Drizzle step of an enabled channel that is not FROZEN. -/
def drizzle (x : Chan) (rate : Nat) : Chan :=
  let budget : Int := (rate * 2 ^ 48 : Nat)
  let a := clampInt x.adj (-budget) budget
  let left := budget - a.natAbs
  let b := clampInt (x.thetaTarget - x.thetaLive) (-left) left
  { x with adj := x.adj - a, thetaLive := x.thetaLive + b, time := addTime x.time a }

/-- R60 for channel `c`. -/
def State.drizzleStep (s : State) (c : Nat) : State :=
  if s.chEn c && (s.chan c).state != .frozen then
    (s.setChan c (drizzle (s.chan c) (s.get CH_DRIZZLE.RATE c))).runResidue c else s

/-- The last rising edge of a pin whose pattern rose last at `t`: a rise that the pin held back has not happened. -/
def Pin.lastRise (o : Pin) (t : Int) : Int :=
  match o.hold with
  | some (a, b) => if t < b then a else t
  | none => t

/-- R94, R369: the divider and the origin that output `o`, whose divider is `d`, has at pattern multiple `m`. -/
def Pin.divAt (o : Pin) (d : Nat) (m : Int) : Nat × Int :=
  match o.divPend with
  | some (d1, k) => if k ≤ m then (d1 + 1, k) else (d, o.k0)
  | none => (d, o.k0)

/-- R58, R94: the multiple of the last rising edge of output `n` at or before pattern multiple `m`. -/
def State.riseMultiple (s : State) (n : Nat) (m : Int) : Int :=
  let dk := (s.out n).divAt (s.get OUT_DIV.DIVM1 n + 1) m
  dk.2 + (m - dk.2) / (dk.1 : Int) * (dk.1 : Int)

/-- R58: channel time of the last rising edge of the pattern that output `n` follows. -/
def State.patternRise (s : State) (n : Nat) : Int :=
  let x := s.chan (s.out n).src
  let p0 := s.p0 (s.out n).src
  x.anchor + x.thetaLive + s.riseMultiple n (patternIndex x p0) * (tnomOf p0 : Nat)

/-- R58, R61: channel time of the last rising edge of output `n`. -/
def State.outLastRise (s : State) (n : Nat) : Int := (s.out n).lastRise (s.patternRise n)

/-- R77: channel time of the last whole second plus offset that PPS pin `m` follows, as of channel time `t`. -/
def State.ppsPatternRise (s : State) (m : Nat) (t : Int) : Int :=
  let o := s.ppsPin m
  let base := (s.chan o.src).thetaLive + o.ofs * (tuNs : Nat)
  base + (t - base) / (tuSec : Nat) * (tuSec : Nat)

/-- R77: channel time of the last rising edge of PPS pin `m`. -/
def State.ppsLastRise (s : State) (m : Nat) : Int :=
  (s.ppsPin m).lastRise (s.ppsPatternRise m (s.chan (s.ppsPin m).src).time)

/-- R61: a pin that a step of `d` moves: its next rising edge comes at least one period `t` after its last. -/
def Pin.step (o : Pin) (rise d t : Int) : Pin := { o with hold := some (rise + d, rise + d + t) }

/-- R61: the pins fed by channel `c` under a step of its time by `d`. -/
def State.stepPins (s : State) (c : Nat) (d : Int) : State :=
  let s := State.upto 128 (fun n s =>
    if (s.out n).src = c ∧ s.get OUT_STS.STATE n = 2 then
      s.setOut n ((s.out n).step (s.outLastRise n) d ((s.get OUT_DIV.DIVM1 n + 1) * tnomOf (s.p0 c) : Nat))
    else s) s
  State.upto 16 (fun m s =>
    if (s.ppsPin m).src = c ∧ bitOf (s.get OUT_PPS_STS.RUN) m then s.setPps m ((s.ppsPin m).step (s.ppsLastRise m) d (tuSec : Nat))
    else s) s

/-- R152: note a step or hop of channel `c`. Behind one that lies after the boundary of the present tick, the one before it still counts. -/
def State.noteJump (s : State) (c : Nat) (j : Jump) : State :=
  let older := (Tab.get [] s.twl.jump c).dropWhile fun o => o.tick == j.tick && o.ofs != 0
  { s with twl := { s.twl with jump := Tab.set [] s.twl.jump c (j :: older.take 1) } }

/-- R61: carry out a time step: the new time, the count, and the pins that the channel feeds. -/
def State.timeStep (s : State) (c t : Nat) : State :=
  let x := s.chan c
  let s := s.stepPins c ((t : Int) - x.time)
  let s := ((s.setChan c { x with time := t % tuWrap }).syncPattern c).inc .CH_STEP_CNT c
  s.noteJump c ⟨s.dev.tick, 0, x.time, (t % tuWrap : Nat)⟩

/-- R61: whether a step may be carried out. -/
def State.stepOk (s : State) (c : Nat) : Bool :=
  s.on CH_CFG.STEP_EN c && ((s.chan c).state == .free || (s.chan c).state == .acq)

/-! ### States -/

/-- R54: enter FREE with P := P0, or keeping the live word under Hold FREERUN. -/
def State.toFree (s : State) (c : Nat) (keep : Bool) : State :=
  let x := s.chan c
  s.setChan c { x.to .free with
    p := if keep then x.p else s.p0 c, keptRate := keep, posted := none, wtrDone := [], frozenP0 := none }

/-- R63, R20: enter FROZEN, keeping the state held. A channel that is FROZEN already stays so. -/
def State.freeze (s : State) (c : Nat) : State :=
  let x := s.chan c
  if x.state = .frozen then s.setChan c { x with freezePend := false }
  else s.setChan c { x.to .frozen with held := x.state, posted := none, freezePend := false, frozenP0 := none }

/-- R368: the period word at the boundary at which a channel leaves FROZEN for `st`. -/
def thawP (x : Chan) (p0 : Nat) (st : ChState) : Nat :=
  match st, x.frozenP0 with
  | .free, some _ => p0
  | _, some old => carryRate p0 x.p old
  | _, none => x.p

/-- R63: leave FROZEN for `st`. -/
def State.thaw (s : State) (c : Nat) (st : ChState) : State :=
  let x := s.chan c
  s.setChan c { x.to st with p := thawP x (s.p0 c) st, frozenP0 := none }

/-! ### Qualification as the channels see it -/

/-- R225, R231: channel `c` takes steps as adjustments: for 10 s after a cold takeover every channel, after any takeover one under repair. -/
def State.coldFor (s : State) (c : Nat) : Bool :=
  s.on PAIR_STS.COLD || (s.pair.coldChans.contains c && decide (s.dev.tick < s.pair.coldTick + 10000000))

/-- R215, R230: channel `c` takes its inputs from the peer's event stream: in STANDBY_STEP, and on a detached standby once it has
joined. A pair follower takes no part in the step (R217). -/
def State.fromStream (s : State) (c : Nat) : Bool :=
  s.prog c != 4 && (s.isStep || (s.isStandby && s.mode == 8 && s.pair.joined.contains c))

/-- R212: channel `c` selects on the qualification states of a READINGS record: also on an active that streams, once its first one
has come due. -/
def State.streamsFor (s : State) (c : Nat) : Bool :=
  s.fromStream c || (s.prog c != 4 && s.pair.streaming && !s.pair.streamInputs.isEmpty)

/-- R114, R212: the qualification state of input `i` as channel `c` sees it. -/
def State.inputState (s : State) (c i : Nat) : Nat :=
  if s.streamsFor c then (s.pair.streamInputs.find? (·.idx == i)).elim 0 (·.state) else s.get REF_STS.STATE i

/-- Whether a source code is QUALIFIED for channel `c` (R108, R154). -/
def State.qualified (s : State) (c code : Nat) : Bool :=
  if code < 36 then s.inputState c code == 4 else if 64 ≤ code then s.get FLOW_STS.STATE (code - 64) == 4 else false

/-- Whether a source code is an input in HIT (R111). -/
def State.inHit (s : State) (c code : Nat) : Bool := code < 36 && s.inputState c code == 5

/-- R160, ITU-T G.781 (assumption 20): the rank of a quality level, lower is better; 100 counts as "do not use"; none for a code
the option does not define. -/
def qlRank (opt ssm essm : Nat) : Option Nat :=
  if opt = 0 then
    match ssm, essm with
    | 2, 0x21 => some 0 | 2, 0x20 => some 1 | 2, 0x23 => some 2 | 2, _ => some 3
    | 4, _ => some 4 | 8, _ => some 5 | 11, 0x22 => some 6 | 11, _ => some 7 | 15, _ => some 100 | _, _ => none
  else
    match ssm, essm with
    | 1, 0x21 => some 0 | 1, 0x20 => some 1 | 1, 0x23 => some 2 | 1, _ => some 3
    | 0, _ => some 4 | 7, _ => some 5 | 4, _ => some 6 | 13, _ => some 7
    | 10, 0x22 => some 8 | 10, _ => some 9 | 12, _ => some 10 | 14, _ => some 11 | 15, _ => some 100 | _, _ => none

/-- R114: the quality rank of input `i`; QL-FAILED and an input without a map count as "do not use". -/
def State.inputQl (s : State) (i : Nat) : Nat :=
  if i < 32 && s.on ESMC_MAP.EN i && !s.on ESMC_MAP.NOQL i then
    (qlRank (s.get ESMC_CTL.OPT) (s.get ESMC_MAP.SSM i) (s.get ESMC_MAP.ESSM i)).getD 100
  else 100

/-- Lexicographic order of keys. -/
def keyLt : List Nat → List Nat → Bool
  | [], [] => false
  | [], _ => true
  | _, [] => false
  | a :: as, b :: bs => if a = b then keyLt as bs else a < b

/-- R155: an Announce as the best-master comparison sees it: with the localPriority of its flow and the port that receives it. -/
structure Candidate where
  ann : Announce
  lprio : Nat
  receiver : Nat
  deriving DecidableEq, Repr

/-- IEEE 1588-2019 9.3.4, candidates of one grandmaster (assumption 21): steps removed, then the sender, then the receiving port. -/
def Candidate.topology (a : Candidate) : List Nat := [a.ann.steps, a.ann.sender, a.receiver]

/-- R155, IEEE 1588-2019 9.3.4 and, for profile 1, the alternate algorithm of ITU-T G.8275.1 (assumption 21): `a` is better than `b`. -/
def Candidate.before (profile : Nat) (a b : Candidate) : Bool :=
  let near := keyLt a.topology b.topology
  if profile = 1 then
    let k (x : Candidate) : List Nat := [x.ann.clockClass, x.ann.accuracy, x.ann.variance, x.ann.prio2, x.lprio]
    if k a ≠ k b then keyLt (k a) (k b)
    else if a.ann.clockClass ≤ 127 ∨ a.ann.gmId = b.ann.gmId then near
    else a.ann.gmId < b.ann.gmId
  else if a.ann.gmId = b.ann.gmId then near
  else
    let k (x : Candidate) : List Nat :=
      [x.ann.prio1, x.ann.clockClass, x.ann.accuracy, x.ann.variance, x.ann.prio2, x.ann.gmId]
    keyLt (k a) (k b)

/-- The last qualified Announce of flow `f`, as a candidate. -/
def State.candidate (s : State) (f : Nat) : Option Candidate :=
  (s.flow f).announce.map fun a => ⟨a, s.get FLOW_ASYM.LPRIO f, Config.portNumber f⟩

/-- R114, R155: the quality of list entry `d` of channel `c` is better than that of entry `e`: by best-master comparison of the flows of a
two-way servo, by quality level where QL_EN has an EEC filter rank by it. -/
def State.entryBetter (s : State) (c : Nat) (d e : Nat × Nat) : Bool :=
  if s.prog c = 1 then
    match s.candidate (d.2 - 64), s.candidate (e.2 - 64) with
    | some a, some b => Candidate.before (bitsOf (s.param c 16) 1 0) a b
    | some _, none => true
    | none, _ => false
  else s.prog c == 2 && bitOf (s.param c 3) 1 && decide (s.inputQl d.2 < s.inputQl e.2)

/-- R114, R155: list entry `d` of channel `c` ranks before entry `e`; list position decides between equals. -/
def State.entryBefore (s : State) (c : Nat) (d e : Nat × Nat) : Bool :=
  s.entryBetter c d e || (!s.entryBetter c e d && decide (d.1 < e.1))

/-- R114: whether an entry may be newly selected. -/
def State.selectable (s : State) (c code : Nat) : Bool :=
  s.qualified c code && !(s.prog c == 2 && bitOf (s.param c 3) 1 && s.inputQl code == 100)

/-- The best selectable entry of `es`. -/
def State.bestOf (s : State) (c : Nat) (es : List (Nat × Nat)) : Option (Nat × Nat) :=
  es.foldl (fun best e =>
    if s.selectable c e.2 then
      match best with
      | none => some e
      | some b => if s.entryBefore c e b then some e else some b
    else best) none

/-- The best selectable entry of the list. -/
def State.bestEntry (s : State) (c : Nat) : Option (Nat × Nat) := s.bestOf c (s.entries c)

/-- R114: whether the selected entry may be kept. -/
def State.keepsSel (s : State) (c : Nat) : Bool :=
  let code := s.get ENG_CHMAP.SEL c
  let k := s.get ENG_CHMAP.SEL_IDX c
  s.on ENG_CHMAP.SEL_VALID c && s.entry c k == code + 128
    && (s.selectable c code || (s.inHit c code && !(s.prog c == 2 && bitOf (s.param c 3) 1 && s.inputQl code == 100)))

/-- R118: a frequency program: EEC filter, type-2 tracker, hop-compensated tracker. -/
def State.freqProg (s : State) (c : Nat) : Bool := s.prog c == 2 || s.prog c == 3 || s.prog c == 6

/-- R115: a frequency program joins another input: with BUILDOUT its next iteration takes the phase difference as its zero, without it the
phase is pulled to the input. -/
def Chan.join (x : Chan) (buildout : Bool) : Chan := if buildout then { x with rezero := true } else { x with zero := 0, rezero := false }

/-- R115: channel `c` joins the input it has selected. -/
def State.joinInput (s : State) (c : Nat) : State :=
  s.cond (s.freqProg c) fun s => s.setChan c ((s.chan c).join (bitOf (s.param c 3) 2))

/-- Write the selection fields. A program that has selected before joins the new input under R115. -/
def State.setSel (s : State) (c : Nat) (e : Nat × Nat) : State :=
  let again := (s.chan c).everSelected
  let s := ((s.set ENG_CHMAP.SEL_VALID 1 c).set ENG_CHMAP.SEL_IDX e.1 c).set ENG_CHMAP.SEL e.2 c
  (s.setChan c { s.chan c with everSelected := true, wtrDone := [], lastFlow := decide (64 ≤ e.2) }).cond again (·.joinInput c)

/-- R114: the entry that a revertive channel moves to: ranked above the selected one, its wait to restore over. -/
def State.revertTo (s : State) (c : Nat) : Option (Nat × Nat) :=
  if bitOf (s.param c 3) 0 then
    let here := (s.get ENG_CHMAP.SEL_IDX c, s.get ENG_CHMAP.SEL c)
    s.bestOf c ((s.entries c).filter fun e => (s.chan c).wtrDone.contains e.1 && s.entryBefore c e here)
  else none

/-- R114: the selection of one boundary. A channel without a steered program or a list selects nothing; a FROZEN one keeps its selection
(R133). In OVERCAST a selection that stands is kept. -/
def State.selectRef (s : State) (c : Nat) : State :=
  let x := s.chan c
  if x.state == .frozen then s
  else if !s.steered c then s.set ENG_CHMAP.SEL_VALID 0 c
  else
    let valid := s.on ENG_CHMAP.SEL_VALID c
    let s := s.setChan c { x with wtrDone := x.wtrDone.filter fun k => s.selectable c (s.entry c k - 128) }
    match s.bestEntry c with
    | none => if s.keepsSel c then s else s.set ENG_CHMAP.SEL_VALID 0 c
    | some b =>
      if s.keepsSel c then
        if x.state == .overcast then s
        else match s.revertTo c with
          | some e => (s.setSel c e).inc .REFIN_SWITCH_CNT
          | none => s
      else (s.setSel c b).cond valid (·.inc .REFIN_SWITCH_CNT)

/-! ### Overcast -/

/-- The overlap of a rate segment that runs from `a` to `b` with the window `[lo, hi)`. -/
def overlap (a b lo hi : Nat) : Nat := min b hi - max a lo

/-- R125: sums over the window: weighted rate, span covered, span covered in LOCK. Segments are newest first; the newest runs to
`now`. -/
def windowSums (lo hi : Nat) : Nat → List RateSeg → Int × Nat × Nat
  | _, [] => (0, 0, 0)
  | now, g :: gs =>
    let n := overlap g.tick now lo hi
    let r := windowSums lo hi g.tick gs
    (r.1 + n * g.rate, r.2.1 + n, r.2.2 + if g.locked then n else 0)

/-- R125: the window `[lo, hi)` of the holdover estimate: OVC_AVG seconds that end 1 s before the last fresh iteration. -/
def State.ovcWindow (s : State) (c : Nat) : Nat × Nat :=
  let hi := (s.chan c).lastFresh.getD 0 - 1000000
  (hi - bitsOf (s.param c 6) 15 0 * 1000000, hi)

/-- R125: the holdover estimate (units of 2^-80) and whether it is mature. -/
def State.estimate (s : State) (c : Nat) : Int × Bool :=
  let x := s.chan c
  let w := bitsOf (s.param c 6) 15 0 * 1000000
  let lh := s.ovcWindow c
  let r := windowSums lh.1 lh.2 s.dev.tick x.hist
  if r.2.1 = 0 then (rate80 (s.p0 c) x.p, false)
  else (r.1.tdiv r.2.1, decide (w ≤ lh.2) && r.2.2 == w)

/-- R125: three times the sum of rate × (B² − A²) over the segments, with A and B the ends of a segment's part of `[lo, hi)` measured
from its middle, doubled. -/
def driftSum (lo hi : Nat) : Nat → List RateSeg → Int
  | _, [] => 0
  | now, g :: gs =>
    let a : Int := 2 * (max g.tick lo : Nat) - (lo + hi : Nat)
    let b : Int := 2 * (min now hi : Nat) - (lo + hi : Nat)
    (if a < b then 3 * g.rate * (b * b - a * a) else 0) + driftSum lo hi g.tick gs

/-- R125: the drift of a mature estimate per tick, as a fraction: the least-squares slope of the applied rate over the window
(assumption 125). -/
def State.driftFit (s : State) (c : Nat) : Int × Nat :=
  let lh := s.ovcWindow c
  let w := lh.2 - lh.1
  (driftSum lh.1 lh.2 s.dev.tick (s.chan c).hist, 2 * w * w * w)

/-- R124: entry to OVERCAST on the holdover estimate. -/
def State.enterOvercast (s : State) (c : Nat) : State :=
  let est := s.estimate c
  let slope := if bitOf (s.param c 6) 16 && est.2 then s.driftFit c else (0, 1)
  let s := (s.inc .ENG_OVC_ENTRY_CNT).setB ENG_CHMAP.OVC_IMM (!est.2) c
  s.setChan c { (s.chan c).to .overcast with
    ovcRate := est.1, ovcNum := slope.1, ovcDen := slope.2, ovcTick := s.dev.tick }

/-- R126: the rate that OVERCAST applies at tick `t`: the estimate and its drift since entry. -/
def Chan.ovcRateAt (x : Chan) (t : Nat) : Int := x.ovcRate + (x.ovcNum * (t - x.ovcTick : Nat)).tdiv (max 1 x.ovcDen)

/-- R127: leave OVERCAST for ACQ. ENG_CHMAP.OVC_IMM stands as of the last estimate (assumption 126). -/
def State.exitOvercast (s : State) (c : Nat) : State :=
  let s := s.inc .ENG_OVC_EXIT_CNT
  s.setChan c { (s.chan c).to .acq with restart := true }

/-- R118: the XP input of a pair follower. -/
def State.xpInput (s : State) (c : Nat) : Nat := 32 + bitsOf (s.param c 16) 1 0

/-- R63, R124, R127: whether channel `c` has something to steer to at this boundary. -/
def State.canSteer (s : State) (c : Nat) : Bool :=
  if s.prog c = 4 then s.qualified c (s.xpInput c) && s.isStandby
  else s.steered c && (s.bestEntry c).isSome

/-- R124 rules 1 and 3: the channel has lost what it steers to. -/
def State.lostRef (s : State) (c : Nat) : Bool :=
  if s.prog c = 4 then !(s.qualified c (s.xpInput c) && s.isStandby)
  else (s.prog c == 1 || s.prog c == 2 || s.prog c == 3 || s.prog c == 6) && (s.bestEntry c).isNone && !s.keepsSel c

/-- R63, R124, R127: the state changes of one boundary that follow from references and the mode request `req` in force. -/
def State.stateRules (s : State) (c req : Nat) : State :=
  let x := s.chan c
  if !s.chEn c then s
  else
    match x.state with
    | .frozen => s
    | .free =>
      if s.canSteer c && req != 3 && req != 6 then
        s.setChan c { x.to .acq with keptRate := false, restart := true, t0 := some (x.t0.getD s.dev.tick) }
      else s
    | .acq | .lock =>
      if s.lostRef c || (req == 6 && s.steered c) then s.enterOvercast c else s
    | .overcast => if s.canSteer c && req != 6 then s.exitOvercast c else s

/-! ### Engine results -/

/-- R122: the clamps on a result's period word. -/
def clampOk (p0 pold p pull maxdr : Nat) : Bool :=
  p != 0 && ((p0 : Int) - p).natAbs * 10 ^ 7 ≤ pull * p
    && p0 * ((pold : Int) - p).natAbs * 10 ^ 12 ≤ maxdr * pold * p

/-- The quotient rounded up. -/
def ceilDiv (a b : Nat) : Nat := (a + b - 1) / b

/-- R122: a program's own clamp of a period word: into PULL of P0, then at most MAXDR from the word in force. -/
def clampP (p0 pold pull maxdr p : Nat) : Nat :=
  let q := min (max p (ceilDiv (p0 * 10 ^ 7) (10 ^ 7 + pull))) (p0 * 10 ^ 7 / (10 ^ 7 - pull))
  let n := p0 * pold * 10 ^ 12
  let d := p0 * 10 ^ 12 - maxdr * pold
  let q := max q (ceilDiv n (p0 * 10 ^ 12 + maxdr * pold))
  if d = 0 then q else min q (n / d)

/-- R63: the two counts after an applied iteration with phase error `e` (2^-8 ns) and window `w` (0.1 ns). A no-measurement
iteration is neutral (R123). -/
def lockCount (x : Chan) (e : Int) (w : Nat) (fresh : Bool) : Chan :=
  if !fresh then x
  else
    let a := e.natAbs * 10
    { x with
      lockRun := if x.state = .acq then (if a < w * 256 then x.lockRun + 1 else 0) else x.lockRun
      unlRun := if x.state = .lock then (if 2 * w * 256 < a then x.unlRun + 1 else 0) else x.unlRun }

/-- R117: rewrite the persistent words of the checkpoint from the result applied. -/
def State.checkpoint (s : State) (c : Nat) (ws : List (Nat × Word)) : State :=
  ws.foldl (fun s w => if 32 ≤ w.1 ∧ w.1 < 128 then s.wr .PARAM (c * 512 + w.1) w.2 else s) s

/-- R305: a second's phase errors. -/
def State.secPhase (s : State) (c : Nat) (e : Int) : State :=
  let a := Tab.get .reset s.mgmt.sec c
  { s with mgmt := { s.mgmt with
      sec := Tab.set .reset s.mgmt.sec c { a with sum := a.sum + e, n := a.n + 1, max := max a.max e.natAbs } } }

/-- R16, R18, R61, R96, R117, R122: apply a released result to its channel. One whose period and phase are both overridden is discarded and
leaves the checkpoint. -/
def State.applyPosted (s : State) (c : Nat) (q : Posted) : State :=
  let x := s.chan c
  let r := q.res
  let moves := r.adj != 0 || r.step.isSome
  let overridden := x.ovP || (x.ovPhase && moves)
  let s := s.cond (overridden && x.hopDone.isNone) (·.inc .CH_OVERRIDE_CNT c)
  let s := s.cond q.late fun s => (s.inc .CH_LATE_CNT c).inc .ENG_COLL_LATE_CNT
  let step := if x.ovPhase then none else r.step
  let canStep := s.stepOk c && !s.coldFor c
  let adj := if x.ovPhase then 0 else r.adj + (if canStep then 0 else step.getD 0)
  let s := s.setChan c { x with p := if x.ovP then x.p else r.p, adj := x.adj + adj * tuTheta, posted := none }
  let s := match step with
    | some d => if canStep then s.timeStep c (addTime (s.chan c).time (d * tuTheta)) else s
    | none => s
  let s := s.wr .CH_PHERR c (BitVec.ofInt 32 (clampInt q.phErr (-(2 ^ 31)) (2 ^ 31 - 1)))
  let s := s.secPhase c q.phErr
  let s := s.setB ENG_CHMAP.NOMEAS (!q.fresh) c
  let s := s.setChan c (lockCount (s.chan c) q.phErr (s.get CH_LOCK.WIN c) q.fresh)
  s.cond (!(x.ovP && x.ovPhase)) fun s => s.checkpoint c r.persist

/-- R125: record the rate that the channel applies from this boundary on, and whether in LOCK. -/
def State.recordRate (s : State) (c : Nat) : State :=
  let x := s.chan c
  let g : RateSeg := ⟨s.dev.tick, rate80 (s.p0 c) x.p, x.state == .lock⟩
  match x.hist with
  | h :: _ => if h.rate = g.rate ∧ h.locked = g.locked then s else s.setChan c { x with hist := g :: x.hist }
  | [] => if x.state = .acq ∨ x.state = .lock then s.setChan c { x with hist := [g] } else s

/-- R159: an iteration of channel `c` has used, or a program start drops, the exchanges completed in its scale. -/
def State.spendExchanges (s : State) (c : Nat) : State :=
  s.twl.flows.foldl (fun s kv => s.setFlow kv.1 { s.flow kv.1 with done := (s.flow kv.1).done.filter (·.1 != c) }) s

/-- R121: start a program afresh from the channel's present state: its filter state, estimate and checkpoint are cleared. -/
def State.startProgram (s : State) (c : Nat) (req : Nat) : State :=
  let s := ((State.upto 96 (fun k s => s.wr .PARAM (c * 512 + 32 + k) 0) s).set ENG_CHMAP.SEL_VALID 0 c).spendExchanges c
  let x := s.chan c
  let s := s.setChan c { x with
    hist := [], lastFresh := none, everSelected := false, posted := none, restart := true, wtrDone := [], zero := 0, rezero := false
    t0 := if s.prog c = 0 ∨ s.prog c = 5 then none else some s.dev.tick }
  if x.state = .frozen then s
  else if s.chEn c && s.canSteer c && req != 3 && req != 6 && s.enginesRun then
    let s := s.cond (s.prog c != 4) fun s => (s.bestEntry c).elim s (s.setSel c)
    s.setChan c ((s.chan c).to .acq)
  else s.toFree c false

/-- CHANNEL_LOCK_DECLARED's transition (R63): the 64th consecutive iteration inside W. -/
def State.declareLock (s : State) (c : Nat) : State :=
  let x := s.chan c
  if x.state = .acq ∧ 64 ≤ x.lockRun then (s.setChan c (x.to .lock)).inc .CH_LOCK_CNT c else s

/-- CHANNEL_LOCK_LOST's transition (R63): the 4th consecutive iteration beyond 2W. -/
def State.loseLock (s : State) (c : Nat) : State :=
  let x := s.chan c
  if x.state = .lock ∧ 4 ≤ x.unlRun then (s.setChan c (x.to .acq)).inc .CH_UNLOCK_CNT c else s

/-- R23: the mode that the states of the steered channels give. -/
def State.derivedMode (s : State) : Nat :=
  let cs := (List.range 512).filter s.steered
  let has (st : ChState) := cs.any fun c => (s.chan c).state == st
  if has .overcast then 6
  else if has .acq then 4
  else if cs.any (fun c => (s.chan c).state != .frozen) && cs.all (fun c => (s.chan c).state == .lock || (s.chan c).state == .frozen)
  then 5 else 3

/-- R23, R24: the running mode of the present channel states and request. -/
def State.runMode (s : State) : Nat :=
  if s.dev.reqInForce = 6 then 6 else if s.dev.reqInForce = 3 then 3 else s.derivedMode

/-- R23, R24: derive the mode of an active or standalone running device. -/
def State.deriveMode (s : State) : State := if s.isRun then s.setMode s.runMode else s

/-- CHANNEL_LOCK_DECLARED (R63, R23): the state and the derived mode of the boundary follow. -/
def execChannelLockDeclared (c : Nat) (s : State) : Host.Outcome State Fault Refusal :=
  onUnit c 512 s ((s.declareLock c).deriveMode)

/-- CHANNEL_LOCK_LOST (R63, R23). -/
def execChannelLockLost (c : Nat) (s : State) : Host.Outcome State Fault Refusal :=
  onUnit c 512 s ((s.loseLock c).deriveMode)

/-- WAIT_TO_RESTORE_EXPIRED (R114): an entry of the list has been QUALIFIED for WTR; the move follows at the next boundary. -/
def execWaitToRestoreExpired (entry : ListEntry) (s : State) : Host.Outcome State Fault Refusal :=
  onUnit entry.ch 512 s (
    let x := s.chan entry.ch
    let k := entry.idx
    if k < 8 then s.setChan entry.ch { x with wtrDone := k :: x.wtrDone.filter (· != k) } else s)

end Sys2Proof.Machine
end

