-- ==== Sys2Proof/Machine/Lookup.lean ====
section
/-! DEFINITION. The register map read backwards: which register a byte address, or the key of an indirect word, belongs to. -/

namespace Sys2Proof.Machine

/-- Every register; where two names share keys, the one listed first holds the keys it decodes. -/
def Rg.all : List Rg :=
  Rg.devRegs ++ Rg.clkRegs ++ Rg.rstRegs ++ Rg.msynRegs ++ Rg.calRegs ++ Rg.chRegs ++ Rg.outRegs ++ Rg.refinRegs ++ Rg.engRegs
    ++ Rg.twlRegs ++ Rg.mirRegs ++ Rg.parseRegs ++ Rg.pairRegs ++ Rg.mgmtRegs ++ Rg.snapRegs ++ Rg.indRegs

/-- The registers of a block, by its DEV_GATE bit (R330). -/
def Rg.ofBlock : Nat → List Rg
  | 0 => Rg.clkRegs | 1 => Rg.msynRegs | 2 => Rg.calRegs | 3 => Rg.chRegs | 4 => Rg.outRegs | 5 => Rg.refinRegs | 6 => Rg.engRegs
  | 7 => Rg.twlRegs | 8 => Rg.mirRegs | 9 => Rg.parseRegs | 10 => Rg.pairRegs | 11 => Rg.mgmtRegs | 12 => Rg.snapRegs
  | 13 => Rg.rstRegs | 14 => Rg.devRegs | _ => []

/-- The index that key `k` has in register `r`, if it is a key of it. -/
def Rg.indexOf (r : Rg) (k : Nat) : Option Nat :=
  let x := r.info
  if k < x.base then none
  else if x.stride = 0 then (if k = x.base then some 0 else none)
  else if (k - x.base) % x.stride = 0 ∧ (k - x.base) / x.stride < x.count then some ((k - x.base) / x.stride) else none

/-- A shared key belongs to the name that holds it: parameter words 0 to 31 and checkpoint words 32 to 127 of a channel (R139), words
0 to 16 and word 17 of a rule (R197), word 0 and words 1 to 31 of a template (R193). -/
def Rg.holds (r : Rg) (i : Nat) : Bool :=
  match r with
  | .PARAM => i % 512 < 32
  | .PERSIST => 32 ≤ i % 512 && i % 512 < 128
  | .RULE_A | .RULE_B => i % 32 < 17
  | .HIT_A | .HIT_B => i % 32 == 17
  | .TPL_OCT => i % 32 != 0
  | .PRESET => i % 8 < 6
  | _ => true

/-- The register that holds key `k`, among `rs`. -/
def Rg.find (k : Nat) : List Rg → Option (Rg × Nat)
  | [] => none
  | r :: rs =>
    match r.indexOf k with
    | some i => if r.holds i then some (r, i) else Rg.find k rs
    | none => Rg.find k rs

/-- The register and index of a key. -/
def Rg.ofKey (k : Nat) : Option (Rg × Nat) := Rg.find k Rg.all

/-- The bits of `r` that the host configures: classes CFG and CFH (R5). -/
def Rg.cfgMask (r : Rg) : Nat := r.info.cfg.lor r.info.cfh

/-- The configured bits of word `i` of `r`: parameter words, preset words and rule words differ in their reserved bits (R9, R83, R119,
R120, R197). Of words 16 to 31 of a parameter block the bits that any program names count (assumption 32). -/
def Rg.maskAt (r : Rg) (i : Nat) : Nat :=
  match r with
  | .PARAM => match i % 512 with
    | 0 => 0xFFFFF | 1 => 0xFFFFFF | 2 | 4 | 5 | 7 | 18 => 0xFFFFFFFF | 3 => 0xFFFF0007 | 6 => 0x1FFFF
    | 16 => 0xFFFF000F | 17 => 0xFFFFF | _ => 0
  | .PRESET => match i % 8 with
    | 4 => 0xFFFFFF | 5 => 0x3F1F | _ => 0xFFFFFFFF
  | .RULE_A | .RULE_B => if i % 32 = 16 then 0xFFF80000 else 0xFFFFFFFF
  | _ => r.cfgMask

/-- The word `old` with the bits of `mask` taken from `new`. -/
def mergeMask (old new : Word) (mask : Nat) : Word :=
  (old &&& ~~~(BitVec.ofNat 32 mask)) ||| (new &&& BitVec.ofNat 32 mask)

/-- Write the configured bits of the register that holds key `k`. -/
def State.putCfg (s : State) (k : Nat) (w : Word) : State :=
  match Rg.ofKey k with
  | some (r, i) => s.wr r i (mergeMask (s.rd r i) w (r.maskAt i))
  | none => s

end Sys2Proof.Machine
end

