-- ==== Sys2Proof/Machine/Hop.lean ====
section
/-! DEFINITION. Fast hopping (04): arming, the hop router, eligibility and commit, a hop at its edge E, hop records. -/

namespace Sys2Proof.Machine

/-! ### Presets and arming -/

/-- Word `w` of preset `i` of channel `c` (R83). -/
def State.presetWord (s : State) (c i w : Nat) : Word := s.rd .PRESET (c * 512 + i * 8 + w)

/-- The preset as the store holds it (R83). -/
def State.preset (s : State) (c i : Nat) : Preset :=
  let w5 := (s.presetWord c i 5).toNat
  { idx := i
    pnom := (s.presetWord c i 1).toNat * 2 ^ 32 + (s.presetWord c i 0).toNat
    pres := s.presetWord c i 2
    theta := s.presetWord c i 3
    divm1 := bitsOf (s.presetWord c i 4).toNat 23 0
    nextIdx := bitsOf w5 13 8
    chain := bitOf w5 4
    keepRate := bitOf w5 3
    ldDiv := bitOf w5 2
    ldPhofs := bitOf w5 1
    valid := bitOf w5 0 }

/-- R84: start an arming. -/
def State.startArming (s : State) (c i : Nat) : State :=
  s.setChan c { s.chan c with arming := some (s.preset c i) }

/-- R75: the driver's largest output frequency in Hz. -/
def driverLimit (type : Nat) : Nat :=
  match type with
  | 0 => 1250000000 | 1 => 400000000 | 2 => 1600000000 | _ => 250000000

/-- R71, R75: fM / (P × D) lies within the driver limit. -/
def freqOk (type p d : Nat) : Bool := 12800000000 * 2 ^ 40 ≤ driverLimit type * p * d

/-- R54: P0 within 8 and 2^24 − 2^-40. -/
def periodOk (p0 : Nat) : Bool := 8 * 2 ^ 40 ≤ p0 && p0 < 2 ^ 64

/-- R55: the residue words are in range. -/
def residueOk (w : Word) : Bool := CH_PRES.RDEN.of w < 2 || CH_PRES.RNUM.of w < CH_PRES.RDEN.of w

/-- R85: the checks of an arming. -/
def State.armOk (s : State) (c : Nat) (p : Preset) : Bool :=
  p.valid && periodOk p.pnom && residueOk p.pres
    && (List.range 128).all fun n =>
      !(s.get OUT_CFG.SRC n == c && s.on OUT_CFG.EN n)
        || freqOk (s.get OUT_DRV.TYPE n) p.pnom
            ((if s.on OUT_CFG.HOPDIV n && p.ldDiv then p.divm1 else s.get OUT_DIV.DIVM1 n) + 1)

/-- R84, R85: an arming completes into the armed slot, or leaves the slot empty. -/
def State.completeArming (s : State) (c : Nat) : State :=
  match (s.chan c).arming with
  | none => s
  | some p =>
    if s.armOk c p then s.setChan c { s.chan c with arming := none, armed := some p }
    else (s.setChan c { s.chan c with arming := none, armed := none }).inc .HOP_ARMFAIL_CNT

/-! ### Router and eligibility -/

/-- The gate of a group for a trigger source (R87). -/
inductive HopSrc where
  | pin | host | twl | engine | peer
  deriving DecidableEq, Repr

/-- The source bit of a hop record (R96): bit 0 pin, 1 host, 2 TWL, 3 engine, 4 peer. -/
def HopSrc.bit : HopSrc → Nat
  | .pin => 1 | .host => 2 | .twl => 4 | .engine => 8 | .peer => 16

/-- Whether group `g` is open for a source (R87). -/
def State.groupOpen (s : State) (src : HopSrc) (g : Nat) : Bool :=
  match src with
  | .pin => s.on HOP_GRP_CFG.EN g
  | .host => s.on HOP_GRP_CFG.EN g && s.on HOP_GRP_CFG.HOST_EN g
  | .twl => s.on HOP_GRP_CFG.EN g && s.on HOP_GRP_CFG.TWL_EN g
  | .engine => s.on HOP_GRP_CFG.EN g && s.on HOP_GRP_CFG.ENG_EN g
  | .peer => true

/-- R101: whether a trigger of a source is executed in the present mode; else it is ignored. A unit that has taken over still takes
the hops it had received (R100). -/
def State.hopExecuted (s : State) (src : HopSrc) : Bool :=
  match src with
  | .peer => s.mode == 7 || s.isRun
  | _ => (3 ≤ s.mode && s.mode ≤ 6) || s.mode == 8 || s.mode == 10

/-- A trigger's target (R86): one channel, or the members of a set of groups. -/
structure HopTarget where
  toChannel : Bool
  ch : Nat
  gmask : Nat
  deriving DecidableEq, Repr

/-- The target channels of a trigger and, per channel, whether its group gate is open. -/
def State.hopTargets (s : State) (src : HopSrc) (t : HopTarget) : List (Nat × Bool) :=
  if t.toChannel then [(t.ch, true)]
  else ((List.range 512).filter fun c => s.on CH_HOP.GRP_EN c && bitOf t.gmask (s.get CH_HOP.GROUP c)).map
    fun c => (c, s.groupOpen src (s.get CH_HOP.GROUP c))

/-- R211, R212: an event of the active joins the records that wait for a frame. SSEQ and EXEC come with the frame it leaves in; both units
execute it at its EXEC boundary. -/
def State.streamEvent (s : State) (r : PairRec) : State := { s with pair := { s.pair with out := s.pair.out ++ [r] } }

/-- R208: the length of a record in blocks. A COPY record holds its words, address and data, and the quantities of a channel in blocks of their
own (assumption 137). -/
def PairRec.blocks : PairRec → Nat
  | .hello .. => 3 | .role .. => 2 | .yield .. => 2 | .hop .. => 3 | .retire .. => 2 | .digest .. => 2
  | .epochOffer .. => 2 | .epochStart .. => 2 | .epochCommit .. => 2 | .epochAck .. => 2 | .epochAbort .. => 2 | .epochHandover .. => 2
  | .resetReq => 1 | .config _ _ ps _ => 1 + ps.length | .readings _ _ _ is => 2 + 2 * is.length
  | .message _ _ _ _ os => 4 + (os.length + 7) / 8 | .ql .. => 2 | .chdig .. => 129
  | .copy _ _ d => min 146 (22 + d.words.length + (d.checkpoint.length + 1) / 2) | .static _ ws => 2 + (ws.length + 1) / 2
  | .cloneRequest .. => 2 | .cloneData n => 1 + (n + 7) / 8

/-- R213: the octets of the waiting events. -/
def queueOctets (rs : List PairRec) : Nat := 8 * (rs.map PairRec.blocks).sum

/-- R213: CONFIG records have 16 KB of the queue's 64 KB to themselves; what they take beyond it, and every other event, fill the unreserved
48 KB. -/
def State.queueFull (s : State) : Bool :=
  let isConfig (r : PairRec) : Bool := match r with
    | .config .. => true
    | _ => false
  let es := s.pair.out.filter PairRec.isEvent
  decide (48 * 1024 ≤ queueOctets (es.filter fun r => !isConfig r) + (queueOctets (es.filter isConfig) - 16 * 1024))

/-- R211, R213: a message or an egress stamp enters the stream, or is dropped before either unit uses it. -/
def State.streamMessage (s : State) (f : Nat) (st : Stamp) (os : List Octet) : State :=
  if s.queueFull then s.inc .PAIR_EVQ_DROP_CNT else s.streamEvent (.message 0 0 f st os)

/-- R71: the channel that feeds edge generator `n`: the source in force while its output runs or starts. -/
def State.drivenBy (s : State) (n : Nat) : Nat := if s.get OUT_STS.STATE n = 0 then s.get OUT_CFG.SRC n else (s.out n).src

/-- R250: the instant H falls in the measure phase (0.2 to 3.4 ms) of an edge-generator item that channel `c` feeds. -/
def State.calHop (s : State) (c h : Nat) : State :=
  let k := s.get CAL_STS.ITEM
  let t := s.cal.itemMcc
  s.cond (decide (37 ≤ k) && k != 0xFF && s.drivenBy (k - 37) == c
      && decide (t + 200 * 12800 ≤ h) && decide (h < t + 3400 * 12800)) fun s =>
    { s with cal := { s.cal with hopDiscard := true } }

/-- R90: whether a trigger of the router cycle of instant `h` has met channel `c` already. -/
def State.hopMet (s : State) (h c : Nat) : Bool := s.dev.hopCyc.any fun x => x.1 == h && x.2.contains c

/-- R89, R90: a trigger of the router cycle of instant `h` meets channel `c`. -/
def State.hopMeet (s : State) (h c : Nat) : State :=
  { s with dev := { s.dev with hopCyc := match s.dev.hopCyc with
    | some (k, cs) => some (h, if k = h then c :: cs.filter (· != c) else [c])
    | none => some (h, [c]) } }

/-- R90: count an outcome of channel `c`, once for the triggers that one router cycle merges. -/
def State.hopCount (s : State) (h c : Nat) (r : Rg) : State := if s.hopMet h c then s else (s.inc r).hopMeet h c

/-- R90: a trigger of a source can act on channel `c`, its group gate apart. -/
def State.hopEligible (s : State) (src : HopSrc) (c : Nat) : Bool :=
  s.hopExecuted src && s.chEn c && s.on CH_HOP.HOP_EN c && (s.chan c).state != .frozen

/-- R89, R90: eligibility and commit of one target channel for the instant H. A trigger that meets a commit of the same ROOT cycle
joins its hop. -/
def State.hopChannel (s : State) (src : HopSrc) (h : Nat) (c : Nat) (gate : Bool) : State :=
  let x := s.chan c
  if !s.hopEligible src c || !gate then s.hopCount h c .HOP_IGNORED_CNT
  else
    match x.inflight with
    | some f =>
      if f.h = h then s.setChan c { x with inflight := some { f with sources := f.sources.lor src.bit } }
      else s.hopCount h c .HOP_BUSY_CNT
    | none =>
      match x.armed with
      | none => s.hopCount h c .HOP_NOARM_CNT
      | some p =>
        let s := ((s.setChan c { x with armed := none, inflight := some ⟨p, h, src.bit⟩ }).hopMeet h c).calHop c h
        if p.chain then s.startArming c p.nextIdx else s

/-- The channels that hold a hop committed for the instant H. -/
def State.committedAt (s : State) (h : Nat) : List Nat :=
  (List.range 512).filter fun c => (s.chan c).inflight.any (·.h == h)

/-- R102: HOP_GRP_CNT counts each group with a member that commits, once per instant. -/
def State.countGroups (s : State) (before after : List Nat) : State :=
  State.upto 16 (fun g s =>
    let member := fun c => s.on CH_HOP.GRP_EN c && s.get CH_HOP.GROUP c == g
    s.cond (after.any member && !before.any member) (·.inc .HOP_GRP_CNT g)) s

/-- The hop entry of R303 code 7. -/
def State.writeHop (s : State) (n : HopNote) : State :=
  let tgt := if n.toChannel then n.ch else n.gmask
  let s := s.log 7 3 0 (BitVec.ofNat 32 n.h) (BitVec.ofNat 32 (n.h / 2 ^ 32))
    (BitVec.ofNat 32 (tgt + (flag n.toChannel * 128 + n.sources) * 2 ^ 16 + n.idx * 2 ^ 24))
  { s with dev := { s.dev with hopLogTick := some s.dev.tick } }

/-- R97: at most one hop record every 2 µs, which are two ticks (assumption 120). -/
def State.hopRecord (s : State) (n : HopNote) : State :=
  if s.dev.hopLogTick.any fun k => decide (s.dev.tick < k + 2) then s.inc .HOP_LOGLOST_CNT else s.writeHop n

/-- R96, R97: at a boundary, the records of hops whose lowest-numbered channel has left its edge E behind (assumption 120). -/
def State.hopRecords (s : State) : State :=
  let due (n : HopNote) : Bool := !(s.chan n.first).inflight.any (·.h == n.h)
  let ns := s.dev.hopNotes.filter due
  let s := { s with dev := { s.dev with hopNotes := s.dev.hopNotes.filter fun n => !due n, hopCyc := none } }
  ns.foldl State.hopRecord s

/-- R230: a hop of an active whose standby joins takes its channels out of the joined ones, to be copied again. -/
def State.hopRecopy (s : State) (cs : List Nat) : State :=
  if s.pair.streaming && !s.peerInStep then
    { s with pair := { s.pair with
        recopy := s.pair.recopy.filter (!cs.contains ·) ++ cs.filter s.pair.joined.contains
        joined := s.pair.joined.filter (!cs.contains ·) } }
  else s

/-- R97: note a trigger whose target channels `cs` hold a hop for the instant H; triggers of one cycle with one target make one note. -/
def State.noteHop (s : State) (src : HopSrc) (t : HopTarget) (h : Nat) (cs : List Nat) : State :=
  match cs with
  | [] => s
  | c :: _ =>
    let same (n : HopNote) : Bool := n.h == h && n.toChannel == t.toChannel && n.ch == t.ch && n.gmask == t.gmask
    let idx := (s.chan c).inflight.elim 0 (·.preset.idx)
    let ahead := h - s.msyn.mcc
    let join (n : HopNote) : HopNote := if same n then
        { n with sources := n.sources.lor src.bit, first := min n.first c, idx := if c < n.first then idx else n.idx } else n
    let ns := if s.dev.hopNotes.any same then s.dev.hopNotes.map join
      else s.dev.hopNotes ++ [⟨h, t.toChannel, t.ch, t.gmask, src.bit, c, idx, s.dev.tick + ahead / 12800, ahead % 12800, src == .peer⟩]
    let s := s.hopRecopy cs
    { s with dev := { s.dev with hopNotes := ns } }

/-- R100, R208: the event stream carries each committed hop: tick and offset of H, target and sources. -/
def State.streamHops (s : State) : State :=
  let s' := s.dev.hopNotes.foldl (fun s n => if n.sent || !s.pair.streaming then s else
    s.streamEvent (.hop ⟨0, n.exec, n.ofs, n.toChannel, n.ch, n.gmask, n.sources, n.idx⟩)) s
  { s' with dev := { s'.dev with hopNotes := s.dev.hopNotes.map fun n => { n with sent := true } } }

/-- R87 to R90: one trigger in the router, for the instant H. Under L2 and wider no trigger is seen (R101). -/
def State.trigger (s : State) (src : HopSrc) (t : HopTarget) (h : Nat) : State :=
  if s.mode = 0 then s
  else
    let before := s.committedAt h
    let tg := s.hopTargets src t
    let s := tg.foldl (fun s cg => s.hopChannel src h cg.1 cg.2) s
    let now := s.committedAt h
    let s := s.countGroups before (now.filter (!before.contains ·))
    s.noteHop src t h (now.filter fun c => s.hopEligible src c && tg.any fun cg => cg.1 == c && cg.2)

/-- R89: the instant H of a trigger whose stage S + 2 falls in the ROOT cycle of master-cycle offset `cyc` of the tick: five ROOT
cycles later, and PAIR_LEAD ticks later while the peer is in STANDBY_STEP. -/
def State.instantH (s : State) (cyc : Nat) : Nat :=
  s.msyn.mcc + cyc / 8 * 8 + 40 + (if s.peerInStep then 12800 * s.get HOP_CTL.PAIR_LEAD else 0)

/-- HOP_PIN_EDGE (R88): a pin takes a new level, seen on two samples, the first at master-cycle offset `cyc` of the tick;
only the level that EDGE names is accepted. -/
def execHopPinEdge (pin : PinLevel) (cyc : Nat) (s : State) : Host.Outcome State Fault Refusal :=
  let p := pin.pin
  onUnit p 8 s (
    if s.mode = 0 ∨ ¬ s.on HOP_PIN_CFG.EN p ∨ pin.level = s.on HOP_PIN_CFG.EDGE p then s
    else if s.holdoff.contains p then s.inc .HOP_HOLDOFF_CNT
    else
      let s := s.inc .HOP_PIN_CNT p
      let s := s.cond (s.on HOP_PIN_CFG.HOLDOFF p) fun s => { s with holdoff := p :: s.holdoff }
      s.trigger .pin ⟨s.on HOP_PIN_CFG.TGT p, s.get HOP_PIN_CFG.CH p, 2 ^ s.get HOP_PIN_CFG.GROUP p⟩
        (s.instantH (cyc + 16)))

/-- HOP_HOLDOFF_EXPIRED (R88). -/
def execHopHoldoffExpired (p : Nat) (s : State) : Host.Outcome State Fault Refusal :=
  onUnit p 8 s { s with holdoff := s.holdoff.filter (· != p) }

/-- HOP_CMD.GO in the modes that execute it (R87, R101): the hardware clears GO as the trigger enters the router. -/
def State.hostHop (s : State) (w : Word) (cyc : Nat) : State :=
  let s := s.wr .HOP_CMD 0 (HOP_CMD.GO.put w 0)
  s.trigger .host ⟨HOP_CMD.TGT.of w != 0, HOP_CMD.CH.of w, HOP_CMD.GMASK.of w⟩ (s.instantH cyc)

/-- HOP_ARMING_COMPLETE (R84, R85). -/
def execHopArmingComplete (c : Nat) (s : State) : Host.Outcome State Fault Refusal := onUnit c 512 s (s.completeArming c)

/-! ### A hop at its edge -/

/-- Units of time that channel time advances in one master cycle are `tnom × 2^40 / p`; the edge E of the present tick: the
pattern multiple, channel time at E less the present time, and the part of the tick left after E. -/
structure EdgeE where
  m : Int
  dt : Nat
  restNum : Nat
  restDen : Nat
  deriving DecidableEq, Repr

/-- Master cycles from the boundary of the tick to E, at least 1. -/
def EdgeE.offset (e : EdgeE) : Nat := max 1 (12800 - 12800 * e.restNum / max 1 e.restDen)

/-- R89: edge E, the first pattern edge at or after H on the old pattern, when it falls inside the rest of the present tick or on
its end (R141). -/
def edgeAfter (x : Chan) (p0 mcc h : Nat) : Option EdgeE :=
  let tn := max 1 (tnomOf p0)
  let p := max 1 x.p
  -- master cycles from the channel's present point to H, times restDen
  let ahead := ((h : Int) - mcc) * x.restDen - 12800 * ((x.restDen : Int) - x.restNum)
  let a := ahead.toNat
  let u : Int := (x.time : Int) - x.thetaLive - x.anchor
  let num : Int := u * (x.restDen * p : Nat) + (a * tn * 2 ^ 40 : Nat)
  let den : Nat := x.restDen * p * tn
  let m : Int := -((-num) / (den : Int))
  let dt := (m * tn - u).toNat
  let k := tn * 2 ^ 40 * 12800
  if dt * p * x.restDen ≤ x.restNum * k then some ⟨m, dt, x.restNum * k - dt * p * x.restDen, x.restDen * k⟩ else none

/-- R94: an output takes the divider `d1` (D − 1) from its first rising edge after multiple `m`, which becomes its origin. A stopped
output, which has no period in progress, takes both at once. -/
def State.hopDivider (s : State) (n : Nat) (d1 : Nat) (m : Int) : State :=
  let dk := (s.out n).divAt (s.get OUT_DIV.DIVM1 n + 1) m
  let k := dk.2 + ((m - dk.2) / (dk.1 : Int) + 1) * (dk.1 : Int)
  if s.get OUT_STS.STATE n = 2 then s.setOut n { s.out n with divPend := some (d1, k) }
  else (s.set OUT_DIV.DIVM1 d1 n).setOut n { s.out n with divPend := none, k0 := k }

/-- R65: whether a pending word is a CFH field that the hop of channel `c` carries. -/
def State.hopCovers (s : State) (c : Nat) (p : Preset) (g : GWord) : Bool :=
  match g.r with
  | .CH_PNOM_LO | .CH_PNOM_HI | .CH_PRES => g.i == c
  | .CH_PHOFS => g.i == c && p.ldPhofs
  | .OUT_DIV => p.ldDiv && s.get OUT_CFG.SRC g.i == c && s.on OUT_CFG.HOPDIV g.i
  | _ => false

/-- R65: the pending words of a list that a hop leaves. -/
def State.keepWords (s : State) (c : Nat) (p : Preset) (ws : List GWord) : List GWord := ws.filter fun g => !s.hopCovers c p g

/-- R65: how many pending words of a list a hop discards. -/
def State.lostWords (s : State) (c : Nat) (p : Preset) (ws : List GWord) : Nat := (ws.filter fun g => s.hopCovers c p g).length

/-- The words of a CONFIG record as words of a group. -/
def configWords (ps : List (Nat × Word)) : List GWord :=
  ps.filterMap fun (kw : Nat × Word) => (Rg.ofKey kw.1).map fun (ri : Rg × Nat) => GWord.mk ri.1 ri.2 kw.2

/-- R65: a record of the event stream without the words that a hop discards. -/
def State.keepRecord (s : State) (c : Nat) (p : Preset) (r : PairRec) : PairRec :=
  match r with
  | .config n e ps g => .config n e (ps.filter fun kw => s.lostWords c p (configWords [kw]) == 0) g
  | r => r

/-- R65: how many words of a record a hop discards. -/
def State.lostRecord (s : State) (c : Nat) (p : Preset) (r : PairRec) : Nat :=
  match r with
  | .config _ _ ps _ => s.lostWords c p (configWords ps)
  | _ => 0

/-- R65: discard and count the pending words a hop rewrites, those that wait in the event stream too (assumption 127). -/
def State.dropPending (s : State) (c : Nat) (p : Preset) : State :=
  let lost := s.lostWords c p
  let n := lost s.dev.spi.open_ + lost s.dev.inb.open_ + (s.dev.groups.map fun g => lost g.words).sum
    + lost s.pair.cfgOpen + (s.pair.stream.map fun e => s.lostRecord c p e.ev).sum + (s.pair.out.map (s.lostRecord c p)).sum
  let s := { s with
    dev := { s.dev with
      spi := { s.dev.spi with open_ := s.keepWords c p s.dev.spi.open_ }
      inb := { s.dev.inb with open_ := s.keepWords c p s.dev.inb.open_ }
      groups := s.dev.groups.map fun (g : Group) => { g with words := s.keepWords c p g.words } }
    pair := { s.pair with
      cfgOpen := s.keepWords c p s.pair.cfgOpen
      stream := s.pair.stream.map fun (e : StreamEv) => { e with ev := s.keepRecord c p e.ev }
      out := s.pair.out.map (s.keepRecord c p) } }
  s.syncShadow.add .DEV_LOST_WRITES n

/-- R98: words that were pending at H do not apply at a boundary between H and E. -/
def State.hopPending (s : State) (c : Nat) : State :=
  match (s.chan c).inflight with
  | some f => if f.h ≤ s.msyn.mcc then s.dropPending c f.preset else s
  | none => s

/-! ### Phases across an offset step (R95) -/

/-- R95: the earliest next rising edge, as channel time after E, of an output whose last rising edge lies `el` of channel time before E:
neither phase in progress nor the next is shorter than half the shorter of the old and new output periods. Periods are products of a period
word and a divider; `tn0`, `p0` and `tn1`, `p1` are Tnom and P before and after. -/
def riseAfter (d0 p0 tn0 d1 p1 tn1 el : Nat) : Nat :=
  let least := min (d0 * p0) (d1 * p1)
  let need := if 2 * el < d0 * tn0 then 2 * least else d0 * p0 + least
  ceilDiv ((need * tn0 - 2 * el * p0) * tn1) (max 1 (2 * tn0 * p1))

/-- R95: output `n`, fed by channel `c` whose hop steps its offset at multiple `m` and channel time `te`, holds its level to the first
rising edge that keeps the guarantee. `x` and `p0` are the channel and its P0 before the hop; `d1` is the divider that follows. -/
def State.hopHold (s : State) (n c : Nat) (x : Chan) (p0 : Nat) (m te : Int) (d1 : Nat) : State :=
  let o := s.out n
  let dk := o.divAt (s.get OUT_DIV.DIVM1 n + 1) m
  let rise := o.lastRise (x.anchor + x.thetaLive + s.riseMultiple n m * (tnomOf p0 : Nat))
  let y := s.chan c
  let ahead := riseAfter dk.1 x.p (tnomOf p0) d1 y.p (tnomOf (s.p0 c)) (te - rise).toNat
  s.setOut n { o with hold := some (rise, te + ahead) }

/-- R95: a PPS pin's next pulse rises by the offset step `d` later or earlier than without the hop. -/
def State.hopPps (s : State) (m : Nat) (te d : Int) : State :=
  let o := s.ppsPin m
  let rise := o.lastRise (s.ppsPatternRise m te)
  let next := match o.hold with
    | some (a, b) => if a = rise then b else rise + (tuSec : Nat)
    | none => rise + (tuSec : Nat)
  s.setPps m { o with hold := some (rise, next + d) }

/-- R94: the divider that output `n` has after a hop on preset `p`. -/
def State.divAfter (s : State) (n : Nat) (p : Preset) (m : Int) : Nat :=
  if p.ldDiv && s.on OUT_CFG.HOPDIV n then p.divm1 + 1 else ((s.out n).divAt (s.get OUT_DIV.DIVM1 n + 1) m).1

/-- R95: the running outputs that channel `c` feeds, across an offset step at E. -/
def State.hopOutputs (s : State) (c : Nat) (p : Preset) (x : Chan) (p0 : Nat) (m te : Int) : State :=
  State.upto 128 (fun n s =>
    if (s.out n).src = c ∧ s.get OUT_STS.STATE n = 2 then s.hopHold n c x p0 m te (s.divAfter n p m) else s) s

/-- R95: the running PPS pins that channel `c` feeds. -/
def State.hopPpsPins (s : State) (c : Nat) (te d : Int) : State :=
  State.upto 16 (fun m s => if (s.ppsPin m).src = c ∧ bitOf (s.get OUT_PPS_STS.RUN) m then s.hopPps m te d else s) s

/-- R91 to R93: what the hop `f` makes of the channel at edge E. `old` is the P0 before it. -/
def Chan.hopped (x : Chan) (f : InFlight) (e : EdgeE) (old : Nat) : Chan :=
  let p := f.preset
  let theta : Int := signedOf 32 p.theta.toNat * (tuTheta : Nat)
  { x with
    p := if p.keepRate || x.state == .overcast then carryRate p.pnom x.p old else p.pnom
    resAcc := 0
    long := false
    time := addTime x.time e.dt
    restNum := e.restNum
    restDen := e.restDen
    anchor := (x.time + e.dt : Nat) - x.thetaLive - e.m * (tnomOf p.pnom : Nat)
    thetaLive := if p.ldPhofs then theta else x.thetaLive
    thetaTarget := if p.ldPhofs then theta else x.thetaTarget
    inflight := none
    hopDone := some f
    shown := some (x.shown.getD (x.time, x.p, old)) }

/-- R91: the words of the channel that a hop on preset `p` writes. -/
def State.hopWords (s : State) (c : Nat) (p : Preset) : State :=
  let s := s.wr .CH_PNOM_LO c (BitVec.ofNat 32 p.pnom)
  let s := s.wr .CH_PNOM_HI c (BitVec.ofNat 32 (p.pnom / 2 ^ 32))
  let s := s.wr .CH_PRES c p.pres
  s.cond p.ldPhofs (·.wr .CH_PHOFS c p.theta)

/-- R91 to R95: the hop `f` of channel `c` takes effect at edge E. -/
def State.takeHop (s : State) (c : Nat) (f : InFlight) (e : EdgeE) : State :=
  let p := f.preset
  let x := s.chan c
  let s := s.dropPending c p
  let old := s.p0 c
  let y := x.hopped f e old
  let te : Int := (x.time + e.dt : Nat)
  let d := y.thetaLive - x.thetaLive
  let s := s.cond (d != 0) (·.hopPpsPins c te d)
  let s := (((s.setChan c y).hopWords c p).syncPattern c).noteJump c ⟨s.dev.tick, e.offset, te, te⟩
  let s := s.cond (d != 0) (·.hopOutputs c p x old e.m te)
  s.cond p.ldDiv fun s => State.upto 128 (fun n s =>
    if s.get OUT_CFG.SRC n = c ∧ s.on OUT_CFG.HOPDIV n then s.hopDivider n p.divm1 e.m else s) s

/-- R98, R89: drop a hop in flight; it is counted and its preset is not restored. -/
def State.dropHop (s : State) (c : Nat) : State :=
  (s.setChan c { s.chan c with inflight := none }).inc .HOP_IGNORED_CNT

/-- HOP_TAKES_EFFECT (R89, R91 to R95, R98). While E has not come in the present tick, nothing happens. A channel that stands still has no
E: its hop is dropped at H, also where the channel was disabled after the commit (assumption 128). One whose E falls while it is FROZEN is
dropped at E. -/
def execHopTakesEffect (c : Nat) (s : State) : Host.Outcome State Fault Refusal :=
  onUnit c 512 s (
    let x := s.chan c
    match x.inflight with
    | none => s
    | some f =>
      if ¬ x.running ∨ ¬ s.chEn c then (if f.h < s.msyn.mcc + 12800 then s.dropHop c else s)
      else
        match edgeAfter x (s.p0 c) s.msyn.mcc f.h with
        | some e => if x.state = .frozen then s.dropHop c else s.takeHop c f e
        | none => s)

/-- R96: the record of a hop at the first boundary after E. -/
def State.hopBoundary (s : State) (c : Nat) : State :=
  let x := s.chan c
  match x.hopDone with
  | none => if x.hopFlag then s.setChan c { x with hopFlag := false } else s
  | some f =>
    let s := s.inc .CH_HOP_CNT c
    let a := Tab.get .reset s.mgmt.sec c
    let s := { s with
      mgmt := { s.mgmt with sec := Tab.set .reset s.mgmt.sec c { a with hops := a.hops + 1 } } }
    s.setChan c { s.chan c with
      hopDone := none, hopFlag := true, posted := none, restart := s.prog c != 6 || x.restart
      hopLast := some ⟨f.h, s.dev.tick, f.sources, f.preset.idx, (s.rd .CH_HOP_CNT c).toNat⟩ }

end Sys2Proof.Machine
end

