-- ==== Sys2Proof/Machine/Ref.lean ====
section
/-! DEFINITION. Reference inputs (05 R104 to R113): the qualification states, phase hits, lockout. -/

namespace Sys2Proof.Machine

/-- R108: move input `i` to a state; a move into NOSIG or FREQ from SOAK, QUALIFIED or HIT is counted. -/
def State.moveRef (s : State) (i st : Nat) : State :=
  let old := s.get REF_STS.STATE i
  let s := s.set REF_STS.STATE st i
  s.cond ((st == 1 || st == 2) && 3 ≤ old && old ≤ 5) (·.inc .REF_DISQ_CNT i)

/-- R113: input `i` restarts its checks, or turns OFF. -/
def State.restartRef (s : State) (i : Nat) : State :=
  (s.moveRef i (if s.on REF_CFG.EN i then 1 else 0)).setRefin i .reset

/-- An event of input `i` acts while the qualification machines run: not under L2 or wider (R135). -/
def onInput (i : Nat) (s : State) (f : State → State) : Host.Outcome State Fault Refusal :=
  onUnit i 36 s (if s.mode = 0 then s else f s)

/-- REFIN_ACTIVITY_TIMEOUT (R109). -/
def execRefinActivityTimeout (i : Nat) (s : State) : Host.Outcome State Fault Refusal :=
  onInput i s fun s =>
    let st := s.get REF_STS.STATE i
    if st = 0 ∨ st = 1 ∨ st = 6 then s else (s.moveRef i 1).setRefin i { s.refin i with gated := false }

/-- REFIN_SIGNAL_RETURN (R109): the input enters FREQ at the first edge, and its gate restarts. -/
def execRefinSignalReturn (i : Nat) (s : State) : Host.Outcome State Fault Refusal :=
  onInput i s fun s => if s.get REF_STS.STATE i = 1 then (s.moveRef i 2).setRefin i { s.refin i with gated := false } else s

/-- REFIN_FREQ_GATE_CLOSE (R110): `offset` is the fractional offset from FNOM in units of 10^-12. -/
def execRefinFreqGateClose (i : Nat) (offset : Int) (s : State) : Host.Outcome State Fault Refusal :=
  onInput i s fun s =>
    let st := s.get REF_STS.STATE i
    if 2 ≤ st ∧ st ≤ 5 then
      let win := s.get REF_QUAL.WIN i
      let s := s.wr .REF_FOFS i (BitVec.ofInt 32 (clampInt offset (-(2 ^ 31)) (2 ^ 31 - 1)))
      let s := s.setRefin i { s.refin i with gated := true }
      if st = 2 then
        if offset.natAbs * 100 ≤ win * 100000 * (100 - s.get REF_HIT.HYST i) then s.moveRef i 3 else s
      else if win * 100000 < offset.natAbs then s.moveRef i 2 else s
    else s

/-- REFIN_SOAK_EXPIRED (R112). -/
def execRefinSoakExpired (i : Nat) (s : State) : Host.Outcome State Fault Refusal :=
  onInput i s fun s => if s.get REF_STS.STATE i = 3 then s.moveRef i 4 else s

/-- REFIN_HIT_HOLD_EXPIRED (R111). -/
def execRefinHitHoldExpired (i : Nat) (s : State) : Host.Outcome State Fault Refusal :=
  onInput i s fun s => if s.get REF_STS.STATE i = 5 then s.moveRef i 4 else s

/-- REFIN_HIT_PERSIST_EXPIRED (R111). -/
def execRefinHitPersistExpired (i : Nat) (s : State) : Host.Outcome State Fault Refusal :=
  onInput i s fun s => if s.get REF_STS.STATE i = 5 then s.moveRef i 2 else s

/-- TDC_EDGE_DROP (R105). -/
def execTdcEdgeDrop (i : Nat) (s : State) : Host.Outcome State Fault Refusal :=
  onInput i s fun s => if s.on REF_CFG.EN i then s.inc .REFIN_TDC_DROP_CNT else s

/-- R113: LOCKOUT. -/
def State.lockoutRef (s : State) (i : Nat) : State := s.moveRef i 6

/-- R113: RELEASE, from LOCKOUT only. -/
def State.releaseRef (s : State) (i : Nat) : State := if s.get REF_STS.STATE i = 6 then s.restartRef i else s

/-- The configuration words of an input in map order. -/
def refWord : Nat → Rg
  | 0 => .REF_CFG | 1 => .REF_FNOM | 2 => .REF_QUAL | _ => .REF_HIT

/-- R134, R136: whether a configuration word is inside its ranges. -/
def refWordOk (word : Nat) (w : Word) : Bool :=
  match word with
  | 0 => true
  | 1 => 1 ≤ REF_FNOM.FNOM.of w && REF_FNOM.FNOM.of w ≤ 1250000000
  | 2 => 1 ≤ REF_QUAL.WIN.of w && REF_QUAL.WIN.of w ≤ 10000
  | _ => REF_HIT.HYST.of w ≤ 50 && 1 ≤ REF_HIT.HIT_HOLD.of w && 1 ≤ REF_HIT.HIT_THR.of w

/-- R113: a configuration word is written and the checks restart, but in LOCKOUT. -/
def State.writeRef (s : State) (i word : Nat) (w : Word) : State :=
  let s := s.wr (refWord word) i w
  if s.get REF_STS.STATE i = 6 then s else s.restartRef i

/-! ### Phase hits (R111) -/

/-- Whether the fresh timestamp `ts` departs from the edge predicted from `last` by more than HIT_THR. The prediction counts whole
periods of the last gate's frequency; the departure is taken modulo the expected period at the TDC. Times are in units of 2^-16
master cycle. -/
def isHit (prediv fnom thrNs : Nat) (fofs : Int) (last ts : Int) : Bool :=
  let k : Int := 10 ^ 12 + fofs
  let n : Int := (prediv * 12800000000 * 65536 : Nat)
  let d := (ts - last) * fnom * k
  let pm := n * 10 ^ 12
  let r := d - (2 * d + pm) / (2 * pm) * pm
  let pe := n * k
  let r := if 2 * r ≤ -pe then r + pe else if pe < 2 * r then r - pe else r
  decide ((thrNs * 8388608 * fnom : Nat) * k < (r.natAbs : Int) * 10)

/-- R106: a reading is fresh when an edge was accepted and the TDC was not stale over the span. -/
def Reading.isFresh (r : Reading) : Bool := r.fresh && decide (1 ≤ r.edges)

/-- R217: what the timebase trim adds to the master-cycle count, in units of 2^-16 cycle: the sum of ρ since pacing started, and ψ at 12.8
cycles a nanosecond. -/
def State.trimOfs (s : State) : Int := s.pair.trimAcc / 2 ^ 24 + signedOf 32 (s.get PAIR_PHASE.PSI) * 64 / 5

/-- R217: the instant at which an edge, or a PPS edge, that the trimmed count puts at `t` is placed, in units of 2^-16 master cycle. -/
def State.placedAt (s : State) (t : Int) : Int := t - s.trimOfs

/-- R111, R217: a fresh reading of input `i`, stamped in the trimmed count, is checked for a hit and becomes the previous reading. -/
def State.readInput (s : State) (i : Nat) (r : Reading) : State :=
  if !Reading.isFresh r || s.on REF_STS.STALE i then s
  else
    let x := s.refin i
    let ts := r.ts + s.trimOfs
    let hit := x.gated && x.lastTs.any fun last =>
      isHit (s.get REF_CFG.PREDIVM1 i + 1) (max 1 (s.get REF_FNOM.FNOM i)) (s.get REF_HIT.HIT_THR i)
        (signedOf 32 (s.get REF_FOFS.FOFS i)) last ts
    let s := s.setRefin i { x with lastTs := some ts }
    if hit then
      let s := s.inc .REF_HIT_CNT i
      if s.get REF_STS.STATE i = 4 then s.moveRef i 5 else s
    else s

end Sys2Proof.Machine
end

