-- ==== Sys2Proof/Machine/Engine.lean ====
section
/-! DEFINITION. Loop engines (05 R116 to R132): iterations and posts, the collector, retirement, spares, the scrub. -/

namespace Sys2Proof.Machine

/-- The engine that serves channel `c`. -/
def State.engineOf (s : State) (c : Nat) : Nat := s.get ENG_CHMAP.ENGIDX c

/-- Whether engine `e` is retired. -/
def State.engRetired (s : State) (e : Nat) : Bool :=
  if e < 512 then bitOf (s.rd .ENG_RETIRED (e / 32)).toNat (e % 32) else bitOf (s.get ENG_RETIRED16.BITS) (e - 512)

/-- R129: a program that posts results: 1 to 4 and 6. -/
def progPosts (prog : Nat) : Bool := (1 ≤ prog && prog ≤ 4) || prog == 6

/-- The channel that engine `e` serves or loads for (R130). -/
def State.channelOf (s : State) (e : Nat) : Option Nat :=
  (List.range 512).find? fun c => s.engineOf c == e || (s.chan c).takeover.any (·.spare == e)

/-- R231: the retiring unit tells its peer and both place the channel under repair. -/
def State.repairNotice (s : State) (c : Nat) : State :=
  if s.on PAIR_STS.FORMED && (s.on PAIR_STS.IN_STEP || s.get PAIR_EPOCH_STS.PHASE != 0) then
    let t := s.dev.tick + 1 + (if s.isStandby then s.get PAIR_REL.TICK_OFS else 0)
    { s with pair := { s.pair with
        out := s.pair.out ++ [PairRec.retire c (t % 2 ^ 32)]
        repair := (c, t % 2 ^ 32) :: s.pair.repair.filter (·.1 != c)
        copied := s.pair.copied.filter (· != c), joined := s.pair.joined.filter (· != c) } }
  else s

/-- The counter of a retirement cause; a RETIRE command has none of its own (R129). -/
def retireCounter : Nat → Option Rg
  | 1 => some .ENG_PARITY_CNT | 2 => some .ENG_WDOG_CNT | 3 => some .ENG_PLAUS_CNT
  | 4 => some .ENG_DMEM_UNC_CNT | 5 => some .ENG_OVERRUN_CNT | _ => none

/-- R219: set an evidence flag of the running digest interval: 1 memory error, 2 lockstep, 4 CRC mismatch, 8 retirement of
cause 1 or 3, 16 master unlock. -/
def State.evidence (s : State) (bit : Nat) : State :=
  { s with pair := { s.pair with evidence := s.pair.evidence.lor bit } }

/-- R130: halt engine `e` and mark it retired. -/
def State.markRetired (s : State) (e : Nat) : State :=
  if e < 512 then s.wr .ENG_RETIRED (e / 32) (BitVec.ofNat 32 (withBit (s.rd .ENG_RETIRED (e / 32)).toNat (e % 32) true))
  else (s.setBit ENG_RETIRED16.BITS (e - 512) true).setBit ENG_SPARE_FREE.BITS (e - 512) false

/-- R130: write ENG_LAST_RETIRE and the event-log entry. -/
def State.retireRecord (s : State) (cause e : Nat) (idle nospare : Bool) (spare ch : Nat) : State :=
  let w := BitVec.ofNat 32 (cause * 2 ^ 29 + flag idle * 2 ^ 28 + flag nospare * 2 ^ 27 + spare * 2 ^ 23 + e * 2 ^ 13 + ch)
  (s.wr .ENG_LAST_RETIRE 0 w).log 6 6 1 w 0 0

/-- R129, R130: retire engine `e`. -/
def State.retire (s : State) (e cause : Nat) : State :=
  if s.engRetired e then s
  else
    let owner := s.channelOf e
    let s := (s.markRetired e).inc .ENG_RETIRE_CNT
    let s := (retireCounter cause).elim s (fun r => s.inc r)
    let n := min 17 (s.get ENG_POOL.RETIRED + 1)
    let s := s.set ENG_POOL.RETIRED n
    let s := { s with posts := s.posts.filter (·.2 != e) }
    let s := s.cond (cause == 1 || cause == 3) (·.evidence 8)
    let s := s.cond (cause == 4) fun s => { s.evidence 1 with dev := { (s.evidence 1).dev with badDmem := e :: s.dev.badDmem } }
    let s := match owner with
      | none => s.retireRecord cause e true false 0 0
      | some c =>
        match lowestBit (s.get ENG_SPARE_FREE.BITS) 16 0 with
        | some sp =>
          let s := s.setBit ENG_SPARE_FREE.BITS sp false
          let s := s.setChan c { s.chan c with
            posted := none, freezePend := true, takeover := some ⟨512 + sp, false, false⟩ }
          (s.retireRecord cause e false false sp c).repairNotice c
        | none =>
          let s := s.setChan c { s.chan c with posted := none, freezePend := true, takeover := none }
          (s.retireRecord cause e false true 0 c).repairNotice c
    let s := s.set ENG_POOL.SPARES_FREE (popCount (s.get ENG_SPARE_FREE.BITS) 16)
    s.cond (n == 17) (·.enterBasic 1)

/-- R130: retirement events act while the engines are out of reset. -/
def onEngine (e : Nat) (s : State) (f : State → State) : Host.Outcome State Fault Refusal :=
  onUnit e 528 s (if s.mode = 0 ∨ s.mode = 11 then s else f s)

/-- ENGINE_PARITY_ERROR (R129 cause 1). -/
def execEngineParityError (e : Nat) (s : State) : Host.Outcome State Fault Refusal := onEngine e s (·.retire e 1)

/-- ENGINE_WATCHDOG_EXPIRED (R129 cause 2). -/
def execEngineWatchdogExpired (e : Nat) (s : State) : Host.Outcome State Fault Refusal := onEngine e s (·.retire e 2)

/-- ENGINE_DMEM_UNCORRECTABLE (R129 cause 4). -/
def execEngineDmemUncorrectable (e : Nat) (s : State) : Host.Outcome State Fault Refusal := onEngine e s (·.retire e 4)

/-- ENGINE_OVERRUN (R129 cause 5): only an engine that serves a channel whose program posts results can overrun. -/
def execEngineOverrun (e : Nat) (s : State) : Host.Outcome State Fault Refusal :=
  onEngine e s fun s => if (s.channelOf e).any fun c => progPosts (s.prog c) then s.retire e 5 else s

/-- SPARE_LOAD_COMPLETE (R130 step 2): hardware writes ENGIDX with the spare's index. -/
def execSpareLoadComplete (c : Nat) (s : State) : Host.Outcome State Fault Refusal :=
  onUnit c 512 s (
    let x := s.chan c
    match x.takeover with
    | some t => if t.loaded then s
      else ((s.set ENG_CHMAP.ENGIDX t.spare c).runDmem t.spare).setChan c { x with takeover := some { t with loaded := true } }
    | none => s)

/-- PSTORE_SCRUB (R116): corrected words are counted; an uncorrectable error leads to BASIC. -/
def execPstoreScrub (corrected : Nat) (uncorrectable : Bool) (s : State) : Host.Outcome State Fault Refusal :=
  done (if s.on ENG_CTL.SCRUB_EN ∧ s.mode ≠ 0 ∧ s.mode ≠ 11 then
      let s := s.add .ENG_PSTORE_CORR_CNT corrected
      if uncorrectable then ((s.evidence 1).set ENG_POOL.PSTORE_OK 0).enterBasic 4 else s
    else s)

/-! ### Iterations (R122, R123, R126) -/

/-- R122: the iteration interval K of channel `c`. -/
def State.interval (s : State) (c : Nat) : Nat := max 1 (bitsOf (s.param c 0) 19 0)

/-- R122, R48: an iteration of channel `c` is due in the present tick: engines run, the master was locked at its boundary, the program posts results
and steers or holds the channel, and the tick is t0 + m K. -/
def State.iterationDue (s : State) (c : Nat) : Bool :=
  let x := s.chan c
  s.enginesRun && s.msyn.lockTick && s.chEn c && progPosts (s.prog c) && x.posted.isNone
    && !s.engRetired (s.engineOf c)
    && (match x.state with
      | .acq | .lock | .overcast => true
      | .frozen => x.takeover.any (·.started) && x.held != .free
      | .free => false)
    && x.t0.any fun t => decide (t ≤ s.dev.tick) && (s.dev.tick - t) % s.interval c == 0

/-- The input that the engine of channel `c` reads (R106, R118), as an input index. -/
def State.inputOf (s : State) (c : Nat) : Option Nat :=
  if s.prog c = 4 then some (s.xpInput c)
  else if s.on ENG_CHMAP.SEL_VALID c && s.get ENG_CHMAP.SEL c < 36 then some (s.get ENG_CHMAP.SEL c)
  else none

/-- R158, R159: the offsets of the exchanges that the flow selected by channel `c` has completed since the channel's last iteration, newest
first, in units of 2^-16 ns. -/
def State.offsetsDone (s : State) (c : Nat) : List Int :=
  ((s.flow (s.get ENG_CHMAP.SEL c - 64)).done.filter (·.1 == c)).map (·.2)

/-- R122, R158: what an iteration of channel `c` measures, in units of 2^-8 ns. One exchange gives a two-way servo its offset; what a
program makes of several, and of readings, is the program's own `ph`. -/
def State.measured (s : State) (c : Nat) (ph : Int) : Int :=
  match s.prog c, s.offsetsDone c with
  | 1, [o] => o.tdiv 256
  | _, _ => ph

/-- R123, R212: the stream has brought a fresh reading of input `i` since the last iteration of channel `c`, and no stale one. -/
def State.streamFresh (s : State) (c i : Nat) : Bool :=
  let e := Tab.get (0, 0) s.pair.seen i
  let since (k : Nat) : Bool := decide (s.dev.tick + 1 < k + s.interval c)
  e.1 != 0 && since e.1 && !(e.2 != 0 && since e.2)

/-- R123: whether the iteration measures: a fresh reading of an input that is neither stale nor in HIT, or, for the two-way servo, an
exchange completed since the last iteration. In step the reading is the stream's (R212, R215). -/
def State.iterFresh (s : State) (c : Nat) (rd : Reading) : Bool :=
  match s.inputOf c with
  | some i =>
    !s.inHit c i &&
      (if s.streamsFor c then s.streamFresh c i
       else Reading.isFresh rd && !s.on REF_STS.STALE i)
  | none => s.prog c == 1 && s.on ENG_CHMAP.SEL_VALID c && !(s.offsetsDone c).isEmpty

/-- R125: whether what the channel iterates on is QUALIFIED. -/
def State.iterQualified (s : State) (c : Nat) : Bool :=
  if s.prog c = 4 then s.qualified c (s.xpInput c) else s.on ENG_CHMAP.SEL_VALID c && s.qualified c (s.get ENG_CHMAP.SEL c)

/-- R122: the phase error of an iteration that measures `ph`: against the build-out zero for a frequency program, against TOFS (in ps) for
a pair follower. -/
def State.phaseError (s : State) (c : Nat) (zero ph : Int) : Int :=
  if s.freqProg c then ph - zero
  else if s.prog c = 4 then (ph * 1000 - signedOf 16 (bitsOf (s.param c 16) 31 16) * 256).tdiv 1000
  else ph

/-- R368: the period word an iteration starts from; a FROZEN channel whose P0 has changed counts from the word it will leave with. -/
def Chan.baseP (x : Chan) (p0 : Nat) : Nat := if x.state = .frozen then thawP x p0 x.held else x.p

/-- R122: the program's clamp of a period word `p` of channel `c`. -/
def State.clampPeriod (s : State) (c p : Nat) : Nat :=
  clampP (s.p0 c) ((s.chan c).baseP (s.p0 c)) (bitsOf (s.param c 2) 31 16) (s.param c 7) p

/-- R118: the period word that a hybrid servo takes from the rate of its source channel. -/
def State.hybridP (s : State) (c : Nat) : Nat :=
  let f := bitsOf (s.param c 16) 24 16
  periodOf (s.p0 c) (rate80 (s.p0 f) (s.chan f).p)

/-- R115, R118: what the two-way servo asks for on a time offset `e` (2^-8 ns): a step beyond STEP_THR, an adjustment otherwise, and in
hybrid mode the frequency of the source channel. -/
def State.servoResult (s : State) (c : Nat) (r : EngResult) (e : Int) : EngResult :=
  let thr := s.param c 18
  let r := if bitOf (s.param c 16) 3 then { r with p := s.clampPeriod c (s.hybridP c) } else r
  if thr ≠ 0 ∧ thr * 256 < e.natAbs then { r with step := some (r.step.getD (-(e * 256))), adj := 0 }
  else { r with step := none }

/-- R115, R122, R123, R126: the result that the iteration posts. In OVERCAST the period comes from the estimate and its drift; a
no-measurement iteration holds its frequency; one that takes its build-out zero moves no phase. -/
def State.iterResult (s : State) (c : Nat) (r : EngResult) (e : Int) (fresh joins : Bool) : EngResult :=
  let x := s.chan c
  let st := if x.state == .frozen then x.held else x.state
  let still (p : Nat) : EngResult := { r with p := s.clampPeriod c p, adj := 0, step := none }
  if st = .overcast then still (periodOf (s.p0 c) (x.ovcRateAt s.dev.tick))
  else if !fresh then still (x.baseP (s.p0 c))
  else if joins then { r with adj := 0, step := none }
  else if s.prog c = 1 then s.servoResult c r e
  else r

/-- R115: whether the next iteration of channel `c` takes its phase difference as its zero. -/
def State.takesZero (s : State) (c : Nat) : Bool := (s.chan c).rezero && s.freqProg c

/-- R122: the post of channel `c` at offset `ofs`: the zero it took, what applies at the next boundary, and what its iteration used up. -/
def State.post (s : State) (c ofs : Nat) (q : Posted) (zero : Int) (joins : Bool) : State :=
  let x := s.chan c
  let s := s.setChan c { x with
    posted := some q, restart := false, zero := zero, rezero := x.rezero && !joins
    lastFresh := if q.fresh && s.iterQualified c then some s.dev.tick else x.lastFresh }
  { s.spendExchanges c with posts := s.posts ++ [(ofs, s.engineOf c)] }

/-- R122: one iteration of channel `c`: the reading, the checks of the post, and the post itself. -/
def State.iterate (s : State) (c : Nat) (rd : Reading) (r : EngResult) : State :=
  let e := s.engineOf c
  let s := (s.runDmem e).add .ENG_DMEM_CORR_CNT r.corrected
  let s := if s.fromStream c then s else (s.inputOf c).elim s fun i => s.readInput i rd
  let fresh := s.iterFresh c rd
  let joins := s.takesZero c
  let ph := s.measured c r.phase
  let zero := if joins then ph else (s.chan c).zero
  let err := s.phaseError c zero ph
  let res := s.iterResult c r err fresh joins
  if 380 < r.offset then s.retire e 5
  else if !r.checkOk
      || !clampOk (s.p0 c) ((s.chan c).baseP (s.p0 c)) res.p (bitsOf (s.param c 2) 31 16) (s.param c 7) then s.retire e 3
  else s.post c r.offset ⟨res, err, s.dev.tick + 1, fresh, false⟩ zero joins

/-- ENGINE_ITERATION (R122, R123, R129). A reading belongs to the engine's input; the result is the program's. -/
def execEngineIteration (c : Nat) (rd : Reading) (r : EngResult) (s : State) : Host.Outcome State Fault Refusal :=
  onUnit c 512 s (if s.iterationDue c then s.iterate c rd r else s)

/-! ### The collector (R132) -/

/-- The smallest engine index of a list of posts. -/
def lowestPost (ps : List (Nat × Nat)) : Option (Nat × Nat) :=
  ps.foldl (fun b p => match b with
    | none => some p
    | some q => if p.2 < q.2 then some p else some q) none

/-- Accept up to `n` waiting posts, lowest engine index first. -/
def acceptPosts : Nat → List (Nat × Nat) → List (Nat × Nat)
  | 0, ps => ps
  | n + 1, ps =>
    match lowestPost ps with
    | none => []
    | some p => acceptPosts n (ps.filter (·.2 != p.2))

/-- The collector over the cycles of a tick from offset `t`: posts still waiting at its end, the largest number waiting in a cycle,
and the offset at which the last result joined the release set. -/
def drain : Nat → Nat → List (Nat × Nat) → Nat → Nat → List (Nat × Nat) × Nat × Nat
  | 0, _, ps, hwm, last => (ps, hwm, last)
  | f + 1, t, ps, hwm, last =>
    let here := ps.filter (·.1 ≤ t)
    let kept := acceptPosts 32 here
    drain f (t + 1) (kept ++ ps.filter (t < ·.1)) (max hwm here.length) (if here.isEmpty then last else t + 1)

/-- R132 at a boundary: the engines whose results missed the release set; ENG_COLL shows the tick just ended. -/
def State.collect (s : State) : List Nat × State :=
  if s.posts.isEmpty then ([], s.wr .ENG_COLL 0 0)
  else
    let d := drain 399 0 s.posts 0 0
    let s := ({ s with posts := [] }.set ENG_COLL.HWM d.2.1).set ENG_COLL.LAST_JOIN d.2.2
    (d.1.map (·.2), s)

end Sys2Proof.Machine
end

