-- ==== Sys2Proof/Machine/Message.lean ====
section
/-! DEFINITION. The octets of what the device sends on the mirror transmit lanes: PTP messages, ESMC PDUs and in-band responses from their
fields, the transmit header of R190 and the FCS. -/

namespace Sys2Proof.Machine

/-- Field `k` of a message; 0 for one it does not carry. -/
def OutMsg.field (m : OutMsg) (k : Nat) : Int := (m.body.find? (·.1 == k)).elim 0 (·.2)

/-- Field `k` of a message in `n` octets, most significant first. -/
def OutMsg.be (m : OutMsg) (k n : Nat) : List Octet := octetsBe (fieldOf (8 * n) (m.field k)) n

/-- The timestamp of a message: 48 bits of seconds and 32 of nanoseconds. -/
def OutMsg.timestamp (m : OutMsg) : List Octet := m.be 2 6 ++ m.be 3 4

/-- IEEE 1588-2019 clause 13 (assumption 22): messageType, controlField and body of the messages of R156 and R159. -/
def OutMsg.ptpParts (m : OutMsg) : Nat × Nat × List Octet :=
  match m.kind with
  | .sync _ => (0, 0, octetsBe 0 10)
  | .delayReq _ => (1, 1, octetsBe 0 10)
  | .pdelayReq _ => (2, 5, octetsBe 0 20)
  | .pdelayResp _ => (3, 5, m.timestamp ++ m.be 14 10)
  | .followUp _ => (8, 2, m.timestamp)
  | .delayResp _ => (9, 3, m.timestamp ++ m.be 14 10)
  | .pdelayRespFollowUp _ => (10, 5, m.timestamp ++ m.be 14 10)
  | _ => (11, 5, octetsBe 0 10 ++ m.be 17 2 ++ [0] ++ m.be 7 1 ++ m.be 5 1 ++ m.be 15 1 ++ m.be 16 2 ++ m.be 8 1 ++ m.be 9 8
      ++ m.be 6 2 ++ m.be 18 1)

/-- Whether a message has the twoStepFlag: a Sync or Pdelay_Resp that a Follow_Up follows. -/
def OutMsg.twoStep (m : OutMsg) : Bool :=
  match m.kind with
  | .sync _ | .pdelayResp _ => !m.oneStep
  | _ => false

/-- A PTP message: the common header and the body. -/
def OutMsg.ptp (m : OutMsg) : List Octet :=
  let p := m.ptpParts
  octetsBe p.1 1 ++ [2] ++ octetsBe (34 + p.2.2.length) 2 ++ m.be 13 1 ++ [0] ++ octetsBe (flag m.twoStep * 2) 1 ++ m.be 19 1 ++ m.be 31 8
    ++ octetsBe 0 4 ++ m.be 30 10 ++ m.be 1 2 ++ octetsBe p.2.1 1 ++ m.be 10 1 ++ p.2.2

/-- R160, ITU-T G.8264 (assumption 22): an ESMC PDU: the QL TLV, and the enhanced QL TLV where there is an enhanced code. -/
def OutMsg.esmc (m : OutMsg) : List Octet :=
  let event := match m.kind with
    | .esmcEvent _ => 0x18
    | _ => 0x10
  let enhanced := if m.field 12 = 0 then []
    else [2] ++ octetsBe 20 2 ++ m.be 12 1 ++ m.be 9 8 ++ m.be 33 1 ++ m.be 34 1 ++ m.be 35 1 ++ octetsBe 0 5
  let os := [0x0A] ++ octetsBe 0x0019A7 3 ++ octetsBe 1 2 ++ octetsBe event 1 ++ octetsBe 0 3 ++ [1] ++ octetsBe 4 2 ++ m.be 11 1 ++ enhanced
  os ++ List.replicate (46 - os.length) 0

/-- The operations of an in-band response: the fields of each stand together, from 27 OPC to 26 DATA1. -/
def inbandOps : List (Nat × Int) → List Octet
  | (27, opc) :: (28, a) :: (24, st) :: (25, d0) :: (26, d1) :: r =>
    octetsBe opc.toNat 1 ++ octetsBe a.toNat 3 ++ octetsBe st.toNat 1 ++ octetsBe 0 3 ++ octetsBe d0.toNat 4 ++ octetsBe d1.toNat 4
      ++ inbandOps r
  | _ => []

/-- R312: an in-band response; its MAC is that of a key the spec does not give. -/
def OutMsg.inband (m : OutMsg) : List Octet :=
  let ops := inbandOps (m.body.drop 5)
  let os := octetsBe 0x4D47 2 ++ [1] ++ m.be 20 1 ++ m.be 22 4 ++ m.be 29 8 ++ m.be 23 8 ++ octetsBe (ops.length / 16) 2 ++ m.be 21 1 ++ [0] ++ ops
  os ++ octetsBe (Config.inbandMac os) 32

/-- What follows the link-layer and network headers of a message. -/
def OutMsg.payload (m : OutMsg) : List Octet :=
  match m.kind with
  | .esmcInfo _ | .esmcEvent _ | .esmcDnu _ => m.esmc
  | .inbandResponse => m.inband
  | _ => m.ptp

/-- R190: the transmit header. -/
def OutMsg.txHeader (m : OutMsg) : List Octet :=
  let ofs := if m.hkind ≤ 1 then m.hdr.length else 0
  octetsBe (m.tag % 2 ^ 16 * 2 ^ 112 + m.channel % 512 * 2 ^ 103 + m.port % 1024 * 2 ^ 93 + m.pgroup % 64 * 2 ^ 87 + m.dest % 4 * 2 ^ 85
    + flag m.oneStep * 2 ^ 83 + m.hkind % 8 * 2 ^ 80 + ofs % 256 * 2 ^ 72 + m.seq % 2 ^ 16) 16

/-- R190: a message as it leaves: the transmit header, the frame, and an FCS over both. -/
def OutMsg.octets (m : OutMsg) : List Octet :=
  let os := m.txHeader ++ m.hdr ++ m.payload
  os ++ octetsLe (crc32 os).toNat 4

end Sys2Proof.Machine
end

