-- ==== Sys2Proof/Machine/Twl.lean ====
section
/-! DEFINITION. Time distribution (06, and the transmit path of 07): which ticks carry time words, the return lane, tags, stamp
conversion, PTP flows and their exchanges, origin streams and responders, ESMC. -/

namespace Sys2Proof.Machine

/-! ### Lanes and the return lane -/

/-- R22, R146, R279: whether the mode lets the TWL carry time words. -/
def State.twlCarries (s : State) : Bool :=
  match s.mode with
  | 0 => s.rst.level == 3 && !s.rst.cold
  | 1 => s.get RST_BOOT_STS.KIND == 2
  | 2 => s.on OUT_CTL.EARLY && s.msyn.everLocked
  | 11 => false
  | _ => true

/-- R143, R146: the lane frames of the tick's time words leave, or the lanes carry idle blocks. -/
def State.sendTimeWords (s : State) : State :=
  let go := s.twlCarries && s.on TWL_CTL.TX_EN
  let s := s.setB TWL_STS.FRAMES go
  { s with twl := { s.twl with frameTick := if go then some s.dev.tick else none, sent := [] } }

/-- R148: the return lane is read: RX_EN, block lock, no reset of the block. -/
def State.rxReads (s : State) : Bool := s.on TWL_CTL.RX_EN && s.on TWL_STS.RX_LOCK && s.mode != 0

/-- R148: the sequence check of a message whose CRC passes. -/
def State.rxSequence (s : State) (seq : Nat) : State :=
  let gap := s.twl.rxSeq.any fun p => (p + 1) % 65536 != seq % 65536
  let s := s.cond gap (·.inc .TWL_RX_SEQGAP_CNT)
  { s with twl := { s.twl with rxSeq := some (seq % 65536) } }

/-- A return message (R147). A STAMP_ACK carries the tag, the status, the port, the channel and the timestamp. -/
inductive ReturnMsg where
  | hop (t : HopTarget)
  | ack (tag status port channel : Nat) (ts : Timestamp)
  | unknown
  deriving DecidableEq, Repr

/-- R147: the octets of a return message, from octets 0 to 18 as one number and the CRC, whose octets follow the order of R144. -/
def returnOctets (body : BitVec 152) (crc : Word) : List Octet := octetsBe body.toNat 19 ++ octetsLe crc.toNat 4

/-- R147: the octets of a HOP message by its fields. -/
def hopOctets (type : Octet) (seq : BitVec 16) (payload : BitVec 128) (crc : Word) : List Octet :=
  returnOctets (type ++ seq ++ payload) crc

/-- R147: the octets of a STAMP_ACK message by its fields: `status` is octets 5 and 6, `stamp` octets 7 to 18. -/
def ackOctets (type : Octet) (seq tag status : BitVec 16) (stamp : BitVec 96) (crc : Word) : List Octet :=
  returnOctets (type ++ seq ++ tag ++ status ++ stamp) crc

/-- R147, R148: the CRC over octets 0 to 18 of a return message of 23 octets. -/
def returnCrcOk (os : List Octet) : Bool := os.length == 23 && os.drop 19 == octetsLe (crc32 (os.take 19)).toNat 4

/-- R147: the content of a return message; STATUS 3 counts with the unknown ones (R148). -/
def returnMsg (os : List Octet) : ReturnMsg :=
  let w := beAt os 5 2
  match octAt os 0 with
  | 1 => .hop ⟨bitOf w 15, bitsOf w 8 0, beAt os 3 2⟩
  | 2 =>
    if bitsOf w 15 14 = 3 then .unknown
    else .ack (beAt os 3 2) (bitsOf w 15 14) (bitsOf w 9 0) (bitsOf (beAt os 7 2) 8 0) ⟨beAt os 9 4, beAt os 13 4, beAt os 17 2⟩
  | _ => .unknown

/-- R101, R147, R149: a HOP message enters the hop router; in a mode that takes none it counts as ignored there. -/
def State.rxHop (s : State) (t : HopTarget) (cyc : Nat) : State := (s.inc .TWL_HOP_RX_CNT).trigger .twl t (s.instantH cyc)

/-- TWL_RX_BLOCK_LOCK (R148): the first message after block lock is not compared. L2 keeps the receiver. -/
def execTwlRxBlockLock (s : State) : Host.Outcome State Fault Refusal :=
  done (if 4 ≤ s.rst.level ∨ ¬ s.rst.settled ∨ bitOf (s.get RST_STS.SOFT) 0 then s
    else { s.set TWL_STS.RX_LOCK 1 with twl := { s.twl with rxSeq := none } })

/-- TWL_RX_BLOCK_LOCK_LOSS (R148). -/
def execTwlRxBlockLockLoss (s : State) : Host.Outcome State Fault Refusal :=
  done (if s.on TWL_STS.RX_LOCK then (s.set TWL_STS.RX_LOCK 0).cond (s.on TWL_CTL.RX_EN) (·.inc .TWL_RX_BLK_CNT) else s)

/-! ### Stamps (R151, R152) -/

/-- R152: the 48-bit seconds nearest the present second `now` whose low 32 bits equal `lo`. -/
def fullSeconds (now lo : Nat) : Nat :=
  let base := now / 2 ^ 32 * 2 ^ 32 + lo % 2 ^ 32
  let c := if base + 2 ^ 31 < now then base + 2 ^ 32 else if now + 2 ^ 31 < base ∧ 2 ^ 32 ≤ base then base - 2 ^ 32 else base
  c % 2 ^ 48

/-- R152: a timestamp of channel `k` with its full seconds. -/
def State.fullTs (s : State) (k : Nat) (t : Timestamp) : Timestamp := { t with secLo := fullSeconds ((s.chan k).tickTime / tuSec) t.secLo }

/-- A stamp's full time in the scale of channel `k`, in units of time. -/
def State.stampTime (s : State) (k : Nat) (t : Timestamp) : Nat :=
  (s.fullTs k t).secLo * tuSec + t.ns * tuNs + t.frac * tuTheta

/-- Whether a stamp at `st` of the stamped channel's scale was taken before the jump, as far as the stamp tells: a step back makes the times
from `new` to `old` occur twice. `now` is the channel's time at the end of the present tick. -/
def Jump.before (j : Jump) (st now : Int) : Option Bool :=
  if st + (tuTheta : Nat) ≤ j.new then some true
  else if j.old < j.new ∨ j.old < st then some (decide (j.new < j.old ∧ now < st))
  else if j.new = j.old then some false
  else none

/-- R152: the jumps of channel `c` at or before the boundary of the present tick. -/
def State.jumps (s : State) (c : Nat) : List Jump :=
  (Tab.get [] s.twl.jump c).filter fun j => decide (j.tick < s.dev.tick) || j.ofs == 0

/-- The time that channel `k` has counted since jump `j`, by the boundary of the present tick. -/
def State.sinceJump (s : State) (k : Nat) (j : Jump) : Int :=
  let x := s.chan k
  ((((s.dev.tick - j.tick) * 12800 : Nat) : Int) - j.ofs) * (tnomOf (x.tickP0 (s.p0 k)) * 2 ^ 40 : Nat) / (max 1 x.tickP : Nat)

/-- R152: whether a step or hop of channel `c` or `k` lies between a stamp of `k` at time `st` and the present tick; none where the stamp
does not tell. -/
def State.jumped (s : State) (c k : Nat) (st : Int) : Option Bool :=
  let t : Int := (s.chan k).tickTime
  let own := (s.jumps k).map fun j => j.before st (t + (1000 * tuNs : Nat))
  if own.contains (some true) || (c != k && (s.jumps c).any fun j => decide (s.sinceJump k j < t - st)) then some true
  else if own.contains none then none
  else some false

/-- R152: the stamp at time `st` of channel `k` in the scale of channel `c`, in units of 2^-16 ns, by the state of the present tick. -/
def State.convertStamp (s : State) (c k st : Nat) : Int :=
  if c = k then ((st / tuTheta : Nat) : Int)
  else
    let x := s.chan c
    let y := s.chan k
    let age : Int := (y.tickTime : Int) - st
    let d : Int := (x.tickTime : Int) - y.tickTime - (age * (chanRate x (s.p0 c) - chanRate y (s.p0 k))).tdiv (2 ^ 48)
    ((st : Int) + d) / (tuTheta : Nat)

/-- R151, R152: a stamp of channel `k` handed to channel `c`: never used without TS_VALID; one older than 10 ms, or taken before a step or
hop, is discarded and counted, also in the servo's own scale (assumption 129). Where the stamp does not tell, a free value decides. -/
def State.takeStamp (s : State) (c k : Nat) (valid : Bool) (t : Timestamp) : Option Int × State :=
  let st := s.stampTime k t
  let drop := (none, s.inc .TWL_CONV_DROP_CNT)
  if !valid then (none, s)
  else if ((10 ^ 7 * tuNs : Nat) : Int) < ((s.chan k).tickTime : Int) - st then drop
  else match s.jumped c k st with
    | some true => drop
    | some false => (some (s.convertStamp c k st), s)
    | none =>
      let r := s.drawNat 2
      if r.1 = 0 then (none, r.2.inc .TWL_CONV_DROP_CNT) else (some (s.convertStamp c k st), r.2)

/-- R154, R158: the channels that use the exchanges of flow `f`: two-way servos that list it, and its home channel. -/
def State.flowUsers (s : State) (f : Nat) : List Nat :=
  (List.range 512).filter fun c =>
    s.prog c == 1 && (c == s.get FLOW_CFG.CHANNEL f || (s.entries c).any (·.2 == f + 64))

/-- R152, R154: a stamp handed to every channel that uses flow `f`. -/
def State.takeStamps (s : State) (f k : Nat) (valid : Bool) (t : Timestamp) : Stamps × State :=
  (s.flowUsers f).foldl (fun r c =>
    let x := r.2.takeStamp c k valid t
    (x.1.elim r.1 fun v => r.1 ++ [(c, v)], x.2)) ([], s)

/-- The timestamp of a stamp header. -/
def stampTs (t : Stamp) : Timestamp := ⟨t.secLo, t.ns, t.frac⟩

/-! ### Sending (R150, R190, R191) -/

/-- R150, R153: transmit lane `l` is enabled, and the message stays within the tags and the messages of a second. -/
def State.laneSends (s : State) (l : Nat) : Bool :=
  bitOf (s.get MIR_CTL.TX_EN) l && decide (s.twl.tags.length < 8192)
    && (decide (s.twl.secCount < 500000) || decide (s.twl.secStart + 1000000 ≤ s.dev.tick))

/-- Whether a message of the streams, flows and ESMC transmitters may leave on transmit lane `l`. -/
def State.canSend (s : State) (l : Nat) : Bool := s.mirTransmits && s.laneSends l

/-- R150, R190: a message leaves: it takes the next tag and the next number of its lane. -/
def State.send (s : State) (m : OutMsg) : State :=
  let w := s.twl
  let fresh := decide (w.secStart + 1000000 ≤ s.dev.tick)
  let m := { m with tag := w.nextTag, seq := Tab.get 0 w.laneSeq m.lane }
  { s.inc .MIR_TX_FRAMES_CNT m.lane with twl := { w with
      nextTag := (w.nextTag + 1) % 65536
      tags := Tab.set none w.tags w.nextTag (some ⟨m, s.dev.tick⟩)
      laneSeq := Tab.set 0 w.laneSeq m.lane ((m.seq + 1) % 65536)
      sent := w.sent ++ [m]
      secCount := if fresh then 1 else w.secCount + 1
      secStart := if fresh then s.dev.tick / 1000000 * 1000000 else w.secStart } }

/-- Octet `k` of template `t`'s 124 octets (R193, R194). -/
def State.tplOctet (s : State) (t k : Nat) : Octet :=
  BitVec.ofNat 8 ((s.rd .TPL_OCT (t * 32 + 1 + k / 4)).toNat / 2 ^ (24 - 8 * (k % 4)))

/-- The octets of template `t`. -/
def State.tplOctets (s : State) (t : Nat) : List Octet := (List.range (s.get TPL_CTL.LEN t)).map (s.tplOctet t)

/-- Replace the octets from `i` by those of `v`, most significant first, in `k` octets. -/
def putBe (os : List Octet) (i k v : Nat) : List Octet := os.take i ++ octetsBe v k ++ os.drop (i + k)

/-- R191: the UDP checksum over IPv6, of the pseudo-header of the header at `o` and the UDP octets `u`. -/
def udpSum6 (os : List Octet) (o : Nat) (u : List Octet) : Nat :=
  let all := (List.range 32).map (fun k => os.getD (o + 8 + k) 0) ++ octetsBe u.length 4 ++ octetsBe 17 4 ++ u
    ++ (if u.length % 2 = 1 then [0] else [])
  let sum := (List.range (all.length / 2)).foldl (fun a j => a + beAt all (2 * j) 2) 0
  let sum := sum % 65536 + sum / 65536
  let c := 65535 - (sum % 65536 + sum / 65536)
  if c = 0 then 65535 else c

/-- R191: the header of a message with payload `m` from template `t`, event or general. -/
def State.fillTemplate (s : State) (t : Nat) (m : List Octet) (event : Bool) : List Octet × State :=
  let os := s.tplOctets t
  let o := s.get TPL_CTL.L3_OFS t
  let dport := if event then 319 else 320
  let len := m.length
  match s.get TPL_CTL.L3 t with
  | 1 =>
    let id := Tab.get 0 s.twl.ipId t
    let os := putBe (putBe os (o + 2) 2 (28 + len)) (o + 4) 2 id
    let os := putBe os (o + 10) 2 0
    let os := putBe os (o + 10) 2 (65535 - ipSum os o 10)
    let os := putBe (putBe (putBe os (o + 22) 2 dport) (o + 24) 2 (8 + len)) (o + 26) 2 0
    (os, { s with twl := { s.twl with ipId := Tab.set 0 s.twl.ipId t ((id + 1) % 65536) } })
  | 2 =>
    let os := putBe (putBe (putBe (putBe os (o + 4) 2 (8 + len)) (o + 42) 2 dport) (o + 44) 2 (8 + len)) (o + 46) 2 0
    (putBe os (o + 46) 2 (udpSum6 os o (os.drop (o + 40) ++ m)), s)
  | _ => (os, s)

/-- R191: the headers of a reply, copied from the frame answered: a unicast source becomes the destination, a multicast destination
is kept. `os` ends where the PTP message starts, `kind` is the classification kind 1 to 3, `ip` the offset of the IP header. -/
def replyHeader (kind ip : Nat) (os : List Octet) : List Octet :=
  let swap (os : List Octet) (d k : Nat) : List Octet :=
    putBe (putBe os d k (beAt os (d + k) k)) (d + k) k (beAt os d k)
  let eth := if octAt os 0 % 2 = 1 then os else swap os 0 6
  match kind with
  | 2 => if octAt os (ip + 16) / 16 = 14 then eth else swap eth (ip + 12) 4
  | 3 => if octAt os (ip + 24) = 255 then eth else swap eth (ip + 8) 16
  | _ => eth

/-- The fields of a timestamp in a message body. -/
def tsBody (t : Timestamp) : List (Nat × Int) := [(2, (t.secLo : Int)), (3, (t.ns : Int)), (4, (t.frac : Int))]

/-! ### Identity (R156, R283) -/

/-- R156, R283: the device's clockIdentity. -/
def State.clockId (s : State) : Nat :=
  if s.mgmt.idMode = 1 then ((s.mgmt.ids.find? (·.1 == s.fuse.dieId)).elim 0 (·.2))
  else s.mgmt.oui % 2 ^ 24 * 2 ^ 40 + s.fuse.dieId % 2 ^ 40

/-- A port identity of this device: clockIdentity and portNumber. -/
def State.portId (s : State) (n : Nat) : Nat := s.clockId * 65536 + Config.portNumber n % 65536

/-! ### Flows (R154, R155) -/

/-- The home channel of flow `f`. -/
def State.flowHome (s : State) (f : Nat) : Nat := s.get FLOW_CFG.CHANNEL f

/-- R154: the flow is active. -/
def State.flowActive (s : State) (f : Nat) : Bool := s.on FLOW_CFG.EN f && s.prog (s.flowHome f) == 1

/-- R120, R154: the flow uses the peer delay mechanism. -/
def State.flowPeerDelay (s : State) (f : Nat) : Bool := bitOf (s.param (s.flowHome f) 16) 2

/-- R154: the state of a flow. -/
def State.flowState (s : State) (f : Nat) : Nat :=
  let x := s.flow f
  if !s.flowActive f then 0
  else match x.lastAnn with
    | none => 1
    | some a =>
      if 255 ≤ a.steps || a.gmId == s.clockId then 5
      else if x.annSeen < 2 then 2
      else if x.syncOk then 4 else 3

/-- Show the state of flow `f`; a flow that is not active holds nothing. -/
def State.showFlow (s : State) (f : Nat) : State :=
  let s := if s.flowActive f then s else s.setFlow f .reset
  s.set FLOW_STS.STATE (s.flowState f) f

/-- R155: the rank of flow `f` among the QUALIFIED flows of its home channel's list; 0 for one that is not QUALIFIED (assumption 68). -/
def State.flowRank (s : State) (f : Nat) : Nat :=
  let c := s.flowHome f
  if s.flowState f != 4 then 0
  else
    let es := (s.entries c).filter fun e => 64 ≤ e.2 && s.flowState (e.2 - 64) == 4
    match es.find? (·.2 == f + 64) with
    | none => 0
    | some e => (es.filter fun d => s.entryBefore c d e).length

/-- R154, R155 at a boundary: states and ranks of all flows. -/
def State.flowsBoundary (s : State) : State :=
  let s := State.upto 64 (fun f s => if (s.on FLOW_CFG.EN f || s.on FLOW_STS.STATE f) then s.showFlow f else s) s
  State.upto 64 (fun f s => if s.on FLOW_STS.STATE f || s.on FLOW_STS.RANK f then s.set FLOW_STS.RANK (s.flowRank f) f else s) s

/-- An event of flow `f` acts while engines run. -/
def onFlow (f : Nat) (s : State) (g : State → State) : Host.Outcome State Fault Refusal :=
  onUnit f 64 s (if s.flowActive f && s.mode != 0 && s.mode != 11 then (g s).showFlow f else s)

/-- ANNOUNCE_RECEIPT_TIMEOUT (R154): no Announce for 3 announce intervals; one that came in the present tick counts as arrived (R21). -/
def execAnnounceReceiptTimeout (f : Nat) (s : State) : Host.Outcome State Fault Refusal :=
  onFlow f s fun s =>
    if (s.flow f).annTick = some s.dev.tick then s
    else s.setFlow f { s.flow f with announce := none, lastAnn := none, annSeen := 0, annTick := none }

/-- SYNC_RECEIPT_TIMEOUT (R154): no Sync for 3 Sync intervals; one that came in the present tick counts as arrived (R21). -/
def execSyncReceiptTimeout (f : Nat) (s : State) : Host.Outcome State Fault Refusal :=
  onFlow f s fun s => if (s.flow f).syncTick = some s.dev.tick then s else s.setFlow f { s.flow f with syncOk := false }

/-! ### Exchanges (R158, R159) -/

/-- An exchange that does not complete is counted. -/
def State.missExchange (s : State) (f : Nat) : State := s.inc .FLOW_MISS_CNT f

/-- R158: the asymmetry of flow `f` in units of 2^-16 ns. -/
def State.flowAsym (s : State) (f : Nat) : Int := signedOf 24 (s.get FLOW_ASYM.ASYM f) * 256

/-- The time of a stamp in the scale of channel `c`. -/
def Stamps.at (t : Stamps) (c : Nat) : Option Int := (t.find? (·.1 == c)).map (·.2)

/-- R158: the offset of a complete exchange in the scale of channel `c`. Divisions truncate toward zero. -/
def exchangeOffset (pd : Bool) (asym : Int) (e : Exchange) (c : Nat) : Option Int :=
  match e.t1, e.t2.at c, e.t3.at c with
  | some t1, some t2, some t3 =>
    if e.followDue || !e.respDone then none
    else
      let dms := t2 - t1 - e.cSync
      if pd then
        match e.p4.at c, e.turn with
        | some p4, some turn => some (dms - (p4 - t3 - turn - e.cResp).tdiv 2 - asym)
        | _, _ => none
      else e.t4.map fun t4 => dms - (dms + (t4 - t3 - e.cResp)).tdiv 2 - asym
  | _, _, _ => none

/-- R159: when the exchange of flow `f` is complete its offsets wait for the next iterations. A peer delay measurement serves each
Sync until the next. -/
def State.tryComplete (s : State) (f : Nat) : State :=
  let x := s.flow f
  let pd := s.flowPeerDelay f
  let os := x.exch.t2.filterMap fun t => (exchangeOffset pd (s.flowAsym f) x.exch t.1).map fun o => (t.1, o)
  if os.isEmpty then s
  else
    let e := if pd then { x.exch with t1 := none, t2 := [], cSync := 0 } else Exchange.empty
    s.setFlow f { x with exch := e, done := os ++ x.done }

/-- Whether the flow waits for a Follow_Up, and for a response. -/
def Exchange.waitsResponse (e : Exchange) : Bool := e.reqOut && !e.respDone

/-- The exchange without its request: none is out, and no response is awaited. -/
def Exchange.dropRequest (e : Exchange) : Exchange :=
  { e with reqOut := false, t3 := [], t4 := none, p4 := [], turn := none, cResp := 0, respDone := false }

/-- R159: the request of flow `f` can no longer complete its exchange. -/
def State.missRequest (s : State) (f : Nat) : State :=
  (s.setFlow f { s.flow f with exch := (s.flow f).exch.dropRequest }).missExchange f

/-- EXCHANGE_RESPONSE_TIMEOUT (R159): RESP_WIN ends without the message awaited. -/
def execExchangeResponseTimeout (f : Nat) (s : State) : Host.Outcome State Fault Refusal :=
  onFlow f s fun s =>
    let x := s.flow f
    if x.exch.followDue then
      (s.setFlow f { x with exch := { x.exch with followDue := false, t1 := none, t2 := [], cSync := 0 } }).missExchange f
    else if x.exch.waitsResponse then s.missRequest f
    else s

/-- R156, R159, R191: flow `f` sends a Delay_Req or Pdelay_Req to its port, on the lane of its last Sync. -/
def State.sendRequest (s : State) (f : Nat) (kind : MsgKind) : State :=
  let x := s.flow f
  let c := s.flowHome f
  if x.hdr.isEmpty then s
  else if !s.canSend x.lane then s.missExchange f
  else
    let s := s.cond x.exch.waitsResponse (·.missExchange f)
    let s := s.send ⟨kind, 0, x.lane, 0, c, s.get FLOW_CFG.PORT f, 0, 1, false, 0, x.hdr,
      [(1, x.nextSeq), (10, 127), (13, s.get FLOW_CFG.DOMAIN f), (30, s.portId f)]⟩
    s.setFlow f { x with
      nextSeq := (x.nextSeq + 1) % 65536, exch := { x.exch.dropRequest with reqSeq := x.nextSeq, reqOut := true } }

/-- DELAY_REQ_DUE (R159). -/
def execDelayReqDue (f : Nat) (s : State) : Host.Outcome State Fault Refusal :=
  onFlow f s fun s => if s.flowPeerDelay f || !s.mirTransmits then s else s.sendRequest f (.delayReq f)

/-- PDELAY_REQ_DUE (R159). -/
def execPdelayReqDue (f : Nat) (s : State) : Host.Outcome State Fault Refusal :=
  onFlow f s fun s => if s.flowPeerDelay f && s.mirTransmits then s.sendRequest f (.pdelayReq f) else s

/-! ### PTP messages delivered to a flow (R158, R180) -/

/-- The signed correctionField of a message at octet 0 of `m`, in units of 2^-16 ns. -/
def ptpCorrection (m : List Octet) : Int := signedOf 64 (beAt m 8 8)

/-- The timestamp at octet 34 of a message, in units of 2^-16 ns. -/
def ptpTime (m : List Octet) : Int := ((beAt m 34 6 * 10 ^ 9 + beAt m 40 4) * 65536 : Nat)

/-- IEEE 1588-2019: the messageType. -/
def ptpType (m : List Octet) : Nat := octAt m 0 % 16

/-- IEEE 1588-2019: the twoStepFlag. -/
def ptpTwoStep (m : List Octet) : Bool := bitOf (octAt m 6) 1

/-- IEEE 1588-2019: the sequenceId. -/
def ptpSeq (m : List Octet) : Nat := beAt m 30 2

/-- The announce data of an Announce message. -/
def ptpAnnounce (m : List Octet) : Announce :=
  ⟨octAt m 47, octAt m 48, octAt m 49, beAt m 50 2, octAt m 52, beAt m 53 8, beAt m 61 2, beAt m 20 10⟩

/-- R153: an interval of 2^`log` s in ticks; `log` runs from -7 to 3. -/
def intervalTicks (log : Int) : Nat := 1000000 * 2 ^ (log + 7).toNat / 128

/-- R154: an Announce of flow `f`, whose interval is 2^`log` s: two within 4 intervals qualify it, and one that excludes the flow is no
qualified Announce. -/
def State.takeAnnounce (s : State) (f : Nat) (a : Announce) (log : Int) : State :=
  let x := s.flow f
  let near := x.annTick.any fun t => decide (s.dev.tick ≤ t + 4 * intervalTicks log)
  let seen := if near then min 2 (x.annSeen + 1) else 1
  let good := seen == 2 && !(decide (255 ≤ a.steps) || a.gmId == s.clockId)
  let s := s.setFlow f { x with
    lastAnn := some a, annSeen := seen, annTick := some s.dev.tick, announce := if good then some a else x.announce }
  s.cond good fun s => (s.set FLOW_STS.CLASS a.clockClass f).set FLOW_STS.STEPS (min 255 a.steps) f

/-- R158, R159: a Sync of flow `f`. One that comes while a Follow_Up is awaited ends that exchange. -/
def State.takeSync (s : State) (f : Nat) (st : Stamp) (m : List Octet) : State :=
  let x := s.flow f
  let s := s.cond x.exch.followDue (·.missExchange f)
  let r := s.takeStamps f st.channel st.tsValid (stampTs st)
  let s := r.2.cond r.1.isEmpty (·.missExchange f)
  let two := ptpTwoStep m
  let e := { x.exch with
    t1 := if two then none else some (ptpTime m), t2 := r.1, cSync := ptpCorrection m, syncSeq := ptpSeq m
    syncChannel := st.channel, followDue := two && !r.1.isEmpty }
  (s.setFlow f { x with syncOk := true, syncTick := some s.dev.tick, exch := e }).tryComplete f

/-- R158, R159: the Pdelay_Resp that flow `f` awaits. A stamp that no channel can use ends the exchange. -/
def State.takePdelayResp (s : State) (f : Nat) (st : Stamp) (m : List Octet) : State :=
  let x := s.flow f
  let r := s.takeStamps f st.channel st.tsValid (stampTs st)
  let two := ptpTwoStep m
  let s := r.2.setFlow f { x with exch := { x.exch with
    p4 := r.1, turn := some (if two then -ptpTime m else 0), cResp := ptpCorrection m, respDone := !two } }
  if r.1.isEmpty then s.missRequest f else s.tryComplete f

/-- R158, R159: a message of flow `f` with its ingress stamp, from octet 0 of the PTP message. -/
def State.takeFlowMessage (s : State) (f : Nat) (st : Stamp) (m : List Octet) : State :=
  let x := s.flow f
  let corr := ptpCorrection m
  let answers := x.exch.waitsResponse && x.exch.reqSeq == ptpSeq m && beAt m 44 10 == s.portId f
  match ptpType m with
  | 11 => s.takeAnnounce f (ptpAnnounce m) (signedOf 8 (octAt m 33))
  | 0 => s.takeSync f st m
  | 8 =>
    if x.exch.followDue && x.exch.syncSeq == ptpSeq m then
      (s.setFlow f { x with exch := { x.exch with
        t1 := some (ptpTime m), cSync := x.exch.cSync + corr, followDue := false } }).tryComplete f
    else s
  | 9 =>
    if !s.flowPeerDelay f && answers then
      (s.setFlow f { x with exch := { x.exch with t4 := some (ptpTime m), cResp := corr, respDone := true } }).tryComplete f
    else s
  | 3 => if s.flowPeerDelay f && answers && x.exch.turn.isNone then s.takePdelayResp f st m else s
  | 10 =>
    if s.flowPeerDelay f && answers && x.exch.turn.isSome then
      (s.setFlow f { x with exch := { x.exch with
        turn := x.exch.turn.map (· + ptpTime m), cResp := x.exch.cResp + corr, respDone := true } }).tryComplete f
    else s
  | _ => s

/-- Whether an egress stamp with sequence number `seq` is that of the request that flow `f` has out. -/
def State.requestOut (s : State) (f seq : Nat) : Bool :=
  (s.flow f).exch.reqOut && (s.flow f).exch.reqSeq == seq && s.flowActive f

/-- R150, R158, R159: the egress stamp of a flow's request; one that no channel can use ends the exchange. -/
def State.takeRequestStamp (s : State) (f seq channel : Nat) (t : Timestamp) : State :=
  if s.requestOut f seq then
    let r := s.takeStamps f channel true t
    let x := s.flow f
    let s := r.2.setFlow f { x with exch := { x.exch with t3 := r.1 } }
    if r.1.isEmpty then s.missRequest f else s.tryComplete f
  else s

/-- R150, R159: the request of flow `f` with sequence number `seq` gets no egress stamp: its exchange does not complete. -/
def State.loseRequestStamp (s : State) (f seq : Nat) : State :=
  if s.requestOut f seq ∧ (s.flow f).exch.t3 = [] then s.missRequest f else s

/-! ### Origin streams (R156, R157) -/

/-- The stream `k` of a table of streams. -/
def streamOf (t : Tab Stream) (k : Nat) : Stream := Tab.get .reset t k

/-- R156: the parent flow of a channel and its announce data. -/
def State.parent (s : State) (c : Nat) : Option Announce :=
  if s.prog c = 1 ∧ s.on ENG_CHMAP.SEL_VALID c ∧ 64 ≤ s.get ENG_CHMAP.SEL c then (s.flow (s.get ENG_CHMAP.SEL c - 64)).announce
  else none

/-- R157: the clockClass of an Announce. -/
def State.clockClass (s : State) (c profile : Nat) : Nat :=
  let x := s.chan c
  let telecom := profile == 1
  if s.mode = 9 then 248
  else match x.state, s.parent c with
    | .lock, some a => a.clockClass
    | .acq, some a => a.clockClass
    | .lock, none => 6
    | .overcast, _ =>
      if s.dev.tick ≤ x.ovcTick + 4 * 3600 * 1000000 then (if telecom && x.lastFlow then 135 else 7)
      else if telecom then (if x.lastFlow then 165 else 140) else 52
    | _, _ => 248

/-- R191: whether port group `g` is in use. -/
def State.groupUsed (s : State) (g : Nat) : Bool := s.on MIR_PGRP.EN g

/-- R156, R191: stream `k` sends a message to its port group, or counts it. -/
def State.sendStream (s : State) (k : Nat) (kind : MsgKind) (event oneStep : Bool) (body : List (Nat × Int)) : State :=
  let g := s.get ORIG_CFG.PGROUP k
  let l := s.get MIR_PGRP.LANE g
  if s.groupUsed g && s.canSend l then
    let m : OutMsg := ⟨kind, 0, l, 0, s.get ORIG_CFG.CHANNEL k, 0, g, 0, oneStep, if event then 0 else 1, [], (30, (s.portId (64 + k) : Int)) :: body⟩
    let r := s.fillTemplate (s.get MIR_PGRP.TPL g) m.payload event
    r.2.send { m with hdr := r.1 }
  else s.inc .ORIG_DROP_CNT k

/-- A stream's event acts while frames may leave and the stream is enabled. -/
def onStream (k : Nat) (s : State) (g : State → State) : Host.Outcome State Fault Refusal :=
  onUnit k 64 s (if s.on ORIG_CFG.EN k && s.mirTransmits then g s else s)

/-- ORIGIN_SYNC_DUE (R156). -/
def execOriginSyncDue (k : Nat) (s : State) : Host.Outcome State Fault Refusal :=
  onStream k s fun s =>
    let t := streamOf s.twl.streams k
    let s := { s with twl := { s.twl with
      streams := Tab.set .reset s.twl.streams k { t with syncSeq := (t.syncSeq + 1) % 65536 } } }
    s.sendStream k (.sync k) true (s.on ORIG_CFG.ONESTEP k)
      [(1, t.syncSeq), (10, signedOf 4 (s.get ORIG_INT.LOG_SYNC k)), (13, s.get ORIG_CFG.DOMAIN k)]

/-- R156: the grandmaster fields of stream `k`: its parent's, or this device's own; its own clockAccuracy, variance, time source, offset to UTC
and flags are free values, since the rule does not give them (assumption 130). -/
def State.gmFields (s : State) (k : Nat) : List (Nat × Int) × State :=
  let r := s.drawNat 2048
  let t := r.2.drawWord
  let rest : List (Nat × Int) := [(17, (t.1.toNat % 65536 : Nat)), (18, (r.1 % 256 : Nat)), (19, (t.1.toNat / 65536 % 256 : Nat))]
  match s.parent (s.get ORIG_CFG.CHANNEL k) with
  | some a => (([(7, a.prio1), (8, a.prio2), (9, a.gmId), (15, a.accuracy), (16, a.variance)] : List (Nat × Int)) ++ rest, t.2)
  | none =>
    let v := t.2.drawNat (2 ^ 24)
    (([(7, s.get ORIG_INT.PRIO1 k), (8, s.get ORIG_INT.PRIO2 k), (9, s.clockId), (15, (v.1 % 256 : Nat)), (16, (v.1 / 256 : Nat))] :
      List (Nat × Int)) ++ rest, v.2)

/-- ORIGIN_ANNOUNCE_DUE (R156, R157, R166): ORIG_STS shows what was announced, which is what has left. -/
def execOriginAnnounceDue (k : Nat) (s : State) : Host.Outcome State Fault Refusal :=
  onStream k s fun s =>
    let t := streamOf s.twl.streams k
    let c := s.get ORIG_CFG.CHANNEL k
    let cls := s.clockClass c (s.get ORIG_CFG.PROFILE k)
    let steps := match s.parent c with | some a => a.steps + 1 | none => 0
    let sends := s.groupUsed (s.get ORIG_CFG.PGROUP k) && s.canSend (s.get MIR_PGRP.LANE (s.get ORIG_CFG.PGROUP k))
    let s := s.cond sends fun s => (s.set ORIG_STS.CLASS cls k).set ORIG_STS.STEPS (min 255 steps) k
    let s := { s with twl := { s.twl with
      streams := Tab.set .reset s.twl.streams k { t with annSeq := (t.annSeq + 1) % 65536 } } }
    let gm := s.gmFields k
    gm.2.sendStream k (.announce k) false false
      (([(1, t.annSeq), (5, cls), (6, steps), (10, signedOf 4 (s.get ORIG_INT.LOG_ANN k)),
        (13, s.get ORIG_CFG.DOMAIN k)] : List (Nat × Int)) ++ gm.1)

/-- R156, R191: a reply of stream `k` to the port a frame came from, on that frame's lane. -/
def State.sendReply (s : State) (k lane port : Nat) (kind : MsgKind) (oneStep event : Bool) (hdr : List Octet)
    (body : List (Nat × Int)) : State :=
  if s.canSend lane then
    s.send ⟨kind, 0, lane, 0, s.get ORIG_CFG.CHANNEL k, port, 0, 1, oneStep, if event then 0 else 1, hdr, body⟩
  else s.inc .ORIG_DROP_CNT k

/-- R156: the stream that answers a request: the lowest that matches. -/
def State.responder (s : State) (domain channel : Nat) : Option Nat :=
  (List.range 64).find? fun k => s.on ORIG_CFG.EN k && s.on ORIG_CFG.RESP k
    && s.get ORIG_CFG.DOMAIN k == domain && s.get ORIG_CFG.CHANNEL k == channel

/-- R156: a Delay_Req or Pdelay_Req is answered by the matching stream, or dropped and counted. `hdr` holds the request's headers, with the
IP header at `ip`. A Delay_Resp corrects by the fraction of its timestamp and the request's correction. -/
def State.answerRequest (s : State) (lane : Nat) (st : Stamp) (kind ip : Nat) (hdr m : List Octet) : State :=
  match (if st.tsValid && s.mirTransmits then s.responder (octAt m 4) st.channel else none) with
  | none => s.inc .ORIG_DROP_CNT 63
  | some k =>
    let h := replyHeader kind ip hdr
    let body : List (Nat × Int) := ([(1, ptpSeq m), (13, octAt m 4), (14, beAt m 20 10), (30, s.portId (64 + k))] : List (Nat × Int))
      ++ tsBody (s.fullTs st.channel (stampTs st))
    if ptpType m = 1 then
      s.sendReply k lane st.port (.delayResp k) false false h
        (body ++ [(10, signedOf 4 (s.get ORIG_INT.LOG_DREQ k)), (31, ptpCorrection m - st.frac)])
    else
      let one := s.on ORIG_CFG.ONESTEP k
      s.sendReply k lane st.port (.pdelayResp k) one true h
        (body ++ [(10, 127), (31, if one then ptpCorrection m - st.frac else 0), (32, ptpCorrection m - st.frac)])

/-! ### STAMP_ACK (R150) -/

/-- A time in units of time as seconds, nanoseconds and fraction. -/
def splitTime (t : Nat) : Timestamp := ⟨t / tuSec % 2 ^ 48, t % tuSec / tuNs, t % tuNs / tuTheta⟩

/-- R156: a two-step stream sends the Follow_Up of an acked Sync, to the port that acked. -/
def State.sendFollowUp (s : State) (k : Nat) (m : OutMsg) (port channel : Nat) (t : Timestamp) : State :=
  match s.takeStamp (s.get ORIG_CFG.CHANNEL k) channel true t with
  | (none, s) => s.inc .ORIG_DROP_CNT k
  | (some x, s) =>
    let g := m.pgroup
    let ts := splitTime (x.toNat * tuTheta)
    let f : OutMsg := ⟨.followUp k, 0, m.lane, 0, s.get ORIG_CFG.CHANNEL k, port, g, 1, false, 1, [],
      m.body ++ tsBody ts ++ [(31, (ts.frac : Int))]⟩
    if s.groupUsed g && s.canSend m.lane then
      let r := s.fillTemplate (s.get MIR_PGRP.TPL g) f.payload false
      r.2.send { f with hdr := r.1 }
    else s.inc .ORIG_DROP_CNT k

/-- R156: a two-step responder sends the Pdelay_Resp_Follow_Up of an acked Pdelay_Resp. -/
def State.sendPdelayFollowUp (s : State) (k : Nat) (m : OutMsg) (channel : Nat) (t : Timestamp) : State :=
  match s.takeStamp (s.get ORIG_CFG.CHANNEL k) channel true t with
  | (none, s) => s.inc .ORIG_DROP_CNT k
  | (some x, s) =>
    let ts := splitTime (x.toNat * tuTheta)
    s.sendReply k m.lane m.port (.pdelayRespFollowUp k) false false m.hdr
      (m.body.filter (fun b => b.1 == 1 || b.1 == 10 || b.1 == 13 || b.1 == 14 || b.1 == 30) ++ tsBody ts ++ [(31, m.field 32 + ts.frac)])

/-- R150: the sequence number a message carries. -/
def OutMsg.seqId (m : OutMsg) : Nat := ((m.body.find? (·.1 == 1)).elim 0 (·.2)).toNat

/-- R150, R156, R158: a matched, stamped ack goes to the exchange or stream that sent the message. -/
def State.takeAck (s : State) (m : OutMsg) (port channel : Nat) (t : Timestamp) : State :=
  match m.kind with
  | .sync k => if m.oneStep then s else s.sendFollowUp k m port channel t
  | .pdelayResp k => if m.oneStep then s else s.sendPdelayFollowUp k m channel t
  | .delayReq f => s.takeRequestStamp f m.seqId channel t
  | .pdelayReq f => s.takeRequestStamp f m.seqId channel t
  | _ => s

/-- R150, R159: the message gets no egress stamp. -/
def State.loseAck (s : State) (m : OutMsg) : State :=
  match m.kind with
  | .delayReq f | .pdelayReq f => s.loseRequestStamp f m.seqId
  | _ => s

/-- STAMP_TAG_EXPIRED (R150): 10 ms after its message left, a tag is no longer outstanding. -/
def execStampTagExpired (tag : Nat) (s : State) : Host.Outcome State Fault Refusal :=
  let s' := { s with twl := { s.twl with tags := Tab.set none s.twl.tags tag none } }
  done ((Tab.get none s.twl.tags tag).elim s' fun e => s'.loseAck e.msg)

/-! ### ESMC (R160, R161) -/

/-- R160: the SSM code by which the model carries QL-FAILED in the event stream; a received code has four bits (assumption 134). -/
def failedQl : Nat := 0x10

/-- R160, R212: the quality level of input `i` changes. -/
def State.setQl (s : State) (i ssm essm : Nat) : State :=
  if ssm = failedQl then s.set ESMC_MAP.NOQL 1 i
  else ((s.set ESMC_MAP.NOQL 0 i).set ESMC_MAP.SSM ssm i).set ESMC_MAP.ESSM essm i

/-- R160: a quality level of input `i` has come in the present tick. -/
def State.heardQl (s : State) (i : Nat) : State :=
  { s with twl := { s.twl with qlTick := Tab.set 0 s.twl.qlTick i (s.dev.tick + 1) } }

/-- R215: a unit in step receives for itself: what input `i` shows after a takeover, none for QL-FAILED. -/
def State.noteQl (s : State) (i : Nat) (q : Option (Nat × Nat)) : State :=
  { s with twl := { s.twl with ownQl := Tab.set none s.twl.ownQl i (some q), qlTick := if q.isSome then Tab.set 0 s.twl.qlTick i (s.dev.tick + 1) else s.twl.qlTick } }

/-- The SSM and enhanced SSM codes that an ESMC PDU at `p` carries: QL TLV type 1, enhanced QL TLV type 2; 0 for a missing
enhanced code (ITU-T G.8264, assumption 22). -/
def esmcCodes (os : List Octet) (p : Nat) : Option (Nat × Nat) :=
  (esmcTlv os 1 512 (p + 10)).map fun i =>
    (octAt os (i + 3) % 16, ((esmcTlv os 2 512 (p + 10)).elim 0 fun j => octAt os (j + 3)))

/-- The inputs whose quality level comes from switch port `port`. -/
def State.esmcInputs (s : State) (port : Nat) : List Nat :=
  (List.range 32).filter fun i => s.on ESMC_MAP.EN i && s.get ESMC_MAP.PORT i == port

/-- R160: an accepted PDU, or one that cannot be used. -/
def State.esmcVerdict (s : State) (codes : Option (Nat × Nat)) : Option (Nat × Nat) :=
  codes.filter fun c => (qlRank (s.get ESMC_CTL.OPT) c.1 c.2).isSome

/-- R161: the channel's own quality level: of the option of its EEC filter, or for any other program of ESMC_CTL.OPT (assumption 131). -/
def State.ownQl (s : State) (c : Nat) : Nat × Nat :=
  let opt := if s.prog c = 2 then bitsOf (s.param c 16) 1 0 else s.get ESMC_CTL.OPT
  match opt with
  | 1 => (0xA, 0)
  | 2 => (0xB, 0x22)
  | _ => (0xB, 0)

/-- R161: the do-not-use code of the option: QL-DNU or QL-DUS. -/
def dnuCode : Nat × Nat := (0xF, 0)

/-- R161: the REFIN input that a LOCK or ACQ channel has selected. -/
def State.qlInput (s : State) (c : Nat) : Option Nat :=
  let st := (s.chan c).state
  if (st == .lock || st == .acq) && s.on ENG_CHMAP.SEL_VALID c && s.get ENG_CHMAP.SEL c < 32 then some (s.get ENG_CHMAP.SEL c)
  else none

/-- R161: the quality level that transmit group `k` sends: that of the REFIN input its channel has selected, or the channel's own; the XP inputs
have none (R160). -/
def State.txQl (s : State) (k : Nat) : Nat × Nat :=
  let c := s.get ESMC_TX.CHANNEL k
  match s.qlInput c with
  | some i => if s.on ESMC_MAP.NOQL i then dnuCode else (s.get ESMC_MAP.SSM i, s.get ESMC_MAP.ESSM i)
  | none => s.ownQl c

/-- R191: the untagged header of an ESMC PDU. -/
def State.esmcHeader (s : State) (g : Nat) : List Octet :=
  octetsBe 0x0180C2000002 6 ++ (List.range 6).map (fun j => s.tplOctet (s.get MIR_PGRP.TPL g) (6 + j)) ++ octetsBe 0x8809 2

/-- R161, R190: a PDU leaves, and with it the do-not-use PDU to the port of the channel's selected input. The flag and the cascade counts of
an enhanced QL TLV are free values (assumption 22). -/
def State.sendEsmc (s : State) (k : Nat) (kind : MsgKind) : State :=
  let g := s.get ESMC_TX.PGROUP k
  let l := s.get MIR_PGRP.LANE g
  let c := s.get ESMC_TX.CHANNEL k
  let q := s.txQl k
  let hdr := s.esmcHeader g
  let own : List (Nat × Int) := [(11, q.1), (12, q.2)]
  let dnu : List (Nat × Int) := [(11, dnuCode.1), (12, dnuCode.2)]
  if s.groupUsed g && s.canSend l then
    let r := s.drawNat (2 ^ 24)
    let extra : List (Nat × Int) := if q.2 = 0 then []
      else [(9, s.clockId), (33, r.1 % 256), (34, r.1 / 256 % 256), (35, r.1 / 65536)]
    let s := ((if q.2 = 0 then s else r.2).send ⟨kind, 0, l, 0, c, 0, g, 0, false, 2, hdr, own ++ extra⟩).inc .ESMC_TX_CNT
    let s := { s with twl := { s.twl with
      esmc := Tab.set .reset s.twl.esmc k { streamOf s.twl.esmc k with lastQl := some q } } }
    match s.qlInput c with
    | some i => s.cond (s.canSend l) fun s =>
      (s.send ⟨.esmcDnu i, 0, l, 0, c, s.get ESMC_MAP.PORT i, g, 2, false, 2, hdr, dnu⟩).inc .ESMC_TX_CNT
    | none => s
  else s

/-- ESMC_INFO_PDU_DUE (R161). -/
def execEsmcInfoPduDue (k : Nat) (s : State) : Host.Outcome State Fault Refusal :=
  onUnit k 8 s (if s.on ESMC_TX.EN k && s.mirTransmits then s.sendEsmc k (.esmcInfo k) else s)

/-- ESMC_EVENT_PDU_SEND (R161): the quality level that the group sends has changed. -/
def execEsmcEventPduSend (k : Nat) (s : State) : Host.Outcome State Fault Refusal :=
  onUnit k 8 s (
    if s.on ESMC_TX.EN k && s.mirTransmits && (streamOf s.twl.esmc k).lastQl != some (s.txQl k) then s.sendEsmc k (.esmcEvent k)
    else s)

end Sys2Proof.Machine
end

