-- ==== Sys2Proof/Machine/Intake.lean ====
section
/-! DEFINITION. Frame intake and classification (07): the lanes' MAC, the FIFO and the parse lanes, rules and banks, fragments,
reordering, release, policers and the slow path. -/

namespace Sys2Proof.Machine

/-! ### Arrival (R151, R168, R170) -/

/-- R151: the stamp header of a mirrored frame. -/
def stampOf (os : List Octet) : Stamp :=
  let w := beAt os 10 6
  { secLo := beAt os 0 4
    ns := beAt os 4 4
    frac := beAt os 8 2
    channel := bitsOf w 47 39
    port := bitsOf w 38 29
    dir := bitOf w 28
    tsValid := bitOf w 27
    fcsErr := bitOf w 26
    trunc := bitOf w 25
    oneStep := bitOf w 24
    path := bitsOf w 23 22
    seq := bitsOf w 15 0 }

/-- R168: the frame check sequence over the stamp header and the frame. -/
def fcsOk (os : List Octet) : Bool :=
  let n := os.length - 4
  os.drop n == octetsLe (crc32 (os.take n)).toNat 4

/-- R168: the intake accepts frames of lane `l`. -/
def State.accepts (s : State) (l : Nat) : Bool :=
  s.intakeRuns && s.on PARSE_CTL.EN && bitOf (s.get MIR_CTL.RX_EN) l && bitOf (s.get MIR_STS.BLOCK_LOCK) l

/-- The order of lane `l`. -/
def State.lane (s : State) (l : Nat) : LaneOrder := Tab.get .reset s.intake.lanes l

/-- Replace the order of lane `l`. -/
def State.setLane (s : State) (l : Nat) (x : LaneOrder) : State :=
  { s with intake := { s.intake with lanes := Tab.set .reset s.intake.lanes l x } }

/-- Release the held frames with number `e` and on, while present. -/
def drainHeld : Nat → Nat → List Decided → List Decided → Nat × List Decided × List Decided
  | 0, e, held, out => (e, held, out)
  | n + 1, e, held, out =>
    match held.find? (·.frame.stamp.seq == e) with
    | none => (e, held, out)
    | some d => drainHeld n ((e + 1) % 65536) (held.filter (·.frame.stamp.seq != e)) (out ++ [d])

/-- Move E of a lane to `e'`, `n` numbers on: held frames below it release in order, and those that follow. -/
def LaneOrder.moveTo (x : LaneOrder) (e n : Nat) : LaneOrder × Nat :=
  let passed := (List.range n).filterMap fun j => x.held.find? (·.frame.stamp.seq == (e + j) % 65536)
  let held := x.held.filter fun d => !decide ((d.frame.stamp.seq + 65536 - e) % 65536 < n)
  let r := drainHeld 256 ((e + n) % 65536) held (x.ready ++ passed)
  ({ x with expect := some r.1, held := r.2.1, ready := r.2.2 }, n - passed.length)

/-- R186: the first frame after block lock, L1 or the start of intake sets E to its own number. Frames held under the old numbering release
in order (assumption 133). -/
def State.firstSeq (s : State) (l seq : Nat) : State :=
  let x := s.lane l
  if x.expect.isSome && !x.fresh then s
  else
    let y := (x.moveTo (x.expect.getD seq) 256).1
    (s.setLane l { y with expect := some seq, fresh := false }).setBit MIR_STS.SEQ_SYNC l true

/-- R186: the numbering of lane `l` starts afresh with the next frame that enters. -/
def State.freshLane (s : State) (l : Nat) : State :=
  (s.setBit MIR_STS.SEQ_SYNC l false).setLane l { s.lane l with fresh := true }

/-- R170: a frame enters the intake FIFO of 256 frames. -/
def State.enterFifo (s : State) (f : Frame) : State :=
  if 256 ≤ s.intake.fifo.length then s.inc .PARSE_INTAKE_OVF_CNT
  else { s.firstSeq f.lane f.stamp.seq with intake := { (s.firstSeq f.lane f.stamp.seq).intake with fifo := s.intake.fifo ++ [f] } }

/-- R167, R193: the FEC blocks of lane `l` that were corrected, and those that could not be, since its last frame. -/
def State.fecBlocks (s : State) (l corr unc : Nat) : State :=
  s.cond (bitOf (s.get MIR_CTL.FEC_EN) l) fun s => (s.add .MIR_FEC_CORR_CNT corr l).add .MIR_FEC_UNC_CNT unc l

/-- MIRROR_FRAME_ARRIVAL (R168): `octets` run from the first octet of the stamp header to the last of the FCS. -/
def execMirrorFrameArrival (lane : LaneFec) (octets : List Octet) (s : State) : Host.Outcome State Fault Refusal :=
  let l := lane.lane
  onUnit l 4 s (
    if !s.accepts l then s
    else
    let s := s.fecBlocks l lane.corr lane.unc
    if 2048 < octets.length then s.inc .MIR_GIANT_CNT l
    else if !fcsOk octets then s.inc .MIR_FCS_CNT l
    else if octets.length < 80 then s.inc .MIR_RUNT_CNT l
    else
      (s.inc .MIR_RX_FRAMES_CNT l).enterFifo ⟨l, stampOf octets, (octets.drop 16).take (octets.length - 20)⟩)

/-- MIR_BLOCK_LOCK_LOSS (R167, R168). -/
def execMirBlockLockLoss (lane : Nat) (s : State) : Host.Outcome State Fault Refusal :=
  onUnit lane 4 s (
    if s.mode ≠ 0 ∧ s.mode ≠ 11 ∧ bitOf (s.get MIR_STS.BLOCK_LOCK) lane then
      ((s.setBit MIR_STS.BLOCK_LOCK lane false).setBit MIR_STS.SEQ_SYNC lane false).inc .MIR_BLK_CNT lane
    else s)

/-- MIR_BLOCK_LOCK_ACQUIRED (R186): the next frame sets E. -/
def execMirBlockLockAcquired (lane : Nat) (s : State) : Host.Outcome State Fault Refusal :=
  onUnit lane 4 s (
    if s.mode = 0 ∨ s.mode = 11 ∨ bitOf (s.get RST_STS.SOFT) 1 then s
    else (s.setBit MIR_STS.BLOCK_LOCK lane true).freshLane lane)

/-! ### Parse lanes and banks (R170, R184, R185) -/

/-- The pass that parse lane `k` runs. -/
def State.passAt (s : State) (k : Nat) : Option Pass := Tab.get none s.intake.passes k

/-- R185: passes of a generation other than the active one that still need a lookup. -/
def State.inflight (s : State) : Nat :=
  let old (p : Pass) : Bool := p.gen != s.get PARSE_BANK_STS.GEN
  (s.intake.passes.filter fun e => e.2.any old).length + (s.intake.recirc.filter old).length

/-- R185: show the in-flight count; a retiring bank becomes idle when it reaches zero. -/
def State.showInflight (s : State) : State :=
  (s.set PARSE_BANK_STS.INFLIGHT s.inflight).cond (s.inflight == 0) (·.set PARSE_BANK_STS.RETIRING 0)

/-- Give a pass to the next parse lane in round-robin order. -/
def State.startPass (s : State) (p : Pass) : State :=
  { s with intake := { s.intake with
      passes := Tab.set none s.intake.passes s.intake.nextLane (some p), nextLane := (s.intake.nextLane + 1) % 16 } }

/-- PARSE_PASS_START (R170, R184): second passes go before first passes; a first pass takes the generation active at its start. -/
def execParsePassStart (s : State) : Host.Outcome State Fault Refusal :=
  done (if !s.intakeRuns || (s.passAt s.intake.nextLane).isSome then s
    else match s.intake.recirc, s.intake.fifo with
      | p :: ps, _ => { s with intake := { s.intake with recirc := ps } }.startPass p
      | [], f :: fs =>
        { s with intake := { s.intake with fifo := fs } }.startPass ⟨f, false, 0, s.get PARSE_BANK_STS.GEN, []⟩
      | [], [] => s)

/-- BANK_SWAP (R184, R185): SWAP waits for its boundary; a SWAP while a bank retires is deferred. -/
def State.swapBanks (s : State) (p : Port) (addr : Nat) : State :=
  if s.on PARSE_BANK_CMD.SWAP then s
  else
    let s := s.set PARSE_BANK_CMD.SWAP 1
    s.cond (s.on PARSE_BANK_STS.RETIRING) fun s =>
      ((s.set PARSE_BANK_STS.DEFER 1).inc .PARSE_SWAP_DEFER_CNT).defer p addr

/-- R184 at a boundary: a waiting SWAP applies unless a bank still retires. -/
def State.bankBoundary (s : State) : State :=
  if s.on PARSE_BANK_CMD.SWAP && !s.on PARSE_BANK_STS.RETIRING then
    let s := s.set PARSE_BANK_STS.ACTIVE (1 - s.get PARSE_BANK_STS.ACTIVE)
    let s := s.set PARSE_BANK_STS.GEN (s.get PARSE_BANK_STS.GEN + 1)
    let s := ((s.set PARSE_BANK_CMD.SWAP 0).set PARSE_BANK_STS.DEFER 0).inc .PARSE_SWAP_CNT
    (s.set PARSE_BANK_STS.RETIRING 1).showInflight
  else s

/-! ### Rules (R178, R179) -/

/-- The rule words of a bank: 0 bank A, 1 bank B. -/
def bankWords (b : Nat) : Rg := if b = 0 then .RULE_A else .RULE_B

/-- The hit counters of a bank. -/
def bankHits (b : Nat) : Rg := if b = 0 then .HIT_A else .HIT_B

/-- R178: whether rule `r` of bank `b` matches a key. -/
def State.ruleMatches (s : State) (b r : Nat) (key : List Nat) : Bool :=
  let word (w : Nat) := s.rd (bankWords b) (r * 32 + w)
  let act := (word 16).toNat
  bitOf act 31 && decide (bitsOf act 30 28 ≤ 4)
    && (List.range 8).all fun w => (BitVec.ofNat 32 (key.getD w 0) ^^^ word w) &&& word (8 + w) == 0

/-- R178: search the rules from index `r`: the deciding rule's word 16, and the hits counted on the way. -/
def State.searchRules (s : State) (b : Nat) (key : List Nat) : Nat → Nat → Option Nat × State
  | 0, _ => (none, s)
  | n + 1, r =>
    if s.ruleMatches b r key then
      let s := s.inc (bankHits b) (r * 32 + 17)
      let act := (s.rd (bankWords b) (r * 32 + 16)).toNat
      if bitsOf act 30 28 = 1 then s.searchRules b key n (r + 1) else (some act, s)
    else s.searchRules b key n (r + 1)

/-- The decision of a pass (R178, R179). -/
structure Decision where
  action : Nat
  target : Nat
  flow : Nat
  rsv : Bool
  deriving DecidableEq, Repr

/-- R178: the deciding rule, or PARSE_CTL.DEFAULT. -/
def State.lookup (s : State) (gen : Nat) (key : List Nat) : Decision × State :=
  let a := s.get PARSE_BANK_STS.ACTIVE
  let b := if gen = s.get PARSE_BANK_STS.GEN then a else 1 - a
  match s.searchRules b key 4096 0 with
  | (some w, s) =>
    let d : Decision := ⟨bitsOf w 30 28, bitsOf w 27 26, bitsOf w 25 20, bitOf w 19⟩
    (d, s.cond (d.action == 0) (·.inc .PARSE_DROP_RULE_CNT))
  | (none, s) => (⟨s.get PARSE_CTL.DEFAULT, 0, 0, false⟩, s.inc .PARSE_NOMATCH_CNT)

/-! ### Fragments (R182) -/

/-- Entry `e` of the fragment table. -/
def State.frag (s : State) (e : Nat) : Option FragEntry := Tab.get none s.intake.frags e

/-- Replace entry `e` and show the live entries. -/
def State.setFrag (s : State) (e : Nat) (x : Option FragEntry) : State :=
  let fs := Tab.set none s.intake.frags e x
  ({ s with intake := { s.intake with frags := fs } }).set PARSE_FRAG_STS.USED fs.length

/-- The live entry of a key. -/
def State.findFrag (s : State) (k : FragKey) : Option Nat := (List.range 256).find? fun e => (s.frag e).any (·.key == k)

/-- R182: write the entry of a first fragment. -/
def State.writeFrag (s : State) (k : FragKey) (slow rsv : Bool) : State :=
  match (s.findFrag k).or ((List.range 256).find? fun e => (s.frag e).isNone) with
  | some e => s.setFrag e (some ⟨k, slow, rsv, s.dev.tick⟩)
  | none => s.inc .PARSE_FRAG_FULL_CNT

/-- R182: a later fragment takes its entry's decision. -/
def State.laterFrag (s : State) (k : FragKey) : Fate × State :=
  match s.findFrag k with
  | none => (.drop, s.inc .PARSE_FRAG_MISS_CNT)
  | some e =>
    match s.frag e with
    | none => (.drop, s)
    | some x => (if x.slow then .slow 7 x.rsv else .drop, s.setFrag e (some { x with at_ := s.dev.tick }))

/-- FRAGMENT_ENTRY_AGED (R182): 2 ms after the last fragment that wrote or matched the entry; a fragment that came first keeps it (R21). -/
def execFragmentEntryAged (e : Nat) (s : State) : Host.Outcome State Fault Refusal :=
  onUnit e 256 s (s.cond ((s.frag e).any fun x => decide (x.at_ + 2000 ≤ s.dev.tick)) (·.setFrag e none))

/-! ### Delivery checks (R180) -/

/-- IEEE 1588-2019 Annex P: the TLV types of the security mechanism: AUTHENTICATION (assumption 23). -/
def securityTlv (t : Nat) : Bool := t == 0x8009

/-- R180: the first failing check of a delivery decides. `w` is the walk of the pass. -/
def State.checkDelivery (s : State) (f : Frame) (w : Walk) (d : Decision) : Fate × State :=
  let m := f.os.drop w.body
  let t := ptpType m
  let v2 := octAt m 1 % 16 == 2
  let len := beAt m 2 2
  if f.stamp.trunc then (.drop, s.inc .PARSE_TRUNC_CNT)
  else if w.isPtp && (t == 12 || t == 13 || (tlvTypes m 2048 (ptpMin t) len).any securityTlv) then
    (.slow 5 d.rsv, s.inc .PARSE_PTP_SLOW_CNT)
  else
    let ok := match d.target with
      | 0 => w.isPtp && s.flowActive d.flow && (t == 0 || t == 8 || t == 9 || t == 3 || t == 10 || t == 11) && v2
          && !f.stamp.dir && f.stamp.port == s.get FLOW_CFG.PORT d.flow && octAt m 4 == s.get FLOW_CFG.DOMAIN d.flow
      | 1 => w.isPtp && (t == 1 || t == 2) && v2 && !f.stamp.dir
      | 2 => w.kind == 4 && !f.stamp.dir
      | _ => false
    if ok then (.deliver d.target d.flow w.kind w.body w.ip, s) else (.drop, s.inc .PARSE_TARGET_CNT)

/-! ### Reordering (R186) -/

/-- Whether the fate is already to drop. -/
def Fate.dropped : Fate → Bool
  | .drop => true
  | _ => false

/-- R186: a decided frame takes its place in its lane's order. -/
def State.order (s : State) (d : Decided) : State :=
  let l := d.frame.lane
  let x := s.lane l
  let seq := d.frame.stamp.seq
  let e := x.expect.getD seq
  let k := (seq + 65536 - e) % 65536
  if 32768 ≤ k then s.cond (!d.fate.dropped) (·.inc .MIR_SEQ_LATE_CNT l)
  else if k = 0 then
    let r := drainHeld 256 ((e + 1) % 65536) x.held (x.ready ++ [d])
    s.setLane l { x with expect := some r.1, held := r.2.1, ready := r.2.2 }
  else if k ≤ 255 then s.setLane l { x with expect := some e, held := x.held ++ [d] }
  else
    let r := { x with held := x.held ++ [d] }.moveTo e (k - 255)
    (s.setLane l r.1).add .MIR_SEQ_GAP_CNT r.2 l

/-- REORDER_TIMEOUT (R186): the oldest held frame has waited TMO: E moves to the lowest held number. -/
def execReorderTimeout (lane : Nat) (s : State) : Host.Outcome State Fault Refusal :=
  onUnit lane 4 s (
    let x := s.lane lane
    if x.held.isEmpty || !s.intakeRuns then s
    else
      let e := x.expect.getD 0
      let n := x.held.foldl (fun m d => min m ((d.frame.stamp.seq + 65536 - e) % 65536)) 65535
      let r := x.moveTo e n
      (s.setLane lane r.1).add .MIR_SEQ_GAP_CNT r.2 lane)

/-! ### The decision of a pass (R188) -/

/-- R179, R182: the outcome of a rule decision on a walked pass: recirculated (none), or a fate. -/
def State.act (s : State) (p : Pass) (w : Walk) (d : Decision) : Option Fate × List Bool × State :=
  let first (s : State) (slow : Bool) : State := match w.frag with
    | some k => s.writeFrag k slow d.rsv
    | none => s
  match d.action with
  | 3 => (some (.slow 0 d.rsv), [], first s true)
  | 2 | 4 =>
    if w.frag.isSome then (some (.slow 6 d.rsv), [], first (s.inc .PARSE_FRAG_SLOW_CNT) true)
    else
      let copies := if d.action = 4 then [d.rsv] else []
      if !p.second && (w.kind == 8 || w.kind == 9) then
        (none, copies, s.inc .PARSE_RECIRC_CNT)
      else
        let r := s.checkDelivery p.frame w d
        (some r.1, copies, r.2)
  | _ => (some .drop, [], first s false)

/-- R188: resolve a pass along the rows of the table. -/
def State.decideFrame (s : State) (p : Pass) : State :=
  let f := p.frame
  let settle (fate : Fate) (copies : List Bool) (s : State) : State := s.order ⟨f, fate, p.copies ++ copies⟩
  if f.stamp.fcsErr then settle .drop [] (s.inc .PARSE_SW_FCS_CNT)
  else
    match walk ⟨f.os, f.stamp.trunc, p.second⟩ p.base with
    | .drop cnt => settle .drop [] (s.inc cnt)
    | .slow cause cnt => settle (.slow cause false) [] (s.inc cnt)
    | .laterFrag k =>
      let r := s.laterFrag k
      settle r.1 [] r.2
    | .found w =>
      let key := w.key f.os f.lane f.stamp.port (flag f.stamp.dir) f.stamp.channel f.stamp.path p.second
      let r := s.lookup p.gen key
      match r.2.act p w r.1 with
      | (some fate, copies, s) => settle fate copies s
      | (none, copies, s) =>
        { s with intake := { s.intake with recirc := s.intake.recirc ++ [⟨f, true, w.inner, p.gen, p.copies ++ copies⟩] } }

/-- PARSE_PASS_DECISION (R188): 60 CORE cycles after its start a pass is decided. -/
def execParsePassDecision (parseLane : Nat) (s : State) : Host.Outcome State Fault Refusal :=
  onUnit parseLane 16 s (
    match s.passAt parseLane with
    | none => s
    | some p =>
      let s := { s with intake := { s.intake with passes := Tab.set none s.intake.passes parseLane none } }
      (s.decideFrame p).showInflight)

/-! ### Policers and the slow path (R181, R189) -/

/-- R181: one token of bucket `k` at `rate` tokens per second and a size of `burst`: whether there was one. -/
def State.token (s : State) (k rate burst : Nat) : Bool × State :=
  let b := Tab.get ⟨0, 0⟩ s.intake.buckets k
  let missing := b.missing - (s.dev.tick - b.tick) * rate
  let ok := missing + 1000000 ≤ burst * 1000000
  let b' : Bucket := ⟨if ok then missing + 1000000 else missing, s.dev.tick⟩
  (ok, { s with intake := { s.intake with buckets := Tab.set ⟨0, 0⟩ s.intake.buckets k b' } })

/-- R189: offer a frame to the slow-path queue. -/
def State.slowAdmit (s : State) (cause : Nat) (rsv : Bool) (f : Frame) : State :=
  let r := if rsv then s.token 1027 (s.get PARSE_SLOW_POL1.RATE) (s.get PARSE_SLOW_POL1.BURST)
    else s.token 1026 (s.get PARSE_SLOW_POL0.RATE) (s.get PARSE_SLOW_POL0.BURST)
  let s := r.2
  let n := s.intake.slow.length
  if !r.1 then s.inc .PARSE_SLOW_POLICE_CNT
  else if (if rsv then 1024 else 960) ≤ n then s.inc .PARSE_SLOW_FULL_CNT
  else
    let s := (s.inc .PARSE_SLOW_CNT).set PARSE_SLOW_STS.DEPTH (n + 1)
    { s with intake := { s.intake with slow := s.intake.slow ++ [⟨cause, f⟩] } }

/-- SLOW_PATH_ENTRY_CONSUMED (R298): firmware takes the lowest entry. -/
def execSlowPathEntryConsumed (s : State) : Host.Outcome State Fault Refusal :=
  done (if s.on MGMT_STS.FW_RUN then
      match s.intake.slow with
      | [] => s
      | _ :: t => { s.set PARSE_SLOW_STS.DEPTH t.length with intake := { s.intake with slow := t } }
    else s)

/-! ### Release (R181, R186) -/

/-- R211, R212: a message towards an engine: through the event stream while the unit streams, else at once. -/
def State.toEngine (s : State) (f : Nat) (st : Stamp) (m : List Octet) : State :=
  if s.isStep || s.fromStream (s.flowHome f) then s
  else if s.pair.streaming then s.streamMessage f st (m.take 64)
  else (s.takeFlowMessage f st m).showFlow f

/-- R160, R211, R215: a received quality level: through the stream while the unit streams. A unit in step notes its own for a takeover. -/
def State.receiveQl (s : State) (i : Nat) (q : Nat × Nat) : State :=
  if s.isStep then s.noteQl i (some q)
  else if s.pair.streaming then
    (if s.on ESMC_MAP.NOQL i ∨ (s.get ESMC_MAP.SSM i, s.get ESMC_MAP.ESSM i) ≠ q then
      s.streamEvent (.ql 0 0 i q.1 q.2) else s).heardQl i
  else (s.setQl i q.1 q.2).heardQl i

/-- ESMC_QL_TIMEOUT (R160): no information PDU for 5 s; one that came in the present tick counts (R21). The change goes through the stream
while the unit streams (R211), with a code that no option defines for QL-FAILED (assumption 134). -/
def execEsmcQlTimeout (i : Nat) (s : State) : Host.Outcome State Fault Refusal :=
  onUnit i 32 s (
    if ¬ s.on ESMC_MAP.EN i ∨ s.mode = 0 ∨ s.mode = 11 ∨ Tab.get 0 s.twl.qlTick i = s.dev.tick + 1 then s
    else
      let s := s.inc .ESMC_TIMEOUT_CNT
      if s.isStep then s.noteQl i none
      else if s.pair.streaming then s.streamEvent (.ql 0 0 i failedQl 0)
      else s.set ESMC_MAP.NOQL 1 i)

/-- R160: a delivered ESMC PDU. -/
def State.takeEsmc (s : State) (f : Frame) (body : Nat) : State :=
  match s.esmcVerdict (esmcCodes f.os body) with
  | none => s.inc .ESMC_BAD_CNT
  | some q => ((s.esmcInputs f.stamp.port).foldl (fun s i => s.receiveQl i q) s).inc .ESMC_RX_CNT

/-- R191: flow `f` keeps the lane and the headers of its last Sync for its requests. -/
def State.keepHeader (s : State) (f : Nat) (fr : Frame) (kind body ip : Nat) : State :=
  if ptpType (fr.os.drop body) = 0 then
    s.setFlow f { s.flow f with lane := fr.lane, hdr := replyHeader kind ip (fr.os.take body) }
  else s

/-- R180, R181: a policed delivery. -/
def State.deliver (s : State) (f : Frame) (target flow kind body ip : Nat) : State :=
  let m := f.os.drop body
  match target with
  | 0 =>
    let r := s.token (flow * 16 + ptpType m) (s.get PARSE_FLOW_POL.RATE) (s.get PARSE_FLOW_POL.BURST)
    if !r.1 then r.2.inc .PARSE_FLOW_POLICE_CNT
    else ((r.2.inc .PARSE_DELIVER_CNT).keepHeader flow f kind body ip).toEngine flow f.stamp m
  | 1 =>
    let r := s.token 1024 (s.get PARSE_REQ_POL.RATE) (s.get PARSE_REQ_POL.BURST)
    if !r.1 then r.2.inc .PARSE_REQ_POLICE_CNT
    else (r.2.inc .PARSE_DELIVER_CNT).answerRequest f.lane f.stamp kind ip (f.os.take body) m
  | _ =>
    let r := s.token 1025 (s.get PARSE_ESMC_POL.RATE) (s.get PARSE_ESMC_POL.BURST)
    if !r.1 then r.2.inc .PARSE_ESMC_POLICE_CNT
    else (r.2.inc .PARSE_DELIVER_CNT).takeEsmc f body

/-- R186: the effects of a release. -/
def State.release (s : State) (d : Decided) : State :=
  let s := d.copies.foldl (fun s rsv => s.slowAdmit 1 rsv d.frame) s
  match d.fate with
  | .drop => s
  | .slow cause rsv => s.slowAdmit cause rsv d.frame
  | .deliver target flow kind body ip => s.deliver d.frame target flow kind body ip

/-- FRAME_RELEASE (R186): the next frame of lane `lane` that may release. -/
def execFrameRelease (lane : Nat) (s : State) : Host.Outcome State Fault Refusal :=
  onUnit lane 4 s (
    let x := s.lane lane
    match x.ready with
    | [] => s
    | d :: ds => (s.setLane lane { x with ready := ds }).release d)

/-- R147, R148, R150: a stamped ack is matched to its tag, or counted; a stamp towards an engine goes through the event stream while the unit
streams (R211). In TEST no message is out and engines are held (R22). -/
def State.rxAck (s : State) (tag status swPort channel : Nat) (ts : Timestamp) : State :=
  let s := s.cond (status != 0) (·.inc .TWL_ACK_DROP_CNT)
  match Tab.get none s.twl.tags tag with
  | none => s.inc .TWL_ACK_ORPHAN_CNT
  | some e =>
    if s.mode = 11 then s
    else if status ≠ 0 then s.loseAck e.msg
    else
      let st : Stamp := ⟨ts.secLo, ts.ns, ts.frac, channel, swPort, true, true, false, false, false, 0, e.msg.seqId⟩
      match e.msg.kind with
      | .delayReq f | .pdelayReq f =>
        if s.isStep || s.fromStream (s.flowHome f) then s
        else if s.pair.streaming then s.streamMessage f st []
        else s.takeAck e.msg swPort channel ts
      | _ => s.takeAck e.msg swPort channel ts

/-- R147, R148: a return message of 23 octets whose terminate block ends in the ROOT cycle at offset `cyc`. -/
def State.rxMessage (s : State) (os : List Octet) (cyc : Nat) : State :=
  if !s.rxReads then s
  else if !returnCrcOk os then s.inc .TWL_RX_CRC_CNT
  else
    let s := s.rxSequence (beAt os 1 2)
    match returnMsg os with
    | .hop t => s.rxHop t cyc
    | .ack tag status swPort channel ts => s.rxAck tag status swPort channel ts
    | .unknown => s.inc .TWL_RX_TYPE_CNT

/-- TWL_HOP_MESSAGE (R147, R149): what the message is, its octets say. -/
def execTwlHopMessage (type : Octet) (seq : BitVec 16) (payload : BitVec 128) (crc : Word) (cyc : Nat) (s : State) :
    Host.Outcome State Fault Refusal :=
  done (s.rxMessage (hopOctets type seq payload crc) cyc)

/-- TWL_STAMP_ACK (R147, R150). -/
def execTwlStampAck (type : Octet) (seq tag status : BitVec 16) (stamp : BitVec 96) (crc : Word) (s : State) :
    Host.Outcome State Fault Refusal :=
  done (s.rxMessage (ackOctets type seq tag status stamp crc) 0)

/-- TWL_RX_BAD_MESSAGE (R148): a failed CRC, or an unknown TYPE or STATUS. -/
def execTwlRxBadMessage (body : BitVec 152) (crc : Word) (s : State) : Host.Outcome State Fault Refusal :=
  done (s.rxMessage (returnOctets body crc) 0)

/-- A MESSAGE event at its EXEC (R212): a PTP message of flow `f`, or the egress stamp of its request. -/
def State.runMessage (s : State) (f : Nat) (st : Stamp) (m : List Octet) : State :=
  if m.isEmpty then s.takeRequestStamp f st.seq st.channel (stampTs st)
  else if s.flowActive f then (s.takeFlowMessage f st m).showFlow f
  else s

end Sys2Proof.Machine
end

