-- ==== Sys2Proof/Machine/Output.lean ====
section
/-! DEFINITION. Outputs and PPS pins (03 R70 to R78, R369): the conditions to run, start, stop, driver changes, divider and
offset changes, the loop-back check. -/

namespace Sys2Proof.Machine

/-- R22, R50, R74, R288, R289: whether the mode lets outputs run. -/
def State.modeRunsOutputs (s : State) : Bool :=
  !s.msyn.cmdMute && (match s.mode with
    | 1 => !s.rst.bootMute
    | 2 => s.on OUT_CTL.EARLY && s.msyn.everLocked
    | 9 => !s.dev.basicMuted && (!s.dev.basicGate || s.on OUT_CTL.INTREF_OK) && s.msyn.everLocked
    | 10 => !s.dev.svcNoImage
    | 0 => false
    | 11 => false
    | _ => true)

/-- R71: fM / (P × D) of output `n` lies within its driver limit. -/
def State.outFreqOk (s : State) (n : Nat) : Bool :=
  freqOk (s.get OUT_DRV.TYPE n) (s.chan (s.get OUT_CFG.SRC n)).p (s.get OUT_DIV.DIVM1 n + 1)

/-- R71: the conditions for output `n` to run, frequency apart. -/
def State.outEnabled (s : State) (n : Nat) : Bool :=
  s.on OUT_CFG.EN n && !s.on OUT_CTL.MUTE_ALL && s.chEn (s.get OUT_CFG.SRC n) && s.modeRunsOutputs

/-- R71: all conditions for output `n` to run. -/
def State.outMayRun (s : State) (n : Nat) : Bool := s.outEnabled n && s.outFreqOk n

/-- R71, R77: the conditions for PPS pin `m` to run. -/
def State.ppsMayRun (s : State) (m : Nat) : Bool :=
  s.on PPS_CFG.EN m && !s.on OUT_CTL.MUTE_ALL && s.chEn (s.get PPS_CFG.SRC m) && s.modeRunsOutputs

/-- PPS pin `m` runs. -/
def State.ppsRuns (s : State) (m : Nat) : Bool := bitOf (s.get OUT_PPS_STS.RUN) m

/-- R71: output `n` leaves MUTED for STARTING: the source in force is taken, and the deskew of the muted level. -/
def State.outStarting (s : State) (n : Nat) : State :=
  let s := (s.set OUT_STS.STATE 1 n).set OUT_STS.DESKEW_PEND 0 n
  s.setOut n { s.out n with src := s.get OUT_CFG.SRC n, deskew := s.get OUT_DRV.DESKEW n }

/-- R71, R73: output `n` reaches the muted level; a divider that waits takes its place (R369). -/
def State.outMuted (s : State) (n : Nat) : State :=
  let o := s.out n
  let s := s.set OUT_STS.STATE 0 n
  match o.divPend with
  | some (d, k) => (s.set OUT_DIV.DIVM1 d n).setOut n { o with stopping := false, divPend := none, k0 := k, hold := none }
  | none => s.setOut n { o with stopping := false, hold := none }

/-- R94, R369: a waiting divider takes effect once its first rising edge has passed. -/
def State.outDivider (s : State) (n : Nat) : State :=
  let o := s.out n
  match o.divPend with
  | some (d, k) =>
    if k ≤ patternIndex (s.chan o.src) (s.p0 o.src) then
      (s.set OUT_DIV.DIVM1 d n).setOut n { o with divPend := none, k0 := k }
    else s
  | none => s

/-- R71: output `n` at a boundary. -/
def State.outBoundary (s : State) (n : Nat) : State :=
  let s := s.outDivider n
  let s := s.setB OUT_STS.OVERSPEED (s.on OUT_CFG.EN n && !s.outFreqOk n) n
  let o := s.out n
  let ok := s.outMayRun n
  let s := s.cond (o.hold.any fun ab => decide (ab.2 ≤ s.patternRise n)) fun s => s.setOut n { o with hold := none }
  match s.get OUT_STS.STATE n with
  | 2 => if ok then s else s.setOut n { s.out n with stopping := true }
  | 1 => if ok then s else s.set OUT_STS.STATE 0 n
  | 0 => if ok && !o.stopping && !o.muteWait then s.outStarting n else s
  | _ => s

/-- R71: PPS pin `m` at a boundary: a condition that fails stops it. -/
def State.ppsBoundary (s : State) (m : Nat) : State :=
  if s.ppsRuns m && !s.ppsMayRun m then s.setPps m { s.ppsPin m with stopping := true } else s

/-- R369: PPS pin `m` over the tick that ends: a pulse that rose in it has the width configured then, and a bound on its rise is met. -/
def State.ppsPulse (s : State) (m : Nat) : State :=
  let o := s.ppsPin m
  let x := s.chan o.src
  if !s.ppsRuns m then s
  else
    let risen := (x.time : Int) - s.ppsLastRise m < (tickAdvance x (s.p0 o.src) : Int)
    s.setPps m { o with
      width := if risen then s.get PPS_WIDTH.WIDTH m else o.width
      hold := o.hold.filter fun ab => decide (s.ppsPatternRise m x.time < ab.2) }

/-- R50: outputs are muted as L3 mutes them. -/
def State.muteAllNow (s : State) : State :=
  let s := State.upto 128 (fun n s => if s.get OUT_STS.STATE n = 1 ∨ s.get OUT_STS.STATE n = 2 then s.outMuted n else s) s
  (State.upto 16 (fun m s => s.setPps m { s.ppsPin m with stopping := false }) s).set OUT_PPS_STS.RUN 0

/-- OUTPUT_START (R71, R73): the first rising pattern edge at least one output period after the conditions were met. -/
def execOutputStart (pin : OutPin) (s : State) : Host.Outcome State Fault Refusal :=
  match pin with
  | .out n => onUnit n 128 s (
      if s.get OUT_STS.STATE n = 1 ∧ s.outMayRun n then s.set OUT_STS.STATE 2 n else s)
  | .pps m => onUnit m 16 s (
      if !s.ppsRuns m ∧ s.ppsMayRun m ∧ ¬ (s.ppsPin m).stopping then
        let s := s.setBit OUT_PPS_STS.RUN m true
        s.setPps m { s.ppsPin m with
          src := s.get PPS_CFG.SRC m, width := s.get PPS_WIDTH.WIDTH m
          ofs := signedOf 32 (s.get PPS_OFS.OFS m), hold := none }
      else s)

/-- OUTPUT_STOP (R71): the high phase in progress has ended and the pin holds the muted level. -/
def execOutputStop (pin : OutPin) (s : State) : Host.Outcome State Fault Refusal :=
  match pin with
  | .out n => onUnit n 128 s (if s.get OUT_STS.STATE n = 2 ∧ (s.out n).stopping then s.outMuted n else s)
  | .pps m => onUnit m 16 s (
      if s.ppsRuns m ∧ (s.ppsPin m).stopping then
        (s.setBit OUT_PPS_STS.RUN m false).setPps m { s.ppsPin m with stopping := false, hold := none }
      else s)

/-- DRIVER_CHANGE_MUTE_END (R73): the output starts under R71. -/
def execDriverChangeMuteEnd (n : Nat) (s : State) : Host.Outcome State Fault Refusal :=
  onUnit n 128 s (
    let o := s.out n
    if o.muteWait ∧ ¬ o.stopping ∧ s.get OUT_STS.STATE n = 0 then
      let s := s.setOut n { o with muteWait := false }
      if s.outMayRun n then s.outStarting n else s
    else s)

/-- One OUT or PPS word of a write group applies at its boundary (R64, R70, R73, R369). `w` is the whole word. -/
def State.applyOutWord (s : State) (g : GWord) : State :=
  let i := g.i
  let old := s.rd g.r i
  match g.r with
  | .OUT_CFG =>
    let s' := s.wr .OUT_CFG i g.w
    let o := s.out i
    if OUT_CFG.SRC.of old = OUT_CFG.SRC.of g.w then s'
    else
      match s.get OUT_STS.STATE i with
      | 2 => s'.setOut i { o with stopping := true }
      | 1 => s'.setOut i { o with src := OUT_CFG.SRC.of g.w }
      | _ => s'
  | .OUT_DIV =>
    if s.get OUT_STS.STATE i = 2 then
      let o := s.out i
      s.hopDivider i (OUT_DIV.DIVM1.of g.w) (patternIndex (s.chan o.src) (s.p0 o.src))
    else s.wr .OUT_DIV i g.w
  | .OUT_DRV =>
    let o := s.out i
    let dsk := OUT_DRV.DESKEW.of g.w
    let s' := s.wr .OUT_DRV i g.w
    if s.get OUT_STS.STATE i = 2 then
      let change := OUT_DRV.TYPE.of old != OUT_DRV.TYPE.of g.w || OUT_DRV.SWING.of old != OUT_DRV.SWING.of g.w
      let s' := s'.setB OUT_STS.DESKEW_PEND (dsk != o.deskew) i
      if change then s'.setOut i { o with stopping := true, muteWait := true } else s'
    else s'.setOut i { o with deskew := dsk }
  | .PPS_CFG =>
    let s' := s.wr .PPS_CFG i g.w
    if PPS_CFG.SRC.of old ≠ PPS_CFG.SRC.of g.w ∧ s.ppsRuns i then s'.setPps i { s.ppsPin i with stopping := true } else s'
  | .PPS_OFS =>
    let s' := s.wr .PPS_OFS i g.w
    let new := signedOf 32 g.w.toNat
    if s.ppsRuns i then
      if (s.ppsPin i).ofs = new then s'
      else s'.setPps i { s.ppsPin i with ofs := new, hold := some (s.ppsLastRise i, s.ppsLastRise i + (tuSec : Nat)) }
    else s'
  | r => s.wr r i g.w

/-! ### Loop-back check (R78) -/

/-- Whether the check of a pin runs: enabled, and not suspended by L2 (R72), L3 or L4, or TEST. -/
def State.lbActive (s : State) (pin : OutPin) : Bool :=
  s.mode != 0 && s.mode != 11 && (match pin with
    | .out n => s.on OUT_CFG.LB_EN n
    | .pps m => s.on PPS_CFG.LB_EN m)

/-- R222 cause 3: an active whose peer is in STANDBY_STEP yields at the next boundary on a loop-back fault. -/
def State.lbYield (s : State) : State :=
  s.cond (s.peerInStep && s.on PAIR_CFG.LB_YIELD && s.pair.yieldPend.isNone) fun s =>
    { s with pair := { s.pair with yieldPend := some 3 } }

/-- A declaration of R78: the fault bit and the counter, once per declaration. -/
def State.lbDeclare (s : State) (pin : OutPin) (cnt : Rg) : State :=
  if s.lbActive pin then
    (match pin with
      | .out n => (s.set OUT_STS.LB_FAULT 1 n).inc cnt n
      | .pps m => (s.setBit OUT_PPS_STS.LB_FAULT m true).inc .PPS_LB_CNT m).lbYield
  else s

/-- Run an event of a pin the device has. -/
def onPin (pin : OutPin) (s t : State) : Host.Outcome State Fault Refusal :=
  match pin with
  | .out n => onUnit n 128 s t
  | .pps m => onUnit m 16 s t

/-- LOOPBACK_MISS (R78). -/
def execLoopbackMiss (pin : OutPin) (s : State) : Host.Outcome State Fault Refusal :=
  onPin pin s (s.lbDeclare pin .OUT_LB_MISS_CNT)

/-- LOOPBACK_EXTRA (R78). -/
def execLoopbackExtra (pin : OutPin) (s : State) : Host.Outcome State Fault Refusal :=
  onPin pin s (s.lbDeclare pin .OUT_LB_EXTRA_CNT)

/-- LOOPBACK_FAULT_CLEAR (R78): 64 clean ticks, or 4 matched edges below 1 MHz. -/
def execLoopbackFaultClear (pin : OutPin) (s : State) : Host.Outcome State Fault Refusal :=
  onPin pin s (if s.lbActive pin then
      match pin with
      | .out n => s.set OUT_STS.LB_FAULT 0 n
      | .pps m => s.setBit OUT_PPS_STS.LB_FAULT m false
    else s)

end Sys2Proof.Machine
end

