-- ==== Sys2Proof/Machine/Pair.lean ====
section
/-! DEFINITION. Redundant pair operation (08): heartbeats, claims, formation, the Gnoavo link and its records, epochs, execution in step,
digests and divergence, takeover and handover. -/

namespace Sys2Proof.Machine

/-- R200, R275: the pair logic of a paired unit acts in every mode but RESET and TEST. -/
def State.pairRuns (s : State) : Bool := s.on PAIR_CFG.EN && s.mode != 0 && s.mode != 11

/-- Run `f` while the pair logic acts. -/
def State.onPair (s : State) (f : State → State) : State := if s.pairRuns then f s else s

/-- R200, R205: records of a peer whose identity fails are not taken: the unit acts as if it were absent. -/
def State.onPeer (s : State) (f : State → State) : State := if s.pairRuns && !s.pair.helloBad then f s else s

/-- R200: ROLE shows 3 for a standalone unit. -/
def State.showRole (s : State) : State :=
  if s.mode = 0 then s
  else if !s.on PAIR_CFG.EN then s.set PAIR_STS.ROLE 3
  else s.cond (s.get PAIR_STS.ROLE == 3) (·.set PAIR_STS.ROLE 0)

/-- The unit holds no role (R234): none yet, or standalone. -/
def State.noRole (s : State) : Bool := s.get PAIR_STS.ROLE == 0 || s.get PAIR_STS.ROLE == 3

/-- R204, R227: this unit is the preferred one, by agreed PREF. -/
def State.preferred (s : State) : Bool := s.pair.prefAgreed && s.get PAIR_CFG.PREF == s.get DEV_STRAP.POS + 1

/-- R204, R227: the peer is the preferred one, by agreed PREF. -/
def State.peerPreferred (s : State) : Bool := s.pair.prefAgreed && s.get PAIR_CFG.PREF == 2 - s.get DEV_STRAP.POS

/-- R200: the link is up to a peer of matching identity; after a mismatch the unit acts as if the peer were absent. -/
def State.peerLinked (s : State) : Bool := s.on PAIR_STS.LINK_UP && !s.pair.helloBad

/-- R200, R203: a peer of matching identity is alive. -/
def State.peerLives (s : State) : Bool := s.on PAIR_STS.PEER_ALIVE && !s.pair.helloBad

/-- An epoch runs (R229). -/
def State.epochRuns (s : State) : Bool := s.get PAIR_EPOCH_STS.PHASE != 0

/-- Queue a record for the next lane frame. -/
def State.pairSend (s : State) (r : PairRec) : State := { s with pair := { s.pair with out := s.pair.out ++ [r] } }

/-- R216: the active's number of the present tick. -/
def State.activeTick (s : State) : Int := (s.dev.tick : Int) + s.pair.rel

/-- R208, R216: the own tick number of a tick given by its low 32 bits in the active's numbering. -/
def State.ownTick (s : State) (t : Nat) : Nat :=
  ((s.dev.tick : Int) + signedOf 32 (fieldOf 32 ((t : Int) - s.activeTick))).toNat

/-! ### Epochs (R229, R232) -/

/-- R224, R232: a frequency program takes a build-out zero at its next iteration, whatever BUILDOUT holds. -/
def State.rejoin (s : State) (c : Nat) : State :=
  s.cond (s.freqProg c) fun s => s.setChan c ((s.chan c).join true)

/-- R232: an epoch aborts on the standby. Joined channels keep their state and return to the unit's own inputs. After the ACK no cause
aborts it. -/
def State.abortEpoch (s : State) (cause : Nat) : State :=
  if !s.isStandby || !s.epochRuns || s.pair.commitAt.isSome then s
  else
    let s := (s.inc .PAIR_EPOCH_ABORT_CNT).set PAIR_EPOCH_STS.LAST_ABORT cause
    let s := (s.set PAIR_EPOCH_STS.PHASE 0).set PAIR_EPOCH_STS.JOINED 0
    let s := ((s.set PAIR_STS.PACED 0).set PAIR_STS.GRID_OK 0).set PAIR_STS.ALIGNED 0
    let s := s.pair.joined.foldl (fun s c => s.rejoin c) s
    let s := s.cond (s.on PAIR_STS.LINK_UP) (·.pairSend (.epochAbort (s.get PAIR_EPOCH_STS.EPOCH)))
    { s with pair := { s.pair with
        joined := [], copyPend := [], copyWords := [], verified := 0, stream := [], cfgOpen := [], streamInputs := [], seen := []
        rxSseq := none } }.pairLog 2

/-- R229: the standby starts an epoch. -/
def State.startEpoch (s : State) : State :=
  let n := (s.get PAIR_EPOCH_STS.EPOCH + 1) % 65536
  let s := (((s.set PAIR_EPOCH_STS.EPOCH n).set PAIR_EPOCH_STS.PHASE 1).set PAIR_EPOCH_STS.JOINED 0).set PAIR_CMD.RESYNC 0
  { s with pair := { s.pair with
      epochDue := false, joined := [], copyPend := [], copyWords := [], verified := 0, rxSseq := none, stream := []
      cfgOpen := [], streamInputs := [], seen := [], out := s.pair.out ++ [PairRec.epochOffer n] } }

/-- R229: the conditions under which a standby starts an epoch that is due. -/
def State.tryEpoch (s : State) : State :=
  if s.pair.epochDue && s.isStandby && s.mode == 8 && s.peerLinked && s.peerLives && s.pair.peerRole == 1
      && s.get PAIR_STS.PEER_MODE != 10 && !s.epochRuns && !s.pair.detachPend && !s.pair.takeoverPend then s.startEpoch
  else s

/-- R25: the unit enters STANDBY_DETACHED at the next boundary; an epoch becomes due. -/
def State.detach (s : State) : State := { s with pair := { s.pair with detachPend := true, epochDue := true } }

/-! ### Claims and formation (R204, R205) -/

/-- R204, R205, R223: what a unit does once ACTIVE_N has read high for its claim wait. -/
def State.tryClaim (s : State) : State :=
  if !s.pair.waitDone || s.pair.peerLow then s
  else if s.pair.claimWant && s.get PAIR_STS.ROLE == 0 && s.isRun then
    let s := (s.set PAIR_STS.ROLE 1).set PAIR_STS.FORMED 1
    { s with pair := { s.pair with drive := true, claimWant := false, forming := false } }
  else if s.isStandby && (s.mode == 7 || s.mode == 8) && !s.peerLinked
      && (!s.peerLives || s.pair.leftOnEdge) then
    { s with pair := { s.pair with takeoverPend := true } }
  else s

/-- R205 row 1: the pair forms over the link. -/
def State.tryForm (s : State) : State :=
  if s.pair.forming && s.isRun && s.get PAIR_STS.ROLE == 0 && s.on PAIR_STS.LINK_UP && s.pair.helloOk then
    if s.pair.peerLow || s.pair.peerRole == 1 then s.detach
    else { s with pair := { s.pair with claimWant := true } }.tryClaim
  else s

/-- R205: a paired unit without a role starts to form a pair as it begins to run. -/
def State.startForming (s : State) : State :=
  if s.on PAIR_CFG.EN && s.get PAIR_STS.ROLE == 0 then { s with pair := { s.pair with forming := true } }.tryForm else s

/-- CLAIM_WAIT_EXPIRED (R204). -/
def execClaimWaitExpired (s : State) : Host.Outcome State Fault Refusal :=
  done (s.onPair fun s =>
    if s.pair.peerLow then s else { s with pair := { s.pair with waitDone := true } }.tryClaim)

/-- ACTIVE_N_FALL (R204, R205): the claim first seen holds. -/
def execActiveNFall (s : State) : Host.Outcome State Fault Refusal :=
  let s := { s with pair := { s.pair with peerLow := true, waitDone := false } }
  done (s.onPair fun s =>
    if s.pair.claimWant ∧ s.get PAIR_STS.ROLE = 0 then { s with pair := { s.pair with claimWant := false } }.detach else s)

/-- ACTIVE_N_RISE (R204, R223): the claim wait starts; a blocked claim is no longer blocked. -/
def execActiveNRise (s : State) : Host.Outcome State Fault Refusal :=
  let s := { s with pair := { s.pair with peerLow := false, waitDone := false } }
  done (s.onPair fun s => s.set PAIR_STS.CLAIM_BLOCK 0)

/-- FORM_WAIT_EXPIRED (R205 row 2). -/
def execFormWaitExpired (s : State) : Host.Outcome State Fault Refusal :=
  done (s.onPair fun s =>
    if s.pair.forming ∧ s.isRun ∧ s.get PAIR_STS.ROLE = 0 ∧ ¬ s.peerLinked ∧ ¬ s.peerLives then
      if s.pair.peerLow then s.detach else { s with pair := { s.pair with claimWant := true } }.tryClaim
    else s)

/-! ### Heartbeats, peer death, link (R202, R203, R209, R228) -/

/-- HEARTBEAT_TOGGLE (R202): in the modes of R22 both outputs toggle. -/
def execHeartbeatToggle (s : State) : Host.Outcome State Fault Refusal :=
  done (if (3 ≤ s.mode ∧ s.mode ≤ 8) ∨ s.mode = 10 then
      { s with pair := { s.pair with hbOut := (!s.pair.hbOut.1, !s.pair.hbOut.2) } }
    else s)

/-- R203, R223, R228: the peer is declared dead when both inputs are dead and the link is down. -/
def State.checkDeath (s : State) : State :=
  if s.on PAIR_STS.PEER_ALIVE && !s.on PAIR_STS.HB0_OK && !s.on PAIR_STS.HB1_OK && !s.on PAIR_STS.LINK_UP then
    let s := (s.inc .PAIR_PEER_DEATH_CNT).set PAIR_STS.PEER_ALIVE 0
    let s := { s with pair := { s.pair with peerRole := 0 } }
    if s.isStandby && (s.mode == 7 || s.mode == 8) then
      let s := s.abortEpoch 2
      if s.pair.peerLow then
        ((s.set PAIR_STS.CLAIM_BLOCK 1).inc .PAIR_CLAIM_BLOCK_CNT).cond (s.mode == 7) State.detach
      else s.tryClaim
    else s
  else s

/-- The field of a heartbeat input. -/
def hbOk : Nat → Fld
  | 0 => PAIR_STS.HB0_OK
  | _ => PAIR_STS.HB1_OK

/-- HEARTBEAT_EDGE (R203, R228): the input is alive; the first edge after a link loss ends the holding of STANDBY_STEP. -/
def execHeartbeatEdge (k : Nat) (s : State) : Host.Outcome State Fault Refusal :=
  onUnit k 2 s (s.onPair fun s =>
    let s := ((s.set (hbOk k) 1).set PAIR_STS.PEER_ALIVE 1).set PAIR_STS.CLAIM_BLOCK 0
    let s := { s with pair := { s.pair with hbEdge := k :: s.pair.hbEdge.filter (· != k) } }
    if s.pair.holdStep then
      { s with pair := { s.pair with holdStep := false, leftOnEdge := true } }.detach.tryClaim
    else s)

/-- HEARTBEAT_INPUT_DEAD (R203). An edge in the cycle in which the window runs out keeps the input alive (R21): no window can have run out
in the tick of an edge. -/
def execHeartbeatInputDead (k : Nat) (s : State) : Host.Outcome State Fault Refusal :=
  onUnit k 2 s (s.onPair fun s =>
    if s.on (hbOk k) && !(s.dev.ticking && s.pair.hbEdge.contains k) then
      ((s.set (hbOk k) 0).inc (if k = 0 then .PAIR_HB0_MISS_CNT else .PAIR_HB1_MISS_CNT)).checkDeath
    else s)

/-- PAIR_LINK_UP (R209, R205, R229). -/
def execPairLinkUp (s : State) : Host.Outcome State Fault Refusal :=
  done (s.onPair fun s =>
    if s.on PAIR_STS.LINK_UP then s
    else
      let s := ((s.set PAIR_STS.LINK_UP 1).set PAIR_STS.PEER_ALIVE 1).set PAIR_STS.CLAIM_BLOCK 0
      { s with pair := { s.pair with leftOnEdge := false, epochDue := s.pair.epochDue || (s.isStandby && s.mode == 8) } }.tryForm)

/-- R209, R228: the link is lost. The active stops the lead, a standby in step holds it, an epoch aborts. -/
def State.linkLoss (s : State) : State :=
  if s.on PAIR_STS.LINK_UP then
    let s := (s.set PAIR_STS.LINK_UP 0).inc .PAIR_LINK_LOSS_CNT
    let s := s.abortEpoch 1
    let s := if s.isActive then (s.stopStream.set PAIR_STS.IN_STEP 0).set PAIR_EPOCH_STS.PHASE 0
      else if s.isStep then { s with pair := { s.pair with holdStep := true, streamInputs := [], seen := [] } }
      else s
    { s with pair := { s.pair with helloOk := false, peerRole := 0 } }.checkDeath
  else s

/-- PAIR_LINK_LOSS (R209): by loss of block lock, or by LINK_WIN ticks without a valid frame. -/
def execPairLinkLoss (_blockLock : Bool) (s : State) : Host.Outcome State Fault Refusal := done (s.onPair State.linkLoss)

/-- R233: a booting unit that seeks a clone takes lane frames whatever PAIR_CFG.EN holds. -/
def State.cloneSeeks (s : State) : Bool := s.mode == 1 && s.rst.cloneOpen

/-- PAIR_LANE_FRAME_RECEIVED (R208, R209): a frame with a bad CRC or another TICK is discarded whole and counted; records of unknown
type are skipped and counted. A frame is taken in the tick in which its start block arrives (R216). -/
def execPairLaneFrameReceived (lane : Nat) (crcOk tickMatches : Bool) (tick epoch : Nat) (act : Bool) (unknownRecords : Nat)
    (s : State) : Host.Outcome State Fault Refusal :=
  onUnit lane 4 s (
    if s.pairRuns || s.cloneSeeks then
      if !crcOk || !tickMatches then s.inc .PAIR_RX_ERR_CNT
      else
        let s := s.add .PAIR_RX_ERR_CNT unknownRecords
        { s with pair := { s.pair with
          frameRel := signedOf 40 (fieldOf 40 ((tick : Int) - s.dev.tick)), frameOwn := some s.dev.tick, frameAct := act
          frameEpoch := epoch % 256 } }
    else s)

/-! ### HELLO, ROLE, YIELD -/

/-- HELLO (R200, R205). -/
def execHello (pos : Bool) (pairId pref : Nat) (revert : Bool) (hash : Word) (s : State) : Host.Outcome State Fault Refusal :=
  done (s.onPair fun s =>
    let idOk := pairId == s.get PAIR_CFG.PAIR_ID && flag pos != s.get DEV_STRAP.POS
    let hashOk := hash == s.mgmt.hash
    let agree := pref == s.get PAIR_CFG.PREF && revert == s.on PAIR_CFG.REVERT
    let s := s.setB PAIR_STS.PEER_ERR (!idOk || !hashOk || !agree)
    { s with pair := { s.pair with
        helloOk := idOk && hashOk, helloBad := !idOk
        prefAgreed := if idOk then agree else s.pair.prefAgreed
        helloMismatch := if idOk then !agree else s.pair.helloMismatch } }.tryForm.tryClaim)

/-- R226: the active grants a planned handover: boundary h is PAIR_LEAD + 2 ticks after the tick of the send. -/
def State.grantHandover (s : State) : State :=
  if s.pair.handoverAt.isSome then s
  else
    let h := s.dev.tick + 1 + s.get HOP_CTL.PAIR_LEAD + 2
    let s := s.pairSend (.epochHandover ((s.get PAIR_EPOCH_STS.EPOCH + 1) % 65536) (h % 2 ^ 32))
    { s with pair := { s.pair with handoverAt := some h, handoverOld := true } }

/-- R218, R216: grid measurement while paced: A is this unit's own measurement, which no command carries (assumption 4). -/
def State.measureGrid (s : State) (b : Int) : State :=
  if s.isStandby && s.on PAIR_STS.PACED then
    let r := s.drawInt
    let s := r.2
    let g := (b - r.1).tdiv 2
    let s := s.set PAIR_GRID.G (fieldOf 16 (clampInt g (-32768) 32767))
    let s := s.set PAIR_GRID.LINKDLY (clampInt ((r.1 + b).tdiv 2 - 2000) 0 65535).toNat
    s.setB PAIR_STS.GRID_OK (decide (g.natAbs ≤ 12))
  else s

/-- R204, R226: the own tick of the frame that brought the present record: that of the last valid frame, which may be the tick before. -/
def State.recordTick (s : State) : Nat :=
  match s.pair.frameOwn with
  | some t => if t + 1 = s.dev.tick then t else s.dev.tick
  | none => s.dev.tick

/-- R204: both units' ROLE records of one tick show a claim: the unit with POS = 1 gives way. -/
def State.claimsMeet (s : State) (roleCode : Nat) (claim : Bool) : Bool :=
  claim && roleCode == 1 && s.on PAIR_STS.LINK_UP && s.on DEV_STRAP.POS && s.pair.claimFrom.any fun t => decide (t ≤ s.recordTick)

/-- R204: the claim is released, and the unit takes the standby role. -/
def State.giveWay (s : State) : State :=
  let s := (s.stopStream.set PAIR_STS.ROLE 2).set PAIR_STS.IN_STEP 0
  { s with pair := { s.pair with drive := false } }.detach

/-- R227: a standby in step that shows a claim asks for the active role; the preferred unit may. -/
def State.revertAsked (s : State) (roleCode mode : Nat) (claim : Bool) : Bool :=
  claim && roleCode == 2 && mode == 7 && s.on PAIR_CFG.REVERT && s.peerPreferred && !s.pair.helloMismatch && s.isRun

/-- R204, R211, R227: what the active takes from a ROLE record. -/
def State.roleToActive (s : State) (roleCode mode : Nat) (claim : Bool) (phase : Nat) : State :=
  let s := s.setB PAIR_STS.IN_STEP (roleCode == 2 && mode == 7)
  let s := s.cond (s.pair.streaming && roleCode == 2) (·.set PAIR_EPOCH_STS.PHASE phase)
  let s := s.cond (s.pair.streaming && roleCode != 2) fun s => s.stopStream.set PAIR_EPOCH_STS.PHASE 0
  if s.claimsMeet roleCode claim then s.giveWay
  else s.cond (s.revertAsked roleCode mode claim) State.grantHandover

/-- R205, R232: what any other unit takes from a ROLE record. -/
def State.roleToOther (s : State) (roleCode mode : Nat) : State :=
  let s := s.cond (s.epochRuns && mode == 10) (·.abortEpoch 7)
  let s := s.cond (s.epochRuns && roleCode != 1) (·.abortEpoch 2)
  s.tryForm

/-- ROLE (R204, R205, R216, R226, R227, R232). A claim flag from a standby in STANDBY_STEP is its revertive request. A record sent before this
unit's role began reports the peer's role before a handover, and changes none. -/
def execRole (roleCode mode : Nat) (claim : Bool) (phase : Nat) (gridB : Int) (s : State) : Host.Outcome State Fault Refusal :=
  done (s.onPeer fun s =>
    let s := s.measureGrid gridB
    if s.recordTick < s.pair.roleTick then s
    else
      let s := s.set PAIR_STS.PEER_MODE mode
      let s := { s with pair := { s.pair with peerRole := roleCode } }
      let s := if s.isActive then s.roleToActive roleCode mode claim phase else s.roleToOther roleCode mode
      s.tryEpoch)

/-- YIELD (R223): causes 1 to 4 make the standby take over at the next boundary. -/
def execYield (cause _tick : Nat) (s : State) : Host.Outcome State Fault Refusal :=
  done (s.onPeer fun s =>
    if s.isStandby ∧ (s.mode = 7 ∨ s.mode = 8) ∧ 1 ≤ cause ∧ cause ≤ 4 then
      let s := s.cond (cause == 4) (·.abortEpoch 7)
      { s with pair := { s.pair with takeoverPend := true, peerRole := 0 } }
    else s)

/-! ### Execution in step (R211 to R214) -/

/-- R214: a late event on a standby in step is a divergence with no unit at fault; in VERIFY it aborts the epoch (R232). -/
def State.lateEvent (s : State) : State :=
  if s.isStep then
    let s := (s.inc .PAIR_EVT_LATE_CNT).wr .PAIR_DIV 0 (BitVec.ofNat 32 (2 ^ 30 + fieldOf 16 s.activeTick))
    s.detach.pairLog 9
  else s.cond (s.get PAIR_EPOCH_STS.PHASE == 5) (·.abortEpoch 4)

/-- R212, R214: the standby takes an event record: it waits for its EXEC boundary. -/
def State.takeEvent (s : State) (sseq exec : Nat) (r : PairRec) : State :=
  s.onPeer fun s =>
    if s.isStandby && (s.isStep || (s.mode == 8 && 2 ≤ s.get PAIR_EPOCH_STS.PHASE)) then
      let own := s.ownTick exec
      let late := own ≤ s.dev.tick || s.pair.rxSseq.any (· != sseq)
      let s := { s with pair := { s.pair with rxSseq := some ((sseq + 1) % 65536) } }
      if late then
        s.lateEvent.cond (s.dev.tick < own) fun s => { s with pair := { s.pair with stream := s.pair.stream ++ [⟨own, r⟩] } }
      else { s with pair := { s.pair with stream := s.pair.stream ++ [⟨own, r⟩] } }
    else s

/-- The target of a HOP record. -/
def hopRecTarget (r : HopRec) : HopTarget := ⟨r.chTarget, r.ch, r.gmask⟩

/-- HOP_STREAM_RECORD (R100, R212): scheduled at the same offset of its corresponding tick. While an epoch runs the hop carries no lead,
and the joined channels it reaches join again (R230). -/
def execHopStreamRecord (r : HopRec) (s : State) : Host.Outcome State Fault Refusal :=
  done (if s.isStandby ∧ s.mode = 8 then
      s.onPeer fun s =>
        let cs := (s.hopTargets .peer (hopRecTarget r)).map (·.1)
        let s := { s with pair := { s.pair with
          rxSseq := some ((r.sseq + 1) % 65536), joined := s.pair.joined.filter fun c => !cs.contains c } }
        s.cond s.epochRuns (·.set PAIR_EPOCH_STS.JOINED s.pair.joined.length)
    else s.takeEvent r.sseq r.exec (.hop r))

/-- PEER_HOP_ROUTER_ENTRY (R89, R100): the ROOT cycle at offset `cyc` of the tick, five ROOT cycles before H. -/
def execPeerHopRouterEntry (cyc : Nat) (s : State) : Host.Outcome State Fault Refusal :=
  done (
    let due (e : StreamEv) : Bool := match e.ev with
      | .hop r => ((e.exec : Int) - s.dev.tick) * 12800 + r.ofs == (cyc / 8 * 8 + 40 : Nat)
      | _ => false
    match s.pair.stream.find? due with
    | some e => match e.ev with
      | .hop r =>
        let s := { s with pair := { s.pair with stream := s.pair.stream.filter (· != e) } }
        s.trigger .peer (hopRecTarget r) (s.msyn.mcc + cyc / 8 * 8 + 40)
      | _ => s
    | none => s)

/-- CONFIG (R211, R212). -/
def execConfig (sseq exec : Nat) (pairs : List (Nat × Word)) (endOfGroup : Bool) (s : State) : Host.Outcome State Fault Refusal :=
  done (s.takeEvent sseq exec (.config sseq exec pairs endOfGroup))

/-- READINGS (R211, R212). -/
def execReadings (sseq exec mcc : Nat) (inputs : List InputReading) (s : State) : Host.Outcome State Fault Refusal :=
  done (s.takeEvent sseq exec (.readings sseq exec mcc inputs))

/-- MESSAGE (R211, R212). -/
def execMessage (sseq exec target : Nat) (stamp : Stamp) (octets : List Octet) (s : State) : Host.Outcome State Fault Refusal :=
  done (s.takeEvent sseq exec (.message sseq exec target stamp octets))

/-- QL (R211, R212). -/
def execQl (sseq exec input ssm essm : Nat) (s : State) : Host.Outcome State Fault Refusal :=
  done (s.takeEvent sseq exec (.ql sseq exec input ssm essm))

/-- R212: the readings of a tick come into force: the states for selection, and per input the tick of the last fresh and the last stale one. -/
def State.takeReadings (s : State) (exec mcc : Nat) (is : List InputReading) : State :=
  let note (t : Tab (Nat × Nat)) (r : InputReading) : Tab (Nat × Nat) :=
    let e := Tab.get (0, 0) t r.idx
    Tab.set (0, 0) t r.idx (if Reading.isFresh r.reading then exec + 1 else e.1, if r.stale then exec + 1 else e.2)
  { s with pair := { s.pair with streamInputs := is, streamMcc := mcc, seen := is.foldl note s.pair.seen } }

/-- R212: an event other than CONFIG and HOP at its boundary. On a detached standby messages reach joined channels' flows only. -/
def State.runEvent (s : State) (exec : Nat) (r : PairRec) : State :=
  match r with
  | .readings _ _ m is => s.takeReadings exec m is
  | .message _ _ f st os => if s.mode = 8 ∧ s.isStandby ∧ ¬ s.fromStream (s.flowHome f) then s else s.runMessage f st os
  | .ql _ _ i ssm essm => if s.mode = 8 ∧ s.isStandby then s else s.setQl i ssm essm
  | _ => s

/-! ### Step digests and divergence (R219 to R221) -/

/-- A quantity that may be absent, in a digest. -/
def digestOpt (n : Option Nat) : Int := n.elim (-1) (·)

/-- R83, R219: the words of a preset in a digest. -/
def presetDigest (p : Preset) : List Int :=
  [p.idx, p.pnom, p.pres.toNat, p.theta.toNat, p.divm1, p.nextIdx, flag p.chain, flag p.keepRate, flag p.ldDiv, flag p.ldPhofs, flag p.valid]

/-- R219: the live quantities of a channel at tick `t` in a digest (R54 to R63, R83 to R96, R117 to R127). -/
def Chan.digest (x : Chan) : List Int :=
  [(x.state.code : Int), x.held.code, x.p, x.resAcc, x.patK, flag x.long, x.time, x.anchor, x.thetaLive, x.thetaTarget, x.adj, x.lockRun, x.unlRun
    , x.zero, flag x.rezero, x.ovcRate, x.ovcNum, x.ovcDen, digestOpt (x.inflight.map (·.h))]
    ++ x.armed.elim [] presetDigest ++ x.inflight.elim [] (fun f => presetDigest f.preset)
    ++ x.hist.flatMap fun g => [(g.tick : Int), g.rate, flag g.locked]

/-- R219: what a digest covers of channel `c`: its words, its presets, its live quantities, its checkpoint and the phase of its iterations. -/
def State.chanDigest (s : State) (c : Nat) : List Int :=
  let word (r : Rg) : Int := (s.rd r c).toNat
  [(s.p0 c : Int), word .CH_CFG, word .CH_PRES, word .CH_PHOFS, word .CH_DRIZZLE, word .CH_LOCK, word .CH_HOP, s.prog c
    , s.get ENG_CHMAP.SEL_VALID c, s.get ENG_CHMAP.SEL_IDX c, s.get ENG_CHMAP.SEL c
    , (s.chan c).t0.elim (-1) fun t => (((s.dev.tick - t) % s.interval c : Nat) : Int)]
    ++ (s.chan c).digest
    ++ ((List.range 512).map fun w => ((s.rd .PRESET (c * 512 + w)).toNat : Int))
    ++ (List.range 128).map fun w => (s.param c w : Int)

/-- R219, R231: whether the digest of active tick `t` leaves channel `c` out: a pair follower, one that has not joined in an epoch, one under
repair. -/
def State.digestSkips (s : State) (c : Nat) (t : Nat) : Bool :=
  s.prog c == 4 || ((s.epochRuns || (s.mode == 8 && s.isStandby)) && !s.pair.joined.contains c)
    || s.pair.repair.any fun r => r.1 == c && decide (r.2 ≤ t % 2 ^ 32)

/-- STEP_DIGEST (R219): at every active tick divisible by 1,000 a unit of a formed pair forms its digest and queues the record. -/
def execStepDigest (s : State) : Host.Outcome State Fault Refusal :=
  done (s.onPair fun s =>
    let t := s.activeTick
    if s.on PAIR_STS.FORMED ∧ 0 ≤ t ∧ t % 1000 = 0 then
      let t := t.toNat
      let qs := (List.range 512).map fun c => if s.digestSkips c t then [] else s.chanDigest c
      let d : DigestRec := ⟨t % 2 ^ 32, Config.digestCrc qs, s.pair.evidence,
        qs.map fun q => if q.isEmpty then 0 else Config.channelCrc q % 65536⟩
      { s with pair := { s.pair with
          digests := d :: s.pair.digests.take 3, evidence := 0, out := s.pair.out ++ [PairRec.digest d.tick d.crc d.flags] } }
    else s)

/-- The comparison of digests matters in step and in VERIFY. -/
def State.digestsCount (s : State) : Bool :=
  s.isStep || (s.isActive && s.on PAIR_STS.IN_STEP) || s.get PAIR_EPOCH_STS.PHASE == 5

/-- R220, R221: declare and judge a divergence at digest tick `t`. Evidence flags leave master unlock (bit 4) aside. -/
def State.diverge (s : State) (t : Nat) (ch : Option Nat) (own peer : Nat) : State :=
  let sb := if s.isStandby then own % 16 else peer % 16
  let ac := if s.isStandby then peer % 16 else own % 16
  let judged := if sb != 0 then 2 else if ac != 0 then 3 else 1
  let s := s.inc .PAIR_DIGEST_MISMATCH_CNT
  let s := s.wr .PAIR_DIV 0
    (BitVec.ofNat 32 (judged * 2 ^ 30 + flag ch.isSome * 2 ^ 29 + ch.getD 0 * 2 ^ 20 + t % 65536))
  let s := (s.pairLog 10).abortEpoch 4
  match judged, s.isStandby with
  | 2, true => s.enterBasic 7
  | 3, true => { s with pair := { s.pair with takeoverPend := true } }
  | 3, false => s.enterBasic 7
  | 1, true => s.cond s.isStep State.detach
  | _, _ => s

/-- DIGEST (R220): a match counts towards VERIFY; a mismatch starts the CHDIG exchange. -/
def execDigest (tick : Nat) (crc : Word) (flags : Nat) (s : State) : Host.Outcome State Fault Refusal :=
  done (s.onPeer fun s =>
    match s.pair.digests.find? (·.tick == tick) with
    | none => s
    | some d =>
      if !s.digestsCount then s
      else
        let s := { s with pair := { s.pair with peerDigest := some (tick, crc, flags) } }
        if d.crc = crc then
          if s.isStandby ∧ s.get PAIR_EPOCH_STS.PHASE = 5 then
            let n := s.pair.verified + 1
            let s := { s with pair := { s.pair with verified := n } }
            if s.get PAIR_EPOCH_CFG.VERIFY_N ≤ n then
              (s.set PAIR_EPOCH_STS.PHASE 6).pairSend (.epochCommit (s.get PAIR_EPOCH_STS.EPOCH))
            else s
          else s
        else { s.pairSend (.chdig tick d.chs) with pair := { (s.pairSend (.chdig tick d.chs)).pair with verified := 0 } })

/-- CHDIG (R220): a divergence is declared when a channel differs that neither unit has placed under repair. -/
def execChdig (tick : Nat) (crcs : List Nat) (s : State) : Host.Outcome State Fault Refusal :=
  done (s.onPeer fun s =>
    match s.pair.digests.find? (·.tick == tick), s.pair.peerDigest with
    | some d, some p =>
      if p.1 ≠ tick ∨ !s.digestsCount then s
      else
        match (List.range 512).find? fun c =>
            d.chs.getD c 0 != crcs.getD c 0 && !(s.pair.repair.any fun r => r.1 == c && decide (r.2 ≤ tick)) with
        | some c => s.diverge tick (some c) d.flags p.2.2
        | none => s
    | _, _ => s)

/-- DIGEST_LATE (R220): no DIGEST record 8 ticks after the digest tick. -/
def execDigestLate (s : State) : Host.Outcome State Fault Refusal :=
  done (s.onPair fun s =>
    match s.pair.digests with
    | [] => s
    | d :: _ =>
      if s.digestsCount ∧ ¬ s.pair.holdStep ∧ s.ownTick d.tick + 8 ≤ s.dev.tick ∧ ¬ s.pair.peerDigest.any (·.1 == d.tick) then
        let s := { s.inc .PAIR_DIGEST_LATE_CNT with pair := { s.pair with peerDigest := some (d.tick, d.crc, 0) } }
        s.diverge d.tick none d.flags 0
      else s)

/-! ### Epoch records (R229 to R232) -/

/-- EPOCH_OFFER (R228, R229): the active answers START and streams with lead from tick s, the tick of the frame that carries START. -/
def execEpochOffer (epoch : Nat) (s : State) : Host.Outcome State Fault Refusal :=
  done (s.onPeer fun s =>
    if s.isActive ∧ s.isRun ∧ s.on PAIR_STS.LINK_UP then
      let s := ((s.set PAIR_EPOCH_STS.EPOCH epoch).set PAIR_EPOCH_STS.PHASE 2).set PAIR_STS.IN_STEP 0
      { s with pair := { s.pair with
          streaming := true, commitAt := none, wordNext := 0, copyNext := 0, recopy := [], joined := [], copied := []
          out := s.pair.out ++ [PairRec.epochStart epoch ((s.dev.tick + 1) % 2 ^ 32)] } }
    else s)

/-- Whether an EPOCH_CTL record answers the standby's running epoch. -/
def State.epochIs (s : State) (epoch phase : Nat) : Bool :=
  s.isStandby && s.get PAIR_EPOCH_STS.EPOCH == epoch && s.get PAIR_EPOCH_STS.PHASE == phase

/-- R217: pacing starts with a trim of zero. -/
def State.zeroTrim (s : State) : State :=
  let s := ((s.wr .PAIR_TRIM 0 0).wr .PAIR_PHASE 0 0).set PAIR_STS.TRIM_HELD 0
  { s with pair := { s.pair with trimAcc := 0, alignRun := 0 } }

/-- EPOCH_START (R229, R216, R217): PACE begins; the trim starts from zero. -/
def execEpochStart (epoch _tick : Nat) (s : State) : Host.Outcome State Fault Refusal :=
  done (s.onPeer fun s =>
    if s.epochIs epoch 1 then
      ((s.set PAIR_EPOCH_STS.PHASE 2).set PAIR_STS.PACED 1).zeroTrim
    else s)

/-- R216: the step relation comes into force. -/
def State.setRel (s : State) (r : Int) : State :=
  { s.wr .PAIR_REL 0 (BitVec.ofInt 32 r) with pair := { s.pair with rel := r } }

/-- EPOCH_PACE_COMPLETE (R216, R229): `g` and `linkDelay` are in units of 0.1 ns. -/
def execEpochPaceComplete (g : Int) (linkDelay : Nat) (s : State) : Host.Outcome State Fault Refusal :=
  done (s.onPair fun s =>
    if s.isStandby ∧ s.get PAIR_EPOCH_STS.PHASE = 2 ∧ g.natAbs ≤ 12 then
      let s := (s.set PAIR_GRID.G (fieldOf 16 g)).set PAIR_GRID.LINKDLY (min linkDelay 65535)
      let s := (s.set PAIR_STS.GRID_OK 1).set PAIR_EPOCH_STS.PHASE 3
      s.setRel s.pair.frameRel
    else s)

/-- R229: the words that the configuration copy covers: CFG and CFH words of CH, OUT, ENG, REFIN, TWL, MIR and PARSE, and of the
indirect spaces. -/
def Rg.copied (r : Rg) : Bool :=
  r.cfgMask != 0 && (Rg.chRegs.contains r || Rg.outRegs.contains r || Rg.engRegs.contains r || Rg.refinRegs.contains r
    || Rg.twlRegs.contains r || Rg.mirRegs.contains r || Rg.parseRegs.contains r || Rg.indRegs.contains r)

/-- R229: a word of the configuration copy takes its place; of the rule banks' status the generation and the active bank. -/
def State.putCopy (s : State) (k : Nat) (w : Word) : State :=
  match Rg.ofKey k with
  | some (.PARSE_BANK_STS, _) => (s.set PARSE_BANK_STS.GEN (PARSE_BANK_STS.GEN.of w)).set PARSE_BANK_STS.ACTIVE (PARSE_BANK_STS.ACTIVE.of w)
  | some (r, _) => s.cond r.copied (·.putCfg k w)
  | none => s

/-- EPOCH_STATIC_COMPLETE (R229, R232): a copy that passes its check takes its place; else the epoch aborts. -/
def execEpochStaticComplete (ok : Bool) (s : State) : Host.Outcome State Fault Refusal :=
  done (s.onPair fun s =>
    if s.isStandby ∧ s.get PAIR_EPOCH_STS.PHASE = 3 then
      if ok then
        let s := s.pair.copyWords.foldl (fun s w => s.putCopy w.1 w.2) s
        { s.set PAIR_EPOCH_STS.PHASE 4 with pair := { s.pair with copyWords := [] } }
      else s.abortEpoch 6
    else s)

/-- COPY (R229, R230): words of the configuration copy, or the captured state of a channel; the standby stops posting results for the
channel and starts its replay. -/
def execCopy (c _tick : Nat) (data : ChanCopy) (s : State) : Host.Outcome State Fault Refusal :=
  onUnit c 512 s (s.onPeer fun s =>
    if !s.isStandby then s
    else if s.get PAIR_EPOCH_STS.PHASE = 3 then
      { s with pair := { s.pair with copyWords := s.pair.copyWords ++ data.words } }
    else if 4 ≤ s.get PAIR_EPOCH_STS.PHASE ∨ (s.isStep ∧ s.pair.repair.any (·.1 == c)) then
      let s := s.setChan c { s.chan c with posted := none }
      { s with pair := { s.pair with
          copyPend := c :: s.pair.copyPend.filter (· != c), joined := s.pair.joined.filter (· != c) } }
    else s)

/-- R230: the live state of a channel as a copy at boundary `tick`, of master-cycle count `mcc`, gives it. -/
def Chan.install (x : Chan) (d : ChanCopy) (t0 mcc : Nat) : Chan :=
  { x.to (ChState.ofCode d.state) with
    held := ChState.ofCode d.held, p := d.p, resAcc := d.resAcc, patK := d.patK, long := d.long, time := d.time, anchor := d.anchor
    thetaLive := d.thetaLive, thetaTarget := d.thetaTarget, adj := d.adjPend, lockRun := d.lockRun, unlRun := d.unlRun
    arming := d.arming, armed := d.armed, inflight := d.inflight.map fun f => { f with h := f.h + mcc }
    zero := d.zero, rezero := d.rezero, t0 := some t0, posted := none, running := true }

/-- R230: the standby installs the replayed state of channel `c`; outputs obey R61 across the change. -/
def State.installCopy (s : State) (c : Nat) (d : ChanCopy) : State :=
  let s := s.stepPins c ((d.time : Int) - (s.chan c).time)
  let s := s.setChan c ((s.chan c).install d (s.ownTick d.t0) s.msyn.mcc)
  let s := d.words.foldl (fun s w => s.putCfg w.1 w.2) s
  s.checkpoint c d.checkpoint

/-- CHANNEL_JOIN_COMPLETE (R229, R230, R231): `replayed` is what the replay of the copied state reaches; the loop response belongs to
the programs (R118). -/
def execChannelJoinComplete (c : Nat) (replayed : ChanCopy) (s : State) : Host.Outcome State Fault Refusal :=
  onUnit c 512 s (s.onPair fun s =>
    let unrepair (s : State) : State :=
      if s.pair.repair.any (·.1 == c) then
        { s.inc .PAIR_REPAIR_CNT with pair := { s.pair with
            repair := s.pair.repair.filter (·.1 != c), copied := s.pair.copied.filter (· != c) } }
      else s
    if s.isActive then
      let s := s.cond (s.pair.streaming && !s.peerInStep) fun s =>
        { s with pair := { s.pair with joined := c :: s.pair.joined.filter (· != c) } }
      s.cond (s.pair.copied.contains c) unrepair
    else if s.isStandby ∧ s.pair.copyPend.contains c then
      let s := s.installCopy c replayed
      let s := { s with pair := { s.pair with
        copyPend := s.pair.copyPend.filter (· != c), joined := c :: s.pair.joined.filter (· != c) } }
      let s := unrepair s
      if s.epochRuns then
        let n := s.pair.joined.length
        let s := s.set PAIR_EPOCH_STS.JOINED n
        if n = 512 ∧ s.get PAIR_EPOCH_STS.PHASE = 4 then
          { s.set PAIR_EPOCH_STS.PHASE 5 with pair := { s.pair with verified := 0 } }
        else s
      else s
    else s)

/-- EPOCH_COMMIT (R229): the active acknowledges, naming boundary c. -/
def execEpochCommit (epoch : Nat) (s : State) : Host.Outcome State Fault Refusal :=
  done (s.onPeer fun s =>
    if s.isActive ∧ s.pair.streaming ∧ s.get PAIR_EPOCH_STS.EPOCH = epoch then
      let c := s.dev.tick + 3
      { s.pairSend (.epochAck epoch (c % 2 ^ 32)) with pair := { (s.pairSend (.epochAck epoch (c % 2 ^ 32))).pair with
          commitAt := some c } }
    else s)

/-- EPOCH_ACK (R232): the ACK commits the epoch; the standby enters STANDBY_STEP at boundary c. -/
def execEpochAck (epoch tick : Nat) (s : State) : Host.Outcome State Fault Refusal :=
  done (s.onPeer fun s =>
    if s.epochIs epoch 6 ∧ s.pair.commitAt.isNone then
      { s with pair := { s.pair with commitAt := some (max (s.dev.tick + 1) (s.ownTick tick)) } }
    else s)

/-- EPOCH_ABORT (R232): the record carries no cause; the unit that receives it records a free one. -/
def execEpochAbort (epoch : Nat) (s : State) : Host.Outcome State Fault Refusal :=
  done (s.onPeer fun s =>
    if s.epochRuns ∧ s.get PAIR_EPOCH_STS.EPOCH = epoch then
      let r := s.drawNat 8
      if s.isStandby then r.2.abortEpoch r.1
      else
        let s := (r.2.inc .PAIR_EPOCH_ABORT_CNT).set PAIR_EPOCH_STS.LAST_ABORT r.1
        { s.set PAIR_EPOCH_STS.PHASE 0 with pair := { s.pair with commitAt := none } }
    else s)

/-- EPOCH_HANDOVER (R226): the standby takes over at boundary h. -/
def execEpochHandover (epoch tick : Nat) (s : State) : Host.Outcome State Fault Refusal :=
  done (s.onPeer fun s =>
    if s.isStandby ∧ s.isStep ∧ (s.get PAIR_EPOCH_STS.EPOCH + 1) % 65536 = epoch then
      { s with pair := { s.pair with handoverAt := some (max (s.dev.tick + 1) (s.ownTick tick)), handoverOld := false } }
    else s)

/-- RETIRE_RECORD (R231): the channel is under repair from the tick of the freeze. -/
def execRetireRecord (c tick : Nat) (s : State) : Host.Outcome State Fault Refusal :=
  onUnit c 512 s (s.onPeer fun s =>
    if s.on PAIR_STS.FORMED ∧ (s.on PAIR_STS.IN_STEP ∨ s.epochRuns) then
      { s with pair := { s.pair with
          repair := (c, tick % 2 ^ 32) :: s.pair.repair.filter (·.1 != c)
          copied := s.pair.copied.filter (· != c), joined := s.pair.joined.filter (· != c) } }
    else s)

/-- EPOCH_TIMEOUT (R232). -/
def execEpochTimeout (s : State) : Host.Outcome State Fault Refusal := done (s.onPair (·.abortEpoch 5))

/-- EPOCH_RETRY_DUE (R229): 100 ms after an abort. -/
def execEpochRetryDue (s : State) : Host.Outcome State Fault Refusal :=
  done (s.onPair fun s =>
    if s.isStandby ∧ s.mode = 8 then { s with pair := { s.pair with epochDue := true } }.tryEpoch else s)

/-- COLD_WINDOW_EXPIRED (R225). -/
def execColdWindowExpired (s : State) : Host.Outcome State Fault Refusal := done (s.onPair fun s =>
  { s.set PAIR_STS.COLD 0 with pair := { s.pair with coldChans := [] } })

/-- REVERT_WAIT_EXPIRED (R227): the preferred unit asks for a planned handover. -/
def execRevertWaitExpired (s : State) : Host.Outcome State Fault Refusal :=
  done (s.onPair fun s =>
    if s.isStep ∧ s.isStandby ∧ s.on PAIR_CFG.REVERT ∧ s.preferred ∧ ¬ s.pair.helloMismatch ∧ ¬ s.pair.holdStep then
      { s with pair := { s.pair with revertAsk := true } }
    else s)

/-! ### Peer reset, cloning (R233) -/

/-- CLONE_REQUEST (R233): a paired unit in modes 3 to 10 with the link up answers with image data. The content of the flash slot is no
part of the model, nor is the read rate: the number of octets is free (assumption 4). -/
def execCloneRequest (_pos : Bool) (_dieId : Nat) (s : State) : Host.Outcome State Fault Refusal :=
  done (s.onPair fun s =>
    if 3 ≤ s.mode ∧ s.mode ≤ 10 ∧ s.on PAIR_STS.LINK_UP then
      let r := s.drawNat 1161
      r.2.pairSend (.cloneData r.1)
    else s)

/-! ### Boundary operations -/

/-- R217, R218: the timebase trim and the alignment of a follower channel at an applied result. -/
def State.follow (s : State) (c : Nat) (q : Posted) : State :=
  if c = s.get PAIR_ALIGN.FCH && s.prog c == 4 && s.isStandby && s.on PAIR_STS.PACED then
    let rho := clampInt ((((s.p0 c : Int) - (s.chan c).p) * 2 ^ 40).tdiv (max 1 (s.chan c).p)) (-54975581) 54975581
    let psi := signedOf 32 (s.get PAIR_PHASE.PSI) + q.res.adj
    let run := if q.phErr.natAbs * 1000 ≤ s.get PAIR_ALIGN.WIN * 256 then s.pair.alignRun + 1 else 0
    let s := (s.wr .PAIR_TRIM 0 (BitVec.ofInt 32 rho)).wr .PAIR_PHASE 0 (BitVec.ofInt 32 psi)
    { s.setB PAIR_STS.ALIGNED (decide (64 ≤ run)) with pair := { s.pair with alignRun := run } }
  else s

/-- R215: the quality levels that the unit received for itself while in step come into use. -/
def State.takeOwnQl (s : State) : State :=
  let s := State.upto 32 (fun i s => match Tab.get none s.twl.ownQl i with
    | some (some q) => s.setQl i q.1 q.2
    | some none => s.setQl i failedQl 0
    | none => s) s
  { s with twl := { s.twl with ownQl := [] } }

/-- R224: records of the stream that a new active discards: all but HOP and CONFIG whose EXEC lies after this boundary. -/
def State.keepsEvent (s : State) (planned : Bool) (e : StreamEv) : Bool :=
  planned || match e.ev with
    | .hop _ | .config .. => true
    | _ => decide (e.exec ≤ s.dev.tick)

/-- R224, R226: the pair logic of a unit that takes the role at this boundary. -/
def Pair.taken (p : Pair) (tick : Nat) (planned : Bool) : Pair :=
  { p with
    drive := true, takeoverPend := false, detachPend := false, holdStep := false, leftOnEdge := false, commitAt := none
    handoverAt := none, epochDue := false, revertAsk := false, rel := 0, roleTick := tick
    streamInputs := if planned then p.streamInputs else [], seen := if planned then p.seen else [], streaming := planned, rxSseq := none
    copied := [], recopy := [], coldChans := p.repair.map (·.1), coldTick := tick
    repair := if planned then p.repair else [] }

/-- R223, R224: the standby takes the active role at this boundary; `planned` at boundary h of a handover (R226). -/
def State.takeRole (s : State) (planned : Bool) : State :=
  let hitless := s.isStep
  let s := s.cond (!planned) fun s => s.inc (if hitless then .PAIR_TAKEOVER_HITLESS_CNT else .PAIR_TAKEOVER_COLD_CNT)
  let s := (s.abortEpoch 2).endPairCmd
  let s := (((s.set PAIR_STS.ROLE 1).set PAIR_STS.FORMED 1).set PAIR_STS.TRIM_HELD 1).set PAIR_STS.PACED 0
  let s := ((s.set PAIR_STS.GRID_OK 0).set PAIR_STS.ALIGNED 0).setB PAIR_STS.IN_STEP planned
  let s := (s.set PAIR_STS.COLD (if hitless then s.get PAIR_STS.COLD else 1)).set PAIR_EPOCH_STS.PHASE 0
  let keep := s.keepsEvent planned
  let s := { s.setRel 0 with pair := { s.pair.taken s.dev.tick planned with stream := s.pair.stream.filter keep } }
  let s := (State.upto 512 (fun c s => s.rejoin c) s).takeOwnQl
  (s.setMode s.runMode).pairLog 11

/-- R226: at boundary h the old active becomes the standby in step; it releases ACTIVE_N one boundary later. -/
def State.giveRole (s : State) : State :=
  let s := s.stopStream.endPairCmd
  let s := ((s.set PAIR_STS.ROLE 2).set PAIR_STS.IN_STEP 1).set PAIR_STS.PACED 1
  let s := { s.zeroTrim.setRel s.pair.frameRel with pair := { s.zeroTrim.pair with
    rel := s.pair.frameRel, rxSseq := none, handoverAt := none, handoverOld := false
    releaseAt := some (s.dev.tick + 1), peerRole := 1, roleTick := s.dev.tick } }
  (s.setMode 7).pairLog 12

/-- R222, R226: at boundary h + 1 the old active releases ACTIVE_N and sends its YIELD of cause 5. -/
def State.releaseBoundary (s : State) : State :=
  s.cond (s.pair.releaseAt.any fun t => decide (t ≤ s.dev.tick)) fun s =>
    { s with pair := { s.pair with drive := false, releaseAt := none } }.pairSend (.yield 5 s.dev.tick)

/-- R226: a planned handover at its boundary: epoch e + 1 counts as committed on both units. -/
def State.handoverBoundary (s : State) : State :=
  let s := s.releaseBoundary
  if s.pair.handoverAt.any fun h => decide (h ≤ s.dev.tick) then
    let s := (s.inc .PAIR_HANDOVER_CNT).inc .PAIR_EPOCH_COMMIT_CNT
    let s := s.set PAIR_EPOCH_STS.EPOCH (s.get PAIR_EPOCH_STS.EPOCH + 1)
    if s.pair.handoverOld then s.giveRole else s.takeRole true
  else s

/-- R232: boundary c of a commit. -/
def State.commitBoundary (s : State) : State :=
  if s.pair.commitAt.any fun c => decide (c ≤ s.dev.tick) then
    let s := ((s.inc .PAIR_EPOCH_COMMIT_CNT).set PAIR_EPOCH_STS.PHASE 0).set PAIR_STS.IN_STEP 1
    let s := { s with pair := { s.pair with commitAt := none, detachPend := false, epochDue := false } }
    let s := s.cond s.isStandby fun s => { s with pair := { s.pair with joined := [] } }.setMode 7
    s.pairLog 13
  else s

/-- R222: a yield that waits for the boundary; the unit goes to STANDBY_DETACHED. -/
def State.yieldBoundary (s : State) : State :=
  match s.pair.yieldPend with
  | some k =>
    let s := (s.yieldNow k).detach
    { s with pair := { s.pair with yieldPend := none } }
  | none => s

/-- R25, R222: the unit enters STANDBY_DETACHED at this boundary. What an active that yielded had accepted for a later boundary stands. -/
def State.detachBoundary (s : State) : State :=
  if s.pair.detachPend then
    let s := (((s.set PAIR_STS.ROLE 2).set PAIR_STS.FORMED 1).set PAIR_STS.IN_STEP 0).set PAIR_STS.ALIGNED 0
    let s := ((s.set PAIR_STS.PACED 0).set PAIR_STS.GRID_OK 0).endPairCmd
    let s := s.cond (s.mode == 7) fun s => { s.takeOwnQl with pair := { s.pair with stream := [], cfgOpen := [] } }
    let s := { s with pair := { s.pair with
      detachPend := false, forming := false, claimWant := false, holdStep := false, handoverAt := none, revertAsk := false
      streamInputs := [], seen := [], streaming := false, drive := false, joined := [], copyPend := [] } }
    s.cond (3 ≤ s.mode && s.mode ≤ 7) (·.setMode 8)
  else s

/-- R223: a takeover that is due; a standby that an HB_IN edge has taken out of step has left it at this boundary first (R228). -/
def State.takeoverBoundary (s : State) : State :=
  if s.pair.takeoverPend then
    let s := s.cond s.pair.leftOnEdge State.detachBoundary
    if s.isStandby && (s.mode == 7 || s.mode == 8) then s.takeRole false
    else { s with pair := { s.pair with takeoverPend := false } }
  else s

/-- The pair transitions of a boundary, in the order handover, commit, takeover, yield, detachment; then an epoch that is due. -/
def State.pairBoundary (s : State) : State :=
  if !s.pairRuns then s
  else
    let s := { s with pair := { s.pair with hbEdge := [] } }
    s.handoverBoundary.commitBoundary.takeoverBoundary.yieldBoundary.detachBoundary.tryEpoch

/-! ### Lane frames (R207, R208, R211, R213, R230) -/

/-- The TYPE of a record (R208); the configuration copy of STATIC goes as COPY. -/
def PairRec.type : PairRec → Nat
  | .hello .. => 1 | .role .. => 2 | .yield .. => 3 | .hop .. => 4 | .retire .. => 5 | .digest .. => 6
  | .epochOffer .. => 7 | .epochStart .. => 7 | .epochCommit .. => 7 | .epochAck .. => 7 | .epochAbort .. => 7 | .epochHandover .. => 7
  | .resetReq => 8 | .config .. => 9 | .readings .. => 10 | .message .. => 11 | .ql .. => 12 | .chdig .. => 13
  | .copy .. => 14 | .static .. => 14 | .cloneRequest .. => 15 | .cloneData .. => 15

/-- The lanes a record may take (R208). -/
def PairRec.lanes (r : PairRec) : List Nat :=
  match r.type with
  | 9 => [1, 2] | 10 => [1] | 11 => [2] | 12 => [2] | 13 => [3] | 14 => [3] | 15 => [3] | _ => [0]

/-- Fill the lanes in queue order: a lane frame holds at most 146 record blocks; what does not fit waits. `used` is the blocks taken per
lane; the result is what goes, with its lane, and what waits. -/
def packRecords : List PairRec → List Nat → List (Nat × PairRec) × List PairRec
  | [], _ => ([], [])
  | r :: rs, used =>
    match r.lanes.find? fun l => decide (used.getD l 0 + r.blocks ≤ 146) with
    | some l => let p := packRecords rs (used.set l (used.getD l 0 + r.blocks)); ((l, r) :: p.1, p.2)
    | none => let p := packRecords rs used; (p.1, r :: p.2)

/-- R208: table order within the frames, READINGS first on lane 1. -/
def orderRecords (rs : List (Nat × PairRec)) : List (Nat × PairRec) :=
  [1, 2, 3, 4, 5, 6, 7, 8, 10, 9, 11, 12, 13, 14, 15].flatMap fun t => rs.filter (·.2.type == t)

/-- R211: an event with its SSEQ, and but for a hop its EXEC. -/
def PairRec.numbered (q e : Nat) : PairRec → PairRec
  | .hop r => .hop { r with sseq := q }
  | .config _ _ ps g => .config q e ps g
  | .readings _ _ m is => .readings q e m is
  | .message _ _ f st os => .message q e f st os
  | .ql _ _ i a b => .ql q e i a b
  | r => r

/-- R211: number the events that leave in the frames of a tick, from SSEQ `q` on, in the order of the frames (assumption 138). -/
def numberRecords (e : Nat) : List (Nat × PairRec) → Nat → List (Nat × PairRec) × Nat
  | [], q => ([], q)
  | (l, r) :: rs, q =>
    let p := numberRecords e rs (if r.isEvent then (q + 1) % 65536 else q)
    ((l, r.numbered q e) :: p.1, p.2)

/-- R219: a DIGEST record goes in the frame of digest tick + 2. -/
def State.recordReady (s : State) (r : PairRec) : Bool :=
  match r with
  | .digest t _ _ => decide (s.ownTick t + 2 ≤ s.dev.tick)
  | _ => true

/-- R211: the READINGS record of a tick: qualification and stale states are this unit's; the readings themselves are measurements that
no command carries here (assumption 4). -/
def State.readingsRec (s : State) : PairRec :=
  .readings 0 0 s.msyn.mcc ((List.range 36).map fun i =>
    ⟨i, s.get REF_STS.STATE i, s.on REF_STS.STALE i,
      ⟨Config.freeNat (s.free + 3 * i), Config.freeInt (s.free + 3 * i + 1), Config.freeNat (s.free + 3 * i + 2) % 2 == 1⟩⟩)

/-- R230: the live state of a channel at a boundary of master-cycle count `mcc`. -/
def Chan.copy (x : Chan) (mcc : Nat) (words checkpoint : List (Nat × Word)) : ChanCopy where
  state := x.state.code
  held := x.held.code
  p := x.p
  resAcc := x.resAcc
  patK := x.patK
  long := x.long
  time := x.time
  anchor := x.anchor
  thetaLive := x.thetaLive
  thetaTarget := x.thetaTarget
  adjPend := x.adj
  lockRun := x.lockRun
  unlRun := x.unlRun
  arming := x.arming
  armed := x.armed
  inflight := x.inflight.map fun f => { f with h := f.h - mcc }
  zero := x.zero
  rezero := x.rezero
  t0 := x.t0.getD 0 % 2 ^ 32
  words := words
  checkpoint := checkpoint

/-- R230: the capture of channel `c` at this boundary. -/
def State.captureCopy (s : State) (c : Nat) : PairRec :=
  let word (r : Rg) : Nat × Word := (r.key c, s.rd r c)
  .copy c (s.dev.tick % 2 ^ 32) ((s.chan c).copy s.msyn.mcc
    [word .CH_CFG, word .CH_PNOM_LO, word .CH_PNOM_HI, word .CH_PRES, word .CH_PHOFS, word .CH_DRIZZLE, word .CH_LOCK
      , word .CH_HOP, word .ENG_CHMAP]
    ((List.range 128).map fun w => (w, s.rd .PARAM (c * 512 + w))))

/-- R229: which words of a register the copy covers: the words of one unit that hold configuration, and the words a unit takes. -/
def Rg.coverShape (r : Rg) : List Nat × Nat :=
  match r with
  | .PARAM => ([0, 1, 2, 3, 4, 5, 6, 7, 16, 17, 18], 512)
  | .PRESET => ([0, 1, 2, 3, 4, 5], 8)
  | .RULE_A | .RULE_B => (List.range 17, 32)
  | .TPL_OCT => ((List.range 32).drop 1, 32)
  | _ => ([0], 1)

/-- The `k`-th word that the copy covers of a register. -/
def Rg.coverIndex (r : Rg) (k : Nat) : Nat := k / r.coverShape.1.length * r.coverShape.2 + r.coverShape.1.getD (k % r.coverShape.1.length) 0

/-- R229: the registers of the configuration copy, the rule banks' generation last. -/
def copyRegs : List Rg := Rg.all.filter Rg.copied ++ [.PARSE_BANK_STS]

/-- R229: the `k`-th word of the configuration copy. -/
def coverWord : List Rg → Nat → Option (Rg × Nat)
  | [], _ => none
  | r :: rs, k =>
    let n := r.info.count / r.coverShape.2 * r.coverShape.1.length
    if k < n then some (r, r.coverIndex k) else coverWord rs (k - n)

/-- R229: the next 288 words of the configuration copy, as many as a record holds. -/
def State.staticWords (s : State) : List Word :=
  (List.range 288).filterMap fun j => (coverWord copyRegs (s.pair.wordNext + j)).map fun x => s.rd x.1 x.2

/-- R229: in STATIC the active sends the configuration, a record a tick. -/
def State.sendStatic (s : State) : State :=
  let ws := s.staticWords
  if ws.isEmpty then s
  else
    let s := s.pairSend (.static s.pair.wordNext ws)
    { s with pair := { s.pair with wordNext := s.pair.wordNext + 288 } }

/-- R230: in JOIN and after it the active captures a channel a tick: one that a hop has put back, else the next of all. -/
def State.sendJoin (s : State) : State :=
  match s.pair.recopy with
  | c :: cs =>
    let s := s.pairSend (s.captureCopy c)
    { s with pair := { s.pair with recopy := cs } }
  | [] =>
    if s.pair.copyNext < 512 then
      let s := s.pairSend (s.captureCopy s.pair.copyNext)
      { s with pair := { s.pair with copyNext := s.pair.copyNext + 1 } }
    else s

/-- R231: the active copies a channel under repair once it has left FROZEN. -/
def State.sendRepair (s : State) (c : Nat) : State :=
  if s.pair.copied.contains c || (s.chan c).state == .frozen then s
  else
    let s := s.pairSend (s.captureCopy c)
    { s with pair := { s.pair with copied := c :: s.pair.copied } }

/-- R229 to R231: what the active copies at this boundary. -/
def State.activeCopies (s : State) : State :=
  if !s.isActive || !s.pair.streaming then s
  else
    let s := s.cond (s.get PAIR_EPOCH_STS.PHASE == 3) State.sendStatic
    let s := s.cond (decide (4 ≤ s.get PAIR_EPOCH_STS.PHASE)) State.sendJoin
    s.pair.repair.foldl (fun s r => s.sendRepair r.1) s

/-- R204, R227: the claim flag of the unit's ROLE record: it holds the active role and drives the line, or asks for a handover back. -/
def State.claimFlag (s : State) : Bool := (s.isActive && s.pair.drive) || s.pair.revertAsk

/-- R204: the tick from which the unit's ROLE records have shown a claim, as they go in every frame. -/
def State.noteClaim (s : State) : State :=
  { s with pair := { s.pair with
      claimFrom := if s.claimFlag then some (s.pair.claimFrom.getD s.dev.tick) else none } }

/-- R207, R211: the records that leave at this boundary. HELLO and ROLE go in every frame, READINGS in each while the unit streams; events that
leave wait for their EXEC boundary on this unit too. -/
def State.sendRecords (s : State) (gridB : Int) : State :=
  let hello := PairRec.hello (s.on DEV_STRAP.POS) (s.get PAIR_CFG.PAIR_ID) (s.get PAIR_CFG.PREF) (s.on PAIR_CFG.REVERT) s.mgmt.hash
    (s.get MGMT_FW_STS.FW_VER)
  let role := PairRec.role (s.get PAIR_STS.ROLE) s.mode s.claimFlag (s.get PAIR_EPOCH_STS.PHASE) gridB
  let first := [hello, role] ++ (if s.pair.streaming then [s.readingsRec] else [])
  let p := packRecords (first ++ s.pair.out.filter s.recordReady) [0, 0, 0, 0]
  let exec := s.dev.tick + s.get HOP_CTL.PAIR_LEAD
  let n := numberRecords (exec % 2 ^ 32) (orderRecords p.1) s.pair.sseq
  let timed := (n.1.map (·.2)).filter fun r => r.isTimed || r.type == 10
  { s with
    free := if s.pair.streaming then s.free + 108 else s.free
    pair := { s.pair with
      frameTick := some s.dev.tick, sentAct := s.isActive, sentEpoch := s.get PAIR_EPOCH_STS.EPOCH % 256, lastFrame := n.1, sseq := n.2
      stream := s.pair.stream ++ timed.map fun r => ⟨exec, r⟩
      out := p.2 ++ s.pair.out.filter fun r => !s.recordReady r } }

/-- PAIR_LANE_FRAME_SEND (R207): the lane frames of the tick that begins. -/
def State.sendPairFrame (s : State) : State :=
  if s.cloneSeeks && s.on MSYN_STS.LOCK then
    { s with pair := { s.pair with
        frameTick := some s.dev.tick, sentAct := false, sentEpoch := 0
        lastFrame := [(3, .cloneRequest (s.on DEV_STRAP.POS) s.fuse.dieId)] } }
  else if s.on PAIR_CFG.EN && 2 ≤ s.mode && s.mode ≤ 10 then
    let g := s.activeCopies.noteClaim.drawInt
    g.2.sendRecords g.1
  else { s with pair := { s.pair with frameTick := none, lastFrame := [] } }

end Sys2Proof.Machine
end

