-- ==== Sys2Proof/Machine/Flags.lean ====
section
/-! DEFINITION. What the device shows: the flags of the time words and the lane frames (06 R140 to R144), the captures of a channel
(03 R59, 04 R96), and every register word as a port reads it, with the status bits that follow from the state. -/

namespace Sys2Proof.Machine

/-! ### A channel's status (R64, R80) -/

/-- R57, R80: the channel runs: it is enabled and its counter has started. -/
def State.enLive (s : State) (c : Nat) : Bool := s.chEn c && (s.chan c).running

/-- R60: a Drizzle movement is pending. -/
def slewing (x : Chan) : Bool := x.adj != 0 || x.thetaTarget != x.thetaLive

/-- R64: the channel a pending word belongs to. -/
def GWord.channel (g : GWord) : Option Nat :=
  if Rg.chRegs.contains g.r || g.r = .ENG_CHMAP then some g.i
  else if g.r = .PARAM ∨ g.r = .PRESET then some (g.i / 512)
  else none

/-- R64: a write group to channel `c` is pending. -/
def State.grpPend (s : State) (c : Nat) : Bool :=
  let has (ws : List GWord) : Bool := ws.any fun g => g.channel == some c
  let streamed (r : PairRec) : Bool := match r with
    | .config _ _ ps _ => ps.any fun (kw : Nat × Word) => match Rg.ofKey kw.1 with
      | some (r, i) => (GWord.mk r i kw.2).channel == some c
      | none => false
    | _ => false
  has s.dev.spi.open_ || has s.dev.inb.open_ || (s.dev.groups.any fun (g : Group) => has g.words)
    || (s.isActive && (has s.pair.cfgOpen || s.pair.out.any streamed || s.pair.stream.any fun e => streamed e.ev))

/-- CH_STS of a channel (R80). -/
def State.chSts (s : State) (c : Nat) : Word :=
  let x := s.chan c
  BitVec.ofNat 32 (flag (s.enLive c) * 2 ^ 31 + flag x.armed.isSome * 2 ^ 14 + (x.armed.elim 0 (·.idx)) * 2 ^ 8
    + flag (rateSat x (s.p0 c)) * 64 + flag (s.stepOk c) * 32 + flag (slewing x) * 16 + flag (s.grpPend c) * 8
    + x.state.code)

/-! ### Captures (R59, R96) -/

/-- Whole seconds of a time. -/
def secOf (t : Nat) : Nat := t / tuSec

/-- Nanoseconds of a time. -/
def nsOf (t : Nat) : Nat := t % tuSec / tuNs

/-- Fraction of a nanosecond of a time, in units of 2^-16 ns. -/
def fracOf (t : Nat) : Nat := t % tuNs * 65536 / tuNs

/-- The two words of a 64-bit quantity, low word first. -/
def twoWords (n : Nat) : List Word := [BitVec.ofNat 32 n, BitVec.ofNat 32 (n / 2 ^ 32)]

/-- R59: the CH_TIME capture of a channel of which the tick in force is `tick`. -/
def chTimeWords (x : Chan) (tick : Nat) : List Word :=
  let t := x.tickTime
  [BitVec.ofNat 32 (x.state.code * 2 ^ 21 + secOf t / 2 ^ 32 % 65536), BitVec.ofNat 32 (secOf t), BitVec.ofNat 32 (nsOf t),
   BitVec.ofNat 32 (fracOf t * 65536 + tick % 65536)]

/-- R59: the CH_PERIOD capture. -/
def chPeriodWords (x : Chan) : List Word :=
  twoWords x.tickP ++ twoWords (fieldOf 64 (x.adj / (tuTheta : Int)))

/-- R96: the HOP_LAST capture; all 0 before the channel's first hop. -/
def hopLastWords (x : Chan) : List Word :=
  match x.hopLast with
  | none => [0, 0, 0, 0]
  | some h => twoWords h.h ++
      [BitVec.ofNat 32 h.tick, BitVec.ofNat 32 (h.sources % 32 * 2 ^ 27 + h.idx % 64 * 65536 + h.cnt % 65536)]

/-! ### Time words and lane frames (R140 to R144) -/

/-- R141: an output that the channel feeds has a stale tap table. -/
def State.feedsStale (s : State) (c : Nat) : Bool :=
  (List.range 128).any fun n => s.on OUT_CFG.EN n && s.get OUT_CFG.SRC n == c && s.on OUT_STS.CALSTALE n

/-- R141: the TDC of the channel's selected REFIN or XP input is stale. -/
def State.selStale (s : State) (c : Nat) : Bool :=
  if s.prog c = 4 then s.on REF_STS.STALE (s.xpInput c)
  else s.on ENG_CHMAP.SEL_VALID c && decide (s.get ENG_CHMAP.SEL c < 36) && s.on REF_STS.STALE (s.get ENG_CHMAP.SEL c)

/-- R141: the unit is the active of a formed pair, outside L2 and the BOOT after it (R288). -/
def State.pairActiveFlag (s : State) : Bool := s.isActive && s.on PAIR_STS.FORMED && s.mode != 0 && s.mode != 1

/-- R141: BASIC, from the boundary at which the channels freeze. -/
def State.basicFlag (s : State) : Bool := s.mode == 9 && !s.dev.freezePend

/-- R141: the flags of channel `c`. -/
def State.timeFlags (s : State) (c : Nat) : Nat :=
  let x := s.chan c
  flag (s.enLive c && !s.msyn.cmdMute)
    + 2 * flag (x.state == .lock && s.on MSYN_STS.LOCK && s.mode != 0 && s.mode != 1)
    + 4 * flag (x.state == .overcast)
    + 8 * flag x.hopFlag
    + 16 * flag s.basicFlag
    + 32 * flag (s.feedsStale c || s.selStale c)
    + 64 * flag s.pairActiveFlag

/-- R140: the time word of channel `c`, as a number of 128 bits. -/
def State.timeWord (s : State) (c : Nat) : Nat :=
  let x := s.chan c
  let t := x.tickTime
  secOf t % 2 ^ 48 * 2 ^ 80 + nsOf t * 2 ^ 48 + fracOf t * 2 ^ 32
    + fieldOf 16 (clampInt (chanRate48 x (s.p0 c)) (-32767) 32767) * 65536 + s.timeFlags c

/-- R144: header octets 1 to 7 of lane `l`. -/
def State.laneHeader (s : State) (l : Nat) : List Octet :=
  octetsBe (l * 32 + 2) 1 ++ octetsBe (s.dev.tick % 2 ^ 40) 5
    ++ octetsBe (flag (s.mode == 9) * 128 + flag s.pairActiveFlag * 64 + flag (s.on MSYN_STS.LOCK) * 32) 1

/-- R143: the words of lane `l`: channels l, l + 8, …, l + 504. -/
def State.laneWords (s : State) (l : Nat) : List Octet :=
  (List.range 64).flatMap fun k => octetsBe (s.timeWord (8 * k + l)) 16

/-- R143: trailer octets 4 to 7. -/
def State.laneTick (s : State) : List Octet := octetsBe (s.dev.tick / 2 ^ 40 % 2 ^ 24) 3 ++ [0]

/-- R143, R144: trailer octets 0 to 3: the CRC-32 over header, words and the upper tick octets. -/
def State.laneCrc (s : State) (l : Nat) : List Octet :=
  octetsLe (crc32 (s.laneHeader l ++ s.laneWords l ++ s.laneTick)).toNat 4

/-- A 66-bit block of a lane (R143): an idle control block of type 0x1E, a start block of type 0x78 with seven octets, a data block of
eight, a terminate block of type 0x87. -/
inductive Block where
  | idle
  | start (octets : List Octet)
  | data (octets : List Octet)
  | terminate
  deriving DecidableEq, Repr

/-- R143: the block in slot `j` of the lane frame of lane `l`; every slot after the 131 of the frame is idle. -/
def State.laneSlot (s : State) (l j : Nat) : Block :=
  if j = 0 then .start (s.laneHeader l)
  else if j ≤ 128 then .data ((octetsBe (s.timeWord (8 * ((j - 1) / 2) + l)) 16).drop ((j - 1) % 2 * 8) |>.take 8)
  else if j = 129 then .data (s.laneCrc l ++ s.laneTick)
  else if j = 130 then .terminate
  else .idle

/-- R143: the lane frame of lane `l`. -/
def State.laneFrame (s : State) (l : Nat) : List Block := (List.range 131).map (s.laneSlot l)

/-! ### Registers as they read -/

/-- A bitmap word of 32 units. -/
def bitmap (n : Nat) (f : Nat → Bool) : Nat := ((List.range n).map fun j => flag (f j) * 2 ^ j).sum

/-- The register word that a port reads, pending writes apart: status that follows from the state is formed here. -/
def State.view (s : State) (p : Port) (r : Rg) (i : Nat) : Word :=
  match r with
  | .CH_STS => s.chSts i
  | .CH_RATE => BitVec.ofInt 32 (chanRate (s.chan i) (s.p0 i))
  | .OUT_FAULT => BitVec.ofNat 32 (bitmap 32 fun j => s.on OUT_STS.LB_FAULT (32 * i + j))
  | .REFIN_QUAL0 => BitVec.ofNat 32 (bitmap 32 fun j => s.get REF_STS.STATE j == 4)
  | .REFIN_QUAL1 => BitVec.ofNat 32 (bitmap 4 fun j => s.get REF_STS.STATE (32 + j) == 4)
  | .REFIN_STALE0 => BitVec.ofNat 32 (bitmap 32 fun j => s.on REF_STS.STALE j)
  | .REFIN_STALE1 => BitVec.ofNat 32 (bitmap 4 fun j => s.on REF_STS.STALE (32 + j))
  | .DEV_ALERT => BitVec.ofNat 32 s.alerts
  | .DEV_KEY => BitVec.ofNat 32 (flag ((s.port p).keyAge != 0))
  | .DEV_REV => DEV_REV.GRADE.put (s.rd r) s.fuse.grade
  | .MGMT_ARB => BitVec.ofNat 32 s.fuse.arb
  | .PAIR_STS => s.pairSts
  | .CAL_STS => CAL_STS.PFW_BLOCK.put (s.rd r) (flag (s.on MGMT_STS.PFW))
  | .CLK_STS => CLK_STS.RAMPING.put (s.rd r) (bitmap 16 fun b => s.dev.ramping.any (·.1 == b))
  | _ => s.rd r i

end Sys2Proof.Machine
end

