-- ==== Sys2Proof/Machine/Operands.lean ====
section
/-! DEFINITION. Address decoding: the block windows and their aliases (R327), the groups of each block image (R328 and the
block maps), gates and bus errors (R330, R331), the indirect spaces (R343), and the pieces of the address header of an SPI
transaction. -/

namespace Sys2Proof.Machine

/-- R327: the block of a window, by its DEV_GATE bit; DEV and RST carry their BLOCK codes 14 and 13. -/
def windowBlock (w : Nat) : Nat :=
  if w < 8 then [14, 0, 13, 1, 2, 0, 13, 1].getD w 14
  else if w < 16 then 3
  else if w < 25 then w - 12
  else w - 20

/-- R327: the first address of the window that holds a block. -/
def blockBase : Nat → Nat
  | 14 => 0 | 0 => 0x10000 | 13 => 0x20000 | 1 => 0x30000 | 2 => 0x40000 | 3 => 0x80000 | b => (b + 12) * 0x10000

/-- R328: the groups of a block image that decode fewer words than their space holds: first offset, end, octets decoded. -/
def aliasGroups : Nat → List (Nat × Nat × Nat)
  | 14 => [(0x080, 0x0C0, 0x10), (0x100, 0x140, 0x20), (0x200, 0x240, 8), (0x300, 0x340, 0x10)]
  | 0 => [(0x000, 0x040, 0x20), (0x040, 0x080, 0x20)]
  | 13 => [(0x000, 0x040, 0x20), (0x040, 0x080, 0x20), (0x080, 0x0C0, 0x10)]
  | 1 => [(0x000, 0x040, 0x20), (0x040, 0x080, 0x10), (0x080, 0x0C0, 0x20), (0x0C0, 0x100, 4)]
  | 2 => [(0x000, 0x040, 0x10)]
  | 3 => [(0x040, 0x080, 0x10), (0x080, 0x0C0, 0x20)]
  | 4 => [(0xD00, 0xD40, 0x20)]
  | 5 => [(0x800, 0x840, 0x20), (0x840, 0x880, 8)]
  | 6 => [(0x800, 0x840, 0x20), (0x880, 0x8C0, 8)]
  | 7 => [(0x000, 0x040, 0x10), (0x040, 0x080, 0x20), (0xC80, 0xCC0, 0x20), (0xCC0, 0xD00, 0x10)]
  | 8 => [(0x000, 0x040, 0x10)]
  | 10 => [(0x000, 0x040, 0x20), (0x040, 0x080, 0x20)]
  | 11 => [(0x000, 0x040, 0x20), (0x040, 0x080, 0x20), (0x080, 0x0C0, 0x20), (0x0C0, 0x100, 0x10), (0x100, 0x140, 0x10)]
  | _ => []

/-- The offset that an offset of an image aliases, by the first group that holds it. -/
def foldGroup (gs : List (Nat × Nat × Nat)) (o : Nat) : Nat :=
  match gs with
  | [] => o
  | g :: gs => if g.1 ≤ o ∧ o < g.2.1 then g.1 + (o - g.1) % g.2.2 else foldGroup gs o

/-- R79, R328, R52: the offset inside its window that an offset aliases: 256 octets of a channel slot, the MSYN image of 256
octets, 4 KB elsewhere. -/
def foldOffset (b o : Nat) : Nat :=
  if b = 3 then o / 0x400 * 0x400 + foldGroup (aliasGroups 3) (o % 0x100)
  else foldGroup (aliasGroups b) (o % (if b = 1 then 0x100 else 0x1000))

/-- R325, R327: the block that a byte address lies in. -/
def addrBlock (a : Nat) : Nat := windowBlock (a / 0x10000 % 32)

/-- R325, R327, R328: the key of the word that a byte address names: the address of the word it aliases. -/
def addrKey (a : Nat) : Nat :=
  let b := addrBlock a
  let o := if b = 3 then a % 0x80000 else a % 0x10000
  blockBase b + foldOffset b (o / 4 * 4)

/-- R328: the register word that a byte address names; none where the word is decoded with no register. -/
def regAt (a : Nat) : Option (Rg × Nat) := Rg.find (addrKey a) (Rg.ofBlock (addrBlock a))

/-! ### The indirect spaces (R343) -/

/-- A word of the indirect spaces: a stored word, a word of a data memory (R139), of the fragment table (R198), of the journal
index or the event log (R319), of the fuse reach table (R295), or no word. -/
inductive Place where
  | reg (r : Rg) (i : Nat)
  | dmem (e w : Nat)
  | frag (i : Nat)
  | journal (i : Nat)
  | fuse (i : Nat)
  | log (i : Nat)
  | blank
  deriving DecidableEq, Repr

/-- A register of the indirect spaces, where its key is one. -/
def placeOf (k : Nat) (rs : List Rg) : Place :=
  match Rg.find k rs with
  | some (r, i) => .reg r i
  | none => .blank

/-- R139: space 0x02. -/
def State.engPlace (s : State) (i : Nat) : Place :=
  if i < 0x40000 then
    if i % 0x200 < 0x80 then placeOf (0x4000000 + i) [.PARAM, .PERSIST]
    else .dmem (s.get ENG_CHMAP.ENGIDX (i / 0x200)) (i % 0x200)
  else if 0x80000 ≤ i ∧ i < 0xC2000 then .dmem ((i - 0x80000) / 0x200) (i % 0x200)
  else .blank

/-- R102: the hop control area, whose words carry the keys of the registers named in R103. -/
def hopRegs : List Rg :=
  [.HOP_PIN_CFG, .HOP_CTL, .HOP_CMD, .HOP_GRP_CFG, .HOP_PIN_CNT, .HOP_HOLDOFF_CNT, .HOP_BUSY_CNT, .HOP_NOARM_CNT,
   .HOP_ARMFAIL_CNT, .HOP_IGNORED_CNT, .HOP_LOGLOST_CNT, .HOP_GRP_CNT]

/-- R343: the word that a space code and an index name. -/
def State.indPlace (s : State) (space i : Nat) : Place :=
  match space % 16 with
  | 1 => .reg .PSTORE (i % 0x8000)
  | 2 => s.engPlace (i % 0x100000)
  | 3 => placeOf (0x5000000 + i % 0x20000) [.RULE_A, .HIT_A]
  | 4 => placeOf (0x6000000 + i % 0x20000) [.RULE_B, .HIT_B]
  | 5 => .frag (i % 0x400)
  | 6 =>
    let j := i % 0x80000
    if j < 0x40000 then placeOf (0x8000000 + j) [.PRESET] else placeOf (0x8040000 + j % 0x100) hopRegs
  | 7 => placeOf (0x9000000 + i % 0x10000) [.TAP, .CALREC]
  | 8 => .journal (i % 32)
  | 9 => .fuse (i % 16)
  | 10 => .log (i % 0x4000)
  | _ => .blank

/-- R343: the gate bit of a space; 14 where no gate applies. -/
def spaceBlock (space : Nat) : Nat :=
  match space % 16 with
  | 1 | 2 => 6 | 3 | 4 | 5 => 9 | 6 => 3 | 7 => 2 | 8 | 10 => 11 | _ => 14

/-! ### Bus errors (R330, R331) -/

/-- R331: an access to block `b` meets a bus error. -/
def State.blockShut (s : State) (b : Nat) : Bool :=
  if b = 13 ∨ b = 14 then false
  else !bitOf (s.get DEV_GATE.GATE) b || s.dev.ramping.any (·.1 == b)
    || (b == 11 && s.on RST_STS.L1M) || ((b == 8 || b == 9) && s.on RST_STS.L1I)

/-- R331: an access to byte address `a` meets a bus error, of its block or, at IND_DATA, of the block its space belongs to. -/
def State.busError (s : State) (a : Nat) : Bool :=
  s.blockShut (addrBlock a) || (addrKey a == 0x304 && s.blockShut (spaceBlock (s.get IND_ADDR.SPACE)))

/-- R333: the effective level leaves the ports closed: L2, L3 or L4. -/
def State.portsClosed (s : State) : Bool := decide (3 ≤ s.rst.level) || s.mode == 0

end Sys2Proof.Machine
end

