-- ==== Sys2Proof/Machine/Cal.lean ====
section
/-! DEFINITION. Calibration (09): triggers, the rotation and its items, plausibility, stale state, slice swaps and blends, stores,
the loading of slots at BOOT. -/

namespace Sys2Proof.Machine

/-! ### Records and stale state -/

/-- Word `w` of record `t` (R258). -/
def State.calRec (s : State) (t w : Nat) : Nat := (s.rd .CALREC (t * 4 + w)).toNat

/-- R237: the sensor that serves table `t`. -/
def calSensor (t : Nat) : Nat := if t < 256 then t / 2 / 16 else (t - 256) % 8

/-- The reading of sensor `k`, in units of 1/16 °C. -/
def State.temp (s : State) (k : Nat) : Int := signedOf 16 (s.get MGMT_TEMP.TEMP k)

/-- Two temperatures in 1/16 °C differ by more than `n` times TTHR (0.1 °C). -/
def State.tempApart (s : State) (a b : Int) (n : Nat) : Bool := n * s.get CAL_CTL.TTHR * 16 < (a - b).natAbs * 10

/-- R247: whether slice table `t` is stale. -/
def State.sliceStale (s : State) (t : Nat) : Bool :=
  let w3 := s.calRec t 3
  !bitOf w3 31
    || s.tempApart (s.temp (calSensor t)) (signedOf 16 (bitsOf (s.calRec t 2) 31 16)) 2
    || bitsOf w3 25 24 == 3

/-- R247: bring the stale bits of slice table `t` and of its output up to date. -/
def State.markStale (s : State) (t : Nat) : State :=
  if t < 256 then
    let w3 := s.calRec t 3
    let s := s.wr .CALREC (t * 4 + 3) (BitVec.ofNat 32 (withBit w3 29 (s.sliceStale t)))
    let n := t / 2
    s.setB OUT_STS.CALSTALE (bitOf (s.calRec (2 * n + s.get OUT_STS.SLICE n) 3) 29) n
  else s

/-- R247: every slice whose sensor is `k`. -/
def State.markSensor (s : State) (k : Nat) : State := State.upto 32 (fun j s => s.markStale (32 * k + j)) s

/-- R247: every slice. -/
def State.markAllStale (s : State) : State := State.upto 256 (fun t s => s.markStale t) s

/-- R243: CAL_STS.ALERT while an object's count of consecutive rejections stands at 3. -/
def State.calAlert (s : State) : State :=
  s.setB CAL_STS.ALERT ((List.range 292).any fun t => bitsOf (s.calRec t 3) 25 24 == 3)

/-! ### Triggers and the rotation -/

/-- R244: the modes in which the temperature and period triggers act. -/
def State.calModes (s : State) : Bool := (3 ≤ s.mode && s.mode ≤ 8) || s.mode == 10

/-- R245: a trigger starts a rotation at the next boundary, or makes one further rotation pending; one that meets a rotation pending
for that boundary asks for the same. -/
def State.calTrigger (s : State) : State :=
  if s.on CAL_STS.ROTATING then s.set CAL_STS.PENDING 1
  else s.cond (!s.on CAL_STS.PENDING) fun s => { s with cal := { s.cal with startDue := true } }

/-- CAL_TEMPERATURE_CHECK (R244): a check falls at every boundary whose tick number is divisible by 100,000. -/
def execCalTemperatureCheck (s : State) : Host.Outcome State Fault Refusal :=
  done (if s.calModes ∧ s.on CAL_CTL.AUTO ∧ s.dev.tick % 100000 = 0 ∧
        (List.range 8).any (fun k => s.tempApart (s.temp k) (s.cal.tempRef.getD k 0) 1) then
      (s.inc .CAL_TRIG_TEMP_CNT).calTrigger
    else s)

/-- CAL_PERIOD_EXPIRED (R244). -/
def execCalPeriodExpired (s : State) : Host.Outcome State Fault Refusal :=
  done (if s.calModes ∧ s.on CAL_CTL.AUTO ∧ s.on CAL_CTL.PERIOD then s.calTrigger else s)

/-- CAL_ROTATION_START (R245): the sensor references are taken. A trigger that arrived before a rotation which was due already keeps
its own; RUN clears as the rotation that answers it starts (R255, R257). -/
def execCalRotationStart (s : State) : Host.Outcome State Fault Refusal :=
  done (if (s.cal.startDue ∨ s.on CAL_STS.PENDING) ∧ ¬ s.on CAL_STS.ROTATING ∧ (s.calModes ∨ s.mode = 2) then
      let further := s.cal.startDue && s.on CAL_STS.PENDING
      let s := (s.set CAL_STS.ROTATING 1).cond (!further) fun s => (s.set CAL_STS.PENDING 0).set CAL_CMD.RUN 0
      { s with cal := { s.cal with startDue := false, nextItem := some 0, tempRef := (List.range 8).map s.temp } }
    else s)

/-- R241, R246, R248: the slot of item `k` starts. -/
def State.startItem (s : State) (k : Nat) : State :=
  let s := s.set CAL_STS.ITEM k
  let s := { s with cal := { s.cal with
    itemMcc := s.msyn.mcc, measured := none, hopDiscard := false, outcome := 0, nextItem := none } }
  if 1 ≤ k ∧ k ≤ 36 then s.setStale (k - 1) true
  else if 37 ≤ k ∧ s.cal.swapPend.any (·.1 == k - 37) then
    let s := (s.inc .CAL_SKIP_SWAP_CNT).setCalLast (s.itemTable k) 7
    { s with cal := { s.cal with outcome := 2 } }
  else s

/-- CAL_ITEM_START (R241, R250): each slot starts at a boundary; a paused rotation goes on once the master is locked. -/
def execCalItemStart (s : State) : Host.Outcome State Fault Refusal :=
  done (if s.on CAL_STS.ROTATING ∧ s.get CAL_STS.ITEM = 0xFF ∧ s.on MSYN_STS.LOCK then
      match s.cal.nextItem with
      | some k => (s.set CAL_STS.PAUSED 0).startItem k
      | none => s
    else s)

/-- R38, R240: the master check: the tuning word, averaged over 0.1 ms, against 20 % to 80 % of full scale. -/
def State.masterCheck (s : State) (tune : Nat) : State :=
  if outsideMargin tune then
    (s.set MSYN_STS.BAND_MARGIN 1).set MSYN_ACQ.MARGIN (min 63 (s.get MSYN_ACQ.MARGIN + 1))
  else s.set MSYN_STS.BAND_MARGIN 0

/-- CAL_MEASURE_COMPLETE (R238 to R240, R250). -/
def execCalMeasureComplete (m : CalMeasure) (s : State) : Host.Outcome State Fault Refusal :=
  done (
    let k := s.get CAL_STS.ITEM
    if k = 0xFF ∨ s.cal.outcome ≠ 0 ∨ s.cal.measured.isSome then s
    else if k = 0 then { s.masterCheck (m.tune % 2 ^ 20) with cal := { s.cal with outcome := 2 } }
    else if s.cal.hopDiscard then
      let s := (s.inc .CAL_DISCARD_HOP_CNT).setCalLast (s.itemTable k) 5
      { s with cal := { s.cal with outcome := 2 } }
    else { s with cal := { s.cal with measured := some m } })

/-! ### Plausibility (R242, R243) -/

/-- The widths between neighbouring taps. -/
def tapWidths : List Nat → List Int
  | a :: b :: t => ((b : Int) - a) :: tapWidths (b :: t)
  | _ => []

/-- R238, R239: the count behind position `k` of a table: the samples high at code `k` of a slice, the edges below tap `k` of a TDC.
Position 0 is 0. -/
def tapCount (tdc : Bool) (half : List Nat) (k : Nat) : Nat :=
  if tdc then (half.take k).sum else if k = 0 then 0 else half.getD k 0

/-- R238, R239: the samples per code, or the edges injected, of one half: N is 80,000 for a TDC. -/
def halfCount (tdc : Bool) (m : CalMeasure) : Nat := if tdc then 40000 else m.samples

/-- R237 to R239: the 256 positions of the measured table, in units of TM / 32,768, rounded (assumption 9). -/
def calTaps (tdc : Bool) (m : CalMeasure) : List Nat :=
  (List.range 256).map fun k =>
    roundDiv (32768 * (tapCount tdc m.odd k + tapCount tdc m.even k)) (2 * halfCount tdc m)

/-- R239: the edges of a TDC's item that land in a tap, beside the overflow bin. -/
def edgesInTaps (m : CalMeasure) : Nat := m.odd.sum + m.even.sum

/-- R237, R239: the span S of a table: p255 × 256 / 255 for a slice, 32,768 × (N − overflow) / N for a TDC. -/
def calSpan (tdc : Bool) (m : CalMeasure) : Nat :=
  if tdc then roundDiv (32768 * edgesInTaps m) 80000 else roundDiv ((calTaps tdc m).getD 255 0 * 256) 255

/-- R242: the largest difference between the counts of the odd and of the even table at any tap. -/
def halvesApart (tdc : Bool) (m : CalMeasure) : Nat :=
  (List.range 256).foldl (fun x k => max x ((tapCount tdc m.odd k : Int) - tapCount tdc m.even k).natAbs) 0

/-- R242: the residual INL in fs, with its allowance of 0.02 ps; TM is 78,125 fs. -/
def calInl (tdc : Bool) (m : CalMeasure) : Nat := roundDiv (78125 * halvesApart tdc m) (halfCount tdc m) + 20

/-- R242: the first limit that fails, 0 for none: 1 monotonic, 2 tap width, 3 span, 4 residual INL. -/
def calVerdict (tdc : Bool) (m : CalMeasure) : Nat :=
  let ps := calTaps tdc m
  let w := tapWidths ps
  let n := edgesInTaps m
  let spanOk := if tdc then 97 * 80000 ≤ 100 * n && 100 * n ≤ 103 * 80000
    else 97 * 32768 * 255 ≤ 100 * 256 * ps.getD 255 0 && 100 * 256 * ps.getD 255 0 ≤ 103 * 32768 * 255
  let limit := if tdc then 500 else 400
  if !(w.all fun d => decide (0 < d)) then 1
  else if !(w.all fun d => decide (150 * 32768 ≤ d * 78125) && decide (d * 78125 ≤ 500 * 32768)) then 2
  else if !spanOk then 3
  else if limit * halfCount tdc m < 78125 * halvesApart tdc m + 20 * halfCount tdc m then 4
  else 0

/-- The counter of a failed limit. -/
def calRejCounter : Nat → Rg
  | 1 => .CAL_REJ_MONO_CNT | 2 => .CAL_REJ_TAP_CNT | 3 => .CAL_REJ_SPAN_CNT | _ => .CAL_REJ_INL_CNT

/-- Store table `t` (R258): word `w` holds taps 2w and 2w + 1. -/
def State.putTaps (s : State) (t : Nat) (taps : List Nat) : State :=
  State.upto 128 (fun w s =>
    s.wr .TAP (t * 128 + w) (BitVec.ofNat 32 (taps.getD (2 * w) 0 % 65536 + taps.getD (2 * w + 1) 0 % 65536 * 65536))) s

/-- The positions of table `t` in use. -/
def State.tapsOf (s : State) (t : Nat) : List Nat :=
  (List.range 128).flatMap fun w => let x := (s.rd .TAP (t * 128 + w)).toNat; [x % 65536, x / 65536]

/-- R242, R248: an accepted table goes into the idle slice or the TDC, with its record. A TDC's former table is kept for its blend
(R249). -/
def State.acceptTable (s : State) (k : Nat) (m : CalMeasure) : State :=
  let t := s.itemTable k
  let sen := calSensor t
  let tdc := decide (k ≤ 36)
  let old := if tdc then s.tapsOf t else []
  let s := (s.inc .CAL_ITEM_OK_CNT).putTaps t (calTaps tdc m)
  let s := s.wr .CALREC (t * 4) (BitVec.ofNat 32 (calInl tdc m % 65536 * 65536 + calSpan tdc m % 65536))
  let s := s.wr .CALREC (t * 4 + 1) (BitVec.ofNat 32 s.dev.tick)
  let s := s.wr .CALREC (t * 4 + 2) (BitVec.ofNat 32 (s.get MGMT_TEMP.TEMP sen * 65536 + sen * 256))
  let s := (s.wr .CALREC (t * 4 + 3) 0x80000000#32).markStale t
  { s.calAlert with cal := { s.cal with
      measured := none, outcome := 1, acceptedSince := true, tdcOld := old
      swapPend := if 37 ≤ k then s.cal.swapPend ++ [(k - 37, m.delta)] else s.cal.swapPend } }

/-- R243: a rejected table is discarded; the record shows the limit and the consecutive rejections. -/
def State.rejectTable (s : State) (k v : Nat) : State :=
  let t := s.itemTable k
  let w := s.calRec t 3
  let run := min 3 (bitsOf w 25 24 + 1)
  let s := s.inc (calRejCounter v)
  let s := s.wr .CALREC (t * 4 + 3)
    (BitVec.ofNat 32 (w - bitsOf w 25 24 * 2 ^ 24 - bitsOf w 28 26 * 2 ^ 26 + run * 2 ^ 24 + v * 2 ^ 26))
  { (s.markStale t).calAlert with cal := { s.cal with measured := none, outcome := 2 } }

/-- CAL_ITEM_ACCEPT (R242, R243). -/
def execCalItemAccept (s : State) : Host.Outcome State Fault Refusal :=
  done (match s.cal.measured with
    | none => s
    | some m =>
      let k := s.get CAL_STS.ITEM
      match calVerdict (decide (k ≤ 36)) m with
      | 0 => s.acceptTable k m
      | v => s.rejectTable k v)

/-! ### Slots (R251) -/

/-- The word of index `i` of space 0x07 in a slot's tables and records. -/
def slotWord (c : CalSlot) (i : Nat) : Word :=
  match c.words.find? (·.1 == i) with
  | some x => x.2
  | none => if i < 0x9200 then Rg.resetWord .TAP i else Rg.resetWord .CALREC (i - 0xA000)

/-- R251: octets 0x0_0000 to 0x2_5A7F of a slot. -/
def slotOctets (c : CalSlot) : List Octet :=
  octetsLe c.magic 4 ++ octetsLe c.seq 4 ++ octetsLe c.dieId 8 ++ octetsLe c.format 4 ++ List.replicate 44 0
    ++ ((List.range 0x9200).flatMap fun i => octetsLe (slotWord c i).toNat 4)
    ++ (List.range 0x490).flatMap fun i => octetsLe (slotWord c (0xA000 + i)).toNat 4

/-- R251: the CRC-32 of a slot's octets. -/
def slotCrc (c : CalSlot) : Nat := (crc32 (slotOctets c)).toNat

/-- R254: a slot is valid. -/
def slotValid (dieId : Nat) (c : CalSlot) : Bool :=
  c.magic == 0x43414C54 && c.format == 1 && c.dieId == dieId && c.commit == 0xC3A55A3C && c.crc == slotCrc c

/-- R251, R258: the words of the tables in use and of their records that differ from the nominal ones. -/
def State.calWords (s : State) : List (Nat × Word) :=
  s.regs.filterMap fun kw => match Rg.ofKey kw.1 with
    | some (.TAP, i) => some (i, s.rd .TAP i)
    | some (.CALREC, i) => some (0xA000 + i, s.rd .CALREC i)
    | _ => none

/-- R251, R252: the slot that a store writes now, as committed. -/
def State.newSlot (s : State) : CalSlot :=
  let c : CalSlot := ⟨0x43414C54, (s.cal.highSeq + 1) % 2 ^ 32, s.fuse.dieId, 1, s.calWords, 0, 0xC3A55A3C⟩
  { c with crc := slotCrc c }

/-- R252: the working slot that a store replaces, the one that does not hold the highest valid SEQ, holds `c`. -/
def State.putSlot (s : State) (c : CalSlot) : State :=
  if s.cal.highSlot = 1 then { s with cal := { s.cal with slotB := c } } else { s with cal := { s.cal with slotA := c } }

/-! ### Stores (R252, R253) -/

/-- The update path writes the flash (R252, R255): an update that loads or checks, or is paused in doing so. -/
def State.updateWrites (s : State) : Bool :=
  s.get MGMT_UPD_STS.STATE == 1 || s.get MGMT_UPD_STS.STATE == 2 || s.get MGMT_UPD_STS.STATE == 5

/-- R310, step 2: the first sector of the target slot is erased, and the update loads; under the power-fail warning it is paused. -/
def State.beginUpdate (s : State) : State :=
  let t := s.mgmt.updTarget
  let s := ((s.wr .MGMT_UPD_STS 0 0).set MGMT_UPD_STS.STATE (if s.on MGMT_STS.PFW then 5 else 1)).set MGMT_UPD_CTL.START 0
  { s with mgmt := { s.mgmt with updWait := false, updChecking := false, secVers := s.mgmt.secVers.set t none } }

/-- R252, R253: start a store, or let it wait while the update path writes or the flash controller is in reset. While the warning
stands none starts. The slot to replace counts as erased from the start of its erase. -/
def State.startStore (s : State) : State :=
  if s.on CAL_STS.STORING then s
  else if s.on MGMT_STS.PFW then { s with cal := { s.cal with abandoned := true } }
  else if s.updateWrites || s.on RST_STS.L1M then s.set CAL_STS.STORE_PEND 1
  else
    let s := (s.set CAL_STS.STORING 1).set CAL_STS.STORE_PEND 0
    { s with cal := { s.cal with storeOp := 1, abandonDue := false, image := s.newSlot } }.putSlot erasedSlot

/-- R252: a store that the interval makes due, with no rotation running; not while the sequencer is in reset or held by TEST. -/
def State.storeIfDue (s : State) : State :=
  s.cond (s.cal.intervalDue && s.cal.acceptedSince && !s.on CAL_STS.ROTATING && s.mode != 0 && s.mode != 11) State.startStore

/-- CAL_STORE_INTERVAL_EXPIRED (R252). -/
def execCalStoreIntervalExpired (s : State) : Host.Outcome State Fault Refusal :=
  done ({ s with cal := { s.cal with intervalDue := true } }.storeIfDue)

/-- R310, R315: an update whose START waits for the store begins. -/
def State.updateAfterStore (s : State) : State := s.cond s.mgmt.updWait State.beginUpdate

/-- R252, R255: a store ends; an update that waits begins, else a store that waits. -/
def State.endStore (s : State) : State :=
  let s := ({ s.set CAL_STS.STORING 0 with cal := { s.cal with storeOp := 0, abandonDue := false } }).updateAfterStore
  if s.on CAL_STS.STORE_PEND then (s.set CAL_STS.STORE_PEND 0).startStore else s.set CAL_CMD.STORE 0

/-- R270: the flash controller is reset: the store in progress ends where it is, without COMMIT. -/
def State.stopStore (s : State) : State :=
  s.cond (s.on CAL_STS.STORING) fun s =>
    let s := s.set CAL_STS.STORING 0
    { s.cond (!s.on CAL_STS.STORE_PEND) (·.set CAL_CMD.STORE 0) with cal := { s.cal with storeOp := 0, abandonDue := false } }

/-- R252: the COMMIT page is programmed. -/
def State.commitStore (s : State) : State :=
  let seq := (s.cal.highSeq + 1) % 2 ^ 32
  let s := ((s.putSlot s.cal.image).inc .CAL_STORE_CNT).wr .CAL_SEQ 0 (BitVec.ofNat 32 seq)
  let s := { s with cal := { s.cal with
    highSeq := seq, highSlot := if s.cal.highSlot = 1 then 2 else 1, acceptedSince := false, intervalDue := false } }
  (s.log 8 2 0 (BitVec.ofNat 32 seq) 0 0).endStore

/-- R252: operation `op` of a store (1 erase, 2 data, 3 CRC, 4 verify) has ended, and the next begins. -/
def State.nextStoreOp (s : State) : State :=
  let op := s.cal.storeOp
  let s := if op = 2 then s.putSlot { s.cal.image with crc := 0xFFFFFFFF, commit := 0xFFFFFFFF }
    else if op = 3 then s.putSlot { s.cal.image with commit := 0xFFFFFFFF } else s
  { s with cal := { s.cal with storeOp := op + 1 } }

/-- CAL_STORE_OPERATION_COMPLETE (R252, R253): erase, data, CRC, verify, COMMIT in their order. A store that met the warning is
abandoned after the operation under way; one whose last operation that was is committed. -/
def execCalStoreOperationComplete (ok : Bool) (s : State) : Host.Outcome State Fault Refusal :=
  done (if ¬ s.on CAL_STS.STORING then s
    else if (s.on MGMT_STS.PFW ∨ s.cal.abandonDue) ∧ s.cal.storeOp ≠ 5 then
      ({ (s.set CAL_STS.STORING 0).inc .CAL_STORE_BLOCK_CNT with
        cal := { s.cal with storeOp := 0, abandonDue := false, abandoned := true } }).updateAfterStore
    else if !ok then
      ((s.inc .CAL_STORE_FAIL_CNT).log 8 2 1 (BitVec.ofNat 32 (s.cal.highSeq + 1)) 1 0).endStore
    else if s.cal.storeOp = 5 then s.commitStore
    else s.nextStoreOp)

/-- CAL_STORE_RESUME (R253): an abandoned store starts again from its erase. -/
def execCalStoreResume (s : State) : Host.Outcome State Fault Refusal :=
  done (if s.cal.abandoned ∧ ¬ s.on MGMT_STS.PFW then
      { s with cal := { s.cal with abandoned := false } }.startStore
    else s)

/-- R252: at a boundary: a store that is due since a rotation ended, and one that waited for the flash. -/
def State.storeBoundary (s : State) : State :=
  let s := s.cond s.cal.storeDue fun s => { s with cal := { s.cal with storeDue := false } }.storeIfDue
  s.cond (s.on CAL_STS.STORE_PEND && !s.on CAL_STS.STORING && !s.updateWrites && !s.on RST_STS.L1M) fun s =>
    (s.set CAL_STS.STORE_PEND 0).startStore

/-! ### End of an item, swaps, blends -/

/-- R249: CAL_STS.BLENDS. -/
def State.showBlends (s : State) : State := s.set CAL_STS.BLENDS s.cal.blends.length

/-- R245: the rotation completes. A trigger that came in it starts a further one at the next boundary. -/
def State.endRotation (s : State) : State :=
  let s := (s.set CAL_STS.ROTATING 0).inc .CAL_ROT_CNT
  { s with rst := { s.rst with selfcalDone := s.rst.selfcalDone || s.mode == 2 } }.storeIfDue

/-- R249: the blend of TDC `i` starts from its former table. -/
def State.startTdcBlend (s : State) (i : Nat) : State :=
  { s with cal := { s.cal with blends := s.cal.blends ++ [(⟨256 + i, 0, 0, s.cal.tdcOld⟩ : Blend)] } }.showBlends

/-- CAL_ITEM_END (R240, R241, R245, R246, R249). A TDC blends unless its engines are stopped or its input is off. The slot of the
master check ends with its check made, on the word of that moment where no measurement came. -/
def execCalItemEnd (s : State) : Host.Outcome State Fault Refusal :=
  done (
    let k := s.get CAL_STS.ITEM
    if k = 0xFF then s
    else
      let tdc := decide (1 ≤ k) && decide (k ≤ 36)
      let s := s.cond (k == 0 && s.cal.outcome == 0) fun s => s.masterCheck (s.get MSYN_TUNE.TUNE)
      let s := s.cond tdc (·.setStale (k - 1) false)
      let s := s.cond (tdc && s.cal.outcome == 1 && s.enginesRun && s.on REF_CFG.EN (k - 1)) (·.startTdcBlend (k - 1))
      let s := { s.set CAL_STS.ITEM 0xFF with cal := { s.cal with
        measured := none, hopDiscard := false, outcome := 0, tdcOld := [], nextItem := if k = 164 then none else some (k + 1) } }
      if k = 164 then s.endRotation else s)

/-- SLICE_SWAP (R248, R249): the slices swap; a swap of a running output starts its blend. -/
def execSliceSwap (n : Nat) (s : State) : Host.Outcome State Fault Refusal :=
  onUnit n 128 s (
    match s.cal.swapPend.find? (·.1 == n) with
    | none => s
    | some (_, d) =>
      let new := 1 - s.get OUT_STS.SLICE n
      let s := (s.set OUT_STS.SLICE new n).setB OUT_STS.CALSTALE (bitOf (s.calRec (2 * n + new) 3) 29) n
      let s := { s with cal := { s.cal with swapPend := s.cal.swapPend.filter (·.1 != n) } }
      if s.get OUT_STS.STATE n = 2 then
        { s with cal := { s.cal with blends := s.cal.blends ++ [(⟨2 * n + new, 0, d, []⟩ : Blend)] } }.showBlends
      else s)

/-- R249: the offset that remains of a slice's handover, in units of 2^-16 / 80 fs. -/
def Blend.offset80 (b : Blend) : Int := b.delta * (80 - b.step : Nat)

/-- R249: 80 times position `k` of the table that the readings of TDC `i` use: T_old × (80 − i) + T_new × i at step i. -/
def State.tdcTap80 (s : State) (i k : Nat) : Nat :=
  let new := (s.tapsOf (256 + i)).getD k 0
  match s.cal.blends.find? (·.table == 256 + i) with
  | some b => b.old.getD k 0 * (80 - b.step) + new * b.step
  | none => 80 * new

/-- CAL_BLEND_STEP (R249, R250): blends hold under L2 and are under TAP control in TEST. -/
def execCalBlendStep (s : State) : Host.Outcome State Fault Refusal :=
  done (if s.mode = 0 ∨ s.mode = 11 then s
    else
      let bs := (s.cal.blends.map fun b => { b with step := b.step + 1 }).filter fun b => decide (b.step < 80)
      { s with cal := { s.cal with blends := bs } }.showBlends)

/-! ### Slots at BOOT (R254) -/

/-- Load a slot's words into the indirect space 0x07. -/
def State.loadCalWords (s : State) (ws : List (Nat × Word)) : State :=
  ws.foldl (fun s w =>
    if w.1 < 0x9200 then s.wr .TAP w.1 w.2
    else if 0xA000 ≤ w.1 ∧ w.1 < 0xA490 then s.wr .CALREC (w.1 - 0xA000) w.2
    else s) s

/-- R254, R258: every loaded table is marked as taken from storage, with nothing measured and no rejection. -/
def State.markLoaded (s : State) : State :=
  State.upto 292 (fun t s => s.wr .CALREC (t * 4 + 3) (if t < 256 then 0x60000000#32 else 0x40000000#32)) s

/-- The nominal table of R254 for every object: its record shows the nominal span and the serving sensor (assumption 31). -/
def State.loadNominal (s : State) : State :=
  State.upto 292 (fun t s =>
    let s := State.upto 128 (fun w s => s.wr .TAP (t * 128 + w) (Rg.resetWord .TAP (t * 128 + w))) s
    ((s.wr .CALREC (t * 4) 0x8000#32).wr .CALREC (t * 4 + 1) 0).wr .CALREC (t * 4 + 2) (BitVec.ofNat 32 (calSensor t * 256))) s

/-- R254: load the words of a slot and show its code and SEQ. -/
def State.loadSlot (s : State) (code : Nat) (c : CalSlot) : State :=
  ((s.loadNominal.loadCalWords c.words).set CAL_STS.SLOT code).wr .CAL_SEQ 0 (BitVec.ofNat 32 c.seq)

/-- BOOT_CAL_SLOTS_READ (R254): in BOOT after L3 or L4 the valid working slot with the highest SEQ is loaded, else the factory
slot, else the nominal table. -/
def execBootCalSlotsRead (factory slotA slotB : CalSlot) (s : State) : Host.Outcome State Fault Refusal :=
  done (if s.mode = 1 ∧ s.get RST_BOOT_STS.KIND = 1 then
      let ok (c : CalSlot) : Bool := slotValid s.fuse.dieId c
      let s := s.add .CAL_SLOT_INVALID_CNT (flag (!ok factory) + flag (!ok slotA) + flag (!ok slotB))
      let useA := ok slotA && (!ok slotB || decide (slotB.seq < slotA.seq))
      let s' := if useA then s.loadSlot 1 slotA
        else if ok slotB then s.loadSlot 2 slotB
        else if ok factory then s.loadSlot 0 factory
        else s.loadNominal.set CAL_STS.SLOT 3
      let hs := if useA then 1 else if ok slotB then 2 else 0
      let hq := if useA then slotA.seq else if ok slotB then slotB.seq else 0
      { s'.markLoaded with cal := { s'.cal with highSlot := hs, highSeq := hq, slotA := slotA, slotB := slotB } }.markAllStale
    else s)

end Sys2Proof.Machine
end

