-- ==== Sys2Proof/Machine/Master.lean ====
section
/-! DEFINITION. The master synthesiser (02): the words in use, acquisition, lock, unlock, loss of reference. -/

namespace Sys2Proof.Machine

/-- The five master words: REF, NINT, NNUM, NDEN, XOF. -/
structure MasterWords where
  ref : Word
  nint : Word
  nnum : Word
  nden : Word
  xof : Word
  deriving DecidableEq, Repr

/-- The stored words. -/
def State.storedWords (s : State) : MasterWords :=
  ⟨s.rd .MSYN_REF, s.rd .MSYN_NINT, s.rd .MSYN_NNUM, s.rd .MSYN_NDEN, s.rd .MSYN_XOF⟩

/-- The words in use. -/
def State.usedWords (s : State) : MasterWords :=
  ⟨s.msyn.useRef, s.msyn.useNint, s.msyn.useNnum, s.msyn.useNden, s.msyn.useXof⟩

/-- R34, R35: the limits and the integer identity of the master words. The comparison frequency limits are those of R34. -/
def MasterWords.ok (w : MasterWords) : Bool :=
  let dbl := MSYN_REF.DBL.of w.ref
  let rdiv := MSYN_REF.RDIV.of w.ref + 1
  let nint := MSYN_NINT.NINT.of w.nint
  let nnum := w.nnum.toNat
  let nden := w.nden.toNat
  let xof := MSYN_XOF.XOF.of w.xof
  128 ≤ nint && nint ≤ 640 && 1 ≤ nden && nnum < nden
    && 10000000 ≤ xof && xof ≤ 125000000 && (dbl == 0 || xof ≤ 50000000)
    && 20000000 * rdiv ≤ xof * (1 + dbl) && xof * (1 + dbl) ≤ 100000000 * rdiv
    && xof * (1 + dbl) * (nint * nden + nnum) == 12800000000 * rdiv * nden

/-- MSYN_STS.NPEND: the stored words differ from the words in use (R50). -/
def State.setNpend (s : State) : State := s.setB MSYN_STS.NPEND (s.storedWords ≠ s.usedWords)

/-- Bring the stored words into use. -/
def State.useStored (s : State) : State :=
  ({ s with msyn := { s.msyn with
      useRef := s.rd .MSYN_REF, useNint := s.rd .MSYN_NINT, useNnum := s.rd .MSYN_NNUM
      useNden := s.rd .MSYN_NDEN, useXof := s.rd .MSYN_XOF } }).set MSYN_STS.NPEND 0

/-- R42, R47: begin an acquisition. The settle of the first attempt after ROOT runs from the XO is waited for once. A loop held for a
missing reference stays held, and its attempt goes on when the reference returns. -/
def State.startAcq (s : State) : State :=
  let s := ((s.set MSYN_STS.LOCK 0).set MSYN_STS.ACQ 1).set MSYN_STS.ATTEMPT 1
  let stage := if s.msyn.settled then 2 else 1
  let s := { s with msyn := { s.msyn with failed := false, unlocked := false, heldBasic := false, intref := false } }
  if s.on MSYN_STS.REFMISS then { s with msyn := { s.msyn with heldStage := stage } }
  else (s.set MSYN_STS.HELD 0).set MSYN_STS.STATE stage

/-- R42, R50: start the command whose bit is `bit` (0 RETUNE, 1 RELOCK, 2 BANDSEL). -/
def State.startMasterCmd (s : State) (bit : Nat) : State :=
  let s := s.cond (bit == 0) State.useStored
  let s := s.cond (bit == 2) fun s => s.set MSYN_STS.BAND_MARGIN 0
  s.startAcq

/-- R35, R50: MSYN_CMD in SERVICE starts at the boundary: outputs mute, VALID clears, calibration pauses (R250). A RETUNE whose stored
words no longer pass R35 is rejected there (assumption 123). -/
def State.svcMasterStart (s : State) (p : Port) : State :=
  let s := { s with msyn := { s.msyn with svcStart := none } }
  if s.on MSYN_CMD.RETUNE ∧ ¬ s.storedWords.ok then
    ((s.record 5 p (Rg.MSYN_CMD.key 0)).inc .DEV_REJECT_CNT).wr .MSYN_CMD 0 0
  else
    let s := s.calPause
    let s := { s with msyn := { s.msyn with cmdMute := true } }
    s.startMasterCmd (if s.on MSYN_CMD.RETUNE then 0 else if s.on MSYN_CMD.RELOCK then 1 else 2)

/-- R42, R45: lock declared. -/
def State.lockMaster (s : State) (durationUs tune : Nat) : State :=
  let s := (((s.set MSYN_STS.LOCK 1).set MSYN_STS.STATE 4).set MSYN_STS.ACQ 0).set MSYN_ACQ.ATTEMPTS (s.get MSYN_STS.ATTEMPT)
  let s := ((s.set MSYN_STS.ATTEMPT 0).set MSYN_ACQ.LOCK_TIME (min durationUs (2 ^ 24 - 1))).set MSYN_TUNE.TUNE tune
  let s := s.wr .MSYN_CMD 0 0
  let first := !s.msyn.counting
  { s with
    msyn := { s.msyn with counting := true, mcc := if first then 0 else s.msyn.mcc, everLocked := true, failed := false }
    rst := { s.rst with retuning := false } }

/-- R42, R47: the stage of the acquisition: STATE, or the stage kept while the loop is held. -/
def State.acqStage (s : State) : Nat := if s.get MSYN_STS.STATE = 7 then s.msyn.heldStage else s.get MSYN_STS.STATE

/-- ACQUISITION_SETTLE_DONE (R42 step 1): the filters settle whether or not the loop is held. -/
def execAcquisitionSettleDone (s : State) : Host.Outcome State Fault Refusal :=
  done (if s.on MSYN_STS.ACQ ∧ s.acqStage = 1 then
      let s := { s with msyn := { s.msyn with settled := true } }
      if s.get MSYN_STS.STATE = 7 then { s with msyn := { s.msyn with heldStage := 2 } } else s.set MSYN_STS.STATE 2
    else s)

/-- BAND_SEARCH_DONE (R37): the selected VCO, band and the tuning word; the loop closes. -/
def execBandSearchDone (vco band tune : Nat) (s : State) : Host.Outcome State Fault Refusal :=
  done (if s.get MSYN_STS.STATE = 2 then
      (((s.set MSYN_STS.VCO vco).set MSYN_STS.BAND band).set MSYN_TUNE.TUNE tune).set MSYN_STS.STATE 3 else s)

/-- MASTER_LOCK_DECLARED (R42 step 5, R45). A held loop declares no lock (R47). -/
def execMasterLockDeclared (durationUs tune : Nat) (s : State) : Host.Outcome State Fault Refusal :=
  done (if s.get MSYN_STS.STATE = 3 ∧ s.on MSYN_STS.ACQ ∧ ¬ s.on MSYN_STS.HELD then s.lockMaster durationUs tune else s)

/-- The third failure ends the acquisition: BOOT goes on to its verdict (R287); a command of SERVICE leads to BASIC (R50), whatever mode
has followed. -/
def State.acqFailed (s : State) : State :=
  let s := ((s.set MSYN_STS.ACQ 0).set MSYN_STS.ATTEMPT 0).set MSYN_ACQ.ATTEMPTS 3
  let s := { s with msyn := { s.msyn with failed := true, heldStage := 6 }, rst := { s.rst with retuning := false } }
  let s := (if s.get MSYN_STS.STATE = 7 then s else s.set MSYN_STS.STATE 6).wr .MSYN_CMD 0 0
  if s.mode = 1 then s else s.enterBasic 9

/-- ACQUISITION_ATTEMPT_TIMEOUT (R42): the attempt fails and the next starts at once. -/
def execAcquisitionAttemptTimeout (s : State) : Host.Outcome State Fault Refusal :=
  done (if s.on MSYN_STS.ACQ then
      let n := s.get MSYN_STS.ATTEMPT
      let s := s.inc .MSYN_ATTEMPT_FAIL_CNT
      if 3 ≤ n then s.acqFailed
      else if s.on MSYN_STS.HELD then
        { s.set MSYN_STS.ATTEMPT (n + 1) with msyn := { s.msyn with heldStage := 2 } }
      else (s.set MSYN_STS.ATTEMPT (n + 1)).set MSYN_STS.STATE 2
    else s)

/-- The log entry of R44 (R303). -/
def State.unlockLog (s : State) (recovery : Bool) : State :=
  s.log 5 1 2 (s.rd .MSYN_PHERR) (s.rd .MSYN_TUNE) (if recovery then 1 else 0)

/-- R44, R48: what a declared unlock leads to in the present mode. In BOOT the attempt rules of R42 act. -/
def State.unlockActs (s : State) : State :=
  let s := { s with pair := { s.pair with evidence := s.pair.evidence.lor 16 } }
  if s.mode = 1 then s.startAcq
  else if s.mode = 0 ∨ s.mode = 9 then s.set MSYN_STS.STATE 6
  else
    let s := s.calPause
    { s.set MSYN_STS.STATE 5 with msyn := { s.msyn with unlocked := true } }

/-- MASTER_UNLOCK (R44, R48): two comparisons beyond WL. -/
def execMasterUnlock (s : State) : Host.Outcome State Fault Refusal :=
  done (if s.on MSYN_STS.LOCK ∧ s.mode ≠ 11 then
      (((s.set MSYN_STS.LOCK 0).inc .MSYN_UNLOCK_CNT).unlockLog false).unlockActs
    else s)

/-- MASTER_LOCK_RECOVERED (R44, R48): 256 comparisons within WD. -/
def execMasterLockRecovered (s : State) : Host.Outcome State Fault Refusal :=
  done (if ¬ s.on MSYN_STS.LOCK ∧ ¬ s.on MSYN_STS.ACQ ∧ ¬ s.on MSYN_STS.HELD ∧ s.msyn.everLocked ∧ s.mode ≠ 11 then
      let s := ((s.set MSYN_STS.LOCK 1).set MSYN_STS.STATE 4).unlockLog true
      { s with msyn := { s.msyn with unlocked := false } }
    else s)

/-- UNLOCK_GRACE_EXPIRED (R49): the active of a formed pair yields its role. A loop that is held goes on showing HELD. -/
def execUnlockGraceExpired (s : State) : Host.Outcome State Fault Refusal :=
  done (if s.acqStage = 5 then
      let s := if s.get MSYN_STS.STATE = 7 then { s with msyn := { s.msyn with heldStage := 6 } } else s.set MSYN_STS.STATE 6
      if s.isActive ∧ s.on PAIR_STS.FORMED then
        let s := s.yieldNow 2
        { s with pair := { s.pair with yieldPend := some 2 } }
      else s
    else s)

/-- MASTER_UNLOCK_TIMEOUT (R48): an unlock not recovered within 1 ms leads to BASIC. -/
def execMasterUnlockTimeout (s : State) : Host.Outcome State Fault Refusal :=
  done (if s.msyn.unlocked ∧ ¬ s.on MSYN_STS.LOCK then
      { s.enterBasic 3 with msyn := { (s.enterBasic 3).msyn with unlocked := false } } else s)

/-- XO_REFERENCE_MISSING (R47): no XO edge for two comparison periods. -/
def execXoReferenceMissing (s : State) : Host.Outcome State Fault Refusal :=
  done (if s.get MSYN_STS.STATE ≠ 0 ∧ ¬ s.on MSYN_STS.HELD ∧ s.mode ≠ 11 then
      let st := s.get MSYN_STS.STATE
      let s := (((s.set MSYN_STS.HELD 1).set MSYN_STS.REFMISS 1).set MSYN_STS.STATE 7).inc .MSYN_REFMISS_CNT
      { s with msyn := { s.msyn with heldStage := st } }
    else s)

/-- XO_REFERENCE_RESUMED (R47): 64 XO edges after a hold that the clock monitor did not declare a failure. A word held for BASIC stays
held. -/
def execXoReferenceResumed (s : State) : Host.Outcome State Fault Refusal :=
  done (if s.on MSYN_STS.REFMISS ∧ ¬ s.on CLK_STS.FORCED ∧ s.mode ≠ 11 then
      let s := s.set MSYN_STS.REFMISS 0
      if s.msyn.heldBasic then s else (s.set MSYN_STS.HELD 0).set MSYN_STS.STATE s.msyn.heldStage
    else s)

end Sys2Proof.Machine
end

