-- ==== Sys2Proof/Machine/Reset.lean ====
section
/-! DEFINITION. Reset (10 R270 to R278, R367): levels and what each resets, sources and their reach, hold times, balls, idle handshakes,
soft resets, and the start of BOOT. -/

namespace Sys2Proof.Machine

/-! ### What a level resets -/

/-- Restore the bits `m r` of every register. -/
def maskRegs (m : Rg → Nat) (t : Tab Word) : Tab Word :=
  t.filterMap fun kv => match Rg.ofKey kv.1 with
    | some (r, _) => let w := kv.2 &&& ~~~(BitVec.ofNat 32 (m r)); if w = 0 then none else some (kv.1, w)
    | none => some kv

/-- R10, R270: the bits that L1 of management restores. -/
def Rg.maskL1M (r : Rg) : Nat := if Rg.mgmtRegs.contains r then r.info.l1 else 0

/-- R10, R270: the bits that L1 of frame intake restores. -/
def Rg.maskL1I (r : Rg) : Nat := if Rg.mirRegs.contains r || Rg.parseRegs.contains r then r.info.l1 else 0

/-- R10: the bits that L2 restores. -/
def Rg.maskL2 (r : Rg) : Nat := r.info.l1.lor r.info.l2

/-- R10, R367: the bits that L3, and an L4 of a source other than power-on reset, restore. -/
def Rg.maskL3 (r : Rg) : Nat := (r.info.l1.lor r.info.l2).lor r.info.l3

/-- R270, R302: the management subsystem under L1 management and L2: the log, the journal's records, the policy and the identity in force
are kept; the power-fail warning is analog. -/
def Mgmt.afterL1 (m : Mgmt) : Mgmt :=
  { Mgmt.reset with
    log := m.log, logSeq := m.logSeq, logCopied := m.logCopied, policy := m.policy, t1 := m.t1, t2 := m.t2, t3 := m.t3
    pfwRails := m.pfwRails, secVers := m.secVers, fuseAdv := m.fuseAdv, idMode := m.idMode, oui := m.oui, ids := m.ids
    hash := m.hash, hostLen := m.hostLen, sec := m.sec, agg := m.agg, capCount := m.capCount }

/-- R301: MGMT_STS.PFW shows the warning. -/
def State.showPfw (s : State) : State := s.setB MGMT_STS.PFW (!s.mgmt.pfwRails.isEmpty)

/-- R270: L1 of management: the processor, the flash and the eMMC controller. -/
def State.resetMgmt (s : State) : State :=
  { s.stopStore with regs := maskRegs Rg.maskL1M s.stopStore.regs, mgmt := s.mgmt.afterL1 }.showPfw

/-- R270: L1 of frame intake. -/
def State.resetIntake (s : State) : State := { s with regs := maskRegs Rg.maskL1I s.regs, intake := .reset }

/-- R101, R270: a channel under L2: its words and states are kept; the engine's work, armings and committed hops are dropped. -/
def Chan.afterL2 (x : Chan) : Chan :=
  { x with posted := none, takeover := none, arming := none, inflight := none, hopDone := none, hopFlag := false, t0 := none
           restart := true, freezePend := false, ovP := false, ovPhase := false }

/-- R130, R270: a takeover under way when L2 asserts has its spare assigned; the channel freezes. -/
def State.finishTakeovers (s : State) : State :=
  State.upto 512 (fun c s =>
    let x := s.chan c
    let s := match x.takeover with
      | some t => s.set ENG_CHMAP.ENGIDX t.spare c
      | none => s
    if x.freezePend || x.takeover.isSome then s.freeze c else s) s

/-- R250, R270: the calibration sequencer and the flash controller under L2: the rotation ends, an item in progress aborts and is
counted after the counters reset (assumption 56); a store ends where it is. -/
def State.resetCal (s : State) : State :=
  let s := (s.calEndRotation.set CAL_STS.STORING 0).set CAL_STS.STORE_PEND 0
  { s with cal := { s.cal with storeOp := 0, abandoned := false, abandonDue := false, storeDue := false, tdcOld := [] } }

/-- R270, R275: L2: engines, hop path, pair logic, calibration sequencer, host port, intake, management and every field marked (L2). -/
def State.resetL2 (s : State) : State :=
  let s := (s.setMode 0).finishTakeovers
  let r := s.rst
  ({ s with
    regs := maskRegs Rg.maskL2 s.regs
    chans := s.chans.filterMap fun (kv : Nat × Chan) => let x := kv.2.afterL2; if x = Chan.reset then none else some (kv.1, x)
    posts := []
    holdoff := []
    intake := .reset
    msyn := { s.msyn with svcStart := none, cmdMute := false }
    pair := { Pair.reset with
      peerLow := s.pair.peerLow, hbOut := s.pair.hbOut, prefAgreed := s.pair.prefAgreed, helloMismatch := s.pair.helloMismatch }
    rst := { r with waiting := [], mux := .idle, toTry := [], cloneOpen := false, cloneSeen := false, refusedAll := false, xoAbsent := false
                    preloaded := false, retuning := false }
    mgmt := { s.mgmt.afterL1 with hostLen := 0 }
    dev := { Dev.reset with tick := s.dev.tick, ticking := s.dev.ticking, crcAlert := s.dev.crcAlert, hopLogTick := s.dev.hopLogTick, badDmem := s.dev.badDmem }
    }).resetCal.showPfw

/-- R270, R367: L3, and L4 of a source other than power-on reset: everything but the reset controller, the clock monitor and the fields
that only power-on restores. -/
def State.resetL3 (s : State) : State :=
  ({ State.reset with
    pending := s.pending
    regs := maskRegs Rg.maskL3 s.regs
    pair := { Pair.reset with peerLow := s.pair.peerLow, hbOut := s.pair.hbOut }
    rst := { s.rst with waiting := [], mux := .idle, cold := true, toTry := [], cloneOpen := false, cloneSeen := false, refusedAll := false
                        xoAbsent := false, preloaded := false, retuning := false, bootMute := true, selfcalDone := false, tap := 2 }
    fuse := s.fuse
    cal := { Cal.reset with slotA := s.cal.slotA, slotB := s.cal.slotB }
    mgmt := { Mgmt.reset with pfwRails := s.mgmt.pfwRails, t1 := s.mgmt.t1, t2 := s.mgmt.t2, t3 := s.mgmt.t3 }
    dmem := Tab.set 0 [] 528 s.free
    free := s.free + 1 }).showPfw

/-! ### Straps and the start of BOOT -/

/-- R272: the default level of source `s`, as a level code. -/
def defaultReach : Nat → Nat
  | 0 => 5 | 1 => 4 | 2 => 3 | 3 => 1 | 4 => 1 | 5 => 2 | 6 => 3 | 7 => 4 | 8 => 4 | 9 => 4 | 10 => 4 | _ => 0

/-- R272: the level of source `s` in force: with STRAP_SYS = 1 a fuse entry from 1 to 5 names it. -/
def State.reachOf (s : State) (src : Nat) : Nat :=
  let e := s.fuse.reach.getD (src - 1) 0 % 8
  if src = 0 ∨ ¬ s.on DEV_STRAP.SYS then defaultReach src else if 1 ≤ e ∧ e ≤ 5 then e else defaultReach src

/-- RST_REACH0 and RST_REACH1 show the levels in force. -/
def State.showReach (s : State) : State :=
  let w (a n : Nat) : Nat := ((List.range n).map fun k => s.reachOf (a + k) * 16 ^ k).sum
  (s.wr .RST_REACH0 0 (BitVec.ofNat 32 (w 0 8))).wr .RST_REACH1 0 (BitVec.ofNat 32 (w 8 4))

/-- R278: sample the straps; `straps` is laid out as DEV_STRAP. -/
def State.sampleStraps (s : State) (straps : Nat) : State :=
  ((s.wr .DEV_STRAP 0 (BitVec.ofNat 32 (straps % 128))).showReach)

/-- R264: the master words of a STRAP_CLK code: REF, NINT, NNUM, NDEN, XOF. -/
def strapWords : Nat → Option MasterWords
  | 0 => some ⟨0x10#32, 640#32, 0#32, 1#32, 10000000#32⟩
  | 1 => some ⟨0x10#32, 320#32, 0#32, 1#32, 20000000#32⟩
  | 2 => some ⟨0x10#32, 256#32, 0#32, 1#32, 25000000#32⟩
  | 3 => some ⟨0#32, 329#32, 53#32, 243#32, 38880000#32⟩
  | 4 => some ⟨0#32, 320#32, 0#32, 1#32, 40000000#32⟩
  | 5 => some ⟨0#32, 256#32, 0#32, 1#32, 50000000#32⟩
  | 6 => some ⟨1#32, 204#32, 4#32, 5#32, 125000000#32⟩
  | _ => none

/-- R36, R264: BOOT writes the master words and brings them into use; code 7 keeps the reset values. -/
def State.bootWords (s : State) : State :=
  match strapWords (s.get DEV_STRAP.CLK) with
  | some w =>
    ((((((s.wr .MSYN_REF 0 w.ref).wr .MSYN_NINT 0 w.nint).wr .MSYN_NNUM 0 w.nnum).wr .MSYN_NDEN 0 w.nden).wr .MSYN_XOF 0 w.xof)).useStored
  | none => s.useStored

/-- R280: the sources that BOOT tries, in their order. -/
def bootOrder : Nat → List BootSrc
  | 0 => [.slotA, .slotB]
  | 1 => [.slotB, .slotA]
  | 2 => []
  | _ => [.clone, .slotA, .slotB]

/-- R297: the boot ROM tries the firmware slots: slot B first when STRAP_BOOT = 0b01. -/
def State.startFirmware (s : State) : State :=
  { s with mgmt := { s.mgmt with fwTry := if s.get DEV_STRAP.BOOT = 1 then [true, false] else [false, true] } }

/-- Whether BOOT mutes the outputs (R22, R288). -/
def State.setBootMute (s : State) (b : Bool) : State := { s with rst := { s.rst with bootMute := b } }

/-- BOOT's own state as it starts: sources to try by STRAP_BOOT (R280). -/
def State.clearBoot (s : State) : State :=
  let b := s.get DEV_STRAP.BOOT
  { s with rst := { s.rst with
      cold := false, toTry := bootOrder b, cloneOpen := b == 3, cloneSeen := false, refusedAll := b == 2, xoAbsent := false, preloaded := false
      retuning := false, selfcalDone := false } }

/-- R15, R264: a cold BOOT: the tick number starts again and the master takes the strap's words. -/
def State.coldBoot (s : State) : State :=
  ({ s with dev := { s.dev with tick := 0, ticking := false } }.bootWords).setBootMute true

/-- R288: BOOT after L2. An XO that is absent keeps the held master; a master that is not locked acquires with outputs muted. -/
def State.warmBoot (s : State) : State :=
  let s := { s with cal := { s.cal with l2Trigger := true } }
  if s.on CLK_STS.FORCED || (s.on MSYN_STS.HELD && !s.on CLK_STS.XO_OK) then
    { s with rst := { s.rst with xoAbsent := true, bootMute := false } }
  else if !s.on MSYN_STS.LOCK || s.on MSYN_STS.HELD then (s.startAcq).setBootMute true
  else s.setBootMute false

/-- R25, R280, R287, R288: BOOT starts as the effective level falls below L2. -/
def State.startBoot (s : State) : State :=
  let cold := s.rst.cold
  let s := ((s.setMode 1).set RST_BOOT_STS.KIND (if cold then 1 else 2)).showRole.startFirmware.clearBoot
  if cold then s.coldBoot else s.warmBoot

/-! ### Sources and levels (R271, R273, R275) -/

/-- The counter of a source. -/
def sourceCounter : Nat → Option Rg
  | 1 => some .RST_PORST_CNT | 2 => some .RST_WRST_CNT | 3 => some .RST_WDOG_CNT
  | 4 => some .RST_HOST_CNT | 5 => some .RST_HOST_CNT | 6 => some .RST_HOST_CNT | 7 => some .RST_HOST_CNT
  | 8 => some .RST_PEER_CNT | 9 => some .RST_CRC_CNT | 10 => some .RST_UPDATE_CNT | _ => none

/-- R273: the highest level asserted of L2 and wider, as a level code; 0 for none. -/
def levelOf (a : List (Nat × Nat)) : Nat := a.foldl (fun m x => if 3 ≤ x.2 then max m x.2 else m) 0

/-- Whether an asserted source has level code `l`. -/
def hasLevel (a : List (Nat × Nat)) (l : Nat) : Bool := a.any (·.2 == l)

/-- The bitmap of asserted sources; bit 11 while a block is in L0. -/
def State.sourceBits (s : State) : Nat :=
  (s.rst.asserted.filter (·.1 < 11)).foldl (fun m x => withBit m x.1 true) 0 + (if s.on RST_STS.SOFT then 2048 else 0)

/-- R273: the effective level rises to `lv`, L2 or wider. -/
def State.riseTo (s : State) (lv : Nat) : State :=
  let bits := s.sourceBits
  let from_ := s.mode
  let s := if lv = 3 then s.resetL2 else s.resetL3.modeLog from_ 0
  let s := { s with rst := { s.rst with level := lv } }
  let w := BitVec.ofNat 32 (lv * 2 ^ 28 + bits)
  (s.wr .RST_LAST 0 w).log 2 13 1 w 0 0

/-- R273: L1 of management abandons the L0 handshakes of the blocks inside it, the flash and the eMMC controller. -/
def State.dropMgmtWaits (s : State) : State :=
  let s := { s with rst := { s.rst with waiting := s.rst.waiting.filter fun x => x.2 != 4 && x.2 != 5 } }
  (s.setBit RST_IDLE_STS.WAIT 4 false).setBit RST_IDLE_STS.WAIT 5 false

/-- R275, R276: source `src` asserts at level code `lv`. In TEST only L3 and L4 act (R25). -/
def State.assertSource (s : State) (src lv : Nat) : State :=
  let s := (sourceCounter src).elim s (fun r => s.inc r)
  let s := s.cond (4 ≤ src && src ≤ 7) (·.set RST_CMD.GO 0)
  if s.mode = 11 ∧ lv < 4 then s
  else
    let s := { s with rst := { s.rst with asserted := s.rst.asserted.filter (·.1 != src) ++ [(src, lv)] } }
    if 3 ≤ lv then
      if s.rst.level < lv then s.riseTo lv else s
    else if s.rst.level ≠ 0 then s
    else if lv = 1 then (s.dropMgmtWaits.set RST_STS.L1M 1).resetMgmt
    else if lv = 2 then (s.set RST_STS.L1I 1).resetIntake
    else s

/-- R276, R277: the handshake of source `src` with unit `u` begins: 0 to 7 blocks, 8 management, 9 frame intake. -/
def State.startHandshake (s : State) (src u : Nat) : State :=
  let s := { s with rst := { s.rst with waiting := s.rst.waiting ++ [(src, u)] } }
  if u < 8 then s.setBit RST_IDLE_STS.WAIT u true else s.setBit RST_IDLE_STS.WAIT_L1 (u - 8) true

/-- R262, R271, R275, R276: a source is seen. While the internal oscillator is stopped it is held pending; L1 first runs the idle
handshake, but not inside a wider level (R273). -/
def State.requestReset (s : State) (src : Nat) : State :=
  let lv := s.reachOf src
  if !s.on CLK_STS.INTOSC_OK then
    { s with rst := { s.rst with heldPend := s.rst.heldPend.filter (· != src) ++ [src] } }
  else if s.rst.asserted.any (·.1 == src) || s.rst.waiting.any (·.1 == src) then s
  else if 3 ≤ lv || s.rst.level != 0 || s.mode == 11 then s.assertSource src lv
  else if lv = 0 then s
  else s.startHandshake src (lv + 7)

/-- R273: L1 of management releases: firmware starts, and soft-reset bits asked for inside it clear. -/
def State.releaseMgmt (s : State) : State :=
  let soft := s.get RST_SOFT.SOFT
  let keep := s.get RST_STS.SOFT
  let clr (n k : Nat) : Nat := if bitOf keep k then n else withBit n k false
  ((s.set RST_STS.L1M 0).set RST_SOFT.SOFT (clr (clr soft 4) 5)).startFirmware

/-- R273: source `src` releases. `straps` is what the strap balls hold, sampled when the level falls below L3. -/
def State.releaseSource (s : State) (src straps : Nat) : State :=
  let old := s.rst.level
  let a := s.rst.asserted.filter (·.1 != src)
  let lv := levelOf a
  let s := { s with rst := { s.rst with asserted := a, level := lv } }
  if 3 ≤ old then
    let s := s.cond (4 ≤ old && lv < 4) fun s =>
      let s := s.sampleStraps straps
      { s with rst := { s.rst with cold := true } }
    if lv = 0 then
      ((s.setB RST_STS.L1M (hasLevel a 1)).setB RST_STS.L1I (hasLevel a 2)).startBoot
    else s
  else
    let s := s.cond (s.on RST_STS.L1M && !hasLevel a 1) State.releaseMgmt
    s.cond (s.on RST_STS.L1I && !hasLevel a 2) (·.set RST_STS.L1I 0)

/-! ### Power-on reset and balls -/

/-- R271, R300: L4 from the supply monitors: everything, the reset controller included. -/
def State.powerOn (s : State) : State :=
  State.modeLog { State.reset with
    pending := s.pending, fuse := s.fuse, cal := { Cal.reset with slotA := s.cal.slotA, slotB := s.cal.slotB }, dmem := Tab.set 0 [] 528 s.free, free := s.free + 1
    pair := { Pair.reset with peerLow := s.pair.peerLow }
    rst := { Rst.reset with supplies := false, porstBall := s.rst.porstBall, wrstBall := s.rst.wrstBall }
    mgmt := { Mgmt.reset with t1 := s.mgmt.t1, t2 := s.mgmt.t2, t3 := s.mgmt.t3, pfwRails := s.mgmt.pfwRails } } s.mode 0

/-- POWER_ON_RESET_ASSERT (R271, R300). -/
def execPowerOnResetAssert (s : State) : Host.Outcome State Fault Refusal := done s.powerOn

/-- POWER_ON_RESET_RELEASE (R261, R356): the settle count begins. -/
def execPowerOnResetRelease (s : State) : Host.Outcome State Fault Refusal :=
  done { s with rst := { s.rst with supplies := true } }

/-- INTOSC_SETTLE_COMPLETE (R261): the clock monitor is armed, and power-on reset ends. -/
def execIntoscSettleComplete (straps : Nat) (s : State) : Host.Outcome State Fault Refusal :=
  done (if s.rst.supplies ∧ ¬ s.rst.settled then
      let s := (s.set CLK_STS.INTOSC_OK 1).set CLK_STS.MON_ARMED 1
      { s with rst := { s.rst with settled := true } }.showPfw.releaseSource 0 straps
    else s)

/-- The level seen at a ball, and the level taken. -/
def State.ball (s : State) (b : Ball) : Bool × Bool :=
  match b with
  | .porst => (s.rst.porstBall, s.rst.porstTaken)
  | .wrst => (s.rst.wrstBall, s.rst.wrstTaken)

/-- RESET_BALL_EDGE (R274): a change restarts the filter count. -/
def execResetBallEdge (b : Ball) (level : Bool) (s : State) : Host.Outcome State Fault Refusal :=
  done { s with rst := match b with
    | .porst => { s.rst with porstBall := level }
    | .wrst => { s.rst with wrstBall := level } }

/-- The source of a ball. -/
def ballSource : Ball → Nat
  | .porst => 1 | .wrst => 2

/-- RESET_BALL_LEVEL_TAKEN (R262, R274): a level held for 400 cycles of the running internal oscillator asserts or releases its source. -/
def execResetBallLevelTaken (b : Ball) (straps : Nat) (s : State) : Host.Outcome State Fault Refusal :=
  done (
    let v := s.ball b
    if v.1 = v.2 ∨ ¬ s.on CLK_STS.INTOSC_OK then s
    else
      let s := { s with rst := match b with
        | .porst => { s.rst with porstTaken := v.1 }
        | .wrst => { s.rst with wrstTaken := v.1 } }
      if v.1 then
        let s := { s with rst := { s.rst with waiting := s.rst.waiting.filter (·.1 != (ballSource b)) } }
        if s.rst.asserted.any (·.1 == (ballSource b)) then s.releaseSource (ballSource b) straps else s
      else s.requestReset (ballSource b))

/-- RESET_HOLD_EXPIRED (R262, R275): a source that is no ball releases; its hold counts the internal oscillator. -/
def execResetHoldExpired (src straps : Nat) (s : State) : Host.Outcome State Fault Refusal :=
  onUnit src 12 s (if s.on CLK_STS.INTOSC_OK ∧ 3 ≤ src ∧ s.rst.asserted.any (·.1 == src) then
      (s.releaseSource src straps).cond (src == 11) fun s => (s.set RST_SOFT.SOFT 0)
    else s)

/-! ### Idle handshakes and soft resets (R276, R277) -/

/-- R277: what L0 of block `b` resets. -/
def State.softReset (s : State) (b : Nat) : State :=
  match b with
  | 0 => { s.set TWL_STS.RX_LOCK 0 with twl := { s.twl with rxSeq := none, tags := [] } }
  | 1 => ((s.set MIR_STS.BLOCK_LOCK 0).set MIR_STS.SEQ_SYNC 0)
  | 2 => if s.on PAIR_CFG.EN then s.linkLoss else s
  | 3 => s.calEndRotation
  | 5 => { s.set MGMT_JRN_STS.STATE 0 with mgmt := { s.mgmt with emmcFails := 0 } }
  | 6 => { s with mgmt := { s.mgmt with supBad := [], supGood := [] } }
  | 7 => (s.set CLK_STS.FC_BUSY 0).set CLK_STS.FC_DONE 0 |>.set CLK_FC_CTL.START 0
  | _ => s

/-- The number of a unit in RST_IDLE_STS. -/
def unitIndex : IdleUnit → Nat
  | .management => 8 | .intake => 9 | .block b => b

/-- R276: the handshake of a unit ends, and its reset asserts. -/
def State.endHandshake (s : State) (u : Nat) : State :=
  let w := s.rst.waiting.filter (·.2 == u)
  let s := { s with rst := { s.rst with waiting := s.rst.waiting.filter (·.2 != u) } }
  let s := if u < 8 then s.setBit RST_IDLE_STS.WAIT u false else s.setBit RST_IDLE_STS.WAIT_L1 (u - 8) false
  if u < 8 then (s.setBit RST_STS.SOFT u true).softReset u
  else w.foldl (fun s x => s.assertSource x.1 (u - 7)) s

/-- Run an event of a unit of R276: management, frame intake or one of the blocks of R277. -/
def onIdleUnit (u : IdleUnit) (s t : State) : Host.Outcome State Fault Refusal :=
  match u with
  | .block b => onUnit b 8 s t
  | _ => done t

/-- R262, R276: the reset controller runs and waits for unit `u`. -/
def State.awaits (s : State) (u : IdleUnit) : Bool := s.on CLK_STS.INTOSC_OK && s.rst.waiting.any (·.2 == unitIndex u)

/-- IDLE_ACKNOWLEDGE (R276): an orderly reset. -/
def execIdleAcknowledge (u : IdleUnit) (s : State) : Host.Outcome State Fault Refusal :=
  onIdleUnit u s (if s.awaits u then s.endHandshake (unitIndex u) else s)

/-- IDLE_TIMEOUT (R276): a forced reset, counted. -/
def execIdleTimeout (u : IdleUnit) (s : State) : Host.Outcome State Fault Refusal :=
  onIdleUnit u s (if s.awaits u then (s.inc .RST_FORCED_CNT).endHandshake (unitIndex u) else s)

/-- SOFT_RESET_COMPLETE (R262, R277): the block leaves reset and its bits clear. -/
def execSoftResetComplete (b : Nat) (s : State) : Host.Outcome State Fault Refusal :=
  onUnit b 8 s (if s.on CLK_STS.INTOSC_OK ∧ bitOf (s.get RST_STS.SOFT) b then
      (s.setBit RST_STS.SOFT b false).setBit RST_SOFT.SOFT b false else s)

/-- R272, R273, R277: an executed request of RST_SOFT bit `b`. A bit that is set takes no second request; a fuse reach for source 11
replaces L0; a block inside an asserted level needs no handshake. -/
def State.requestSoft (s : State) (b : Nat) : State :=
  if bitOf (s.get RST_SOFT.SOFT) b then s
  else
    let s := s.setBit RST_SOFT.SOFT b true
    if s.reachOf 11 ≠ 0 then s.requestReset 11
    else if (b = 4 ∨ b = 5) ∧ s.on RST_STS.L1M then s
    else if !s.on CLK_STS.INTOSC_OK then
      { s with rst := { s.rst with heldPend := s.rst.heldPend ++ [16 + b] } }
    else s.startHandshake 11 b

/-- INTOSC_STOP (R262): 256 ROOT cycles without an edge of the internal oscillator. The entry's code is none of R303's; it is written as
block 0's with a free code (assumption 5). -/
def execIntoscStop (s : State) : Host.Outcome State Fault Refusal :=
  done (if s.on CLK_STS.INTOSC_OK then
      let s := s.set CLK_STS.INTOSC_OK 0
      let r := s.drawNat 65536
      r.2.log r.1 0 1 0 0 0
    else s)

/-- INTOSC_RETURN (R262): what was held pending is applied. -/
def execIntoscReturn (s : State) : Host.Outcome State Fault Refusal :=
  done (if s.rst.settled ∧ ¬ s.on CLK_STS.INTOSC_OK then
      let s := s.set CLK_STS.INTOSC_OK 1
      let h := s.rst.heldPend
      let s := { s with rst := { s.rst with heldPend := [] } }
      h.foldl (fun s src => if 16 ≤ src then s.startHandshake 11 (src - 16) else s.requestReset src) s
    else s)

/-- RESET_REQ (R233): accepted as the pair-peer source, or ignored and logged. -/
def execResetReq (s : State) : Host.Outcome State Fault Refusal :=
  done (s.onPair fun s =>
    if s.on PAIR_CFG.RST_ACCEPT ∧ s.pair.peerRole = 1 ∧ ¬ s.pair.helloBad then s.requestReset 8 else s.pairLog 14)

/-- MGMT_WATCHDOG_EXPIRED (R296): no stroke for WDOG × 10 ms. -/
def execMgmtWatchdogExpired (s : State) : Host.Outcome State Fault Refusal :=
  done (if s.mgmtRuns then s.requestReset 3 else s)

end Sys2Proof.Machine
end

