-- ==== Sys2Proof/Machine/Capture.lean ====
section
/-! DEFINITION. The mailbox (R334 to R336), the snapshot and its holding store (R337 to R339) and the configuration CRC
(R340 to R342). -/

namespace Sys2Proof.Machine

/-! ### Mailbox -/

/-- R45: the master-cycle count at ENG offset `ofs` of the tick. It is known where the count ran at the boundary and 32 master cycles
make an ENG cycle, from a locked master; elsewhere what it has gained since the boundary is a free value (assumption 4). -/
def State.mccAt (s : State) (ofs : Nat) : Nat × State :=
  if !s.msyn.counting then (s.msyn.mcc, s)
  else if s.msyn.sample.isSome && s.on MSYN_STS.LOCK && !s.on CLK_STS.ROOT_INT then (s.msyn.mcc + 32 * ofs, s)
  else
    let r := s.drawNat 12801
    (s.msyn.mcc + r.1, r.2)

/-- R334: the four words that a capture takes at master-cycle count `mcc`, if the source is one. -/
def State.mboxWords (s : State) (mcc : Nat) : Option (List Word) :=
  let x := s.chan (s.get MBX_SEL.INDEX)
  match s.get MBX_SEL.SRC with
  | 1 => some (chTimeWords x s.dev.tick)
  | 2 => some (chPeriodWords x)
  | 3 => some (hopLastWords x)
  | 4 => some (twoWords mcc ++ twoWords s.dev.tick)
  | _ => none

/-- R335: a capture: the words, VALID and CSEQ; GO clears. -/
def State.mboxCapture (s : State) (ofs : Nat) : State :=
  let m := s.mccAt ofs
  let s := m.2
  match s.mboxWords m.1 with
  | none => s
  | some ws =>
    let s := State.upto 4 (fun k s => s.wr .MBX_D k (ws.getD k 0)) s
    let s := (s.set MBX_STAT.VALID 1).set MBX_STAT.CSEQ (s.get MBX_STAT.CSEQ + 1)
    let s := (s.set MBX_STAT.SRC (s.get MBX_SEL.SRC)).set MBX_STAT.INDEX (s.get MBX_SEL.INDEX)
    (s.set MBX_STAT.PEND 0).set MBX_SEL.GO 0

/-- R335: a capture that falls due is held while the mailbox is open. -/
def State.mboxDue (s : State) (ofs : Nat) : State :=
  if s.on MBX_STAT.OPEN then s.set MBX_STAT.PEND 1 else s.mboxCapture ofs

/-- R335: a capture at an instant the command does not name: its offset in the tick is a free value. -/
def State.mboxDueNow (s : State) : State :=
  let r := s.drawNat 400
  r.2.mboxDue r.1

/-- R335: GO of the boundary: AUTO captures in the ENG cycle after every boundary cycle. -/
def State.mboxAuto (s : State) : State := s.cond (s.on MBX_SEL.AUTO) (·.mboxDue 1)

/-- R333 to R335: the fields of a write to MBX_SEL, and its GO: rejected for an unused source, deferred while the mailbox is open. -/
def State.writeMbx (s : State) (p : Port) (a : Nat) (w : Word) : State :=
  let s := s.wr .MBX_SEL 0 (mergeMask (s.rd .MBX_SEL) w Rg.MBX_SEL.info.cfg)
  if MBX_SEL.GO.of w = 0 then s
  else if s.get MBX_SEL.SRC < 1 ∨ 4 < s.get MBX_SEL.SRC then s.reject 4 p a
  else
    let s := (s.set MBX_SEL.GO 1).cond (s.on MBX_STAT.OPEN) (·.defer p a)
    s.mboxDueNow

/-- R336: a write to MBX_SEL; that of a port which does not own the open mailbox is deferred until the mailbox closes. -/
def State.selMbx (s : State) (p : Port) (a : Nat) (w : Word) : State :=
  if s.on MBX_STAT.OPEN ∧ s.get MBX_STAT.OWNER ≠ portCode p then
    let go := s.dev.mbxDefer.any fun d => MBX_SEL.GO.of d.2 != 0
    { s.defer p a with dev := { (s.defer p a).dev with
        mbxDefer := some (p, if go then MBX_SEL.GO.put w 1 else w) } }
  else s.writeMbx p a w

/-- R335, R336: the mailbox closes: a held capture is taken in the closing cycle, then a deferred write acts. -/
def State.closeMbx (s : State) : State :=
  let s := s.set MBX_STAT.OPEN 0
  let s := s.cond (s.on MBX_STAT.PEND) State.mboxDueNow
  match s.dev.mbxDefer with
  | none => s
  | some (p, w) => ({ s with dev := { s.dev with mbxDefer := none } }).writeMbx p 0x100 w

/-- R335: the end of the owner's transaction or frame closes its mailbox. -/
def State.endMbx (s : State) (p : Port) : State :=
  s.cond (s.on MBX_STAT.OPEN && s.get MBX_STAT.OWNER == portCode p) State.closeMbx

/-- R335, R336: the side effect of a read of MBX_D word `k`. -/
def State.readMbx (s : State) (p : Port) (k : Nat) : State :=
  let open_ := s.on MBX_STAT.OPEN
  let mine := s.get MBX_STAT.OWNER == portCode p
  if k = 0 then
    if s.on MBX_STAT.VALID && !open_ then (s.set MBX_STAT.OPEN 1).set MBX_STAT.OWNER (portCode p) else s
  else if k = 3 then
    if open_ && !mine then s
    else
      let s := s.set MBX_STAT.VALID 0
      s.cond open_ State.closeMbx
  else s

/-! ### Snapshot -/

/-- R337: a snapshot at ENG offset `ofs` of the tick. -/
def State.takeSnap (s : State) (coherent : Bool) (ofs : Nat) : State :=
  let m := s.mccAt ofs
  let s := m.2
  let seq := (s.get SNAP_STAT.SEQ + 1) % 65536
  let snap : Snap := ⟨s.regs, s.chans, s.dev.tick, m.1, coherent, ofs, seq⟩
  let s := { s with dev := { s.dev with snap := some snap, snapDue := false } }
  let s := ((s.set SNAP_STAT.SEQ seq).setB SNAP_STAT.COHERENT coherent).set SNAP_STAT.BUSY 0
  (s.set SNAP_CMD.TAKE 0).set SNAP_CMD.TICK 0

/-- R333, R337: a write to SNAP_CMD: the page, and TAKE, which joins a pending coherent snapshot. -/
def State.writeSnap (s : State) (p : Port) (a : Nat) (w : Word) (ofs : Nat) : State :=
  let s := s.set SNAP_CMD.PAGE (SNAP_CMD.PAGE.of w)
  if s.on SNAP_STAT.BUSY then s
  else
    let s := s.set SNAP_CMD.TICK (SNAP_CMD.TICK.of w)
    if SNAP_CMD.TAKE.of w = 0 then s
    else if SNAP_CMD.TICK.of w = 0 then s.takeSnap false ofs
    else ((s.set SNAP_CMD.TAKE 1).set SNAP_STAT.BUSY 1).defer p a

/-- R337: the boundary of a pending coherent snapshot passes. -/
def State.snapBoundary (s : State) : State :=
  s.cond (s.on SNAP_STAT.BUSY) fun s => { s with dev := { s.dev with snapDue := true } }

/-- R337: the coherent capture in the ENG cycle after the boundary cycle. -/
def State.coherentSnap (s : State) : State := s.cond s.dev.snapDue (·.takeSnap true 1)

/-- SNAPSHOT_COHERENT_CAPTURE (R337). -/
def execSnapshotCoherentCapture (s : State) : Host.Outcome State Fault Refusal := done s.coherentSnap

/-- The counters of a block that are single words, in map order. -/
def singleCounters (rs : List Rg) : List Rg := rs.filter fun r => r.info.cnt != 0 && r.info.count == 1

/-- R338: store words 16 to 79 and 120 to 183: the counters of each block. -/
def snapBlocks : List (Nat × List Rg) :=
  [(16, Rg.devRegs), (22, Rg.clkRegs), (27, Rg.rstRegs), (35, Rg.msynRegs), (40, Rg.calRegs), (55, Rg.refinRegs)
    , (57, Rg.engRegs), (68, Rg.twlRegs), (120, Rg.parseRegs), (152, Rg.pairRegs), (168, Rg.mgmtRegs)]

/-- R338: the ten counters of a mirror lane, in map order. -/
def laneCounters : List Rg := Rg.mirRegs.filter fun r => r.info.cnt != 0

/-- The six counters of a channel, in map order. -/
def chanCounters : List Rg := Rg.chRegs.filter fun r => r.info.cnt != 0

/-- A counter word, where the list holds one at `k`. -/
def State.counterAt (s : State) (rs : List Rg) (k i : Nat) : Word :=
  match rs[k]? with
  | some r => s.rd r i
  | none => 0

/-- R338: the first of the single-counter ranges that holds word `k`. -/
def State.blockCounter (s : State) (k : Nat) : List (Nat × List Rg) → Word
  | [] => 0
  | (b, rs) :: t =>
    let cs := singleCounters rs
    if b ≤ k ∧ k < b + cs.length then s.counterAt cs (k - b) 0 else s.blockCounter k t

/-- R338: store words 0 to 15. -/
def Snap.header (x : Snap) (k : Nat) : Word :=
  match k with
  | 0 => BitVec.ofNat 32 x.tick
  | 1 => BitVec.ofNat 32 (x.tick / 2 ^ 32)
  | 2 => BitVec.ofNat 32 x.mcc
  | 3 => BitVec.ofNat 32 (x.mcc / 2 ^ 32)
  | 4 => BitVec.ofNat 32 (flag x.coherent * 2 ^ 31 + x.ofs % 512 * 2 ^ 16 + x.seq)
  | _ => 0

/-- R338: store word `k` of a snapshot, on a state that holds the captured registers and channels. -/
def State.snapWord (s : State) (x : Snap) (k : Nat) : Word :=
  if k < 16 then x.header k
  else if k < 80 ∨ (120 ≤ k ∧ k < 184) then s.blockCounter k snapBlocks
  else if k < 120 then s.counterAt laneCounters ((k - 80) % 10) ((k - 80) / 10)
  else if k < 216 then
    match placeOf (0x8040020 + (k - 184)) hopRegs with
    | .reg r i => s.rd r i
    | _ => 0
  else if k < 1024 then 0
  else if k < 4096 then s.counterAt chanCounters ((k - 1024) % 6) ((k - 1024) / 6)
  else if k < 4352 then s.rd (if k % 2 = 0 then .OUT_LB_MISS_CNT else .OUT_LB_EXTRA_CNT) ((k - 4096) / 2)
  else if k < 4368 then s.rd .PPS_LB_CNT (k - 4352)
  else if k < 4440 then s.rd (if k % 2 = 0 then .REF_DISQ_CNT else .REF_HIT_CNT) ((k - 4368) / 2)
  else if k < 4504 then s.rd .FLOW_MISS_CNT (k - 4440)
  else if k < 4568 then s.rd .ORIG_DROP_CNT (k - 4504)
  else if k < 5120 then 0
  else if k < 9216 then
    let c := s.chan ((k - 5120) / 8)
    (chTimeWords c x.tick ++ chPeriodWords c).getD ((k - 5120) % 8) 0
  else if k < 13312 then s.rd .HIT_A ((k - 9216) * 32 + 17)
  else if k < 17408 then s.rd .HIT_B ((k - 13312) * 32 + 17)
  else 0

/-- R339: the word at index `i` of the SNAP window. -/
def State.holdWord (s : State) (i : Nat) : Word :=
  match s.dev.snap with
  | none => 0
  | some x => ({ s with regs := x.regs, chans := x.chans } : State).snapWord x (s.get SNAP_CMD.PAGE * 1024 + i)

/-! ### Configuration CRC -/

/-- R340: the registers of a block that the scan leaves out although they hold CFG fields. -/
def crcSkips (r : Rg) : Bool :=
  r == .RST_HLOAD_WIN || r == .RST_HLOAD_CTL || r == .MGMT_UPD_WIN || r == .MGMT_UPD_CTL || r == .MGMT_JRN_RDIDX
    || Rg.devRegs.contains r || Rg.snapRegs.contains r

/-- R340: a register whose words are covered. -/
def Rg.covered (r : Rg) : Bool := r.info.cfg != 0 && !crcSkips r

/-- R340: the covered bits of word `i`: its CFG fields. -/
def Rg.crcMask (r : Rg) (i : Nat) : Nat := r.info.cfg.land (r.maskAt i)

/-- R340: the covered register word at a key, if there is one. -/
def coveredAt (k : Nat) (rs : List Rg) : Option (Rg × Nat) :=
  match Rg.find k rs with
  | some (r, i) => if r.covered then some (r, i) else none
  | none => none

/-- R340: the covered words of block `b`, in ascending address: `n` words from its first address. -/
def blockWords (b n : Nat) : List (Rg × Nat) :=
  let rs := (Rg.ofBlock b).filter Rg.covered
  (List.range n).filterMap fun k => coveredAt (blockBase b + 4 * k) rs

/-- R340: the covered words in the order of the scan: registers by address, then indirect words by space and index. -/
def coveredWords : List (Rg × Nat) :=
  [0, 13, 1, 2].flatMap (fun b => blockWords b 1024) ++ blockWords 3 131072
    ++ [4, 5, 6, 7, 8, 9, 10, 11].flatMap (fun b => blockWords b 1024)
    ++ (List.range 512).flatMap (fun c => (List.range 32).map fun w => (Rg.PARAM, c * 512 + w))
    ++ (List.range 4096).flatMap (fun r => (List.range 17).map fun w => (Rg.RULE_A, r * 32 + w))
    ++ (List.range 4096).flatMap (fun r => (List.range 17).map fun w => (Rg.RULE_B, r * 32 + w))
    ++ (List.range 32768).flatMap (fun q => (List.range 6).map fun w => (Rg.PRESET, q * 8 + w))
    ++ (List.range 256).filterMap fun k => coveredAt (0x8040000 + k) [.HOP_PIN_CFG, .HOP_CTL, .HOP_GRP_CFG]

/-- R340: the CRC-32 of the covered space, live values. -/
def State.cfgCrc (s : State) : Word :=
  crc32 (coveredWords.flatMap fun x => octetsLe ((s.rd x.1 x.2).toNat.land (x.1.crcMask x.2)) 4)

/-- R341: ARMED clears, and with it the CRC cause. -/
def State.disarm (s : State) : State :=
  let s := s.set CFG_CRC_CTL.ARMED 0
  { s with dev := { s.dev with crcAlert := false, scanCommit := false } }

/-- R341: a write to a word of register `r` takes effect. -/
def State.touched (s : State) (r : Rg) : State := if r.covered then s.disarm else s

/-- CRC_SCAN_START (R341): at a boundary whose tick number is divisible by 1,000. A written REF arms the comparison. -/
def execCrcScanStart (s : State) : Host.Outcome State Fault Refusal :=
  done (if s.mode ≠ 0 ∧ s.dev.ticking ∧ s.dev.tick % 1000 = 0 ∧ ¬ s.dev.scan then
      let s := s.cond s.dev.refWritten (·.set CFG_CRC_CTL.ARMED 1)
      { s with dev := { s.dev with scan := true, scanCommit := s.on CFG_CRC_CTL.COMMIT, refWritten := false } }
    else s)

/-- R341, R342: the comparison at the end of a scan. -/
def State.compareCrc (s : State) : State :=
  if s.on CFG_CRC_CTL.EN ∧ s.on CFG_CRC_CTL.ARMED ∧ ¬ s.dev.refWritten then
    if s.rd .CFG_CRC_LIVE = s.rd .CFG_CRC_REF then { s with dev := { s.dev with crcAlert := false } }
    else
      let s := { s with dev := { s.dev with crcAlert := true } }
      let s := (s.inc .CFG_CRC_MISMATCH_CNT).log 9 14 2 (s.rd .CFG_CRC_LIVE) (s.rd .CFG_CRC_REF) 0
      match s.get CFG_CRC_CTL.POLICY with
      | 1 => s.enterBasic 6
      | 2 => s.requestReset 9
      | _ => s
  else s

/-- R341: COMMIT completes at the end of a scan that began after it and after the last covered write. -/
def State.commitCrc (s : State) : State :=
  if s.dev.scanCommit then
    let s := (s.wr .CFG_CRC_REF 0 (s.rd .CFG_CRC_LIVE)).set CFG_CRC_CTL.ARMED 1
    { s.set CFG_CRC_CTL.COMMIT 0 with dev := { s.dev with scanCommit := false } }
  else s

/-- CRC_SCAN_END (R341). -/
def execCrcScanEnd (s : State) : Host.Outcome State Fault Refusal :=
  done (if s.dev.scan then
      let s := { s.wr .CFG_CRC_LIVE 0 s.cfgCrc with dev := { s.dev with scan := false } }
      s.compareCrc.commitCrc
    else s)

/-- R341: COMMIT waits for a scan. -/
def State.startCommit (s : State) : State := s.set CFG_CRC_CTL.COMMIT 1

end Sys2Proof.Machine
end

