-- ==== Sys2Proof/Machine/Clock.lean ====
section
/-! DEFINITION. Clocking (10 R260 to R269): the clock monitor, XO failure, the system PLL, the root multiplexer, the frequency counter;
the test access port (13 R360 to R362). -/

namespace Sys2Proof.Machine

/-- R264: with STRAP_CLK = 0b111 a cold BOOT neither checks the XO nor starts the system PLL before the preload. -/
def State.internalStart (s : State) : Bool :=
  s.mode == 1 && s.get RST_BOOT_STS.KIND == 1 && s.get DEV_STRAP.CLK == 7 && !s.rst.preloaded

/-- R265: the armed monitor checks in every mode and level but L4 and TEST, while its oscillator runs (R262). -/
def State.monitorRuns (s : State) : Bool :=
  s.on CLK_STS.MON_ARMED && s.rst.level != 5 && s.mode != 11 && s.on CLK_STS.INTOSC_OK && !s.internalStart

/-- R47, R266: an XO failure holds the loop, unless the master is still off. -/
def State.failHold (s : State) : State := if s.get MSYN_STS.STATE = 0 then s else s.holdMaster

/-- R265, R266: declare an XO failure, once until XO_OK has been set again. -/
def State.xoFail (s : State) : State :=
  let s := { s.set CLK_STS.XO_OK 0 with rst := { s.rst with goodWin := 0, badWin := 0 } }
  if s.rst.xoFailed then s
  else
    let s := { s with rst := { s.rst with xoFailed := true, mux := .idle } }
    let s := (s.inc .CLK_XOFAIL_CNT).cond (!s.on CLK_STS.ROOT_INT) fun s => (s.set CLK_STS.FORCED 1).set CLK_STS.ROOT_INT 1
    let s := s.log 4 0 2 (s.rd .CLK_XOCNT) 0 0
    let s := s.failHold
    if s.mode = 1 then { s with rst := { s.rst with xoAbsent := true } }
    else if (2 ≤ s.mode ∧ s.mode ≤ 8) ∨ s.mode = 10 then s.enterBasic 2
    else s

/-- XO_MISSING_EDGE (R265): no XO edge for 128 cycles of the internal oscillator. -/
def execXoMissingEdge (s : State) : Host.Outcome State Fault Refusal := done (if s.monitorRuns then s.xoFail else s)

/-- R265: EXPECT: MSYN_XOF × 1,024 / 100 MHz. -/
def State.xoExpect (s : State) : Nat := s.get MSYN_XOF.XOF * 1024 / 100000000

/-- XO_MONITOR_WINDOW (R265): the count of a window against EXPECT ± 20 %. -/
def execXoMonitorWindow (count : Nat) (s : State) : Host.Outcome State Fault Refusal :=
  done (if s.monitorRuns then
      let x := s.get MSYN_XOF.XOF * 1024
      let s := (s.set CLK_XOCNT.COUNT (min count 65535)).set CLK_XOCNT.EXPECT (min s.xoExpect 65535)
      if 5 * ((count * 100000000 : Nat) - (x : Int)).natAbs ≤ x then
        let g := s.rst.goodWin + 1
        if 2 ≤ g then
          { s.set CLK_STS.XO_OK 1 with rst := { s.rst with goodWin := min g 2, badWin := 0, xoFailed := false } }
        else { s with rst := { s.rst with goodWin := g, badWin := 0 } }
      else
        let b := s.rst.badWin + 1
        if 2 ≤ b then s.xoFail else { s with rst := { s.rst with goodWin := 0, badWin := b } }
    else s)

/-- SYSTEM_PLL_LOCK (R260, R264). -/
def execSystemPllLock (s : State) : Host.Outcome State Fault Refusal :=
  done (if s.on CLK_STS.XO_OK ∧ s.mode ≠ 0 ∧ s.mode ≠ 11 ∧ ¬ s.internalStart then s.set CLK_STS.SPLL_LOCK 1 else s)

/-- MUX_PROOF_WINDOW (R266, R267): a proof ends; the switch starts, or is refused and counted. -/
def execMuxProofWindow (toSpll proved : Bool) (s : State) : Host.Outcome State Fault Refusal :=
  done (if (s.mode = 1 ∨ s.mode = 10 ∨ s.mode = 11) ∧ ¬ s.internalStart ∧ s.rst.mux = .idle ∧ s.on CLK_STS.ROOT_INT = toSpll then
      if !proved || (toSpll && s.on CLK_STS.FORCED) then s.inc .CLK_MUX_REJ_CNT
      else { s with rst := { s.rst with mux := .switching toSpll } }
    else s)

/-- R267, R42: a switch of ROOT completes; a cold BOOT starts its acquisition once ROOT runs from the XO. -/
def State.muxDone (s : State) : State :=
  match s.rst.mux with
  | .idle => s
  | .switching t =>
    let s := { (s.inc .CLK_MUX_CNT).setB CLK_STS.ROOT_INT (!t) with rst := { s.rst with mux := .idle } }
    s.cond (t && s.mode == 1 && s.get RST_BOOT_STS.KIND == 1 && !s.rst.xoAbsent) State.startAcq

/-- MUX_SWITCH_COMPLETE (R267). -/
def execMuxSwitchComplete (s : State) : Host.Outcome State Fault Refusal := done s.muxDone

/-- MUX_SWITCH_TIMEOUT (R267): completed through the forced select. -/
def execMuxSwitchTimeout (s : State) : Host.Outcome State Fault Refusal :=
  done (s.cond (s.rst.mux != .idle) fun s => (s.inc .CLK_MUX_FORCE_CNT).muxDone)

/-- XO_ABSENT_TIMEOUT (R287): 100 µs without XO_OK, or 1 ms without ROOT on the system PLL. -/
def execXoAbsentTimeout (s : State) : Host.Outcome State Fault Refusal :=
  done (if s.mode = 1 ∧ ¬ s.internalStart ∧ (¬ s.on CLK_STS.XO_OK ∨ s.on CLK_STS.ROOT_INT) then
      { s with rst := { s.rst with xoAbsent := true } }
    else s)

/-- R269: START written in the modes that take it: a count starts or restarts. -/
def State.freqStart (s : State) (w : Word) : State :=
  ((s.wr .CLK_FC_CTL 0 w).set CLK_STS.FC_BUSY 1).set CLK_STS.FC_DONE 0

/-- FREQ_COUNT_DONE (R269). -/
def execFreqCountDone (count : Nat) (s : State) : Host.Outcome State Fault Refusal :=
  done (if s.on CLK_STS.FC_BUSY then
      (((s.wr .CLK_FC_RES 0 (BitVec.ofNat 32 (min count (2 ^ 32 - 1)))).set CLK_STS.FC_BUSY 0).set CLK_STS.FC_DONE 1).set CLK_FC_CTL.START 0
    else s)

/-- INTREF_TRIM_COMPLETE (R287): in BASIC from a BOOT without XO, with INTREF_OK, the word is trimmed and held, and the master-cycle
count starts. -/
def execIntrefTrimComplete (vco band tune : Nat) (s : State) : Host.Outcome State Fault Refusal :=
  done (if s.mode = 9 ∧ s.dev.basicNoXo ∧ s.on OUT_CTL.INTREF_OK ∧ ¬ s.msyn.everLocked then
      let s := (((s.set MSYN_STS.VCO vco).set MSYN_STS.BAND band).set MSYN_TUNE.TUNE tune).set MSYN_STS.HELD 1
      { s.set MSYN_STS.STATE 7 with msyn := { s.msyn with intref := true, counting := true, mcc := 0, everLocked := true } }
    else s)

/-! ### The test access port -/

/-- R361: an opcode that the table does not list acts as BYPASS. -/
def tapInstr (op : Nat) : Nat := if op ≤ 6 then op else 0x3F

/-- R25, R53, R71, R146, R250, R362: entry to TEST: calibration ends, the master and the outputs show TAP, the lanes carry idle blocks. -/
def State.enterTest (s : State) : State :=
  if s.mode = 0 ∨ s.mode = 11 then s
  else
    let s := (s.calEndRotation.set MSYN_STS.STATE 8).set TWL_STS.FRAMES 0
    let s := { s with
      twl := { s.twl with frameTick := none }
      rst := { s.rst with tapMuted := (List.range 128).filter fun n => !s.on OUT_CFG.EN n || s.get OUT_STS.STATE n == 0 } }
    (State.upto 128 (fun n s => s.set OUT_STS.STATE 3 n) s).setMode 11

/-- R360: the device identification register. -/
def tapIdcode : Word := 0x19512357#32

/-- R360: what the 6-bit instruction register captures. -/
def tapIrCapture : BitVec 6 := 1#6

/-- R361: the instructions that select the boundary register. -/
def tapScans (op : Nat) : Bool := op == 0 || op == 1 || op == 5 || op == 6

/-- TAP_UPDATE_IR (R361 to R363). While L3 or L4 holds the TAP stays in Test-Logic-Reset (R360). The cells that the
scans under the present instruction have left reach the boundary register only where that instruction selects it. -/
def execTapUpdateIr (ir : TapScan) (s : State) : Host.Outcome State Fault Refusal :=
  done (if 4 ≤ s.rst.level then s
    else
      let op := tapInstr (ir.opcode % 64)
      let s := { s with rst := { s.rst with tap := op, cells := if tapScans s.rst.tap then ir.cells else s.rst.cells } }
      s.cond (tapTakesPins op) State.enterTest)

/-- R362: what the boundary cells drive onto output pair `n`: nothing, or the high or the low phase of its pattern as inverted. -/
def State.pairLevel (s : State) (n : Nat) : Option Bool :=
  if s.pinDrive = .device ∨ s.pinDrive = .highZ ∨ !s.cell (2 * n + 1) then none
  else some (s.cell (2 * n) != s.on OUT_CFG.INV n)

/-- R362: TYPE and SWING with which output pair `n` is driven from the cells: those of its reset where it was off or muted. -/
def State.pairDriver (s : State) (n : Nat) : Nat × Nat :=
  if s.rst.tapMuted.contains n then (OUT_DRV.TYPE.of (Rg.resetWord .OUT_DRV n), OUT_DRV.SWING.of (Rg.resetWord .OUT_DRV n))
  else (s.get OUT_DRV.TYPE n, s.get OUT_DRV.SWING n)

/-- TAP_RESET (R360): Test-Logic-Reset: the instruction is IDCODE. TEST goes on (R362). -/
def execTapReset (s : State) : Host.Outcome State Fault Refusal := done { s with rst := { s.rst with tap := 2 } }

end Sys2Proof.Machine
end

