-- ==== Sys2Proof/Machine/Image.lean ====
section
/-! DEFINITION. The octets of an image (10 R282, R283; 11 R297, R307): its header, its sections, and the checks of R285 that rest on them
alone. -/

namespace Sys2Proof.Machine

/-- The octets of words, least significant octet first. -/
def wordOctets (ws : List Word) : List Octet := ws.flatMap fun w => octetsLe w.toNat 4

/-! ### The header (R282) -/

/-- Octets 0x00 to 0xFB of the header. -/
def headerOctets (h : ImgHeader) : List Octet :=
  ([h.magic, h.format, h.length, h.device, h.secVer, h.imgVer, h.sects.length, 0].flatMap fun n => octetsLe n 4)
    ++ ((List.range 96).map fun i => h.pubKey.getD i 0)
    ++ ((List.range 7).flatMap fun i => match h.sects[i]? with
      | some e => octetsLe e.type 4 ++ octetsLe e.offset 4 ++ octetsLe e.length 4 ++ octetsLe e.crc 4
      | none => List.replicate 16 0)
    ++ List.replicate 12 0

/-- HDR_CRC over them. -/
def headerCrc (h : ImgHeader) : Nat := (crc32 (headerOctets h)).toNat

/-- R282, R283: the section table: types of 1 to 7 in ascending order, each section on a multiple of 4, behind the one before it and
ahead of `limit`. -/
def sectsFit (limit : Nat) : Nat → Nat → List SectEntry → Bool
  | _, _, [] => true
  | t, o, e :: es => decide (t < e.type) && decide (e.type ≤ 7) && e.offset % 4 == 0 && decide (o ≤ e.offset)
      && decide (e.offset + e.length ≤ limit) && sectsFit limit e.type (e.offset + e.length) es

/-- R285, cause 3: the header of an Onion image; a slot of the flash holds at most S octets. -/
def onionHeaderOk (h : ImgHeader) (slotSize : Option Nat) : Bool :=
  h.magic == 0x4F4E494F && h.format == 1 && h.device == 0x95120A01
    && decide (1024 ≤ h.length) && decide (h.length ≤ 16777216) && slotSize.all (fun n => decide (h.length ≤ n)) && h.length % 4 == 0
    && decide (h.secVer ≤ 64) && decide (h.sects.length ≤ 7)
    && (h.sects.any (·.type == 1)) && (h.sects.any (·.type == 2)) && sectsFit (h.length - 96) 0 0x100 h.sects
    && h.hdrCrc == headerCrc h

/-- R285, R297, cause 3: the header of a firmware image, which has no sections. -/
def firmwareHeaderOk (h : ImgHeader) : Bool :=
  h.magic == 0x564C4D52 && h.format == 1 && h.device == 0x95120A01
    && decide (1024 ≤ h.length) && decide (h.length ≤ 1048576) && h.length % 4 == 0 && decide (h.secVer ≤ 64)
    && h.sects.isEmpty && h.hdrCrc == headerCrc h

/-- R285, R297: the cause of refusal of a firmware slot, 0 for none; causes 7 to 13 do not apply to an image without sections. -/
def fwCause (x : FwSlot) (count : Nat) : Nat :=
  if !x.verdict.readOk then 1 else if x.header.magic = 0xFFFFFFFF then 2 else if !firmwareHeaderOk x.header then 3
  else if !x.verdict.keyOk then 4 else if !x.verdict.sigOk then 5 else if x.header.secVer < count then 6 else 0

/-! ### The sections (R283, R307) -/

/-- Whether the section table holds a section of type `t`. -/
def hasSect (img : Image) (t : Nat) : Bool := img.header.sects.any (·.type == t)

/-- The record of channel `c` in section 3: one that the list leaves out holds the reset values. -/
def progRec (img : Image) (c : Nat) : ProgRec :=
  (img.programs.find? (·.ch == c)).getD ⟨c, 0, (List.range 32).map fun k => Rg.resetWord .PARAM (c * 512 + k)⟩

/-- The octets of a rule bank of sections 4 and 5. -/
def ruleOctets (rules : Option (List (List Word))) : List Octet :=
  rules.elim [] fun rs => octetsLe rs.length 4 ++ rs.flatMap wordOctets

/-- The octets of section 7 (R307). -/
def policyOctets (p : Option JournalPolicy) : List Octet :=
  p.elim [] fun p => octetsLe p.t1Days 4 ++ octetsLe p.t2Days 4 ++ octetsLe p.t3Gb 4 ++ octetsLe 0 4
    ++ octetsLe p.t1Mask 64 ++ octetsLe p.t2Mask 64

/-- The octets of the section of type `t`. -/
def sectionOctets (img : Image) (t : Nat) : List Octet :=
  match t with
  | 1 => octetsLe img.idMode 4 ++ octetsLe img.oui 4 ++ octetsLe img.ids.length 4 ++ octetsLe 0 4
      ++ img.ids.flatMap fun x => octetsLe x.1 8 ++ octetsLe x.2 8
  | 2 => img.preload.flatMap fun x => octetsLe x.1 4 ++ octetsLe x.2.toNat 4
  | 3 => octetsLe (4 * img.pstore.length) 4 ++ wordOctets img.pstore
      ++ (List.range 512).flatMap fun c =>
        let p := progRec img c
        octetsLe p.prog 4 ++ wordOctets ((List.range 32).map fun k => p.params.getD k 0)
  | 4 => ruleOctets img.ruleA
  | 5 => ruleOctets img.ruleB
  | 6 => wordOctets (img.hopCtl.getD []) ++ img.presets.flatMap fun e =>
      octetsLe e.ch 2 ++ octetsLe e.idx 1 ++ octetsLe 0 1 ++ wordOctets e.words
  | _ => policyOctets img.policy

/-- R285, cause 7: every section's CRC-32 is that of its octets. -/
def sectCrcsOk (img : Image) : Bool := img.header.sects.all fun e => e.crc == (crc32 (sectionOctets img e.type)).toNat

/-- The content of the section of type `t` fills its length; one that does not is refused with the cause of its content (assumption 140). -/
def sectFilled (img : Image) (t : Nat) : Bool :=
  img.header.sects.all fun e => e.type != t || e.length == (sectionOctets img t).length

end Sys2Proof.Machine
end

