-- ==== Sys2Proof/Machine/Mgmt.lean ====
section
/-! DEFINITION. The management subsystem (11): firmware start, sensors, supplies, the power-fail warning, the journal, updates and the
anti-rollback counter. The host commands of R310, R311 and R309 are here as the effects of executed requests. -/

namespace Sys2Proof.Machine

/-! ### Firmware (R296, R297) -/

/-- R297, R303, R313: accepted firmware starts with a new session, which the hash of R313 gives. -/
def State.startFw (s : State) (b : Bool) (slot : FwSlot) : State :=
  let r := s.drawWord
  let s := ((((r.2.set MGMT_FW_STS.SLOT (flag b)).set MGMT_FW_STS.SEC_VER slot.header.secVer).set MGMT_FW_STS.FW_VER slot.header.imgVer).set
    MGMT_STS.FW_RUN 1).set MGMT_STS.ROM_SVC 0
  let s := { s.wr .MGMT_INB_STS 0 r.1 with mgmt := { s.mgmt with lastSeq := 0, fwTry := [] } }
  s.log 0x10 0xFF 0 (BitVec.ofNat 32 (flag b)) (BitVec.ofNat 32 (slot.header.imgVer % 65536 + slot.header.secVer % 65536 * 65536)) r.1

/-- FIRMWARE_SLOT_CHECK (R297): the next slot in order runs, or is refused and counted; with none left the ROM service runs. -/
def execFirmwareSlotCheck (slotB : Bool) (slot : FwSlot) (s : State) : Host.Outcome State Fault Refusal :=
  done (match s.mgmt.fwTry with
    | b :: rest =>
      if !s.mgmtRuns || b != slotB then s
      else
        let cause := fwCause slot s.fuse.arb
        let s := { s with mgmt := { s.mgmt with
          fwTry := rest, secVers := s.mgmt.secVers.set (flag slotB) (if cause = 0 then some slot.header.secVer else none) } }
        let s := s.set (if slotB then MGMT_FW_STS.CAUSE_B else MGMT_FW_STS.CAUSE_A) cause
        if cause = 0 then s.startFw slotB slot
        else (s.inc .MGMT_FW_REFUSE_CNT).cond rest.isEmpty (·.set MGMT_STS.ROM_SVC 1)
    | [] => s)

/-- LOCKSTEP_MISMATCH (R296, R315): BASIC; R219: evidence for a divergence. -/
def execLockstepMismatch (s : State) : Host.Outcome State Fault Refusal :=
  done (if s.mgmtRuns then
      { s with pair := { s.pair with evidence := s.pair.evidence.lor 2 } }.enterBasic 5
    else s)

/-! ### Sensors and supplies (R299, R300) -/

/-- R299: the threshold, signed. -/
def State.tempThr (s : State) : Int := signedOf 16 (s.get MGMT_TEMP_WARN.THR)

/-- R299: every reading lies at or below THR − HYST. -/
def State.tempCool (s : State) : Bool :=
  (List.range 8).all fun k => decide (signedOf 16 (s.get MGMT_TEMP.TEMP k) ≤ s.tempThr - (s.get MGMT_TEMP_WARN.HYST : Int))

/-- R299, R303: a temperature entry of the log. -/
def State.tempLog (s : State) (k : Nat) (cleared : Nat) : State :=
  s.log 0xB 11 1 (BitVec.ofNat 32 k) (s.rd .MGMT_TEMP k) (BitVec.ofNat 32 cleared)

/-- R27, R296: errors of the processor's RAM corrected up to here. -/
def State.ramCorrected (s : State) (n : Nat) : State := s.cond (s.mode != 0) (·.add .MGMT_RAM_CORR_CNT n)

/-- SENSOR_CONVERSION (R247, R299): sensor `k` is read; the errors of the processor's RAM corrected since the last conversion come
with it (assumption 119). -/
def execSensorConversion (k : Nat) (reading : SensorReading) (s : State) : Host.Outcome State Fault Refusal :=
  onUnit k 8 s (
    let s := s.ramCorrected reading.ramCorr
    let temp := reading.temp
    if s.mode = 0 ∨ bitOf (s.get RST_STS.SOFT) 6 then s
    else
      let s := (s.set MGMT_TEMP.TEMP (fieldOf 16 temp) k).markSensor k
      if !s.on MGMT_STS.TEMP_WARN then
        if s.tempThr < temp then ((s.set MGMT_STS.TEMP_WARN 1).inc .MGMT_TEMP_WARN_CNT).tempLog k 0 else s
      else if s.tempCool then (s.set MGMT_STS.TEMP_WARN 0).tempLog k 1
      else s)

/-- R300: the warning window of rail `k`, in mV. -/
def supWindow : Nat → Nat × Nat
  | 0 => (710, 790) | 1 => (855, 945) | 2 => (1140, 1260) | 3 => (1710, 1890) | _ => (3135, 3465)

/-- R300: the reset threshold of rail `k`, in mV. -/
def supReset : Nat → Nat
  | 0 => 660 | 1 => 800 | 2 => 1080 | 3 => 1620 | _ => 2900

/-- R300, R301, R303: a supply entry of the log. -/
def State.supLog (s : State) (k mv cleared : Nat) : State :=
  s.log 0xC 11 1 (BitVec.ofNat 32 k) (BitVec.ofNat 32 mv) (BitVec.ofNat 32 cleared)

/-- R300: conversions in a row outside and inside the window of rail `k`. -/
def State.supCount (s : State) (k bad good : Nat) : State :=
  { s with mgmt := { s.mgmt with supBad := Tab.set 0 s.mgmt.supBad k bad, supGood := Tab.set 0 s.mgmt.supGood k good } }

/-- SUPPLY_CONVERSION (R300): rail `k` reads `mv` millivolts; below its reset threshold it asserts power-on reset. -/
def execSupplyConversion (k mv : Nat) (s : State) : Host.Outcome State Fault Refusal :=
  onUnit k 5 s (if mv < supReset k ∧ s.rst.supplies then s.powerOn
    else if s.mode = 0 then s
    else
      let w := supWindow k
      let low := decide (mv < w.1)
      let high := decide (w.2 < mv)
      let s := ((s.set MGMT_SUP.MV mv k).setB MGMT_SUP.LOW low k).setB MGMT_SUP.HIGH high k
      if low || high then
        let b := min 10 (Tab.get 0 s.mgmt.supBad k + 1)
        let s := s.supCount k b 0
        if b = 10 ∧ ¬ bitOf (s.get MGMT_STS.SUP_WARN) k then
          ((s.setBit MGMT_STS.SUP_WARN k true).inc .MGMT_SUP_WARN_CNT).supLog k mv 0
        else s
      else
        let g := min 10 (Tab.get 0 s.mgmt.supGood k + 1)
        let s := s.supCount k 0 g
        if g = 10 ∧ bitOf (s.get MGMT_STS.SUP_WARN) k then (s.setBit MGMT_STS.SUP_WARN k false).supLog k mv 1 else s)

/-! ### Power-fail warning (R301) -/

/-- R310: an update in progress pauses. -/
def State.pauseUpdate (s : State) : State :=
  let st := s.get MGMT_UPD_STS.STATE
  if st = 1 ∨ st = 2 then
    { s.set MGMT_UPD_STS.STATE 5 with mgmt := { s.mgmt with updChecking := st == 2 } }
  else s

/-- POWER_FAIL_WARNING (R253, R301, R310): an enabled rail, 3 (1.8 V) or 4 (3.3 V), falls below its threshold. The comparison is analog;
what the digital logic shows and records waits for a release from L2. -/
def execPowerFailWarning (rail : Nat) (s : State) : Host.Outcome State Fault Refusal :=
  onUnit rail 5 s (
    if (rail = 3 ∧ s.on MGMT_PFW_CTL.EN18 ∨ rail = 4 ∧ s.on MGMT_PFW_CTL.EN33) ∧ rail ∉ s.mgmt.pfwRails then
      let first := s.mgmt.pfwRails.isEmpty
      let s := { s with mgmt := { s.mgmt with pfwRails := s.mgmt.pfwRails ++ [rail] } }.showPfw
      let s := { s with cal := { s.cal with abandonDue := s.cal.abandonDue || s.on CAL_STS.STORING } }
      s.cond first fun s => ((s.inc .MGMT_PFW_CNT).supLog rail (s.get MGMT_SUP.MV rail) 0).pauseUpdate
    else s)

/-- POWER_FAIL_CLEAR (R301): the rails have been 50 mV above their thresholds for 1 ms. -/
def execPowerFailClear (s : State) : Host.Outcome State Fault Refusal :=
  done (match s.mgmt.pfwRails with
    | r :: _ => ({ s with mgmt := { s.mgmt with pfwRails := [] } }.showPfw).supLog r (s.get MGMT_SUP.MV r) 1
    | [] => s)

/-! ### Journal (R304 to R309) -/

/-- The firmware's journal duties run: firmware runs, the journal is open and no warning stops eMMC writes. -/
def State.journalWrites (s : State) : Bool :=
  s.mgmtRuns && s.on MGMT_STS.FW_RUN && s.on MGMT_CTL.JRN_EN && s.get MGMT_JRN_STS.STATE == 1

/-- Records a tier holds. -/
def Tier.held (t : Tier) : Nat := t.old + t.recs.length

/-- R306, R308: append a record; a full ring overwrites its oldest. -/
def Tier.push (t : Tier) (tick : Nat) (r : JournalRec) : Tier :=
  if t.held < t.cap then { t with recs := t.recs ++ [(tick, r)] }
  else if t.cap = 0 then t
  else if 0 < t.old then { t with old := t.old - 1, recs := t.recs ++ [(tick, r)], lost := t.lost + 1 }
  else { t with recs := t.recs.drop 1 ++ [(tick, r)], lost := t.lost + 1 }

/-- The words of a record's octets, octet 4w in bits [7:0] of word w. -/
def wordsOf : List Octet → List Word
  | a :: b :: c :: d :: t => BitVec.ofNat 32 (a.toNat + b.toNat * 256 + c.toNat * 65536 + d.toNat * 16777216) :: wordsOf t
  | _ => []

/-- Octets with their CRC-32 (R144) appended. -/
def withCrc (os : List Octet) : List Octet := os ++ octetsLe (crc32 os).toNat 4

/-- EVENT_TIER_COPY (R298, R306): firmware copies up to `n` log entries in SEQ order. -/
def State.copyEvents : Nat → State → State
  | 0, s => s
  | n + 1, s =>
    let q := s.mgmt.logCopied
    if s.mgmt.logSeq ≤ q then s
    else
      let e := Tab.get .none s.mgmt.log (q % 2048)
      let full := s.mgmt.t3.cap ≤ s.mgmt.t3.held
      let s := { s with mgmt := { s.mgmt with t3 := s.mgmt.t3.push e.tick (wordsOf e.octets), logCopied := q + 1 } }
      State.copyEvents n (s.cond full (·.inc .MGMT_EVT_OVW_CNT))

/-- EVENT_TIER_COPY (R298). -/
def execEventTierCopy (n : Nat) (s : State) : Host.Outcome State Fault Refusal :=
  done (if s.journalWrites ∧ ¬ s.on MGMT_STS.PFW then State.copyEvents (min n 2048) s else s)

/-- R307: octets of the per-second tier for one day. -/
def dayOctets (n1 : Nat) : Nat := 86400 * 32 * n1

/-- R307: octets of the aggregate and event tiers with the index. -/
def fixedOctets (p : JournalPolicy) : Nat :=
  p.t2Days * 144 * 64 * popCount p.t2Mask 512 + p.t3Gb * 10 ^ 9 + 250000000

/-- R307: the retention of the per-second tier that fits `area` octets, and whether it had to be shortened; none when it does not. -/
def fitDays (p : JournalPolicy) (area : Nat) : Option (Nat × Bool) :=
  let day := dayOctets (popCount p.t1Mask 512)
  if p.t1Days * day + fixedOctets p ≤ area then some (p.t1Days, false)
  else if fixedOctets p + day ≤ area ∧ 0 < day then some ((area - fixedOctets p) / day, true)
  else none

/-- R307, R308: a tier at opening: its capacity, and `held` valid records, those the device knows being the newest. -/
def Tier.reopen (t : Tier) (cap held : Nat) : Tier :=
  let h := min held cap
  let known := t.recs.drop (t.recs.length - h)
  { t with cap := cap, old := h - known.length, recs := known }

/-- JOURNAL_OPEN (R304, R307, R308): the eMMC has `sectors` sectors and `held` valid records in its tiers. -/
def execJournalOpen (sectors : Nat) (held : List Nat) (s : State) : Host.Outcome State Fault Refusal :=
  done (if s.mgmtRuns ∧ s.on MGMT_STS.FW_RUN ∧ s.get MGMT_JRN_STS.STATE = 0 ∧ ¬ bitOf (s.get RST_STS.SOFT) 5 then
      let s := s.set MGMT_EMMC_STS.SECTORS sectors
      let p := s.mgmt.policy
      match fitDays p (sectors * 512) with
      | none => s.set MGMT_JRN_STS.STATE 3
      | some (d, short) =>
        let s := ((s.set MGMT_JRN_STS.STATE 1).setB MGMT_JRN_STS.SHORT short).set MGMT_JRN_STS.T1_DAYS d
        let c1 := d * 86400 * popCount p.t1Mask 512
        let c2 := p.t2Days * 144 * popCount p.t2Mask 512
        let c3 := p.t3Gb * 10 ^ 9 / 32
        { s with mgmt := { s.mgmt with
            t1 := s.mgmt.t1.reopen c1 (held.getD 0 0), t2 := s.mgmt.t2.reopen c2 (held.getD 1 0)
            t3 := s.mgmt.t3.reopen c3 (held.getD 2 0), emmcFails := 0, captures := [] } }
    else s)

/-- R305, R306: SEL of a channel. -/
def State.selCode (s : State) (c : Nat) : Nat := s.get ENG_CHMAP.SEL_VALID c * 128 + s.get ENG_CHMAP.SEL c

/-- R305: the mean phase error of the second; `free` where no iteration was applied in it, of which R305 gives no mean. -/
def secMean (a : SecAcc) (free : Int) : Int := if a.n = 0 then free else a.sum.tdiv a.n

/-- R305: the per-second record of channel `c`. -/
def State.secRecord (s : State) (c : Nat) (free : Int) : JournalRec :=
  let x := s.chan c
  let a := Tab.get .reset s.mgmt.sec c
  let t := x.tickTime
  let shown := (signedOf 32 (s.rd .CH_PHERR c).toNat).natAbs
  wordsOf (withCrc (octetsLe (secOf t) 6 ++ octetsLe (nsOf t) 4 ++ octetsLe (s.timeFlags c) 2
    ++ octetsLe (c + x.state.code * 512) 2 ++ octetsLe (s.selCode c) 1 ++ octetsLe (min a.hops 255) 1
    ++ octetsLe (fieldOf 32 (secMean a free)) 4 ++ octetsLe (if a.n = 0 then shown else a.max) 4
    ++ octetsLe (fieldOf 32 (chanRate x (s.p0 c))) 4))

/-- R306: the capture of channel `c` enters its period. -/
def State.aggregate (s : State) (c : Nat) (free : Int) : State :=
  let x := s.chan c
  let a := Tab.get .reset s.mgmt.sec c
  let g := Tab.get .reset s.mgmt.agg c
  let m := secMean a free
  let r := chanRate x (s.p0 c)
  let sel := s.selCode c
  let one := g.secs == 0
  let k := x.state.code
  let g : AggAcc := { g with
    tick := if one then s.dev.tick else g.tick
    secs := g.secs + 1
    states := g.states.set k (g.states.getD k 0 + 1)
    flags := g.flags.lor (s.timeFlags c)
    phSum := g.phSum + m, phMin := if one then m else min g.phMin m, phMax := if one then m else max g.phMax m
    rSum := g.rSum + r, rMin := if one then r else min g.rMin r, rMax := if one then r else max g.rMax r
    hops := g.hops + a.hops
    selChg := g.selChg + flag (sel != g.lastSel)
    lastSel := sel
    unl0 := if one then (s.rd .CH_UNLOCK_CNT c).toNat else g.unl0 }
  { s with mgmt := { s.mgmt with agg := Tab.set .reset s.mgmt.agg c g } }

/-- The channels of a mask. -/
def maskChannels (m : Nat) : List Nat := (List.range 512).filter (bitOf m)

/-- JOURNAL_CAPTURE (R298, R305, R306): at a tick divisible by 1,000,000 the per-second records of one tick are formed and queued, and
every channel of the aggregate tier takes its part. -/
def execJournalCapture (s : State) : Host.Outcome State Fault Refusal :=
  done (if s.journalWrites ∧ s.dev.ticking ∧ s.dev.tick % 1000000 = 0 then
      let r := s.drawInt
      let recs := (maskChannels s.mgmt.policy.t1Mask).map fun c => s.secRecord c r.1
      let s := (maskChannels s.mgmt.policy.t2Mask).foldl (fun s c => s.aggregate c r.1) r.2
      { s with mgmt := { s.mgmt with
          captures := s.mgmt.captures ++ [(s.dev.tick, recs)], capCount := s.mgmt.capCount + 1, sec := [] } }
    else s)

/-- R306: the aggregate record of channel `c`. -/
def State.aggRecord (s : State) (c : Nat) : JournalRec :=
  let g := Tab.get .reset s.mgmt.agg c
  let n : Int := (max 1 g.secs : Nat)
  let f (x : Int) : List Octet := octetsLe (fieldOf 32 x) 4
  let unl := (s.rd .CH_UNLOCK_CNT c).toNat - g.unl0
  wordsOf (withCrc (octetsLe g.tick 8 ++ octetsLe c 2 ++ octetsLe g.secs 2 ++ g.states.flatMap (octetsLe · 2) ++ octetsLe g.flags 2
    ++ f (g.phSum.tdiv n) ++ f g.phMin ++ f g.phMax ++ f (g.rSum.tdiv n) ++ f g.rMin ++ f g.rMax
    ++ octetsLe (min g.hops 65535) 2 ++ octetsLe g.selChg 2 ++ octetsLe (min unl 65535) 2 ++ octetsLe 0 6))

/-- An accumulator for the next period: the last selection carries over. -/
def AggAcc.next (g : AggAcc) : AggAcc := { AggAcc.reset with lastSel := g.lastSel }

/-- JOURNAL_AGGREGATE (R298, R306): at every 600th capture. -/
def execJournalAggregate (s : State) : Host.Outcome State Fault Refusal :=
  done (if s.journalWrites ∧ 600 ≤ s.mgmt.capCount ∧ ¬ s.on MGMT_STS.PFW then
      let cs := maskChannels s.mgmt.policy.t2Mask
      let t2 := cs.foldl (fun t c => t.push (Tab.get .reset s.mgmt.agg c).tick (s.aggRecord c)) s.mgmt.t2
      let agg := cs.foldl (fun t c => Tab.set .reset t c (Tab.get .reset t c).next) s.mgmt.agg
      { s with mgmt := { s.mgmt with t2 := t2, agg := agg, capCount := s.mgmt.capCount - 600 } }
    else s)

/-- JOURNAL_CHECKPOINT (R298, R304): the index goes to the eMMC with a reliable write. -/
def execJournalCheckpoint (s : State) : Host.Outcome State Fault Refusal :=
  done (if s.journalWrites ∧ ¬ s.on MGMT_STS.PFW then
      { s with mgmt := { s.mgmt with ckpt := [s.mgmt.t1.held, s.mgmt.t2.held, s.mgmt.t3.held] } }
    else s)

/-- JOURNAL_CAPTURE_DROPPED (R308): the oldest capture has waited 2 s. -/
def execJournalCaptureDropped (s : State) : Host.Outcome State Fault Refusal :=
  done (match s.mgmt.captures with
    | (tick, _) :: rest =>
      if tick + 2000000 ≤ s.dev.tick then { s with mgmt := { s.mgmt with captures := rest } }.inc .MGMT_JRN_LOST_CNT else s
    | [] => s)

/-- R308: the eMMC write of the oldest capture ends: its records stand in the per-second tier. -/
def State.writeCapture (s : State) : State :=
  match s.mgmt.captures with
  | (tick, rs) :: rest =>
    { s with mgmt := { s.mgmt with captures := rest, t1 := rs.foldl (fun t r => t.push tick r) s.mgmt.t1 } }
  | [] => s

/-- R304, R308: eMMC commands are under way: the journal is open, or firmware opens it. -/
def State.emmcRuns (s : State) : Bool :=
  s.mgmtRuns && (s.get MGMT_JRN_STS.STATE == 1 || (s.get MGMT_JRN_STS.STATE == 0 && s.on MGMT_STS.FW_RUN))

/-- EMMC_COMMAND_COMPLETE (R308): the end of the write of a capture (CMD24 or CMD25), or a failure, the third in a row stopping the
journal. -/
def execEmmcCommandComplete (index : Nat) (ok : Bool) (status : Word) (s : State) : Host.Outcome State Fault Refusal :=
  done (if !s.emmcRuns then s
    else if ok then
      let s := { s with mgmt := { s.mgmt with emmcFails := 0 } }
      s.cond (s.get MGMT_JRN_STS.STATE == 1 && (index == 24 || index == 25)) State.writeCapture
    else
      let n := s.mgmt.emmcFails + 1
      let s := { s with mgmt := { s.mgmt with emmcFails := n } }
      if 3 ≤ n then
        ((s.set MGMT_JRN_STS.STATE 2).inc .MGMT_EMMC_ERR_CNT).log 0xF 0xFF 2 (BitVec.ofNat 32 index) status 0
      else s)

/-- A tier by its number (R319). -/
def Mgmt.tier (m : Mgmt) : Nat → Tier
  | 0 => m.t1 | 1 => m.t2 | 2 => m.t3 | _ => .reset

/-- R309: record `i` of tier `t`, from the oldest held. -/
def State.journalRec (s : State) (t i : Nat) : List Word :=
  let x := s.mgmt.tier t
  if i < x.old then (List.range 16).map fun w => if t = 1 ∨ w < 8 then Config.oldRecord t (x.lost + i) w else 0
  else (x.recs.getD (i - x.old) (0, [])).2

/-- R309: MGMT_JRN_CTL.READ is executed; an index at or beyond the record count is out of range. -/
def State.readJournal (s : State) (p : Port) (addr : Nat) : State :=
  let t := s.get MGMT_JRN_RDIDX.TIER
  if t = 3 ∨ (s.mgmt.tier t).held ≤ s.get MGMT_JRN_RDIDX.INDEX then s.reject 4 p addr
  else { s.set MGMT_JRN_CTL.READ 1 with mgmt := { s.mgmt with readPend := true } }

/-- JOURNAL_READ_COMPLETE (R309): the record, padded with zeros, stands in the buffer and READ clears. -/
def execJournalReadComplete (s : State) : Host.Outcome State Fault Refusal :=
  done (if s.mgmtRuns ∧ s.mgmt.readPend then
      let ws := s.journalRec (s.get MGMT_JRN_RDIDX.TIER) (s.get MGMT_JRN_RDIDX.INDEX)
      let s := State.upto 16 (fun w s => s.wr .MGMT_JRN_RDBUF w (ws.getD w 0)) s
      { s.set MGMT_JRN_CTL.READ 0 with mgmt := { s.mgmt with readPend := false } }
    else s)

/-- R319: the tick of record `i` of a tier. -/
def State.recTick (s : State) (t i : Nat) : Nat :=
  let x := s.mgmt.tier t
  if i < x.old then (Config.oldRecord t (x.lost + i) 16).toNat else (x.recs.getD (i - x.old) (0, [])).1

/-- R307: octets of a record of tier `t`. -/
def recOctets (t : Nat) : Nat := if t = 1 then 64 else 32

/-- R319: word `i` of the journal index, space 0x08. -/
def State.journalIndex (s : State) (i : Nat) : Word :=
  let t := i % 32 / 8
  let x := s.mgmt.tier t
  let word (n : Nat) : Word := BitVec.ofNat 32 n
  if s.get MGMT_JRN_STS.STATE ≠ 1 ∨ 3 ≤ t then 0
  else match i % 8 with
    | 0 => word x.held
    | 1 => word x.cap
    | 2 => if x.held = 0 then 0 else word (s.recTick t 0)
    | 3 => if x.held = 0 then 0 else word (s.recTick t 0 / 2 ^ 32)
    | 4 => if x.held = 0 then 0 else word (s.recTick t (x.held - 1))
    | 5 => if x.held = 0 then 0 else word (s.recTick t (x.held - 1) / 2 ^ 32)
    | 6 => word (Config.tierSector t + (x.lost + x.held) % max 1 x.cap * recOctets t / 512)
    | _ => 0

/-- R319: word `i` of the event log, space 0x0A. -/
def State.logWord (s : State) (i : Nat) : Word :=
  let e := Tab.get .none s.mgmt.log (i % 16384 / 8)
  if e = LogEntry.none then 0 else (wordsOf e.octets).getD (i % 8) 0

/-! ### Updates (R310) and the anti-rollback counter (R311) -/

/-- R310, R316: the update items act: in SERVICE, and with the ROM service in every mode from SELFCAL onwards. -/
def State.updateActs (s : State) : Bool :=
  s.mode == 10 || (s.on MGMT_STS.ROM_SVC && 2 ≤ s.mode && s.mode != 11)

/-- R310, R303: an update entry of the log. -/
def State.updLog (s : State) : State :=
  s.log 0xD 11 1 (BitVec.ofNat 32 s.mgmt.updTarget) (BitVec.ofNat 32 (s.get MGMT_UPD_STS.STATE))
    (BitVec.ofNat 32 (s.get MGMT_UPD_STS.CAUSE))

/-- R252: a store that waited for the update's write to end starts. -/
def State.storeAfterUpdate (s : State) : State :=
  s.cond (s.on CAL_STS.STORE_PEND && !s.on CAL_STS.STORING && !s.updateWrites) fun s => (s.set CAL_STS.STORE_PEND 0).startStore

/-- R310, step 2: START. It waits for a calibration store in progress. -/
def State.startUpdate (s : State) (p : Port) (addr : Nat) : State :=
  let s := { s with mgmt := { s.mgmt with updTarget := s.get MGMT_UPD_CTL.TARGET } }
  if s.on CAL_STS.STORING then
    { (s.set MGMT_UPD_CTL.START 1).defer p addr with mgmt := { s.mgmt with updWait := true } }
  else s.beginUpdate

/-- R310, step 3: CHUNK hands the words of the window over; not while the update does not load. -/
def State.chunkUpdate (s : State) (p : Port) (addr : Nat) : State :=
  if s.get MGMT_UPD_STS.STATE = 1 then s.set MGMT_UPD_CTL.CHUNK 1 else s.reject 2 p addr

/-- R310: a refused update: its cause, the count and the entry. -/
def State.refuseUpdate (s : State) (cause : Nat) : State :=
  (((s.set MGMT_UPD_STS.STATE 4).set MGMT_UPD_STS.CAUSE cause).inc .MGMT_UPD_FAIL_CNT).updLog.storeAfterUpdate

/-- UPDATE_CHUNK_PROGRAMMED (R310): the chunk is in the flash and CHUNK clears; a failed program or verify gives cause 14. -/
def execUpdateChunkProgrammed (ok : Bool) (s : State) : Host.Outcome State Fault Refusal :=
  done (if s.mgmtRuns ∧ s.on MGMT_UPD_CTL.CHUNK ∧ s.get MGMT_UPD_STS.STATE = 1 then
      let s := s.set MGMT_UPD_CTL.CHUNK 0
      if ok then s.set MGMT_UPD_STS.OCTETS (min (2 ^ 25 - 1) (s.get MGMT_UPD_STS.OCTETS + 4 * s.get MGMT_UPD_CTL.WORDS))
      else s.refuseUpdate 14
    else s)

/-- R310, step 4: END programs MAGIC and starts the check. -/
def State.endUpdate (s : State) (p : Port) (addr : Nat) : State :=
  if s.get MGMT_UPD_STS.STATE = 1 then (s.set MGMT_UPD_CTL.END 1).set MGMT_UPD_STS.STATE 2 else s.reject 2 p addr

/-- R310, step 5: ACTIVATE asserts the update-completion source. -/
def State.activateUpdate (s : State) (p : Port) (addr : Nat) : State :=
  if s.get MGMT_UPD_STS.STATE = 3 then (s.set MGMT_UPD_STS.STATE 6).requestReset 10 else s.reject 2 p addr

/-- R310: ABORT abandons an update and leaves the slot without MAGIC. -/
def State.abortUpdate (s : State) : State :=
  if s.get MGMT_UPD_STS.STATE = 0 ∧ ¬ s.mgmt.updWait then s
  else
    let s := ((((s.set MGMT_UPD_CTL.START 0).set MGMT_UPD_CTL.CHUNK 0).set MGMT_UPD_CTL.END 0).wr .MGMT_UPD_STS 0 0).inc
      .MGMT_UPD_FAIL_CNT
    let s := s.updLog
    { s with mgmt := { s.mgmt with
        updWait := false, updChecking := false, secVers := s.mgmt.secVers.set s.mgmt.updTarget none } }.storeAfterUpdate

/-- UPDATE_RESUME (R310): 10 s after the warning has cleared, the update goes on where it was. -/
def execUpdateResume (s : State) : Host.Outcome State Fault Refusal :=
  done (if s.mgmtRuns ∧ s.get MGMT_UPD_STS.STATE = 5 ∧ ¬ s.on MGMT_STS.PFW then
      s.set MGMT_UPD_STS.STATE (if s.mgmt.updChecking then 2 else 1)
    else s)

/-- The least of the versions that pass. -/
def leastVer : List (Option Nat) → Option Nat
  | [] => none
  | none :: t => leastVer t
  | some v :: t => some ((leastVer t).elim v (min v))

/-- R311: FUSE_ADV advances the counter to the least passing SEC_VER, with a firmware and an image slot passing and that above COUNT. -/
def State.advanceFuse (s : State) (p : Port) (addr : Nat) : State :=
  let v := s.mgmt.secVers
  match leastVer v with
  | some t =>
    if (v.take 2).any (·.isSome) ∧ (v.drop 2).any (·.isSome) ∧ s.fuse.arb < t then
      { s.set MGMT_UPD_CTL.FUSE_ADV 1 with mgmt := { s.mgmt with fuseAdv := some t } }
    else s.reject 2 p addr
  | none => s.reject 2 p addr

/-- FUSE_PROGRAM_COMPLETE (R311): the fuses hold the new count. -/
def execFuseProgramComplete (s : State) : Host.Outcome State Fault Refusal :=
  done (match s.mgmt.fuseAdv with
    | some t => { s.set MGMT_UPD_CTL.FUSE_ADV 0 with
        fuse := { s.fuse with arb := min 64 (max s.fuse.arb t) }, mgmt := { s.mgmt with fuseAdv := none } }
    | none => s)

end Sys2Proof.Machine
end

