-- ==== Sys2Proof/Machine/Host.lean ====
section
/-! DEFINITION. Register writes by the ports: the key guard (R329), write groups (R17, R64), the legality tables (R50, R66, R101,
R134, R192, R234, R255, R290, R316, R333), the effects of executed items, and indirect writes (R343). -/

namespace Sys2Proof.Machine

/-- A port of host software; the preload and the event stream pass neither guard nor gates (R284, R329). -/
def isHost (p : Port) : Bool := p == .spi || p == .inb

/-! ### Write groups -/

/-- R17, R64, R102, R119, R165, R192: registers whose words join the write group of their transaction; TSET and SLEW_CANCEL ride in it. -/
def Rg.grouped (r : Rg) : Bool :=
  match r with
  | .CH_CFG | .CH_PNOM_LO | .CH_PNOM_HI | .CH_PRES | .CH_PHOFS | .CH_DRIZZLE | .CH_LOCK | .CH_HOP | .CH_TSET_SH | .CH_TSET_SL
  | .CH_TSET_NS | .CH_TSET_FR | .CH_CMD | .OUT_CFG | .OUT_DIV | .OUT_DRV | .PPS_CFG | .PPS_WIDTH | .PPS_OFS | .PARAM | .PRESET
  | .HOP_PIN_CFG | .HOP_CTL | .HOP_GRP_CFG | .ENG_CHMAP | .FLOW_CFG | .FLOW_ASYM | .ORIG_CFG | .ORIG_INT | .ESMC_MAP | .ESMC_TX
  | .TPL_CTL | .TPL_OCT | .MIR_PGRP => true
  | _ => false

/-- The bits of a group word that a write carries. -/
def groupMask (r : Rg) (i : Nat) : Nat := if r = .CH_CMD then 3 else r.maskAt i

/-- R64: the shadow of a group word, or its live word when no write is pending. -/
def State.shadowWord (s : State) (r : Rg) (i : Nat) : Word := (Tab.get none s.dev.shadow (r.key i)).getD (s.rd r i)

/-- R17: a word enters the open group of its port. Through the preload or the stream it forms a group of its own. While the active
streams, the word is held for the stream (R212) and no shadow changes. -/
def State.joinGroup (s : State) (p : Port) (r : Rg) (i : Nat) (w : Word) : State :=
  let new := if r = .CH_CMD then s.shadowWord r i ||| w else w
  let g : GWord := ⟨r, i, w⟩
  if isHost p then
    let x := s.port p
    let s := s.setPort p { x with open_ := x.open_ ++ [g] }
    if s.pair.streaming then s
    else { s with dev := { s.dev with shadow := Tab.set none s.dev.shadow (r.key i) (some new) } }
  else { s with dev := { s.dev with groups := s.dev.groups ++ [⟨p, [g]⟩] } }

/-- Cut a list into pieces of `n`, with fuel. -/
def pieces {α : Type} (n : Nat) : Nat → List α → List (List α)
  | 0, _ => []
  | f + 1, l => if l.isEmpty then [] else l.take n :: pieces n f (l.drop n)

/-- R211, R212: a write of channel state goes out in CONFIG records, at most 145 pairs each, and waits for its EXEC boundary. -/
def State.streamConfig (s : State) (pairs : List (Nat × Word)) : State :=
  let ps := pieces 145 pairs.length pairs
  let n := ps.length
  (List.range n).foldl (fun s k => s.streamEvent (.config 0 0 (ps.getD k []) (decide (k + 1 = n)))) s

/-- R17, R211, R213: the end of a transaction or frame ends the port's group. A group of more than 1,024 words is not streamed and
fails at its boundary. -/
def State.endGroup (s : State) (p : Port) : State :=
  let x := s.port p
  let ws := x.open_
  let s := s.setPort p { x with open_ := [] }
  if ws.isEmpty then s
  else if s.pair.streaming && ws.length ≤ 1024 then (s.streamConfig (ws.map fun g => (g.r.key g.i, g.w))).syncShadow
  else { s with dev := { s.dev with groups := s.dev.groups ++ [⟨p, ws⟩] } }

/-! ### Legality -/

/-- A verdict: `none` executes, a reason of R332 rejects. The first reason found counts. -/
def orElse (a b : Option Nat) : Option Nat := if a.isSome then a else b

/-- Reject with a reason unless a condition holds. -/
def unless_ (ok : Bool) (reason : Nat) : Option Nat := if ok then none else some reason

/-- Executed in every mode but TEST. -/
def State.notTest (s : State) : Option Nat := unless_ (s.mode != 11) 1

/-- Modes 3 to 6, 8 and 10 execute, STANDBY_STEP rejects in step, all others by mode (R101, R134). -/
def State.liveOnly (s : State) : Option Nat :=
  if s.mode = 7 then some 3 else unless_ (s.isRun || s.mode == 8 || s.mode == 10) 1

/-- R134, R192: executed in every mode but STANDBY_STEP and TEST. -/
def State.notStep (s : State) : Option Nat := if s.mode = 7 then some 3 else s.notTest

/-- R290: SERVICE entered from BOOT without an accepted image, and none loaded since. -/
def State.svcEmpty (s : State) : Bool := s.mode == 10 && s.dev.svcNoImage && s.get RST_HLOAD_STS.STATE != 3

/-- R333: a write to DEV_MODE_REQ. -/
def State.judgeMode (s : State) (v : Nat) : Option Nat :=
  let m := s.mode
  if m = 11 then some 1
  else match v with
    | 15 => if m = 7 then some 3 else if m = 9 then some 1 else unless_ (!s.svcEmpty) 2
    | 3 | 6 => if m = 7 then some 3 else if m = 9 then some 1 else unless_ (m != 10) 2
    | 10 => unless_ (m != 1 && m != 2 && m != 9) 1
    | _ => some 4

/-- R192: a rule word: the active bank, and the retiring one, stand still in a running device. -/
def State.judgeRule (s : State) (bank : Nat) : Option Nat :=
  orElse s.notStep (unless_ (!(s.liveModes && (s.get PARSE_BANK_STS.ACTIVE == bank || s.on PARSE_BANK_STS.RETIRING))) 2)

/-- R234: PAIR_CFG, PAIR_ALIGN and PAIR_LINK. -/
def State.judgePair (s : State) : Option Nat :=
  match s.mode with
  | 1 | 2 => none
  | 7 => some 3
  | 11 => some 1
  | 10 => unless_ (s.get PAIR_STS.ROLE == 0 || s.get PAIR_STS.ROLE == 3) 2
  | _ => some 2

/-- R134, R136, R192, R234, R255, R269, R290, R316, R341: whether the fields of a word lie in their ranges. -/
def rangeOk (r : Rg) (w : Word) : Bool :=
  let inside (f : Fld) (lo hi : Nat) : Bool := decide (lo ≤ f.of w) && decide (f.of w ≤ hi)
  match r with
  | .REF_FNOM => refWordOk 1 w
  | .REF_QUAL => refWordOk 2 w
  | .REF_HIT => refWordOk 3 w
  | .ENG_CTL => inside ENG_CTL.WDOG 10 99
  | .MIR_REORDER => inside MIR_REORDER.TMO 20 160
  | .PARSE_CTL => PARSE_CTL.DEFAULT.of w == 0 || PARSE_CTL.DEFAULT.of w == 3
  | .PARSE_SLOW_POL0 => inside PARSE_SLOW_POL0.BURST 1 4095 && inside PARSE_SLOW_POL0.RATE 1 1048575
  | .PARSE_SLOW_POL1 => inside PARSE_SLOW_POL1.BURST 1 4095 && inside PARSE_SLOW_POL1.RATE 1 1048575
  | .PARSE_FLOW_POL => inside PARSE_FLOW_POL.BURST 1 255 && inside PARSE_FLOW_POL.RATE 1 65535
  | .PARSE_REQ_POL => inside PARSE_REQ_POL.BURST 1 4095 && inside PARSE_REQ_POL.RATE 1 1048575
  | .PARSE_ESMC_POL => inside PARSE_ESMC_POL.BURST 1 4095 && inside PARSE_ESMC_POL.RATE 1 1048575
  | .PAIR_CFG => PAIR_CFG.PREF.of w != 3
  | .PAIR_ALIGN => inside PAIR_ALIGN.WIN 1 255
  | .PAIR_TIMERS => inside PAIR_TIMERS.HB_WIN 10 24 && inside PAIR_TIMERS.CLAIM_WIN 1 50 && inside PAIR_TIMERS.LINK_WIN 8 48
      && inside PAIR_TIMERS.FORM_WAIT 5 100
  | .PAIR_EPOCH_CFG => inside PAIR_EPOCH_CFG.VERIFY_N 16 1000 && inside PAIR_EPOCH_CFG.RWTR 1 3600
      && inside PAIR_EPOCH_CFG.EPOCH_TMO 20 255
  | .CAL_CTL => inside CAL_CTL.STORE_MIN 10 4095 && inside CAL_CTL.TTHR 5 100
  | .RST_IDLE_TMO => inside RST_IDLE_TMO.TMO 1 10000
  | .CLK_CTL => inside CLK_CTL.RAMP_DWELL 16 255
  | .CLK_FC_CTL => inside CLK_FC_CTL.GATE 10 30
  | .RST_HLOAD_CTL => inside RST_HLOAD_CTL.WORDS 1 512
  | .MGMT_UPD_CTL => inside MGMT_UPD_CTL.WORDS 1 512
  | .MGMT_CTL => inside MGMT_CTL.WDOG 5 100
  | .MGMT_PFW_CTL => inside MGMT_PFW_CTL.THR33 290 330 && inside MGMT_PFW_CTL.THR18 162 180
  | .MGMT_JRN_RDIDX => MGMT_JRN_RDIDX.TIER.of w != 3
  | .CFG_CRC_CTL => CFG_CRC_CTL.POLICY.of w != 3
  | .REFIN_CMD => REFIN_CMD.IDX.of w < 36 && !(REFIN_CMD.LOCKOUT.of w == 1 && REFIN_CMD.RELEASE.of w == 1)
  | .ENG_CMD => (ENG_CMD.RETIRE.of w == 0 || ENG_CMD.IDX.of w < 528) && (ENG_CMD.RESTART.of w == 0 || ENG_CMD.IDX.of w < 512)
  | _ => true

/-- The verdict on a whole word that does not join a group, its command bits apart: the rows of the legality tables by mode, then the
ranges. -/
def State.judge (s : State) (r : Rg) (w : Word) : Option Nat :=
  let byMode := match r with
    | .DEV_MODE_REQ => s.judgeMode (w.toNat % 16)
    | .DEV_GATE | .DEV_ALERT_EN | .IND_ADDR | .IND_CTL | .MBX_SEL | .SNAP_CMD | .CFG_CRC_REF | .CFG_CRC_CTL | .OUT_CTL | .ENG_CTL
    | .MIR_CTL | .MIR_REORDER | .PARSE_CTL | .PARSE_SLOW_POL0 | .PARSE_SLOW_POL1 | .PARSE_FLOW_POL | .PARSE_REQ_POL
    | .PARSE_ESMC_POL | .PAIR_TIMERS | .PAIR_EPOCH_CFG | .CAL_CTL | .RST_IDLE_TMO | .CLK_CTL | .MGMT_CTL | .MGMT_TEMP_WARN
    | .MGMT_PFW_CTL => s.notTest
    | .REF_CFG | .REF_FNOM | .REF_QUAL | .REF_HIT => s.notStep
    | .RULE_A => s.judgeRule 0
    | .RULE_B => s.judgeRule 1
    | .PAIR_CFG | .PAIR_ALIGN | .PAIR_LINK => s.judgePair
    | _ => none
  orElse byMode (unless_ (rangeOk r w) 4)

/-! ### Commands -/

/-- R50: the verdict on a write to MSYN_CMD: mode, then range, then state, then words (assumption 124). -/
def State.judgeMaster (s : State) (b : Nat) : Option Nat :=
  let run := (s.rd .MSYN_CMD).toNat % 8
  if !((s.mode == 1 && s.get RST_BOOT_STS.KIND == 1) || s.mode == 10) then some 1
  else if 1 < popCount b 3 then some 4
  else if run ≠ 0 ∧ run ≠ b then some 2
  else unless_ (!(b == 1 && run == 0) || s.storedWords.ok) 5

/-- R42, R50: an executed master command: in BOOT it starts at the write, in SERVICE at the next boundary. -/
def State.masterCmd (s : State) (p : Port) (a : Nat) (w : Word) : State :=
  let b := w.toNat % 8
  if b = 0 then s
  else match s.judgeMaster b with
    | some e => s.reject e p a
    | none =>
      if s.on MSYN_CMD.RETUNE || s.on MSYN_CMD.RELOCK || s.on MSYN_CMD.BANDSEL then s
      else
        let s := s.wr .MSYN_CMD 0 (BitVec.ofNat 32 b)
        if s.mode = 1 then s.startMasterCmd (b / 2) else { s with msyn := { s.msyn with svcStart := some p } }

/-- R234: the verdicts on the bits of PAIR_CMD, highest first. -/
def State.judgePairCmd (s : State) (bit : Nat) : Option Nat :=
  let m := s.mode
  match bit with
  | 31 => if s.isRun then unless_ s.peerInStep 2 else if m = 7 then some 3 else if m = 8 then some 2 else some 1
  | 30 => if s.isRun then some 2 else if m = 7 then some 3 else unless_ (m == 8) 1
  | 29 => if s.isRun then some 2 else if m = 7 then some 3 else if m = 8 then unless_ s.epochRuns 2 else some 1
  | _ => if s.isRun then unless_ (s.isActive && s.on PAIR_STS.LINK_UP) 2
         else if m = 7 ∨ m = 8 ∨ m = 10 then some 2 else some 1

/-- The effect of an executed bit of PAIR_CMD (R226, R229, R232, R233). HANDOVER reads 1 up to boundary h, RESYNC until its epoch starts (R5,
assumption 139). -/
def State.pairCmd (s : State) (bit : Nat) : State :=
  match bit with
  | 31 => (s.set PAIR_CMD.HANDOVER 1).grantHandover
  | 30 =>
    let s := s.set PAIR_CMD.RESYNC 1
    ({ s with pair := { s.pair with epochDue := true } }).tryEpoch
  | 29 => s.abortEpoch 3
  | _ => s.pairSend .resetReq

/-- Run or reject the command bit `bit` of a word. -/
def State.bitCmd (s : State) (p : Port) (a : Nat) (w : Word) (bit : Nat) (v : Option Nat) (f : State → State) : State :=
  if !bitOf w.toNat bit then s
  else match v with
    | some e => s.reject e p a
    | none => f s

/-- R255: CAL_CMD.RUN. -/
def State.judgeRun (s : State) : Option Nat := unless_ (s.mode == 2 || s.calModes) 1

/-- R244, R255: RUN starts a rotation; while one runs, or is due in SELFCAL, it is deferred. -/
def State.calRunCmd (s : State) (p : Port) (a : Nat) : State :=
  let s := s.set CAL_CMD.RUN 1
  if s.on CAL_STS.ROTATING || s.mode == 2 then (s.set CAL_STS.PENDING 1).defer p a else s.calTrigger

/-- R255: CAL_CMD.STORE. -/
def State.judgeStore (s : State) : Option Nat :=
  if s.mode = 1 ∨ s.mode = 2 ∨ s.mode = 11 then some 1
  else unless_ (!s.on MGMT_STS.PFW && !(s.mode == 10 && s.updateWrites)) 2

/-- R252, R255: STORE starts a store, or waits for the one that runs. -/
def State.calStoreCmd (s : State) (p : Port) (a : Nat) : State :=
  let s := s.set CAL_CMD.STORE 1
  if s.on CAL_STS.STORING then (s.set CAL_STS.STORE_PEND 1).defer p a else s.startStore

/-- R134: ENG_CMD.RETIRE of engine `e`. -/
def State.judgeRetire (s : State) (e : Nat) : Option Nat :=
  if s.mode ≠ 10 then some 1 else unless_ (!s.engRetired e && s.on ENG_SPARE_FREE.BITS) 2

/-- R289, R290: the commands of RST_HLOAD_CTL act only in SERVICE without an image; CHUNK and END not while a check runs. -/
def State.judgeLoad (s : State) (busy : Bool) : Option Nat :=
  if !s.svcEmpty then some 1 else unless_ (!(busy && s.get RST_HLOAD_STS.STATE == 2)) 2

/-- R285, R289: ABORT empties the load; one that had begun counts as aborted, cause 12. -/
def State.loadAbort (s : State) : State :=
  let s := s.cond (s.mgmt.hostLen != 0 || s.get RST_HLOAD_STS.STATE == 2) (·.set RST_BOOT_STS.CAUSE_HOST 12)
  let s := ((s.set RST_HLOAD_CTL.CHUNK 0).set RST_HLOAD_CTL.END 0).wr .RST_HLOAD_STS 0 0
  { s.set RST_HLOAD_STS.STATE 1 with mgmt := { s.mgmt with hostLen := 0 } }

/-- R310, R316: the update items of MGMT_UPD_CTL. -/
def State.updCmds (s : State) (p : Port) (a : Nat) (w : Word) : State :=
  if w.toNat / 2 ^ 26 = 0 then s
  else if !s.updateActs then s.reject 1 p a
  else
    let s := s.bitCmd p a w 31 none fun s => s.startUpdate p a
    let s := s.bitCmd p a w 30 none fun s => s.chunkUpdate p a
    let s := s.bitCmd p a w 29 none fun s => s.endUpdate p a
    let s := s.bitCmd p a w 28 none fun s => s.activateUpdate p a
    let s := s.bitCmd p a w 27 none State.abortUpdate
    s.bitCmd p a w 26 none fun s => s.advanceFuse p a

/-- R268, R330: a masked write to DEV_GATE: the gates change, and in modes 3 to 10 each changed slice clock ramps. -/
def State.writeGate (s : State) (w : Word) : State :=
  State.upto 13 (fun b s =>
    let on := bitOf w.toNat b
    if bitOf w.toNat (b + 16) && bitOf (s.get DEV_GATE.GATE) b != on then
      let s := s.setBit DEV_GATE.GATE b on
      if 3 ≤ s.mode ∧ s.mode ≤ 10 then
        { s.inc .CLK_RAMP_CNT with dev := { s.dev with ramping := s.dev.ramping.filter (·.1 != b) ++ [(b, 0)] } }
      else s
    else s) s

/-- GATE_RAMP_STEP (R268): the dwell of a step ends; after the third the ramp is over. -/
def execGateRampStep (b : Nat) (s : State) : Host.Outcome State Fault Refusal :=
  onUnit b 13 s { s with dev := { s.dev with
    ramping := s.dev.ramping.filterMap fun (x : Nat × Nat) =>
      if x.1 = b then (if x.2 + 1 < 3 then some (b, x.2 + 1) else none) else some x } }

/-- R8, R277: a masked request of RST_SOFT. -/
def State.writeSoft (s : State) (p : Port) (a : Nat) (w : Word) : State :=
  if s.mode = 1 ∨ s.mode = 11 then s.reject 1 p a
  else State.upto 8 (fun b s => s.cond (bitOf w.toNat b && bitOf w.toNat (b + 16)) (·.requestSoft b)) s

/-- R271, R366: RST_CMD: REQ is stored, and GO asserts source 4 + REQ. -/
def State.resetCmd (s : State) (p : Port) (a : Nat) (w : Word) : State :=
  let s := s.set RST_CMD.REQ (RST_CMD.REQ.of w)
  s.bitCmd p a w 31 s.notTest fun s =>
    let src := 4 + s.get RST_CMD.REQ
    if s.rst.asserted.any (·.1 == src) then s else (s.set RST_CMD.GO 1).requestReset src

/-- R24, R212: DEV_MODE_REQ takes its value. The host's 0xF also ends SERVICE after a host load (R289). -/
def State.takeModeReq (s : State) (v : Nat) : State :=
  let s := s.set DEV_MODE_REQ.REQ v
  s.cond (v == 15 && s.mode == 10 && s.dev.svcNoImage) fun s => { s with dev := { s.dev with svcNoImage := false } }

/-- R24, R211: an executed write to DEV_MODE_REQ; while the active streams, all but 0xA waits for its EXEC boundary. -/
def State.modeReq (s : State) (p : Port) (v : Nat) : State :=
  if isHost p && s.pair.streaming && v != 10 then s.streamConfig [(Rg.DEV_MODE_REQ.key 0, BitVec.ofNat 32 v)] else s.takeModeReq v

/-- R121, R366: ENG_CMD.RESTART waits for the boundary; while the active streams, for its EXEC boundary. -/
def State.restartCmd (s : State) (p : Port) (w : Word) : State :=
  if isHost p && s.pair.streaming then s.streamConfig [(Rg.ENG_CMD.key 0, w)]
  else (s.set ENG_CMD.IDX (ENG_CMD.IDX.of w)).set ENG_CMD.RESTART 1

/-- R366: ENG_CMD: IDX is stored, RETIRE acts at once (R129), RESTART at the boundary. -/
def State.engCmd (s : State) (p : Port) (a : Nat) (w : Word) : State :=
  let e := ENG_CMD.IDX.of w
  let s := s.set ENG_CMD.IDX e
  let s := s.bitCmd p a w 31 (s.judgeRetire e) fun s => s.retire e 6
  s.bitCmd p a w 30 s.liveOnly fun s => s.restartCmd p w

/-- REFIN_CMD (R113, R366). -/
def State.refinCmd (s : State) (p : Port) (a : Nat) (w : Word) : State :=
  let i := REFIN_CMD.IDX.of w
  let s := s.set REFIN_CMD.IDX i
  let s := s.bitCmd p a w 31 s.notStep fun s => s.lockoutRef i
  s.bitCmd p a w 30 s.notStep fun s => s.releaseRef i

/-- HOP_CMD (R101, R366): the parameters are stored, and GO triggers. -/
def State.hopCmd (s : State) (p : Port) (a : Nat) (w : Word) (cyc : Nat) : State :=
  let s := s.wr .HOP_CMD 0 (mergeMask (s.rd .HOP_CMD) w Rg.HOP_CMD.info.par)
  s.bitCmd p a w 31 s.liveOnly fun s => s.hostHop w cyc

/-- CLK_FC_CTL (R269): the fields are stored; START with an unused code is rejected. -/
def State.freqCmd (s : State) (p : Port) (a : Nat) (w : Word) : State :=
  let m := mergeMask (s.rd .CLK_FC_CTL) w Rg.CLK_FC_CTL.info.cfg
  let s := s.wr .CLK_FC_CTL 0 m
  s.bitCmd p a w 31 (orElse s.notTest (unless_ (CLK_FC_CTL.TGT.of w < 56 && CLK_FC_CTL.REF.of w < 56) 4)) fun s =>
    s.freqStart (CLK_FC_CTL.START.put m 1)

/-- RST_HLOAD_CTL (R289). -/
def State.loadCmd (s : State) (p : Port) (a : Nat) (w : Word) : State :=
  let s := s.set RST_HLOAD_CTL.WORDS (RST_HLOAD_CTL.WORDS.of w)
  let s := s.bitCmd p a w 31 (s.judgeLoad true) fun s => s.set RST_HLOAD_CTL.CHUNK 1
  let s := s.bitCmd p a w 30 (s.judgeLoad true) fun s => (s.set RST_HLOAD_CTL.END 1).set RST_HLOAD_STS.STATE 2
  s.bitCmd p a w 29 (s.judgeLoad false) State.loadAbort

/-- CFG_CRC_CTL (R333, R341): the fields are stored; COMMIT waits for a scan. -/
def State.crcCmd (s : State) (p : Port) (a : Nat) (w : Word) : State :=
  let s := s.wr .CFG_CRC_CTL 0 (mergeMask (s.rd .CFG_CRC_CTL) w Rg.CFG_CRC_CTL.info.cfg)
  s.bitCmd p a w 31 (unless_ (s.mode != 1) 1) fun s => (s.startCommit).defer p a

/-! ### Indirect access (R343) -/

/-- The word of a place of the indirect spaces, as a read finds it. -/
def State.placeWord (s : State) (p : Port) (x : Place) : Word :=
  match x with
  | .reg r i =>
    if r.grouped then mergeMask (s.rd r i) (s.shadowWord r i) (groupMask r i) else s.view p r i
  | .dmem e w => s.dmemWord e w
  | .frag i =>
    match Tab.get none s.intake.frags (i / 4) with
    | none => 0
    | some f => match i % 4 with
      | 0 => BitVec.ofNat 32 f.key.src
      | 1 => BitVec.ofNat 32 f.key.dst
      | 2 => BitVec.ofNat 32 (f.key.ident * 65536 + f.key.proto)
      | _ => BitVec.ofNat 32 (2 ^ 31 + (if f.slow then 3 * 2 ^ 28 else 0) + flag f.rsv * 2 ^ 27
          + (2000 - (s.dev.tick - f.at_)) * 800 / 1024)
  | .journal i => s.journalIndex i
  | .fuse i => if i = 0 ∨ 11 < i then 0 else BitVec.ofNat 32 (s.fuse.reach.getD (i - 1) 0 % 8)
  | .log i => s.logWord i
  | .blank => 0

/-- R139: a read of a word with an uncorrectable error is counted. -/
def State.readError (s : State) (x : Place) : State :=
  match x with
  | .dmem e w => s.cond (s.dmemBad e w) (·.inc .ENG_DMEM_UNC_CNT)
  | _ => s

/-- R343: the device fetches the addressed word. -/
def State.prefetch (s : State) : State :=
  let x := s.indPlace (s.get IND_ADDR.SPACE) (s.get IND_ADDR.INDEX)
  { s.readError x with dev := { (s.readError x).dev with fetched := s.placeWord .spi x } }

/-- R343: the index advances. -/
def State.indAdvance (s : State) : State :=
  let inc := match s.get IND_CTL.INC with | 0 => 0 | 1 => 1 | 2 => 2 | _ => 4
  (s.set IND_ADDR.INDEX (s.get IND_ADDR.INDEX + inc)).prefetch

/-! ### Writes -/

/-- The effect of an executed write of a word that joins no group. `w` is the written word; reserved bits are dropped (R9). -/
def State.effect (s : State) (p : Port) (a : Nat) (r : Rg) (i : Nat) (w : Word) : State :=
  let stored := s.wr r i (mergeMask (s.rd r i) w (r.maskAt i))
  match r with
  | .DEV_MODE_REQ => s.modeReq p (w.toNat % 16)
  | .DEV_GATE => s.writeGate w
  | .MBX_SEL => s.selMbx p a w
  | .SNAP_CMD =>
    let d := s.drawNat 400
    if SNAP_CMD.TAKE.of w = 1 then d.2.writeSnap p a w d.1 else s.writeSnap p a w 0
  | .IND_ADDR => stored.prefetch
  | .CFG_CRC_REF => { stored with dev := { stored.dev with refWritten := true } }
  | .CFG_CRC_CTL => s.crcCmd p a w
  | .PARSE_CTL => stored.cond (!s.on PARSE_CTL.EN && stored.on PARSE_CTL.EN) (State.upto 4 fun l s => s.freshLane l)
  | .MSYN_CMD => s.masterCmd p a w
  | .MSYN_REF | .MSYN_NINT | .MSYN_NNUM | .MSYN_NDEN | .MSYN_XOF => stored.setNpend
  | .HOP_CMD =>
    let d := s.drawNat 12800
    if HOP_CMD.GO.of w = 1 then d.2.hopCmd p a w d.1 else s.hopCmd p a w 0
  | .REF_CFG => s.writeRef i 0 (mergeMask (s.rd r i) w (r.maskAt i))
  | .REF_FNOM => s.writeRef i 1 (mergeMask (s.rd r i) w (r.maskAt i))
  | .REF_QUAL => s.writeRef i 2 (mergeMask (s.rd r i) w (r.maskAt i))
  | .REF_HIT => s.writeRef i 3 (mergeMask (s.rd r i) w (r.maskAt i))
  | .REFIN_CMD => s.refinCmd p a w
  | .ENG_CMD => s.engCmd p a w
  | .PARSE_BANK_CMD => s.bitCmd p a w 0 s.notStep fun s => s.swapBanks p a
  | .PAIR_CFG => stored.showRole
  | .PAIR_CMD => [31, 30, 29, 28].foldl (fun s b => s.bitCmd p a w b (s.judgePairCmd b) fun s => s.pairCmd b) s
  | .CAL_CMD =>
    let s := s.bitCmd p a w 0 s.judgeRun fun s => s.calRunCmd p a
    s.bitCmd p a w 1 s.judgeStore fun s => s.calStoreCmd p a
  | .CLK_FC_CTL => s.freqCmd p a w
  | .RST_CMD => s.resetCmd p a w
  | .RST_SOFT => s.writeSoft p a w
  | .RST_HLOAD_CTL => s.loadCmd p a w
  | .MGMT_UPD_CTL => stored.updCmds p a w
  | .MGMT_JRN_CTL => s.bitCmd p a w 31 (unless_ (s.mode != 1 && s.mode != 11) 1) fun s => s.readJournal p a
  | _ => stored

/-- R6, R192: a write to a counter clears it when it writes zero and is ignored otherwise. -/
def State.writeCounter (s : State) (p : Port) (a : Nat) (r : Rg) (i : Nat) (w : Word) : State :=
  if w ≠ 0 then s
  else if s.mode = 11 ∧ (r = .HIT_A ∨ r = .HIT_B) then s.reject 1 p a
  else s.wr r i 0

/-- A written word past the guard: counters, group words, ignored words, and items under their legality tables. -/
def State.writeReg (s : State) (p : Port) (a : Nat) (r : Rg) (i : Nat) (w : Word) : State :=
  if r.info.cnt ≠ 0 then s.writeCounter p a r i w
  else if r.grouped then (if groupMask r i = 0 then s else s.joinGroup p r i w)
  else if r.maskAt i = 0 ∧ r.info.par = 0 ∧ r.info.cmd = 0 then s
  else match s.judge r w with
    | some e => s.reject e p a
    | none => (s.effect p a r i w).touched r

/-- R329: close the port's key guard. -/
def State.closeKey (s : State) (p : Port) : State := s.setPort p { s.port p with keyAge := 0 }

/-- R329, R333: a write to DEV_KEY. -/
def State.writeKey (s : State) (p : Port) (a : Nat) (w : Word) : State :=
  if s.mode = 11 then s.reject 1 p a
  else if w = 0x5A3C#32 then s.setPort p { s.port p with keyAge := 2 }
  else (s.closeKey p).reject 7 p a

/-- R329: a written word under the key guard. The guarded write consumes the guard whatever becomes of it; one that meets a bus error
never comes here and leaves the guard open (assumption 135). -/
def State.writeWord (s : State) (p : Port) (a : Nat) (r : Rg) (i : Nat) (w : Word) : State :=
  if r = .DEV_KEY then (if isHost p then s.writeKey p a w else s)
  else if r.info.guard && isHost p then
    if (s.port p).keyAge = 0 then s.reject 7 p a else (s.closeKey p).writeReg p a r i w
  else s.writeReg p a r i w

/-- R331: a bus error is counted and reported by the port. -/
def State.busErrorAt (s : State) (p : Port) : State := (s.inc .DEV_BUSERR_CNT).setPort p { s.port p with busErr := true }

/-- R343: a write to IND_DATA is a write to the addressed word; then the index advances. -/
def State.writeInd (s : State) (p : Port) (a : Nat) (w : Word) : State :=
  let s := match s.indPlace (s.get IND_ADDR.SPACE) (s.get IND_ADDR.INDEX) with
    | .reg r i => s.writeWord p a r i w
    | _ => s
  s.indAdvance

/-- R324, R325, R327, R331: a port writes a word at a byte address. While the level is L2 or wider the ports take no access. -/
def State.hostWrite (s : State) (p : Port) (addr : Nat) (w : Word) : State :=
  let a := addr / 4 * 4 % 2 ^ 24
  if s.portsClosed then s
  else if isHost p && s.busError a then s.busErrorAt p
  else if addrKey a = 0x304 then s.writeInd p a w
  else match regAt a with
    | some (r, i) => s.writeWord p a r i w
    | none => s

/-- A port writes register `r`, index `i`, at its own address. -/
def State.hostReg (s : State) (p : Port) (r : Rg) (i : Nat) (w : Word) : State := s.hostWrite p (r.key i) w

end Sys2Proof.Machine
end

