-- ==== Sys2Proof/Machine/Limits.lean ====
section
/-! DEFINITION. The limits of R56: what a write group, and the sections of an image, may leave in the channel, output, program, flow,
stream and template words (R54, R77, R103, R104, R118 to R120, R153, R191). -/

namespace Sys2Proof.Machine

/-- The group's words written, on top of the live words; status bits of mixed words are kept. -/
def State.tentative (s : State) (ws : List GWord) : State :=
  ws.foldl (fun s g => if g.r = .CH_CMD then s else s.wr g.r g.i (mergeMask (s.rd g.r g.i) g.w (g.r.maskAt g.i))) s

/-! ### Programs (R104, R118 to R120) -/

/-- R104, R118: the source codes that suit a program. -/
def codeOk (prog code : Nat) : Bool :=
  match prog with
  | 1 => 64 ≤ code
  | 2 => code < 32
  | 3 | 6 => code < 36
  | _ => false

/-- R153: the profiles of word 16 and the delay mechanism each has: the default ones either, G.8275.1 request-response, 61850-9-3 peer
delay. -/
def mechOk (profile : Nat) (peer : Bool) : Bool :=
  match profile with
  | 0 => true
  | 1 => !peer
  | 2 => peer
  | _ => false

/-- R118, R120: the row of the program: K, bandwidth in mHz, and the fields of word 16 and 17. -/
def progRow (prog k bw w16 w17 : Nat) : Bool :=
  match prog with
  | 0 | 5 => true
  | 1 => 7813 ≤ k && 1 ≤ bw && bw ≤ 1000 && mechOk (w16 % 4) (bitOf w16 2) && 1 ≤ w17 % 2 ^ 20 && w17 % 2 ^ 20 ≤ 1000000
  | 2 => k ≤ 1000 && (match w16 % 4 with
      | 0 => 1000 ≤ bw && bw ≤ 10000
      | 1 => bw == 100
      | 2 => 1000 ≤ bw && bw ≤ 3000
      | _ => false)
  | 3 | 6 => bw * k ≤ 50000000
  | 4 => 100 ≤ k && k ≤ 10000 && bw ≤ 10000
  | _ => false

/-- R119: the fields every program keeps: K, BW, PULL, DAMP, OVC_AVG and MAXDR. -/
def State.paramRanges (s : State) (c : Nat) : Bool :=
  let k := bitsOf (s.param c 0) 19 0
  let bw := bitsOf (s.param c 1) 23 0
  let pull := bitsOf (s.param c 2) 31 16
  let damp := bitsOf (s.param c 2) 15 0
  1 ≤ k && k ≤ 1000000 && 1 ≤ bw && bw ≤ 10000000 && 1 ≤ pull && pull ≤ 5000 && 100 ≤ damp && damp ≤ 5000
    && bitsOf (s.param c 6) 15 0 != 0 && s.param c 7 != 0 && s.param c 7 < 2 ^ 31

/-- R153: the domains of a profile. -/
def domainOk (profile d : Nat) : Bool := if profile = 1 then 24 ≤ d && d ≤ 43 else d ≤ 127

/-- R153: the flow's domain; an enabled flow keeps to the profile of its home channel. -/
def State.flowOk (s : State) (f : Nat) : Bool :=
  let c := s.get FLOW_CFG.CHANNEL f
  let d := s.get FLOW_CFG.DOMAIN f
  if s.on FLOW_CFG.EN f && s.prog c == 1 then domainOk (s.param c 16 % 4) d else d ≤ 127

/-- R56, R104, R118 to R120: the program of channel `c` and its parameter block,
and the flows of which it is the home. -/
def State.progOk (s : State) (c : Nat) : Bool :=
  s.paramRanges c
    && progRow (s.prog c) (bitsOf (s.param c 0) 19 0) (bitsOf (s.param c 1) 23 0) (s.param c 16) (s.param c 17)
    && ((s.entries c).all fun e => codeOk (s.prog c) e.2)
    && (List.range 64).all fun f => s.get FLOW_CFG.CHANNEL f != c || s.flowOk f

/-! ### Channels and outputs -/

/-- R75, R56: the frequency of an enabled output by the nominal period word. -/
def State.outLimitOk (s : State) (n : Nat) : Bool :=
  !s.on OUT_CFG.EN n || freqOk (s.get OUT_DRV.TYPE n) (s.p0 (s.get OUT_CFG.SRC n)) (s.get OUT_DIV.DIVM1 n + 1)

/-- The outputs that channel `c` feeds keep their limits. -/
def State.fedOk (s : State) (c : Nat) : Bool := (List.range 128).all fun n => s.get OUT_CFG.SRC n != c || s.outLimitOk n

/-! ### Flows, streams, templates (R153, R191) -/

/-- R153: the stream's profile, domain and intervals. -/
def State.origOk (s : State) (k : Nat) : Bool :=
  let p := s.get ORIG_CFG.PROFILE k
  let ann := signedOf 4 (s.get ORIG_INT.LOG_ANN k)
  let sync := signedOf 4 (s.get ORIG_INT.LOG_SYNC k)
  let dreq := signedOf 4 (s.get ORIG_INT.LOG_DREQ k)
  p != 3 && domainOk p (s.get ORIG_CFG.DOMAIN k) && (match p with
    | 1 => ann == -3 && sync == -4 && dreq == -4
    | 2 => ann == 0 && sync == 0 && decide (-7 ≤ dreq) && decide (dreq ≤ 0)
    | _ => decide (-3 ≤ ann) && decide (ann ≤ 3) && decide (-7 ≤ sync) && decide (sync ≤ 0) && decide (-7 ≤ dreq) && decide (dreq ≤ 0))

/-- R191: a valid template. -/
def State.tplOk (s : State) (t : Nat) : Bool :=
  let len := s.get TPL_CTL.LEN t
  let o := s.get TPL_CTL.L3_OFS t
  let b (k : Nat) : Nat := (s.tplOctet t k).toNat
  s.on TPL_CTL.VALID t && 14 ≤ len && len ≤ 124 && (match s.get TPL_CTL.L3 t with
    | 0 => b (len - 2) == 0x88 && b (len - 1) == 0xF7
    | 1 => o + 28 == len && b o == 0x45 && b (o + 9) == 17
    | 2 => o + 48 == len && b o / 16 == 6 && b (o + 6) == 17
    | _ => false)

/-- R153: UDP carries the default profiles only: the enabled streams of port group `g`, where it is enabled. -/
def State.transportOk (s : State) (g : Nat) : Bool :=
  !s.on MIR_PGRP.EN g || s.get TPL_CTL.L3 (s.get MIR_PGRP.TPL g) == 0
    || (List.range 64).all fun k => !s.on ORIG_CFG.EN k || s.get ORIG_CFG.PGROUP k != g || s.get ORIG_CFG.PROFILE k == 0

/-- R191: a port group names a template below 24, and a valid one when it is enabled. -/
def State.pgrpOk (s : State) (g : Nat) : Bool :=
  s.get MIR_PGRP.TPL g < 24 && (!s.on MIR_PGRP.EN g || s.tplOk (s.get MIR_PGRP.TPL g)) && s.transportOk g

/-- R191: the enabled port groups on template `t`. -/
def State.tplUsersOk (s : State) (t : Nat) : Bool :=
  (List.range 64).all fun g => s.get MIR_PGRP.TPL g != t || !s.on MIR_PGRP.EN g || (s.tplOk t && s.transportOk g)

/-! ### Groups -/

/-- R133: a group may move a channel to a free spare only, and no two channels to one spare. `s0` is the state before the group. -/
def State.remapOk (s s0 : State) (c : Nat) : Bool :=
  let e := s.get ENG_CHMAP.ENGIDX c
  e == s0.get ENG_CHMAP.ENGIDX c
    || (decide (512 ≤ e) && decide (e < 528) && bitOf (s0.get ENG_SPARE_FREE.BITS) (e - 512)
      && (List.range 512).all fun d => d == c || s.get ENG_CHMAP.ENGIDX d != e)

/-- R56: whether a word of a group keeps its limits, on the state `s` with the whole group written on `s0`. -/
def State.wordOk (s s0 : State) (g : GWord) : Bool :=
  let i := g.i
  match g.r with
  | .CH_PNOM_LO | .CH_PNOM_HI => periodOk (s.p0 i) && s.fedOk i
  | .CH_PRES => residueOk (s.rd .CH_PRES i)
  | .CH_DRIZZLE => 1 ≤ s.get CH_DRIZZLE.RATE i && s.get CH_DRIZZLE.RATE i ≤ 10000
  | .CH_LOCK => s.on CH_LOCK.WIN i
  | .CH_TSET_NS => s.get CH_TSET_NS.NS i < 1000000000
  | .OUT_CFG | .OUT_DIV | .OUT_DRV => s.outLimitOk i
  | .PPS_WIDTH => 1 ≤ s.get PPS_WIDTH.WIDTH i && s.get PPS_WIDTH.WIDTH i ≤ 999999
  | .PPS_OFS =>
    let o := signedOf 32 (s.get PPS_OFS.OFS i)
    decide (-500000000 ≤ o) && decide (o ≤ 499999999)
  | .HOP_CTL => 2 ≤ s.get HOP_CTL.PAIR_LEAD
  | .ENG_CHMAP => s.progOk i && s.remapOk s0 i
  | .PARAM => s.progOk (i / 512)
  | .FLOW_CFG => s.flowOk i
  | .ORIG_CFG | .ORIG_INT => s.origOk i && s.transportOk (s.get ORIG_CFG.PGROUP i)
  | .TPL_CTL => s.tplUsersOk i
  | .TPL_OCT => s.tplUsersOk (i / 32)
  | .MIR_PGRP => s.pgrpOk i
  | _ => true

/-- R56: the first word of a group that breaks a limit. -/
def State.firstBad (s : State) (ws : List GWord) : Option GWord :=
  let t := s.tentative ws
  ws.find? fun g => !t.wordOk s g

/-- The byte address of a group word: its own, or that of IND_DATA. -/
def GWord.addr (g : GWord) : Nat := if g.r.key g.i < 2 ^ 24 then g.r.key g.i else Rg.IND_DATA.key 0

end Sys2Proof.Machine
end

