-- ==== Sys2Proof/Machine/Ports.lean ====
section
/-! DEFINITION. What a port does: reads with their side effects (R323, R335, R343), SPI transactions (R321 to R325), in-band request
frames (R312 to R314, R326), and the commands that are one register access each. -/

namespace Sys2Proof.Machine

/-! ### Reads -/

/-- The word that a register reads as, side effects apart. -/
def State.readReg (s : State) (p : Port) (r : Rg) (i : Nat) : Word :=
  match r with
  | .SNAP_HOLD => s.holdWord i
  | _ => s.placeWord p (.reg r i)

/-- R323, R331: a port reads the word at a byte address: the word, and the state after its side effects. -/
def State.hostRead (s : State) (p : Port) (addr : Nat) : Word × State :=
  let a := addr / 4 * 4 % 2 ^ 24
  if s.portsClosed then (0, s)
  else if s.busError a then (0, s.busErrorAt p)
  else if addrKey a = 0x304 then (s.dev.fetched, s.indAdvance)
  else match regAt a with
    | some (.MBX_D, k) => (s.rd .MBX_D k, s.readMbx p k)
    | some (r, i) => (s.readReg p r i, s)
    | none => (0, s)

/-- The words a port last read, on the SPI port as sent on HMISO. -/
def State.keepRead (s : State) (ws : List Word) : State := { s with dev := { s.dev with readWords := ws } }

/-- A port reads one word at a register's own address. -/
def State.readOne (s : State) (p : Port) (a : Nat) : State :=
  let r := s.hostRead p a
  r.2.keepRead [r.1]

/-! ### SPI transactions -/

/-- R322: the status header of the transaction that begins. -/
def State.spiHeader (s : State) (misalign busErr badOp : Bool) : Nat :=
  let x := s.dev.spi
  flag x.prevPartial * 2 ^ 15 + flag x.prevBusErr * 2 ^ 14 + flag x.prevReject * 2 ^ 13 + flag misalign * 2 ^ 12
    + flag busErr * 2 ^ 11 + flag badOp * 2 ^ 10 + flag (x.keyAge != 0) * 2 ^ 9 + flag s.pinsOf.alertLow * 2 ^ 8
    + s.mode * 16 + s.dev.tseq

/-- R322, R325: a transaction of at least four octets begins: TSEQ, the header, and the count of a misaligned address. -/
def State.spiBegin (s : State) (misalign busErr badOp status : Bool) : State :=
  let s := { s with dev := { s.dev with tseq := (s.dev.tseq + 1) % 16 } }
  let h := s.spiHeader misalign busErr badOp
  let s := { s with dev := { s.dev with
    header := h, readWords := [], spi := { s.dev.spi with busErr := false, reject := false, status := status } } }
  s.cond misalign (·.inc .DEV_SPI_ERR_CNT)

/-- The words of a WRITE or WRITE_FIXED; `step` is the distance between their addresses. -/
def State.spiWords (step : Nat) : Nat → List Word → State → State
  | _, [], s => s
  | a, w :: ws, s => State.spiWords step ((a + step) % 2 ^ 24) ws (s.hostWrite .spi a w)

/-- The words of a READ or READ_FIXED, last word first. -/
def State.spiReads (step : Nat) : Nat → Nat → List Word → State → State
  | 0, _, ws, s => s.keepRead ws.reverse
  | n + 1, a, ws, s =>
    let r := s.hostRead .spi a
    State.spiReads step n ((a + step) % 2 ^ 24) (r.1 :: ws) r.2

/-- A WRITE or READ transaction up to its last word. -/
def State.spiAccess (s : State) (addr : Nat) (f : Nat → State → State) : State :=
  if s.portsClosed then s
  else
    let a := addr / 4 * 4 % 2 ^ 24
    f a (s.spiBegin (addr % 4 != 0) (s.busError a) false false)

/-- SPI_WRITE (R321, R324). -/
def execSpiWrite (addr : Nat) (words : List Word) (s : State) : Host.Outcome State Fault Refusal :=
  done (s.spiAccess addr fun a s => State.spiWords 4 a words s)

/-- SPI_WRITE_FIXED (R321, R324). -/
def execSpiWriteFixed (addr : Nat) (words : List Word) (s : State) : Host.Outcome State Fault Refusal :=
  done (s.spiAccess addr fun a s => State.spiWords 0 a words s)

/-- SPI_READ (R321, R323): `n` words whose first bit has been driven. -/
def execSpiRead (addr n : Nat) (s : State) : Host.Outcome State Fault Refusal :=
  done (s.spiAccess addr fun a s => State.spiReads 4 n a [] s)

/-- SPI_READ_FIXED (R321, R323). -/
def execSpiReadFixed (addr n : Nat) (s : State) : Host.Outcome State Fault Refusal :=
  done (s.spiAccess addr fun a s => State.spiReads 0 n a [] s)

/-- SPI_STATUS (R321, R322). -/
def execSpiStatus (s : State) : Host.Outcome State Fault Refusal :=
  done (if s.portsClosed then s else s.spiBegin false false false true)

/-- R321: the opcodes of the table. -/
def spiKnown (opcode : Nat) : Bool := opcode == 0x02 || opcode == 0x12 || opcode == 0x0B || opcode == 0x03 || opcode == 0x05

/-- SPI_BAD_OPCODE (R321, R322): the header shows BADOP and no register is touched. -/
def execSpiBadOpcode (opcode : Nat) (s : State) : Host.Outcome State Fault Refusal :=
  done (if s.portsClosed ∨ spiKnown opcode then s else s.spiBegin false false true false)

/-- R329: the key guard at the end of a transaction: open in this one and the next. -/
def ageKey (k : Nat) : Nat := k - 1

/-- SPI_TRANSACTION_END (R17, R321, R324, R329, R335). -/
def execSpiTransactionEnd (short partialWord : Bool) (s : State) : Host.Outcome State Fault Refusal :=
  done (if s.portsClosed then s
    else
      let s := s.cond partialWord (·.inc .DEV_SPI_ERR_CNT)
      let s := s.cond (short && !s.dev.spi.status) (·.inc .DEV_SPI_ERR_CNT)
      let s := (s.endGroup .spi).endMbx .spi
      let x := s.dev.spi
      s.setPort .spi { x with
        keyAge := ageKey x.keyAge, prevPartial := partialWord, prevBusErr := x.busErr, prevReject := x.reject
        busErr := false, reject := false, status := false })

/-! ### In-band requests (R312 to R314, R326) -/

/-- What an operation of a request leaves in the response: OPSTAT, DATA0, DATA1. -/
structure OpResult where
  stat : Nat
  data0 : Word
  data1 : Word
  deriving DecidableEq, Repr

/-- R326: one word access of an operation: the data, whether it met a bus error, and the state. -/
def State.inbWord (s : State) (write : Bool) (a : Nat) (w : Word) : Word × Bool × State :=
  let s := s.setPort .inb { s.port .inb with busErr := false }
  if write then
    let s := s.hostWrite .inb a w
    (w, (s.port .inb).busErr, s)
  else
    let r := s.hostRead .inb a
    (r.1, (r.2.port .inb).busErr, r.2)

/-- R314, R326: one operation. -/
def State.inbOp (s : State) (o : InbOp) : OpResult × State :=
  let a := o.addr / 4 * 4
  let x := s.inbWord o.write a o.data0
  let y : Word × Bool × State := if o.width = 3 then x.2.2.inbWord o.write (a + 4) o.data1 else (o.data1, false, x.2.2)
  (⟨if x.2.1 || y.2.1 then 2 else if o.addr % 4 != 0 then 4 else 0, x.1, y.1⟩, y.2.2)

/-- The operations in order. -/
def State.inbOps : List InbOp → List OpResult → State → List OpResult × State
  | [], rs, s => (rs.reverse, s)
  | o :: os, rs, s =>
    let r := s.inbOp o
    State.inbOps os (r.1 :: rs) r.2

/-- R17, R329, R335: the end of the frame ends its group, closes its key guard and its mailbox. -/
def State.inbEnd (s : State) : State :=
  let s := (s.endGroup .inb).endMbx .inb
  s.setPort .inb { s.port .inb with keyAge := 0, busErr := false, reject := false }

/-- R314: the request's link-layer header with the addresses exchanged. -/
def exchanged (eth : List Octet) : List Octet := (eth.drop 6).take 6 ++ eth.take 6 ++ eth.drop 12

/-- R312, R314: a response frame, KIND 3 and DEST 1, behind header `hdr`. -/
def inbAnswer (lane port : Nat) (hdr : List Octet) (body : List (Nat × Int)) : OutMsg where
  kind := .inbandResponse
  tag := 0
  lane := lane
  seq := 0
  channel := 0
  port := port
  pgroup := 0
  dest := 1
  oneStep := false
  hkind := 3
  hdr := hdr
  body := body

/-- R314: the response leaves on the lane of arrival; by R316 in every mode (assumption 136). -/
def State.inbSend (s : State) (lane port : Nat) (eth : List Octet) (body : List (Nat × Int)) : State :=
  if s.laneSends lane then s.send (inbAnswer lane port (exchanged eth) body) else s

/-- The fields of a response: 20 TYPE, 21 STATUS, 22 SESSION, 23 SEQ, 29 DIE_ID. -/
def inbHead (type status session seq dieId : Nat) : List (Nat × Int) :=
  [(20, (type : Int)), (21, (status : Int)), (22, (session : Int)), (23, (seq : Int)), (29, (dieId : Int))]

/-- R312: the first octet of an operation. -/
def inbOpc (o : InbOp) : Nat := flag o.write * 128 + o.width % 4

/-- R312, R314: the fields of a response to a request: it copies the request, and each operation has 27 OPC, 28 ADDR, 24 OPSTAT, 25 DATA0 and
26 DATA1. -/
def inbBody (r : InbRequest) (status : Nat) (rs : List OpResult) : List (Nat × Int) :=
  inbHead 2 status r.session.toNat r.seq r.dieId
    ++ (r.ops.zip rs).flatMap fun x =>
      [(27, (inbOpc x.1 : Int)), (28, (x.1.addr : Int)), (24, (x.2.stat : Int)), (25, (x.2.data0.toNat : Int)), (26, (x.2.data1.toNat : Int))]

/-- R313, R303: a refused frame: its counter and its entry. -/
def State.inbRefuse (s : State) (cnt : Rg) (reason port dieId : Nat) : State :=
  (s.inc cnt).log 0xE 11 1 (Config.inbandReason reason) (BitVec.ofNat 32 port) (BitVec.ofNat 32 dieId)

/-- R313: the first two checks of a frame; the reason that fails. -/
def State.inbCheck (s : State) (dieId : Nat) (macOk : Bool) : Option (Rg × Nat) :=
  if dieId ≠ s.fuse.dieId then some (.MGMT_INB_REJ_CNT, 1)
  else if ¬ s.on MGMT_CTL.INB_EN ∨ s.fuse.keyZero ∨ ¬ macOk then some (.MGMT_INB_AUTH_CNT, 2)
  else none

/-- R314: an accepted request. -/
def State.inbRun (s : State) (r : InbRequest) : State :=
  let s := { s with mgmt := { s.mgmt with lastSeq := r.seq } }
  if s.mode = 11 then s.inbSend r.lane r.swPort r.eth (inbBody r 2 (r.ops.map fun o => ⟨3, o.data0, o.data1⟩))
  else if r.ops.any fun o => o.width < 2 then
    (s.inc .MGMT_INB_REJ_CNT).inbSend r.lane r.swPort r.eth
      (inbBody r 1 (r.ops.map fun o => ⟨if o.width < 2 then 1 else 3, o.data0, o.data1⟩))
  else
    let x := State.inbOps r.ops [] s
    (x.2.inbEnd.inc .MGMT_INB_OK_CNT).inbSend r.lane r.swPort r.eth (inbBody r 0 x.1)

/-- The firmware that answers in-band frames runs. -/
def State.inbRuns (s : State) : Bool := s.on MGMT_STS.FW_RUN && s.mode != 0 && !s.on RST_STS.L1M

/-- IN_BAND_REQUEST (R312 to R314). -/
def execInBandRequest (r : InbRequest) (s : State) : Host.Outcome State Fault Refusal :=
  done (if !s.inbRuns then s
    else match s.inbCheck r.dieId r.macOk with
      | some (cnt, k) => s.inbRefuse cnt k r.swPort r.dieId
      | none =>
        if r.session ≠ s.rd .MGMT_INB_STS ∨ r.seq ≤ s.mgmt.lastSeq then s.inbRefuse .MGMT_INB_REPLAY_CNT 3 r.swPort r.dieId
        else s.inbRun r)

/-- IN_BAND_SESSION_REQUEST (R313): the session and the last accepted SEQ. -/
def execInBandSessionRequest (dieId : Nat) (macOk : Bool) (swPort : Nat) (origin : InbOrigin) (s : State) : Host.Outcome State Fault Refusal :=
  done (if !s.inbRuns then s
    else match s.inbCheck dieId macOk with
      | some (cnt, k) => s.inbRefuse cnt k swPort dieId
      | none => s.inbSend origin.lane swPort origin.eth
          (inbHead 4 (if s.mode = 11 then 2 else 0) (s.rd .MGMT_INB_STS).toNat s.mgmt.lastSeq dieId))

/-! ### Commands that are one access -/

/-- REGISTER_WRITE (R5). -/
def execRegisterWrite (p : Port) (addr : Nat) (w : Word) (s : State) : Host.Outcome State Fault Refusal := done (s.hostWrite p addr w)

/-- DEV_KEY_WRITE (R329). -/
def execDevKeyWrite (p : Port) (w : Word) (s : State) : Host.Outcome State Fault Refusal := done (s.hostReg p .DEV_KEY 0 w)

/-- DEV_GATE_WRITE (R330). -/
def execDevGateWrite (p : Port) (w : Word) (s : State) : Host.Outcome State Fault Refusal := done (s.hostReg p .DEV_GATE 0 w)

/-- MODE_REQ_AUTOMATIC (R24). -/
def execModeReqAutomatic (p : Port) (s : State) : Host.Outcome State Fault Refusal := done (s.hostReg p .DEV_MODE_REQ 0 0xF)

/-- MODE_REQ_HOLD_FREERUN (R24). -/
def execModeReqHoldFreerun (p : Port) (s : State) : Host.Outcome State Fault Refusal := done (s.hostReg p .DEV_MODE_REQ 0 0x3)

/-- MODE_REQ_FORCE_HOLDOVER (R24). -/
def execModeReqForceHoldover (p : Port) (s : State) : Host.Outcome State Fault Refusal := done (s.hostReg p .DEV_MODE_REQ 0 0x6)

/-- MODE_REQ_SERVICE (R24). -/
def execModeReqService (p : Port) (s : State) : Host.Outcome State Fault Refusal := done (s.hostReg p .DEV_MODE_REQ 0 0xA)

/-- The values that R24 names. -/
def modeReqKnown (v : Nat) : Bool := v % 16 == 15 || v % 16 == 3 || v % 16 == 6 || v % 16 == 10

/-- MODE_REQ_INVALID (R24): a value that R24 names is not this command's. -/
def execModeReqInvalid (p : Port) (value : Nat) (s : State) : Host.Outcome State Fault Refusal :=
  done (if modeReqKnown value then s else s.hostReg p .DEV_MODE_REQ 0 (BitVec.ofNat 32 value))

/-- MAILBOX_GO (R335): `w` is the word written to MBX_SEL. -/
def execMailboxGo (p : Port) (w : Word) (s : State) : Host.Outcome State Fault Refusal :=
  done (s.hostReg p .MBX_SEL 0 (MBX_SEL.GO.put w 1))

/-- MAILBOX_OPEN_READ (R335). -/
def execMailboxOpenRead (p : Port) (s : State) : Host.Outcome State Fault Refusal := done (s.readOne p (Rg.MBX_D.key 0))

/-- MAILBOX_CLOSE_READ (R335). -/
def execMailboxCloseRead (p : Port) (s : State) : Host.Outcome State Fault Refusal := done (s.readOne p (Rg.MBX_D.key 3))

/-- SNAPSHOT_TAKE (R337): `w` is the word written to SNAP_CMD and `engOfs` the ENG offset of a plain capture. -/
def execSnapshotTake (p : Port) (w : Word) (engOfs : Nat) (s : State) : Host.Outcome State Fault Refusal :=
  done (if s.portsClosed then s
    else match s.notTest with
      | some e => s.reject e p (Rg.SNAP_CMD.key 0)
      | none => s.writeSnap p (Rg.SNAP_CMD.key 0) (SNAP_CMD.TAKE.put w 1) (engOfs % 400))

/-- IND_ADDR_WRITE (R343). -/
def execIndAddrWrite (p : Port) (w : Word) (s : State) : Host.Outcome State Fault Refusal := done (s.hostReg p .IND_ADDR 0 w)

/-- IND_DATA_READ (R343). -/
def execIndDataRead (p : Port) (s : State) : Host.Outcome State Fault Refusal := done (s.readOne p (Rg.IND_DATA.key 0))

/-- IND_DATA_WRITE (R343). -/
def execIndDataWrite (p : Port) (w : Word) (s : State) : Host.Outcome State Fault Refusal := done (s.hostReg p .IND_DATA 0 w)

/-- CFG_CRC_COMMIT (R341): `w` is the word written to CFG_CRC_CTL. -/
def execCfgCrcCommit (p : Port) (w : Word) (s : State) : Host.Outcome State Fault Refusal :=
  done (s.hostReg p .CFG_CRC_CTL 0 (CFG_CRC_CTL.COMMIT.put w 1))

/-- CFG_CRC_REF_WRITE (R341). -/
def execCfgCrcRefWrite (p : Port) (w : Word) (s : State) : Host.Outcome State Fault Refusal := done (s.hostReg p .CFG_CRC_REF 0 w)

/-- RETUNE (R42, R50). -/
def execRetune (p : Port) (s : State) : Host.Outcome State Fault Refusal := done (s.hostReg p .MSYN_CMD 0 1)

/-- RELOCK (R50). -/
def execRelock (p : Port) (s : State) : Host.Outcome State Fault Refusal := done (s.hostReg p .MSYN_CMD 0 2)

/-- BANDSEL (R37, R50). -/
def execBandsel (p : Port) (s : State) : Host.Outcome State Fault Refusal := done (s.hostReg p .MSYN_CMD 0 4)

/-- TSET (R61, R66): the command bit joins the group of its transaction. -/
def execTset (p : Port) (c : Nat) (s : State) : Host.Outcome State Fault Refusal := onUnit c 512 s (s.hostReg p .CH_CMD c 1)

/-- SLEW_CANCEL (R60, R66). -/
def execSlewCancel (p : Port) (c : Nat) (s : State) : Host.Outcome State Fault Refusal := onUnit c 512 s (s.hostReg p .CH_CMD c 2)

/-- OUT_CTL_WRITE (R64). -/
def execOutCtlWrite (p : Port) (w : Word) (s : State) : Host.Outcome State Fault Refusal := done (s.hostReg p .OUT_CTL 0 w)

/-- HOP_COMMAND (R87, R101): a write of `w` to HOP_CMD with GO, whose trigger enters the router at master-cycle offset `cyc` of the
tick. Its space belongs to the CH gate (R343). -/
def execHopCommand (p : Port) (w : Word) (cyc : Nat) (s : State) : Host.Outcome State Fault Refusal :=
  done (if s.portsClosed then s
    else if isHost p && s.blockShut 3 then s.busErrorAt p
    else s.hopCmd p (Rg.IND_DATA.key 0) (HOP_CMD.GO.put w 1) cyc)

/-- REFIN_LOCKOUT (R113). -/
def execRefinLockout (p : Port) (i : Nat) (s : State) : Host.Outcome State Fault Refusal :=
  onUnit i 64 s (s.hostReg p .REFIN_CMD 0 (BitVec.ofNat 32 (2 ^ 31 + i)))

/-- REFIN_RELEASE (R113). -/
def execRefinRelease (p : Port) (i : Nat) (s : State) : Host.Outcome State Fault Refusal :=
  onUnit i 64 s (s.hostReg p .REFIN_CMD 0 (BitVec.ofNat 32 (2 ^ 30 + i)))

/-- REF_CONFIG_WRITE (R113, R134): word 0 REF_CFG, 1 REF_FNOM, 2 REF_QUAL, 3 REF_HIT. -/
def execRefConfigWrite (p : Port) (i word : Nat) (w : Word) (s : State) : Host.Outcome State Fault Refusal :=
  onUnit i 36 s (s.hostReg p (refWord word) i w)

/-- ENGINE_RESTART (R121). -/
def execEngineRestart (p : Port) (c : Nat) (s : State) : Host.Outcome State Fault Refusal :=
  onUnit c 1024 s (s.hostReg p .ENG_CMD 0 (BitVec.ofNat 32 (2 ^ 30 + c * 65536)))

/-- ENGINE_RETIRE_COMMAND (R129, R134). -/
def execEngineRetireCommand (p : Port) (e : Nat) (s : State) : Host.Outcome State Fault Refusal :=
  onUnit e 1024 s (s.hostReg p .ENG_CMD 0 (BitVec.ofNat 32 (2 ^ 31 + e * 65536)))

/-- BANK_SWAP (R184, R192). -/
def execBankSwap (p : Port) (s : State) : Host.Outcome State Fault Refusal := done (s.hostReg p .PARSE_BANK_CMD 0 1)

/-- HANDOVER (R226). -/
def execHandover (p : Port) (s : State) : Host.Outcome State Fault Refusal := done (s.hostReg p .PAIR_CMD 0 (BitVec.ofNat 32 (2 ^ 31)))

/-- RESYNC (R229). -/
def execResync (p : Port) (s : State) : Host.Outcome State Fault Refusal := done (s.hostReg p .PAIR_CMD 0 (BitVec.ofNat 32 (2 ^ 30)))

/-- ABORT (R232). -/
def execAbort (p : Port) (s : State) : Host.Outcome State Fault Refusal := done (s.hostReg p .PAIR_CMD 0 (BitVec.ofNat 32 (2 ^ 29)))

/-- PEER_RESET (R233). -/
def execPeerReset (p : Port) (s : State) : Host.Outcome State Fault Refusal := done (s.hostReg p .PAIR_CMD 0 (BitVec.ofNat 32 (2 ^ 28)))

/-- CAL_RUN (R244, R255). -/
def execCalRun (p : Port) (s : State) : Host.Outcome State Fault Refusal := done (s.hostReg p .CAL_CMD 0 1)

/-- CAL_STORE (R252, R255). -/
def execCalStore (p : Port) (s : State) : Host.Outcome State Fault Refusal := done (s.hostReg p .CAL_CMD 0 2)

/-- FREQ_COUNT_START (R269): `w` is the word written to CLK_FC_CTL. -/
def execFreqCountStart (p : Port) (w : Word) (s : State) : Host.Outcome State Fault Refusal :=
  done (s.hostReg p .CLK_FC_CTL 0 (CLK_FC_CTL.START.put w 1))

/-- HOST_RESET_MANAGEMENT (R271): source 4. -/
def execHostResetManagement (p : Port) (s : State) : Host.Outcome State Fault Refusal :=
  done (s.hostReg p .RST_CMD 0 (BitVec.ofNat 32 (2 ^ 31)))

/-- HOST_RESET_INTAKE (R271): source 5. -/
def execHostResetIntake (p : Port) (s : State) : Host.Outcome State Fault Refusal :=
  done (s.hostReg p .RST_CMD 0 (BitVec.ofNat 32 (2 ^ 31 + 1)))

/-- HOST_RESET_WARM (R271): source 6. -/
def execHostResetWarm (p : Port) (s : State) : Host.Outcome State Fault Refusal :=
  done (s.hostReg p .RST_CMD 0 (BitVec.ofNat 32 (2 ^ 31 + 2)))

/-- HOST_RESET_COLD (R271): source 7. -/
def execHostResetCold (p : Port) (s : State) : Host.Outcome State Fault Refusal :=
  done (s.hostReg p .RST_CMD 0 (BitVec.ofNat 32 (2 ^ 31 + 3)))

/-- A request of RST_SOFT bit `b` under its mask (R8, R277). -/
def softWord (b : Nat) : Word := BitVec.ofNat 32 (2 ^ (b + 16) + 2 ^ b)

/-- SOFT_RESET_TWL_RECEIVER (R277): block 0. -/
def execSoftResetTwlReceiver (p : Port) (s : State) : Host.Outcome State Fault Refusal := done (s.hostReg p .RST_SOFT 0 (softWord 0))

/-- SOFT_RESET_MIR_PCS (R277): block 1. -/
def execSoftResetMirPcs (p : Port) (s : State) : Host.Outcome State Fault Refusal := done (s.hostReg p .RST_SOFT 0 (softWord 1))

/-- SOFT_RESET_PL_PCS (R277): block 2. -/
def execSoftResetPlPcs (p : Port) (s : State) : Host.Outcome State Fault Refusal := done (s.hostReg p .RST_SOFT 0 (softWord 2))

/-- SOFT_RESET_CAL_SEQUENCER (R277): block 3. -/
def execSoftResetCalSequencer (p : Port) (s : State) : Host.Outcome State Fault Refusal := done (s.hostReg p .RST_SOFT 0 (softWord 3))

/-- SOFT_RESET_FLASH (R277): block 4. -/
def execSoftResetFlash (p : Port) (s : State) : Host.Outcome State Fault Refusal := done (s.hostReg p .RST_SOFT 0 (softWord 4))

/-- SOFT_RESET_EMMC (R277): block 5. -/
def execSoftResetEmmc (p : Port) (s : State) : Host.Outcome State Fault Refusal := done (s.hostReg p .RST_SOFT 0 (softWord 5))

/-- SOFT_RESET_SENSOR (R277): block 6. -/
def execSoftResetSensor (p : Port) (s : State) : Host.Outcome State Fault Refusal := done (s.hostReg p .RST_SOFT 0 (softWord 6))

/-- SOFT_RESET_FREQ_COUNTER (R277): block 7. -/
def execSoftResetFreqCounter (p : Port) (s : State) : Host.Outcome State Fault Refusal := done (s.hostReg p .RST_SOFT 0 (softWord 7))

/-- HOST_LOAD_CHUNK (R289). -/
def execHostLoadChunk (p : Port) (words : Nat) (s : State) : Host.Outcome State Fault Refusal :=
  done (s.hostReg p .RST_HLOAD_CTL 0 (BitVec.ofNat 32 (2 ^ 31 + words % 1024)))

/-- HOST_LOAD_END (R289): WORDS keeps its value. -/
def execHostLoadEnd (p : Port) (s : State) : Host.Outcome State Fault Refusal :=
  done (s.hostReg p .RST_HLOAD_CTL 0 (BitVec.ofNat 32 (2 ^ 30 + s.get RST_HLOAD_CTL.WORDS)))

/-- HOST_LOAD_ABORT (R289): WORDS keeps its value. -/
def execHostLoadAbort (p : Port) (s : State) : Host.Outcome State Fault Refusal :=
  done (s.hostReg p .RST_HLOAD_CTL 0 (BitVec.ofNat 32 (2 ^ 29 + s.get RST_HLOAD_CTL.WORDS)))

/-- JOURNAL_READ (R309). -/
def execJournalRead (p : Port) (s : State) : Host.Outcome State Fault Refusal :=
  done (s.hostReg p .MGMT_JRN_CTL 0 (BitVec.ofNat 32 (2 ^ 31)))

/-- The fields of MGMT_UPD_CTL as they stand, with command bit `b` set. -/
def State.updWord (s : State) (b : Nat) : Word :=
  BitVec.ofNat 32 (2 ^ b + s.get MGMT_UPD_CTL.TARGET * 2 ^ 24 + s.get MGMT_UPD_CTL.WORDS)

/-- UPDATE_START (R310). -/
def execUpdateStart (p : Port) (target : Nat) (s : State) : Host.Outcome State Fault Refusal :=
  done (s.hostReg p .MGMT_UPD_CTL 0 (MGMT_UPD_CTL.TARGET.put (s.updWord 31) target))

/-- UPDATE_CHUNK (R310). -/
def execUpdateChunk (p : Port) (words : Nat) (s : State) : Host.Outcome State Fault Refusal :=
  done (s.hostReg p .MGMT_UPD_CTL 0 (MGMT_UPD_CTL.WORDS.put (s.updWord 30) words))

/-- UPDATE_END (R310). -/
def execUpdateEnd (p : Port) (s : State) : Host.Outcome State Fault Refusal := done (s.hostReg p .MGMT_UPD_CTL 0 (s.updWord 29))

/-- UPDATE_ACTIVATE (R310). -/
def execUpdateActivate (p : Port) (s : State) : Host.Outcome State Fault Refusal := done (s.hostReg p .MGMT_UPD_CTL 0 (s.updWord 28))

/-- UPDATE_ABORT (R310). -/
def execUpdateAbort (p : Port) (s : State) : Host.Outcome State Fault Refusal := done (s.hostReg p .MGMT_UPD_CTL 0 (s.updWord 27))

/-- FUSE_ADV (R311). -/
def execFuseAdv (p : Port) (s : State) : Host.Outcome State Fault Refusal := done (s.hostReg p .MGMT_UPD_CTL 0 (s.updWord 26))

end Sys2Proof.Machine
end

