-- ==== Sys2Proof/Machine/Boot.lean ====
section
/-! DEFINITION. The start of the device on an Onion image (10 R280 to R289): the checks of R285, the register preload (R284), the
sections an image puts into effect (R282, R283, R288), the host load (R289), the clone source (R233). -/

namespace Sys2Proof.Machine

/-! ### Sections -/

/-- Write words under their configured bits. -/
def State.putWords (s : State) (r : Rg) (i0 : Nat) (ws : List Word) : State :=
  (List.range ws.length).foldl (fun s k => s.wr r (i0 + k) (mergeMask (s.rd r (i0 + k)) (ws.getD k 0) (r.maskAt (i0 + k)))) s

/-- Restore the words of an indirect space, which reset to 0, whose keys lie from `lo` to below `hi`. -/
def State.blankKeys (s : State) (lo hi : Nat) (p : Nat → Bool) : State :=
  { s with regs := s.regs.filter fun kv => !(decide (lo ≤ kv.1) && decide (kv.1 < hi) && p kv.1) }

/-- R283, section 3: the program store, written whole. -/
def State.loadStore (s : State) (ws : List Word) : State :=
  let b := Rg.PSTORE.key 0
  let s := s.blankKeys b (b + 0x8000) fun _ => true
  let s := (List.range ws.length).foldl (fun s k => s.wr .PSTORE k (ws.getD k 0)) s
  { s.set ENG_POOL.PSTORE_OK 1 with mgmt := { s.mgmt with hash := crc32 (ws.flatMap fun w => octetsLe w.toNat 4) } }

/-- R283, section 3: the record of every channel: its program and its parameter words 0 to 31; a record that the list leaves out holds
the reset values. -/
def State.loadPrograms (s : State) (img : Image) : State :=
  let b := Rg.PARAM.key 0
  let s := s.blankKeys b (b + 512 * 512) fun k => (k - b) % 512 < 32
  let s := State.upto 512 (fun c s => s.cond (s.get ENG_CHMAP.PROG c != 0) (·.set ENG_CHMAP.PROG 0 c)) s
  img.programs.foldl (fun s p => (s.set ENG_CHMAP.PROG p.prog p.ch).putWords .PARAM (p.ch * 512) (p.params.take 32)) s

/-- R283, sections 4 and 5: a rule bank; rules beyond the list are empty. Hit counters stand. -/
def State.loadRules (s : State) (bank : Rg) (rules : Option (List (List Word))) : State :=
  match rules with
  | none => s
  | some rs =>
    let b := bank.key 0
    let s := s.blankKeys b (b + 0x20000) fun k => (k - b) % 32 < 17
    (List.range rs.length).foldl (fun s r => s.putWords bank (r * 32) ((rs.getD r []).take 17)) s

/-- R283, section 6: the 25 hop control words. -/
def State.loadHopCtl (s : State) (ws : Option (List Word)) : State :=
  match ws with
  | none => s
  | some w =>
    (((s.putWords .HOP_PIN_CFG 0 (w.take 8)).putWords .HOP_CTL 0 ((w.drop 8).take 1)).putWords .HOP_GRP_CFG 0
      ((w.drop 9).take 16)).touched .HOP_CTL

/-- R283, section 6: the preset entries. -/
def State.loadPresets (s : State) (es : List PresetEntry) : State :=
  es.foldl (fun s e => s.putWords .PRESET ((e.ch * 64 + e.idx) * 8) (e.words.take 6)) s

/-! ### The checks of R285 -/

/-- R283: identity binding: MODE 0 binds to any device and lists none, MODE 1 lists this one. -/
def State.identityOk (s : State) (img : Image) : Bool :=
  match img.idMode with
  | 0 => img.ids.isEmpty
  | 1 => img.ids.any fun x => x.1 == s.fuse.dieId
  | _ => false

/-- R83, R85: a VALID preset's period word and residue. -/
def presetOk (e : PresetEntry) : Bool :=
  let w (k : Nat) : Word := e.words.getD k 0
  decide (e.ch < 512) && decide (e.idx < 64) && e.words.length == 6
    && ((w 5).toNat % 2 == 0 || (periodOk ((w 1).toNat * 2 ^ 32 + (w 0).toNat) && residueOk (w 2)))

/-- R83, R103, R118 to R120, R197, R307: the content of sections 3 to 7, with the programs staged in `t`. -/
def sectionsOk (t : State) (img : Image) : Bool :=
  let rules (b : Option (List (List Word))) : Bool :=
    b.elim true fun rs => decide (rs.length ≤ 4096) && rs.all fun r => r.length == 17
  (List.range 5).all (fun k => sectFilled img (k + 3)) && decide (img.pstore.length ≤ 32768)
    && img.programs.all (fun (p : ProgRec) => decide (p.ch < 512) && decide (p.prog < 16) && p.params.length == 32 && t.progOk p.ch)
    && rules img.ruleA && rules img.ruleB
    && img.hopCtl.elim true (fun ws => ws.length == 25 && decide (2 ≤ HOP_CTL.PAIR_LEAD.of (ws.getD 8 0)))
    && img.presets.all presetOk
    && img.policy.elim true fun p => decide (p.t1Days ≤ 365) && decide (p.t2Days ≤ 9131) && decide (1 ≤ p.t3Gb) && decide (p.t3Gb ≤ 64)

/-! ### The register preload (R284) -/

/-- R284: registers that a preload pair may not name. -/
def preloadBars (r : Rg) : Bool := r == .MBX_SEL || r == .SNAP_CMD || r == .IND_ADDR || r == .IND_CTL || r == .IND_DATA || r == .DEV_KEY

/-- What a preload has come to: refused, or the state and the words of its write group, newest first. -/
structure Preload where
  bad : Bool
  state : State
  words : List GWord

/-- R288: after a release from L2 the preload writes only bits that L2 restores. -/
def State.preloadWord (s : State) (r : Rg) (i : Nat) (w : Word) : Word :=
  if s.get RST_BOOT_STS.KIND = 2 then mergeMask (s.rd r i) w r.maskL2 else w

/-- Whether a preload pair writes its register at all. -/
def State.preloadActs (s : State) (r : Rg) (i : Nat) : Bool :=
  s.get RST_BOOT_STS.KIND != 2 || (r.maskAt i).land r.maskL2 != 0

/-- R284: one pair. The host load's preload is judged as in BOOT too; a gate changes as the present mode has it (R268). -/
def preloadPair (x : Preload) (pair : Nat × Word) : Preload :=
  if x.bad then x
  else
    let s := x.state
    match regAt (pair.1 / 4 * 4 % 2 ^ 24) with
    | none => { x with bad := true }
    | some (r, i) =>
      if preloadBars r || r.cfgMask == 0 || decide (2 ^ 24 ≤ pair.1) then { x with bad := true }
      else if !s.preloadActs r i then x
      else if r.grouped then { x with words := ⟨r, i, s.preloadWord r i pair.2⟩ :: x.words }
      else if r = .DEV_GATE then { x with state := s.writeGate pair.2 }
      else
        let m := s.mode
        let t := ((s.wr .DEV_CMD_STATUS 0 0).set DEV_MODE.MODE 1).writeReg .preload (r.key i) r i (s.preloadWord r i pair.2)
        if t.on DEV_CMD_STATUS.REASON then { x with bad := true }
        else { x with state := (t.set DEV_MODE.MODE m).wr .DEV_CMD_STATUS 0 (s.rd .DEV_CMD_STATUS) }

/-- The whole preload, on a staged state. -/
def State.preload (s : State) (pairs : List (Nat × Word)) : Preload := pairs.foldl preloadPair ⟨false, s, []⟩

/-- The write group of a preload goes to its boundary; its shadows show it (R64). -/
def State.submitPreload (s : State) (ws : List GWord) : State :=
  if ws.isEmpty then s
  else { s with dev := { s.dev with
      groups := s.dev.groups ++ [⟨.preload, ws⟩]
      shadow := ws.foldl (fun t g => Tab.set none t (g.r.key g.i) (some g.w)) s.dev.shadow } }

/-! ### Acceptance -/

/-- R282, R283, R288: the sections that the image has, the preload apart, take effect. After L2 parameters, rule banks and presets keep
their values. -/
def State.applySections (s : State) (img : Image) : State :=
  let cold := !(s.get RST_BOOT_STS.KIND == 2 && s.mode == 1)
  let s := s.cond (hasSect img 3) fun s => s.loadStore img.pstore
  let s := s.cond (hasSect img 3 && cold) fun s => s.loadPrograms img
  let s := s.cond (hasSect img 4 && cold) fun s => s.loadRules .RULE_A img.ruleA
  let s := s.cond (hasSect img 5 && cold) fun s => s.loadRules .RULE_B img.ruleB
  let s := s.cond (hasSect img 6) fun s => s.loadHopCtl img.hopCtl
  let s := s.cond (hasSect img 6 && cold) fun s => s.loadPresets img.presets
  { s with mgmt := { s.mgmt with
      idMode := img.idMode, oui := img.oui, ids := img.ids
      policy := if hasSect img 7 then img.policy.getD JournalPolicy.unset else JournalPolicy.unset } }

/-- R285, checks 1 to 8. `len` is the number of octets a host load has brought; the slot checks are the flash's. -/
def State.imageVerdict (s : State) (img : Image) (len : Option Nat) : Nat :=
  let v := img.verdict
  let h := img.header
  if len.isNone && !v.readOk then 1
  else if len.isNone && h.magic == 0xFFFFFFFF then 2
  else if !onionHeaderOk h (if len.isNone then some v.slotSize else none) then 3
  else if len.isSome && len != some h.length then 12
  else if !v.keyOk then 4
  else if !v.sigOk then 5
  else if h.secVer < s.fuse.arb then 6
  else if !sectCrcsOk img then 7
  else if !s.identityOk img || !sectFilled img 1 then 8
  else 0

/-- R285: the cause that refuses an image, 0 when every check passes, and the state with the image staged. -/
def State.checkImage (s : State) (img : Image) (len : Option Nat) : Nat × State :=
  let c := s.imageVerdict img len
  if c ≠ 0 then (c, s)
  else
    let t := s.applySections img
    let x := t.preload img.preload
    let ws := x.words.reverse
    if x.bad || !sectFilled img 2 || 65536 < img.preload.length || (x.state.firstBad ws).isSome then (9, s)
    else if !x.state.storedWords.ok then (10, s)
    else if !sectionsOk (s.cond (hasSect img 3) fun s => s.loadPrograms img) img then (13, s)
    else (0, x.state.submitPreload ws)

/-- R36: a retune at the end of the preload, when the words changed: on the internal start the acquisition comes later (R264). -/
def State.bootRetune (s : State) : State :=
  if s.storedWords = s.usedWords ∨ (s.mode = 1 ∧ s.get RST_BOOT_STS.KIND = 2) then s
  else if s.rst.xoAbsent || s.msyn.failed || s.get MSYN_STS.STATE == 0 then s.useStored
  else
    let s := s.useStored.startAcq
    { s with rst := { s.rst with retuning := true } }

/-- The number of a boot source in RST_BOOT_STS.SRC (R294). -/
def srcCode : BootSrc → Nat
  | .slotA => 0 | .slotB => 1 | .host => 2 | .clone => 3

/-- The cause field of a boot source. -/
def causeField : BootSrc → Fld
  | .slotA => RST_BOOT_STS.CAUSE_A | .slotB => RST_BOOT_STS.CAUSE_B | .host => RST_BOOT_STS.CAUSE_HOST
  | .clone => RST_BOOT_STS.CAUSE_CLONE

/-- R285: an accepted image. -/
def State.acceptImage (s : State) (src : BootSrc) : State :=
  let s := (((s.set (causeField src) 0).set RST_BOOT_STS.SRC (srcCode src)).set RST_BOOT_STS.ACCEPTED 1).bootRetune
  { s with rst := { s.rst with toTry := [], cloneOpen := false, preloaded := true } }

/-- R280: a refused source; the next is tried. -/
def State.refuseSource (s : State) (src : BootSrc) (cause : Nat) : State :=
  let s := s.set (causeField src) cause
  let rest := s.rst.toTry.drop 1
  { s with rst := { s.rst with
      toTry := rest, cloneOpen := s.rst.cloneOpen && src != .clone, refusedAll := rest.isEmpty } }

/-- R311: the security version of an image slot as last checked. -/
def State.noteSecVer (s : State) (src : BootSrc) (v : Option Nat) : State :=
  match src with
  | .slotA => { s with mgmt := { s.mgmt with secVers := s.mgmt.secVers.set 2 v } }
  | .slotB => { s with mgmt := { s.mgmt with secVers := s.mgmt.secVers.set 3 v } }
  | _ => s

/-- BOOT_IMAGE_CHECK (R280, R285): the source in turn is accepted or refused. -/
def execBootImageCheck (src : BootSrc) (img : Image) (s : State) : Host.Outcome State Fault Refusal :=
  done (if s.mode = 1 ∧ s.rst.toTry.head? = some src then
      let r := s.checkImage img none
      if r.1 = 0 then (r.2.acceptImage src).noteSecVer src (some img.header.secVer)
      else (s.refuseSource src r.1).noteSecVer src none
    else s)

/-- CLONE_TIMEOUT (R280): no CLONE record within 1 s of the request. -/
def execCloneTimeout (s : State) : Host.Outcome State Fault Refusal :=
  done (if s.mode = 1 ∧ s.rst.toTry.head? = some .clone ∧ ¬ s.rst.cloneSeen then s.refuseSource .clone 11 else s)

/-- CLONE_DATA (R233): a CLONE record answers the request. Its octets reach the model with the image's check. -/
def execCloneData (_octets : Nat) (s : State) : Host.Outcome State Fault Refusal :=
  done (if s.cloneSeeks then { s with rst := { s.rst with cloneSeen := true } } else s)

/-! ### Host load (R289) -/

/-- HOST_LOAD_CHUNK_CONSUMED (R289): the device has taken WORDS words from the window. -/
def execHostLoadChunkConsumed (s : State) : Host.Outcome State Fault Refusal :=
  done (if s.mode = 10 ∧ s.on RST_HLOAD_CTL.CHUNK then
      let n := s.mgmt.hostLen + 4 * s.get RST_HLOAD_CTL.WORDS
      let s := ((s.set RST_HLOAD_CTL.CHUNK 0).set RST_HLOAD_STS.OCTETS (min n (2 ^ 25 - 1))).cond
        (s.get RST_HLOAD_STS.STATE != 2) (·.set RST_HLOAD_STS.STATE 1)
      { s with mgmt := { s.mgmt with hostLen := n } }
    else s)

/-- HOST_LOAD_CHECK_COMPLETE (R285, R289). -/
def execHostLoadCheckComplete (img : Image) (s : State) : Host.Outcome State Fault Refusal :=
  done (if s.mode = 10 ∧ s.dev.svcNoImage ∧ s.get RST_HLOAD_STS.STATE = 2 then
      let s := s.set RST_HLOAD_CTL.END 0
      let r := s.checkImage img (some s.mgmt.hostLen)
      if r.1 = 0 then (r.2.acceptImage .host).set RST_HLOAD_STS.STATE 3
      else (s.set RST_BOOT_STS.CAUSE_HOST r.1).set RST_HLOAD_STS.STATE 4
    else s)

/-! ### The check of an update (R310) -/

/-- R285, R297, R310: the verdict on an updated slot; an image of the other kind has no valid MAGIC. -/
def State.updCause (s : State) (x : UpdSlot) : Nat :=
  match x with
  | .firmware f => if s.mgmt.updTarget < 2 then fwCause f s.fuse.arb else 3
  | .image img => if s.mgmt.updTarget < 2 then 3 else (s.checkImage img none).1

/-- The security version of an updated slot. -/
def updSecVer : UpdSlot → Nat
  | .firmware f => f.header.secVer
  | .image img => img.header.secVer

/-- UPDATE_CHECK_COMPLETE (R285, R297, R310): the slot is accepted or refused; a failed program or verify gives cause 14. -/
def execUpdateCheckComplete (programmed : Bool) (x : UpdSlot) (s : State) : Host.Outcome State Fault Refusal :=
  done (if s.mgmtRuns ∧ s.get MGMT_UPD_STS.STATE = 2 then
      let cause := if programmed then s.updCause x else 14
      let s := s.set MGMT_UPD_CTL.END 0
      if cause = 0 then
        let s := ((s.set MGMT_UPD_STS.STATE 3).set MGMT_UPD_STS.CAUSE 0).inc .MGMT_UPD_OK_CNT
        { s with mgmt := { s.mgmt with secVers := s.mgmt.secVers.set s.mgmt.updTarget (some (updSecVer x)) } }.storeAfterUpdate
      else s.refuseUpdate cause
    else s)

end Sys2Proof.Machine
end

