-- ==== Sys2Proof/Machine/Apply.lean ====
section
/-! DEFINITION. Write groups, stream events and engine results at the boundary at which they apply (R16 to R18, R56, R66, R121, R122,
R130, R212, R368). -/

namespace Sys2Proof.Machine

/-! ### The verdict on a group (R56, R66, R213) -/

/-- R66: the OUT and PPS words, which BASIC executes too. -/
def Rg.isOut (r : Rg) : Bool :=
  r == .OUT_CFG || r == .OUT_DIV || r == .OUT_DRV || r == .PPS_CFG || r == .PPS_WIDTH || r == .PPS_OFS

/-- The words of a group other than CH_CMD: its configuration words. -/
def Group.cfg (g : Group) : List GWord := g.words.filter (·.r != .CH_CMD)

/-- R66: the verdict on the configuration words of a group by mode. -/
def State.groupByMode (s : State) (g : Group) : Option Nat :=
  if g.cfg.isEmpty then none
  else if s.mode = 11 then some 1
  else if s.mode = 7 ∧ isHost g.port then some 3
  else if s.mode = 9 ∧ (g.cfg.any fun w => !w.r.isOut) then some 1
  else none

/-- R56, R213: the first word of a group that breaks a limit; a group too long for the stream fails with its first word. -/
def State.groupRange (s : State) (g : Group) : Option GWord :=
  if isHost g.port && decide (1024 < g.words.length) && (s.pair.streaming || s.epochRuns || s.peerInStep) then g.words.head?
  else s.firstBad g.cfg

/-- R66: the verdict on TSET of channel `c`. -/
def State.judgeTset (s : State) (p : Port) (c : Nat) : Option Nat :=
  let st := (s.chan c).state
  let step := unless_ (s.on CH_CFG.STEP_EN c) 6
  if s.mode = 2 then step
  else if s.mode = 7 ∧ isHost p then some 3
  else if s.liveModes then (if st = .free ∨ st = .acq then step else some 2)
  else some 1

/-- R66: the verdict on SLEW_CANCEL. -/
def State.judgeCancel (s : State) (p : Port) : Option Nat :=
  if s.mode = 7 ∧ isHost p then some 3 else unless_ (s.liveModes || s.mode == 2) 1

/-- R332: the record and the count of an item rejected at its boundary. -/
def State.rejectAt (s : State) (reason : Nat) (p : Port) (addr : Nat) : State := (s.record reason p addr).inc .DEV_REJECT_CNT

/-! ### The words of an executed group -/

/-- One word of an executed group: OUT and PPS words act on their pin; of ENG_CHMAP only PROG is written, ENGIDX moves by a takeover
(R133). -/
def State.applyWord (s : State) (g : GWord) : State :=
  if g.r = .CH_CMD then s
  else
    let w := mergeMask (s.rd g.r g.i) g.w (if g.r = .ENG_CHMAP then g.r.info.cfg else g.r.maskAt g.i)
    let s := if g.r.isOut then s.applyOutWord { g with w := w } else s.wr g.r g.i w
    s.touched g.r

/-- R138: engine `e` serves no channel any more: a spare that is not retired is free. -/
def State.releaseSpare (s : State) (e : Nat) : State :=
  s.cond (decide (512 ≤ e) && decide (e < 528) && !s.engRetired e) (·.setBit ENG_SPARE_FREE.BITS (e - 512) true)

/-- R133, R130: a host write of ENGIDX moves the channel through a takeover to a free spare; a spare that a takeover under way had
assigned, and a spare that served, become free. -/
def State.remap (s : State) (c e : Nat) : State :=
  if e = s.engineOf c then s
  else
    let old := s.engineOf c
    let s := (s.chan c).takeover.elim s fun t => s.releaseSpare t.spare
    let s := (s.releaseSpare old).setBit ENG_SPARE_FREE.BITS (e - 512) false
    let s := s.set ENG_POOL.SPARES_FREE (popCount (s.get ENG_SPARE_FREE.BITS) 16)
    let s := { s with posts := s.posts.filter (·.2 != old) }
    (s.setChan c { s.chan c with takeover := some ⟨e, false, false⟩ }).freeze c

/-- R368: the live P of a channel whose P0 a group has changed from `old`. -/
def State.rebase (s : State) (c old : Nat) : State :=
  let x := s.chan c
  let new := s.p0 c
  if new = old then s
  else (s.setChan c (match x.state with
    | .free => { x with p := new, keptRate := false, ovP := true }
    | .frozen => { x with frozenP0 := some (x.frozenP0.getD old) }
    | _ => { x with p := carryRate new x.p old, ovP := true, restart := true })).syncPattern c

/-- R121: a program starts on channel `c`; a result of the old one that was due is discarded and counted. -/
def State.changeProgram (s : State) (c : Nat) : State :=
  let x := s.chan c
  let s := s.cond (x.posted.any fun q => decide (q.applyAt ≤ s.dev.tick)) (·.inc .CH_OVERRIDE_CNT c)
  let s := s.startProgram c s.dev.reqInForce
  s.cond (x.state == .frozen) fun s =>
    s.setChan c { s.chan c with held := .free, frozenP0 := some ((s.chan c).frozenP0.getD (s.p0 c)) }

/-- R63: EN cleared: the channel enters FREE, a FROZEN one when it leaves FROZEN. -/
def State.disable (s : State) (c : Nat) : State :=
  match (s.chan c).state with
  | .free => s
  | .frozen => s.setChan c { s.chan c with held := .free, frozenP0 := some ((s.chan c).frozenP0.getD (s.p0 c)) }
  | _ => s.toFree c false

/-- R122: a change of K takes effect from the next iteration: the new interval counts from it. `k` is the old interval. -/
def State.rephase (s : State) (c k : Nat) : State :=
  let x := s.chan c
  if s.interval c = k then s
  else s.setChan c { x with t0 := x.t0.map fun t => if s.dev.tick ≤ t then t else t + (s.dev.tick - t + k - 1) / k * k }

/-- What the words of a group change in channel `c` beside their registers. `b` is the state before the group, `has r` whether the group
holds word `r` of the channel (R18, R55, R60, R63, R84, R121, R368). -/
def State.applyChannel (s b : State) (c : Nat) (has : Rg → Bool) (engidx : Option Nat) : State :=
  let s := s.cond (has .CH_PRES) fun s => (s.setChan c { s.chan c with resAcc := 0, long := false }).syncPattern c
  let s := s.cond (has .CH_PHOFS) fun s => s.setChan c { s.chan c with
    thetaTarget := signedOf 32 (s.rd .CH_PHOFS c).toNat * (tuTheta : Nat), ovPhase := true, restart := true }
  let s := s.cond (has .CH_LOCK) fun s => s.setChan c { s.chan c with lockRun := 0, unlRun := 0 }
  let s := s.rebase c (b.p0 c)
  let s := s.cond (b.chEn c && !s.chEn c) (·.disable c)
  let s := s.cond (has .CH_HOP) fun s => s.startArming c (s.get CH_HOP.ARM_IDX c)
  let s := if s.prog c ≠ b.prog c then s.changeProgram c else s.rephase c (b.interval c)
  engidx.elim s (s.remap c)

/-- The channels that the words of a group name, each once, in ascending order. -/
def Group.channels (g : Group) : List Nat :=
  (List.range 512).filter fun c => g.words.any fun w => w.channel == some c

/-- R61: TSET of channel `c`, executed or rejected. -/
def State.tset (s : State) (p : Port) (c : Nat) : State :=
  match s.judgeTset p c with
  | some e => s.rejectAt e p (Rg.CH_CMD.key c)
  | none =>
    let sec := s.get CH_TSET_SH.SEC_HI c * 2 ^ 32 + s.get CH_TSET_SL.SEC_LO c
    let s := s.timeStep c (sec * tuSec + s.get CH_TSET_NS.NS c * tuNs + s.get CH_TSET_FR.FRAC c * tuTheta)
    s.setChan c { s.chan c with ovPhase := true, restart := true }

/-- R62: SLEW_CANCEL of channel `c`, executed or rejected. -/
def State.slewCancel (s : State) (p : Port) (c : Nat) : State :=
  match s.judgeCancel p with
  | some e => s.rejectAt e p (Rg.CH_CMD.key c)
  | none =>
    let x := s.chan c
    let s := s.setChan c { x with adj := 0, thetaTarget := x.thetaLive, ovPhase := true, restart := true }
    s.wr .CH_PHOFS c (BitVec.ofInt 32 (x.thetaLive / (tuTheta : Nat)))

/-- The commands of a group on channel `c`. -/
def State.groupCmds (s : State) (g : Group) (c : Nat) : State :=
  let bits := (g.words.filter fun w => w.r == .CH_CMD && w.i == c).foldl (fun n w => n.lor w.w.toNat) 0
  let s := s.cond (bitOf bits 0) (·.tset g.port c)
  s.cond (bitOf bits 1) (·.slewCancel g.port c)

/-- The configuration words of an executed group. On a standby whose epoch runs a host write of channel state aborts the epoch (R232). -/
def State.groupWords (s : State) (g : Group) : State :=
  if g.cfg.isEmpty then s
  else
    let b := s
    let s := g.cfg.foldl State.applyWord s
    let s := g.channels.foldl (fun s c =>
      s.applyChannel b c (fun r => g.words.any fun w => w.r == r && w.i == c)
        ((g.words.filter fun w => w.r == .ENG_CHMAP && w.i == c).getLast?.map fun w => ENG_CHMAP.ENGIDX.of w.w)) s
    s.cond (isHost g.port && s.mode == 8 && s.epochRuns) (·.abortEpoch 3)

/-- R17, R56, R66: a write group at its boundary, whole or not at all. A group that breaks a limit takes its commands with it. -/
def State.applyGroup (s : State) (g : Group) : State :=
  let cmds (s : State) : State := (List.range 512).foldl (fun s c => s.groupCmds g c) s
  match s.groupByMode g with
  | some e => cmds (s.rejectAt e g.port (g.cfg.head?.elim 0 GWord.addr))
  | none =>
    match s.groupRange g with
    | some w => s.rejectAt 4 g.port w.addr
    | none => cmds (s.groupWords g)

/-! ### Events of the stream (R212) -/

/-- R212: a word of a CONFIG record that is no group word: DEV_MODE_REQ and ENG_CMD.RESTART. -/
def State.configWord (s : State) (r : Rg) (w : Word) : State :=
  match r with
  | .DEV_MODE_REQ => s.takeModeReq (w.toNat % 16)
  | .ENG_CMD => (s.set ENG_CMD.IDX (ENG_CMD.IDX.of w)).set ENG_CMD.RESTART 1
  | _ => s

/-- One CONFIG record: words of its group gather until the record that ends it; `acc` holds those gathered, and the groups complete. -/
def State.configRecord (s : State) (pairs : List (Nat × Word)) (eog : Bool) (acc : List GWord × List Group) :
    State × List GWord × List Group :=
  let named := pairs.filterMap fun (kw : Nat × Word) => (Rg.ofKey kw.1).map fun (ri : Rg × Nat) => GWord.mk ri.1 ri.2 kw.2
  let s := named.foldl (fun s g => s.configWord g.r g.w) s
  let s := s.cond (s.isStandby && s.get PAIR_EPOCH_STS.PHASE == 3) fun s =>
    { s with pair := { s.pair with copyWords := s.pair.copyWords ++ pairs } }
  let ws := acc.1 ++ named.filter fun g => g.r.grouped
  if eog then (s, [], if ws.isEmpty then acc.2 else acc.2 ++ [⟨.stream, ws⟩]) else (s, ws, acc.2)

/-- Whether an event is a hop, which enters the router in its own cycle (R100). -/
def StreamEv.isHop (e : StreamEv) : Bool := match e.ev with
  | .hop _ => true
  | _ => false

/-- R212: every event whose EXEC boundary has come; the groups of CONFIG records follow the host's own. A group whose records fall on several
boundaries waits for its end. -/
def State.runStream (s : State) : State :=
  let t := s.dev.tick
  let due := s.pair.stream.filter fun e => !e.isHop && decide (e.exec ≤ t)
  let s := { s with pair := { s.pair with
    stream := s.pair.stream.filter fun e => if e.isHop then decide (t ≤ e.exec) else decide (t < e.exec) } }
  let r := due.foldl (fun (x : State × List GWord × List Group) e => match e.ev with
    | .config _ _ ps eog => x.1.configRecord ps eog x.2
    | ev => (x.1.runEvent e.exec ev, x.2)) (s, s.pair.cfgOpen, [])
  { r.1 with dev := { r.1.dev with groups := r.1.dev.groups ++ r.2.2 }, pair := { r.1.pair with cfgOpen := r.2.1 } }

/-- R16, R17: every write group whose end has been seen. -/
def State.applyGroups (s : State) : State :=
  let gs := s.dev.groups
  if gs.isEmpty then s
  else
    let s := gs.foldl State.applyGroup s
    ({ s with dev := { s.dev with groups := [] } }).syncShadow

/-- R121: ENG_CMD.RESTART at the boundary after the write; the channel is the one that IDX names there. -/
def State.restartBoundary (s : State) : State :=
  if s.on ENG_CMD.RESTART then
    (s.cond (s.liveModes && decide (s.get ENG_CMD.IDX < 512)) fun s => s.changeProgram (s.get ENG_CMD.IDX)).set ENG_CMD.RESTART 0
  else s

/-! ### Freezing and engine results -/

/-- R20, R130: channels whose engine was retired, and in BASIC all of them, enter FROZEN. -/
def State.freezeBoundary (s : State) : State :=
  let all := s.dev.freezePend
  let s := State.upto 512 (fun c s => if all || (s.chan c).freezePend then s.freeze c else s) s
  { s with dev := { s.dev with freezePend := false } }

/-- R87: the hop request of a result enters the router: for the channel itself, or for its group. -/
def State.engineHop (s : State) (c : Nat) (q : HopReq) : State :=
  match q with
  | .own => s.trigger .engine ⟨true, c, 0⟩ (s.instantH 0)
  | .ownGroup =>
    if s.on CH_HOP.GRP_EN c then s.trigger .engine ⟨false, 0, 2 ^ s.get CH_HOP.GROUP c⟩ (s.instantH 0)
    else s.inc .HOP_IGNORED_CNT

/-- R16, R122: the result of channel `c` that its boundary releases. A spare's first result ends the freeze (R130). -/
def State.applyResult (s : State) (c : Nat) (q : Posted) : State :=
  let x := s.chan c
  let hop := x.hopDone.isSome
  let s := s.setChan c { x with
    ovP := x.ovP || hop || (x.state == .frozen && x.frozenP0.isSome), ovPhase := x.ovPhase || hop }
  let s := (s.applyPosted c q).follow c q
  let s := if x.state = .frozen then
      let y := s.chan c
      ({ s with chans := s.chans }.setChan c { y with takeover := none }).thaw c y.held
    else s
  q.res.hop.elim s (s.engineHop c)

/-- R130: a takeover whose channel needs no result ends at the boundary after it started. -/
def State.idleTakeover (s : State) (c : Nat) : State :=
  let x := s.chan c
  if x.state = .frozen ∧ x.takeover.any (·.started)
      ∧ (!s.chEn c || !progPosts (s.prog c) || x.held == .free || !s.enginesRun) then
    (s.setChan c { x with takeover := none }).thaw c x.held
  else s

/-- R130 step 3: the spare starts its catch-up iteration at the first boundary after its load; it selects from the states at that
boundary (R133). -/
def State.startCatchUp (s : State) (c : Nat) : State :=
  let x := s.chan c
  match x.takeover with
  | some k =>
    if k.loaded && !k.started && x.state == .frozen && s.mode != 9
        && (!progPosts (s.prog c) || !s.enginesRun || s.msyn.lockTick) then
      let s := (s.setChan c { x with state := x.held }).cond s.enginesRun (·.selectRef c)
      let y := s.chan c
      s.setChan c { y with
        state := .frozen, takeover := some { k with started := true }
        t0 := if progPosts (s.prog c) then some s.dev.tick else y.t0 }
    else s
  | none => s

/-- R122: channel `c` at a boundary at which the release set `late` was missed. -/
def State.resultOf (s : State) (late : List Nat) (c : Nat) : State :=
  let x := s.chan c
  match x.posted with
  | some q =>
    if late.contains (s.engineOf c) && !q.late then
      s.setChan c { x with posted := some { q with applyAt := q.applyAt + 1, late := true } }
    else if q.applyAt ≤ s.dev.tick then s.applyResult c q
    else s
  | none => s.idleTakeover c

/-- R122, R132: the release set of the boundary; results that missed it wait one tick (R19). In BASIC no result applies and no takeover
ends: channels stay FROZEN at their last words (R22). -/
def State.resultsBoundary (s : State) : State :=
  let r := s.collect
  State.upto 512 (fun c s =>
    let s := if s.mode = 9 then s.setChan c { s.chan c with posted := none } else s.resultOf r.1 c
    let s := s.setChan c { s.chan c with ovP := false, ovPhase := false }
    s.startCatchUp c) r.2

end Sys2Proof.Machine
end

