-- ==== Sys2Proof/Machine/Tick.lean ====
section
/-! DEFINITION. The apply tick (01 R15 to R25): the boundary of a tick, in the order of R16, the transitions of the device mode, and what
each block does at a boundary. -/

namespace Sys2Proof.Machine

/-- Whether `v` is a request that stands (R24): automatic, Hold FREERUN, Force HOLDOVER. -/
def reqStands (v : Nat) : Bool := v == 15 || v == 3 || v == 6

/-! ### The tick and the master -/

/-- R15: the tick number: 0 at the first boundary, one more at every other. -/
def State.countTick (s : State) : State :=
  if s.dev.ticking then { s with dev := { s.dev with tick := (s.dev.tick + 1) % 2 ^ 64 } }
  else { s with dev := { s.dev with ticking := true } }

/-- R217, R224: the rate trim over a tick of a unit that paces or holds its trim. -/
def State.trimTick (s : State) (cycles : Nat) : State :=
  if s.on PAIR_STS.PACED || s.on PAIR_STS.TRIM_HELD then
    { s with pair := { s.pair with trimAcc := s.pair.trimAcc + cycles * signedOf 32 (s.rd .PAIR_TRIM).toNat } }
  else s

/-- R45, R46: the master-cycle count over a tick, and its sample. -/
def State.sampleMaster (s : State) (cycles : Nat) : State :=
  if !s.msyn.counting then s
  else
    let mcc := (s.msyn.mcc + cycles) % 2 ^ 64
    let slip := s.msyn.sample.isSome && 1 < ((cycles : Int) - 12800).natAbs
    (({ s with msyn := { s.msyn with mcc := mcc, sample := some mcc } }).trimTick cycles).cond slip (·.inc .MSYN_TICKSLIP_CNT)

/-- R38, R53: the live readings of a loop that runs closed: the tuning word, and the phase errors in ps, saturating. A held word stands.
BAND_MARGIN clears when the word has returned. -/
def State.showLoop (s : State) (m : MasterSample) : State :=
  let st := s.get MSYN_STS.STATE
  if st < 3 ∨ st = 7 ∨ s.mode = 11 then s
  else
    let s := s.set MSYN_TUNE.TUNE (m.tune % 2 ^ 20)
    let s := s.cond (!outsideMargin (m.tune % 2 ^ 20)) (·.set MSYN_STS.BAND_MARGIN 0)
    (s.set MSYN_PHERR.PHMAX (min m.phMax 65535)).set MSYN_PHERR.PHERR
      ((BitVec.ofInt 16 (clampInt m.phErr (-32768) 32767)).toNat)

/-- R39, R48, R51: the master at a boundary in any mode: its bandwidth code, the lane references after the first lock, and whether the
engines of the tick that begins run. -/
def State.masterTick (s : State) : State :=
  let s := { s with msyn := { s.msyn with bw := s.get MSYN_LOOP.BW, lockTick := s.on MSYN_STS.LOCK } }
  s.cond (s.msyn.everLocked && !s.msyn.intref && s.get MSYN_STS.LANE_SRC == 0) fun s =>
    (s.set MSYN_STS.LANE_SRC 7).inc .MSYN_LANE_SW_CNT

/-- R50: the outputs of a command of SERVICE unmute after lock, and one that waits starts. -/
def State.masterBoundary (s : State) : State :=
  let s := s.cond (s.msyn.cmdMute && s.on MSYN_STS.LOCK && s.rd .MSYN_CMD == 0) fun s =>
    { s with msyn := { s.msyn with cmdMute := false } }
  match s.msyn.svcStart with
  | some p => s.cond (s.mode == 10) fun s =>
    let t := s.svcMasterStart p
    t.cond t.msyn.cmdMute State.muteAllNow
  | none => s

/-- R57: a counter starts at the first boundary at which its channel is enabled and the master has locked. -/
def State.startCounter (s : State) (c : Nat) : State :=
  let x := s.chan c
  if s.chEn c && s.msyn.counting && !x.running then s.setChan c { x with running := true } else s

/-! ### Channels -/

/-- R24, R54: Hold FREERUN stops a steered channel; the words it keeps end with the request. -/
def State.holdFree (s : State) (c : Nat) : State :=
  let x := s.chan c
  let req := s.dev.reqInForce
  if req = 3 ∧ s.steered c ∧ (x.state = .acq ∨ x.state = .lock ∨ x.state = .overcast) then s.toFree c true
  else if req ≠ 3 ∧ x.state = .free ∧ x.keptRate then s.toFree c false
  else s

/-- R63, R114, R124, R127: the state of one channel at a boundary; on leaving OVERCAST the highest-ranked QUALIFIED entry is selected. -/
def State.steerState (s : State) (c : Nat) : State :=
  let was := (s.chan c).state
  let s := s.stateRules c s.dev.reqInForce
  let s := if (s.chan c).state = .acq ∧ s.steered c then
      (if was = .overcast then (s.bestEntry c).elim s (s.setSel c) else s.selectRef c)
    else s
  s.holdFree c

/-- R48, R114: selection and state of one channel at a boundary at which engines run. While the master is unlocked the states stand. -/
def State.steerChannel (s : State) (c : Nat) : State :=
  let s := s.selectRef c
  (s.cond s.msyn.lockTick (·.steerState c)).recordRate c

/-- R24: the request in force from this boundary. -/
def State.takeRequest (s : State) : State :=
  let v := s.get DEV_MODE_REQ.REQ
  s.cond (reqStands v && s.mode != 10) fun s => { s with dev := { s.dev with reqInForce := v } }

/-- R14, R122, R25: the loop programs start as the device begins to run; FROZEN channels leave for ACQ or FREE. -/
def State.startPrograms (s : State) : State :=
  if !s.dev.progsDue then s
  else
    let s := { s with dev := { s.dev with progsDue := false } }
    State.upto 512 (fun c s =>
      let s := s.cond ((s.chan c).state == .frozen && (s.chan c).takeover.isNone) fun s =>
        if s.progSteered c then s.thaw c .acq else s.toFree c false
      if progPosts (s.prog c) then s.setChan c { s.chan c with t0 := some s.dev.tick, restart := true } else s) s

/-! ### Transitions of the device mode (R25) -/

/-- R341: AUTO issues COMMIT at the boundary at which the device leaves BOOT. -/
def State.bootCommit (s : State) : State := s.cond (s.on CFG_CRC_CTL.AUTO) State.startCommit

/-- The device begins to run: its mode is not yet derived, so it stands at FREERUN until the states of this boundary are known. -/
def State.beginRun (s : State) : State :=
  (({ s with rst := { s.rst with bootMute := false } }.set DEV_MODE.MODE 3).takeRequest).startPrograms

/-- R25, R280, R289: SERVICE entered from BOOT without an image. -/
def State.serviceEmpty (s : State) : State :=
  { s with dev := { s.dev with svcNoImage := true } }.setMode 10

/-- R25, R287, R288: BOOT at a boundary. -/
def State.bootBoundary (s : State) : State :=
  let acc := s.on RST_BOOT_STS.ACCEPTED
  if !acc && !s.rst.refusedAll then s
  else if s.rst.xoAbsent then (s.enterBasic 8).bootCommit
  else if s.rst.retuning then s
  else if s.msyn.failed then (s.enterBasic 9).bootCommit
  else if !s.on MSYN_STS.LOCK then s
  else if !acc then s.serviceEmpty.bootCommit
  else if s.get RST_BOOT_STS.KIND = 1 then
    ({ s with cal := { s.cal with startDue := true } }.setMode 2).bootCommit
  else s.beginRun.bootCommit

/-- R245, R289: SELFCAL ends when its rotation has completed. -/
def State.selfcalBoundary (s : State) : State := if s.rst.selfcalDone then s.beginRun else s

/-- R232: an active whose standby runs an epoch ends it as it enters SERVICE. -/
def State.serviceAborts (s : State) : State :=
  s.cond (s.isActive && s.pair.streaming && s.epochRuns) fun s =>
    (s.inc .PAIR_EPOCH_ABORT_CNT).set PAIR_EPOCH_STS.LAST_ABORT 7

/-- R24, R222, R232: the request for SERVICE takes effect: the active yields, a standby leaves step and its epoch. -/
def State.enterService (s : State) : State :=
  let s := (s.serviceAborts.yieldNow 4).abortEpoch 7
  let s := s.cond s.isStandby fun s =>
    let s := (((s.set PAIR_STS.IN_STEP 0).set PAIR_STS.PACED 0).set PAIR_STS.GRID_OK 0).set PAIR_STS.ALIGNED 0
    let s := s.cond (s.mode == 7) fun s => { s.takeOwnQl with pair := { s.pair with stream := [], cfgOpen := [] } }
    { s.endPairCmd with pair := { s.pair with
      holdStep := false, streamInputs := [], seen := [], rxSseq := none, revertAsk := false, detachPend := false
      takeoverPend := false, handoverAt := none, commitAt := none, epochDue := true } }
  s.setMode 10

/-- R25: SERVICE ends: a standby is detached; any other unit stands at FREERUN until the states of this boundary are known. -/
def State.leaveService (s : State) : State :=
  let s := { s with dev := { s.dev with reqInForce := 15 } }.startPrograms
  if s.isStandby then { s.setMode 8 with pair := { (s.setMode 8).pair with epochDue := true } }
  else s.set DEV_MODE.MODE 3

/-- R24, R25: the requests that change the mode, in modes 3 to 8 and 10. -/
def State.requestBoundary (s : State) : State :=
  let v := s.get DEV_MODE_REQ.REQ
  if 3 ≤ s.mode ∧ s.mode ≤ 8 ∧ v = 10 then s.enterService
  else if s.mode = 10 ∧ v = 15 ∧ ¬ s.dev.svcNoImage then s.leaveService
  else s

/-- R23, R25, R48: the mode after application; while the master is unlocked it stands. `before` is the mode in which the boundary began. -/
def State.settleMode (s : State) (before : Nat) : State :=
  if before = 1 ∨ before = 2 ∨ before = 10 then
    if s.isRun then ((s.set DEV_MODE.MODE before).setMode s.runMode).startForming else s
  else s.cond s.msyn.lockTick State.deriveMode

/-- R244, R252: a rotation is due at the first boundary in modes 3 to 8 after a release of L2; a store may be due. -/
def State.calBoundary (s : State) : State :=
  (s.cond (s.cal.l2Trigger && decide (3 ≤ s.mode) && decide (s.mode ≤ 8)) fun s =>
    { s.calTrigger with cal := { s.calTrigger.cal with l2Trigger := false } }).storeBoundary

/-! ### The boundary -/

/-- R63: lock declarations and losses whose counts are complete and whose event has not come belong to the boundary that ends here. -/
def State.flushLocks (s : State) : State :=
  s.cond s.msyn.lockTick fun s => (State.upto 512 (fun c s => (s.declareLock c).loseLock c) s).deriveMode

/-- The outputs, pins and messages of a boundary (R71, R143, R184, R207, R335, R337). -/
def State.outward (s : State) : State :=
  let s := State.upto 128 (fun n s => s.outBoundary n) s
  let s := State.upto 16 (fun m s => s.ppsBoundary m) s
  let s := s.sendTimeWords.streamHops.sendPairFrame
  let s := s.cond (!s.on RST_STS.L1I) State.bankBoundary
  s.mboxAuto.snapBoundary

/-- R22: a boundary under L2: the tick, the channels and the time words go on. -/
def State.tickL2 (s : State) : State :=
  let s := State.upto 16 (fun m s => s.ppsPulse m) s
  let s := State.upto 512 (fun c s => ((s.startCounter c).hopBoundary c).drizzleStep c) s
  s.sendTimeWords

/-- R22: a boundary in TEST: write groups are rejected; nothing else acts. -/
def State.tickTest (s : State) : State := s.applyGroups

/-- R305: the boundary that ends a second: what it has gathered belongs to no other. -/
def State.newSecond (s : State) : State :=
  s.cond (s.dev.tick % 1000000 == 1) fun s => { s with mgmt := { s.mgmt with sec := [] } }

/-- R16: a boundary in BOOT and every mode that follows. -/
def State.tickLive (s : State) : State :=
  let before := s.mode
  let s := State.upto 16 (fun m s => s.ppsPulse m) s.newSecond
  let s := (State.upto 512 (fun c s => s.hopPending c) s).hopRecords
  let s := s.masterBoundary.runStream.applyGroups.restartBoundary
  let s := s.takeRequest.freezeBoundary.resultsBoundary
  let s := if before = 1 then s.bootBoundary else if before = 2 then s.selfcalBoundary else s.requestBoundary
  let s := s.cond s.enginesRun fun s => State.upto 512 (fun c s => s.steerChannel c) s
  let s := State.upto 512 (fun c s => ((s.startCounter c).hopBoundary c).drizzleStep c) s
  let s := ((s.settleMode before).calBoundary).pairBoundary
  let s := s.cond s.enginesRun State.flowsBoundary
  s.outward

/-- R16: the boundary of the next tick. While the level is L3 or L4, and under an L2 that still holds after
it, the tick does not count (R15). -/
def State.tickBoundary (s : State) (m : MasterSample) : State :=
  if s.rst.cold then s
  else
    let s := s.coherentSnap.flushLocks
    let s := (((s.countTick).sampleMaster m.cycles).showLoop m).masterTick
    if s.mode = 11 then s.tickTest
    else
      let s := State.upto 512 (fun c s => s.advance c) s
      if s.mode = 0 then s.tickL2 else s.tickLive

/-- APPLY_TICK_BOUNDARY (R15, R16). -/
def execApplyTickBoundary (m : MasterSample) (s : State) : Host.Outcome State Fault Refusal := done (s.tickBoundary m)

end Sys2Proof.Machine
end

