-- ==== Sys2Proof/Machine/Dispatch.lean ====
section
/-! DEFINITION. The dispatch: one arm per command of Syntax.lean, each one direct call of its meaning. -/

namespace Sys2Proof.Machine

/-- The effect of one command on everything but the queue of waiting commands. -/
def exec (i : Instr) (s : State) : Host.Outcome State Fault Refusal :=
  match i with
  | .applyTickBoundary m => Sys2Proof.Machine.execApplyTickBoundary m s
  | .registerWrite port addr data => Sys2Proof.Machine.execRegisterWrite port addr data s
  | .spiWrite addr words => Sys2Proof.Machine.execSpiWrite addr words s
  | .spiWriteFixed addr words => Sys2Proof.Machine.execSpiWriteFixed addr words s
  | .spiRead addr n => Sys2Proof.Machine.execSpiRead addr n s
  | .spiReadFixed addr n => Sys2Proof.Machine.execSpiReadFixed addr n s
  | .spiStatus => Sys2Proof.Machine.execSpiStatus s
  | .spiBadOpcode opcode => Sys2Proof.Machine.execSpiBadOpcode opcode s
  | .spiTransactionEnd short partialWord => Sys2Proof.Machine.execSpiTransactionEnd short partialWord s
  | .inBandRequest req => Sys2Proof.Machine.execInBandRequest req s
  | .inBandSessionRequest dieId macOk swPort origin => Sys2Proof.Machine.execInBandSessionRequest dieId macOk swPort origin s
  | .devKeyWrite port data => Sys2Proof.Machine.execDevKeyWrite port data s
  | .devGateWrite port data => Sys2Proof.Machine.execDevGateWrite port data s
  | .gateRampStep b => Sys2Proof.Machine.execGateRampStep b s
  | .modeReqAutomatic port => Sys2Proof.Machine.execModeReqAutomatic port s
  | .modeReqHoldFreerun port => Sys2Proof.Machine.execModeReqHoldFreerun port s
  | .modeReqForceHoldover port => Sys2Proof.Machine.execModeReqForceHoldover port s
  | .modeReqService port => Sys2Proof.Machine.execModeReqService port s
  | .modeReqInvalid port value => Sys2Proof.Machine.execModeReqInvalid port value s
  | .mailboxGo port data => Sys2Proof.Machine.execMailboxGo port data s
  | .mailboxOpenRead port => Sys2Proof.Machine.execMailboxOpenRead port s
  | .mailboxCloseRead port => Sys2Proof.Machine.execMailboxCloseRead port s
  | .snapshotTake port data engOfs => Sys2Proof.Machine.execSnapshotTake port data engOfs s
  | .snapshotCoherentCapture => Sys2Proof.Machine.execSnapshotCoherentCapture s
  | .indAddrWrite port data => Sys2Proof.Machine.execIndAddrWrite port data s
  | .indDataRead port => Sys2Proof.Machine.execIndDataRead port s
  | .indDataWrite port data => Sys2Proof.Machine.execIndDataWrite port data s
  | .cfgCrcCommit port data => Sys2Proof.Machine.execCfgCrcCommit port data s
  | .cfgCrcRefWrite port data => Sys2Proof.Machine.execCfgCrcRefWrite port data s
  | .crcScanStart => Sys2Proof.Machine.execCrcScanStart s
  | .crcScanEnd => Sys2Proof.Machine.execCrcScanEnd s
  | .retune port => Sys2Proof.Machine.execRetune port s
  | .relock port => Sys2Proof.Machine.execRelock port s
  | .bandsel port => Sys2Proof.Machine.execBandsel port s
  | .acquisitionSettleDone => Sys2Proof.Machine.execAcquisitionSettleDone s
  | .bandSearchDone vco band tune => Sys2Proof.Machine.execBandSearchDone vco band tune s
  | .masterLockDeclared durationUs tune => Sys2Proof.Machine.execMasterLockDeclared durationUs tune s
  | .acquisitionAttemptTimeout => Sys2Proof.Machine.execAcquisitionAttemptTimeout s
  | .masterUnlock => Sys2Proof.Machine.execMasterUnlock s
  | .masterLockRecovered => Sys2Proof.Machine.execMasterLockRecovered s
  | .unlockGraceExpired => Sys2Proof.Machine.execUnlockGraceExpired s
  | .masterUnlockTimeout => Sys2Proof.Machine.execMasterUnlockTimeout s
  | .xoReferenceMissing => Sys2Proof.Machine.execXoReferenceMissing s
  | .xoReferenceResumed => Sys2Proof.Machine.execXoReferenceResumed s
  | .tset port c => Sys2Proof.Machine.execTset port c s
  | .slewCancel port c => Sys2Proof.Machine.execSlewCancel port c s
  | .outCtlWrite port data => Sys2Proof.Machine.execOutCtlWrite port data s
  | .outputStart pin => Sys2Proof.Machine.execOutputStart pin s
  | .outputStop pin => Sys2Proof.Machine.execOutputStop pin s
  | .driverChangeMuteEnd n => Sys2Proof.Machine.execDriverChangeMuteEnd n s
  | .loopbackMiss pin => Sys2Proof.Machine.execLoopbackMiss pin s
  | .loopbackExtra pin => Sys2Proof.Machine.execLoopbackExtra pin s
  | .loopbackFaultClear pin => Sys2Proof.Machine.execLoopbackFaultClear pin s
  | .sliceSwap n => Sys2Proof.Machine.execSliceSwap n s
  | .channelLockDeclared c => Sys2Proof.Machine.execChannelLockDeclared c s
  | .channelLockLost c => Sys2Proof.Machine.execChannelLockLost c s
  | .hopPinEdge pin cyc => Sys2Proof.Machine.execHopPinEdge pin cyc s
  | .hopHoldoffExpired p => Sys2Proof.Machine.execHopHoldoffExpired p s
  | .hopCommand port data cyc => Sys2Proof.Machine.execHopCommand port data cyc s
  | .hopArmingComplete c => Sys2Proof.Machine.execHopArmingComplete c s
  | .hopTakesEffect c => Sys2Proof.Machine.execHopTakesEffect c s
  | .refinActivityTimeout inp => Sys2Proof.Machine.execRefinActivityTimeout inp s
  | .refinSignalReturn inp => Sys2Proof.Machine.execRefinSignalReturn inp s
  | .refinFreqGateClose inp offset => Sys2Proof.Machine.execRefinFreqGateClose inp offset s
  | .refinSoakExpired inp => Sys2Proof.Machine.execRefinSoakExpired inp s
  | .refinHitHoldExpired inp => Sys2Proof.Machine.execRefinHitHoldExpired inp s
  | .refinHitPersistExpired inp => Sys2Proof.Machine.execRefinHitPersistExpired inp s
  | .refinLockout port inp => Sys2Proof.Machine.execRefinLockout port inp s
  | .refinRelease port inp => Sys2Proof.Machine.execRefinRelease port inp s
  | .refConfigWrite port inp word data => Sys2Proof.Machine.execRefConfigWrite port inp word data s
  | .waitToRestoreExpired entry => Sys2Proof.Machine.execWaitToRestoreExpired entry s
  | .engineIteration c reading result => Sys2Proof.Machine.execEngineIteration c reading result s
  | .engineRestart port c => Sys2Proof.Machine.execEngineRestart port c s
  | .engineRetireCommand port e => Sys2Proof.Machine.execEngineRetireCommand port e s
  | .engineParityError e => Sys2Proof.Machine.execEngineParityError e s
  | .engineWatchdogExpired e => Sys2Proof.Machine.execEngineWatchdogExpired e s
  | .engineDmemUncorrectable e => Sys2Proof.Machine.execEngineDmemUncorrectable e s
  | .engineOverrun e => Sys2Proof.Machine.execEngineOverrun e s
  | .spareLoadComplete c => Sys2Proof.Machine.execSpareLoadComplete c s
  | .pstoreScrub corrected uncorrectable => Sys2Proof.Machine.execPstoreScrub corrected uncorrectable s
  | .twlHopMessage type seq payload crc cyc => Sys2Proof.Machine.execTwlHopMessage type seq payload crc cyc s
  | .twlStampAck type seq tag status stamp crc => Sys2Proof.Machine.execTwlStampAck type seq tag status stamp crc s
  | .twlRxBadMessage body crc => Sys2Proof.Machine.execTwlRxBadMessage body crc s
  | .twlRxBlockLock => Sys2Proof.Machine.execTwlRxBlockLock s
  | .twlRxBlockLockLoss => Sys2Proof.Machine.execTwlRxBlockLockLoss s
  | .stampTagExpired tag => Sys2Proof.Machine.execStampTagExpired tag s
  | .announceReceiptTimeout f => Sys2Proof.Machine.execAnnounceReceiptTimeout f s
  | .syncReceiptTimeout f => Sys2Proof.Machine.execSyncReceiptTimeout f s
  | .originSyncDue k => Sys2Proof.Machine.execOriginSyncDue k s
  | .originAnnounceDue k => Sys2Proof.Machine.execOriginAnnounceDue k s
  | .delayReqDue f => Sys2Proof.Machine.execDelayReqDue f s
  | .pdelayReqDue f => Sys2Proof.Machine.execPdelayReqDue f s
  | .exchangeResponseTimeout f => Sys2Proof.Machine.execExchangeResponseTimeout f s
  | .esmcQlTimeout inp => Sys2Proof.Machine.execEsmcQlTimeout inp s
  | .esmcInfoPduDue k => Sys2Proof.Machine.execEsmcInfoPduDue k s
  | .esmcEventPduSend k => Sys2Proof.Machine.execEsmcEventPduSend k s
  | .mirrorFrameArrival lane octets => Sys2Proof.Machine.execMirrorFrameArrival lane octets s
  | .mirBlockLockLoss lane => Sys2Proof.Machine.execMirBlockLockLoss lane s
  | .parsePassStart => Sys2Proof.Machine.execParsePassStart s
  | .parsePassDecision parseLane => Sys2Proof.Machine.execParsePassDecision parseLane s
  | .frameRelease lane => Sys2Proof.Machine.execFrameRelease lane s
  | .reorderTimeout lane => Sys2Proof.Machine.execReorderTimeout lane s
  | .fragmentEntryAged e => Sys2Proof.Machine.execFragmentEntryAged e s
  | .bankSwap port => Sys2Proof.Machine.execBankSwap port s
  | .slowPathEntryConsumed => Sys2Proof.Machine.execSlowPathEntryConsumed s
  | .heartbeatToggle => Sys2Proof.Machine.execHeartbeatToggle s
  | .heartbeatEdge k => Sys2Proof.Machine.execHeartbeatEdge k s
  | .heartbeatInputDead k => Sys2Proof.Machine.execHeartbeatInputDead k s
  | .claimWaitExpired => Sys2Proof.Machine.execClaimWaitExpired s
  | .activeNFall => Sys2Proof.Machine.execActiveNFall s
  | .formWaitExpired => Sys2Proof.Machine.execFormWaitExpired s
  | .pairLaneFrameReceived lane crcOk tickMatches tick epoch act unknownRecords => Sys2Proof.Machine.execPairLaneFrameReceived lane crcOk tickMatches tick epoch act unknownRecords s
  | .pairLinkUp => Sys2Proof.Machine.execPairLinkUp s
  | .pairLinkLoss blockLock => Sys2Proof.Machine.execPairLinkLoss blockLock s
  | .hello pos pairId pref revert hash => Sys2Proof.Machine.execHello pos pairId pref revert hash s
  | .role roleCode mode claim phase gridB => Sys2Proof.Machine.execRole roleCode mode claim phase gridB s
  | .yield cause tick => Sys2Proof.Machine.execYield cause tick s
  | .hopStreamRecord r => Sys2Proof.Machine.execHopStreamRecord r s
  | .retireRecord c tick => Sys2Proof.Machine.execRetireRecord c tick s
  | .digest tick crc flags => Sys2Proof.Machine.execDigest tick crc flags s
  | .chdig tick crcs => Sys2Proof.Machine.execChdig tick crcs s
  | .epochOffer epoch => Sys2Proof.Machine.execEpochOffer epoch s
  | .epochStart epoch tick => Sys2Proof.Machine.execEpochStart epoch tick s
  | .epochCommit epoch => Sys2Proof.Machine.execEpochCommit epoch s
  | .epochAck epoch tick => Sys2Proof.Machine.execEpochAck epoch tick s
  | .epochAbort epoch => Sys2Proof.Machine.execEpochAbort epoch s
  | .epochHandover epoch tick => Sys2Proof.Machine.execEpochHandover epoch tick s
  | .resetReq => Sys2Proof.Machine.execResetReq s
  | .config sseq exec pairs endOfGroup => Sys2Proof.Machine.execConfig sseq exec pairs endOfGroup s
  | .readings sseq exec mcc inputs => Sys2Proof.Machine.execReadings sseq exec mcc inputs s
  | .message sseq exec target stamp octets => Sys2Proof.Machine.execMessage sseq exec target stamp octets s
  | .ql sseq exec input ssm essm => Sys2Proof.Machine.execQl sseq exec input ssm essm s
  | .copy c tick data => Sys2Proof.Machine.execCopy c tick data s
  | .cloneRequest pos dieId => Sys2Proof.Machine.execCloneRequest pos dieId s
  | .cloneData octets => Sys2Proof.Machine.execCloneData octets s
  | .epochPaceComplete g linkDelay => Sys2Proof.Machine.execEpochPaceComplete g linkDelay s
  | .epochStaticComplete ok => Sys2Proof.Machine.execEpochStaticComplete ok s
  | .channelJoinComplete c replayed => Sys2Proof.Machine.execChannelJoinComplete c replayed s
  | .stepDigest => Sys2Proof.Machine.execStepDigest s
  | .digestLate => Sys2Proof.Machine.execDigestLate s
  | .epochTimeout => Sys2Proof.Machine.execEpochTimeout s
  | .epochRetryDue => Sys2Proof.Machine.execEpochRetryDue s
  | .coldWindowExpired => Sys2Proof.Machine.execColdWindowExpired s
  | .revertWaitExpired => Sys2Proof.Machine.execRevertWaitExpired s
  | .handover port => Sys2Proof.Machine.execHandover port s
  | .resync port => Sys2Proof.Machine.execResync port s
  | .abort port => Sys2Proof.Machine.execAbort port s
  | .peerReset port => Sys2Proof.Machine.execPeerReset port s
  | .calTemperatureCheck => Sys2Proof.Machine.execCalTemperatureCheck s
  | .calPeriodExpired => Sys2Proof.Machine.execCalPeriodExpired s
  | .calRun port => Sys2Proof.Machine.execCalRun port s
  | .calStore port => Sys2Proof.Machine.execCalStore port s
  | .calRotationStart => Sys2Proof.Machine.execCalRotationStart s
  | .calItemStart => Sys2Proof.Machine.execCalItemStart s
  | .calMeasureComplete m => Sys2Proof.Machine.execCalMeasureComplete m s
  | .calItemAccept => Sys2Proof.Machine.execCalItemAccept s
  | .calItemEnd => Sys2Proof.Machine.execCalItemEnd s
  | .calBlendStep => Sys2Proof.Machine.execCalBlendStep s
  | .calStoreIntervalExpired => Sys2Proof.Machine.execCalStoreIntervalExpired s
  | .calStoreOperationComplete ok => Sys2Proof.Machine.execCalStoreOperationComplete ok s
  | .calStoreResume => Sys2Proof.Machine.execCalStoreResume s
  | .powerOnResetAssert => Sys2Proof.Machine.execPowerOnResetAssert s
  | .powerOnResetRelease => Sys2Proof.Machine.execPowerOnResetRelease s
  | .intoscSettleComplete straps => Sys2Proof.Machine.execIntoscSettleComplete straps s
  | .intoscStop => Sys2Proof.Machine.execIntoscStop s
  | .xoMissingEdge => Sys2Proof.Machine.execXoMissingEdge s
  | .xoMonitorWindow count => Sys2Proof.Machine.execXoMonitorWindow count s
  | .systemPllLock => Sys2Proof.Machine.execSystemPllLock s
  | .muxProofWindow toSpll proved => Sys2Proof.Machine.execMuxProofWindow toSpll proved s
  | .muxSwitchComplete => Sys2Proof.Machine.execMuxSwitchComplete s
  | .muxSwitchTimeout => Sys2Proof.Machine.execMuxSwitchTimeout s
  | .freqCountStart port data => Sys2Proof.Machine.execFreqCountStart port data s
  | .freqCountDone count => Sys2Proof.Machine.execFreqCountDone count s
  | .resetBallEdge b level => Sys2Proof.Machine.execResetBallEdge b level s
  | .resetBallLevelTaken b straps => Sys2Proof.Machine.execResetBallLevelTaken b straps s
  | .resetHoldExpired k straps => Sys2Proof.Machine.execResetHoldExpired k straps s
  | .idleAcknowledge u => Sys2Proof.Machine.execIdleAcknowledge u s
  | .idleTimeout u => Sys2Proof.Machine.execIdleTimeout u s
  | .softResetComplete b => Sys2Proof.Machine.execSoftResetComplete b s
  | .hostResetManagement port => Sys2Proof.Machine.execHostResetManagement port s
  | .hostResetIntake port => Sys2Proof.Machine.execHostResetIntake port s
  | .hostResetWarm port => Sys2Proof.Machine.execHostResetWarm port s
  | .hostResetCold port => Sys2Proof.Machine.execHostResetCold port s
  | .softResetTwlReceiver port => Sys2Proof.Machine.execSoftResetTwlReceiver port s
  | .softResetMirPcs port => Sys2Proof.Machine.execSoftResetMirPcs port s
  | .softResetPlPcs port => Sys2Proof.Machine.execSoftResetPlPcs port s
  | .softResetCalSequencer port => Sys2Proof.Machine.execSoftResetCalSequencer port s
  | .softResetFlash port => Sys2Proof.Machine.execSoftResetFlash port s
  | .softResetEmmc port => Sys2Proof.Machine.execSoftResetEmmc port s
  | .softResetSensor port => Sys2Proof.Machine.execSoftResetSensor port s
  | .softResetFreqCounter port => Sys2Proof.Machine.execSoftResetFreqCounter port s
  | .bootCalSlotsRead factory slotA slotB => Sys2Proof.Machine.execBootCalSlotsRead factory slotA slotB s
  | .firmwareSlotCheck slotB slot => Sys2Proof.Machine.execFirmwareSlotCheck slotB slot s
  | .bootImageCheck src img => Sys2Proof.Machine.execBootImageCheck src img s
  | .xoAbsentTimeout => Sys2Proof.Machine.execXoAbsentTimeout s
  | .cloneTimeout => Sys2Proof.Machine.execCloneTimeout s
  | .intrefTrimComplete vco band tune => Sys2Proof.Machine.execIntrefTrimComplete vco band tune s
  | .hostLoadChunk port words => Sys2Proof.Machine.execHostLoadChunk port words s
  | .hostLoadChunkConsumed => Sys2Proof.Machine.execHostLoadChunkConsumed s
  | .hostLoadEnd port => Sys2Proof.Machine.execHostLoadEnd port s
  | .hostLoadCheckComplete img => Sys2Proof.Machine.execHostLoadCheckComplete img s
  | .hostLoadAbort port => Sys2Proof.Machine.execHostLoadAbort port s
  | .tapUpdateIr ir => Sys2Proof.Machine.execTapUpdateIr ir s
  | .tapReset => Sys2Proof.Machine.execTapReset s
  | .mgmtWatchdogExpired => Sys2Proof.Machine.execMgmtWatchdogExpired s
  | .lockstepMismatch => Sys2Proof.Machine.execLockstepMismatch s
  | .sensorConversion k reading => Sys2Proof.Machine.execSensorConversion k reading s
  | .supplyConversion k mv => Sys2Proof.Machine.execSupplyConversion k mv s
  | .powerFailWarning rail => Sys2Proof.Machine.execPowerFailWarning rail s
  | .powerFailClear => Sys2Proof.Machine.execPowerFailClear s
  | .eventTierCopy n => Sys2Proof.Machine.execEventTierCopy n s
  | .journalOpen sectors held => Sys2Proof.Machine.execJournalOpen sectors held s
  | .journalCapture => Sys2Proof.Machine.execJournalCapture s
  | .journalAggregate => Sys2Proof.Machine.execJournalAggregate s
  | .journalCheckpoint => Sys2Proof.Machine.execJournalCheckpoint s
  | .journalCaptureDropped => Sys2Proof.Machine.execJournalCaptureDropped s
  | .emmcCommandComplete index ok status => Sys2Proof.Machine.execEmmcCommandComplete index ok status s
  | .journalRead port => Sys2Proof.Machine.execJournalRead port s
  | .journalReadComplete => Sys2Proof.Machine.execJournalReadComplete s
  | .updateStart port target => Sys2Proof.Machine.execUpdateStart port target s
  | .updateChunk port words => Sys2Proof.Machine.execUpdateChunk port words s
  | .updateChunkProgrammed ok => Sys2Proof.Machine.execUpdateChunkProgrammed ok s
  | .updateEnd port => Sys2Proof.Machine.execUpdateEnd port s
  | .updateCheckComplete programmed slot => Sys2Proof.Machine.execUpdateCheckComplete programmed slot s
  | .updateActivate port => Sys2Proof.Machine.execUpdateActivate port s
  | .updateAbort port => Sys2Proof.Machine.execUpdateAbort port s
  | .updateResume => Sys2Proof.Machine.execUpdateResume s
  | .fuseAdv port => Sys2Proof.Machine.execFuseAdv port s
  | .fuseProgramComplete => Sys2Proof.Machine.execFuseProgramComplete s
  | .activeNRise => Sys2Proof.Machine.execActiveNRise s
  | .intoscReturn => Sys2Proof.Machine.execIntoscReturn s
  | .mirBlockLockAcquired lane => Sys2Proof.Machine.execMirBlockLockAcquired lane s
  | .tdcEdgeDrop inp => Sys2Proof.Machine.execTdcEdgeDrop inp s
  | .peerHopRouterEntry cyc => Sys2Proof.Machine.execPeerHopRouterEntry cyc s

end Sys2Proof.Machine
end

