-- ==== Sys2Proof/Machine/Step.lean ====
section
/-! DEFINITION. The step: the command at the front of the queue acts; on an empty queue the block idles (assumption 1). -/

namespace Sys2Proof.Machine

/-- The state with a command put at the front of its queue. -/
def State.push (i : Instr) (s : State) : State := { s with pending := i :: s.pending }

/-- The state with the queue `q`. -/
def State.withQueue (q : List Instr) (s : State) : State := { s with pending := q }

/-- One step: take the command at the front and run it on the state with the rest of the queue. -/
def step (s : State) : Host.Outcome State Fault Refusal :=
  match s.pending with
  | [] => .next s
  | i :: q => exec i (s.withQueue q)

/-- The state with the command that a table word spells at the front of its queue; unchanged where the word spells none. -/
def State.withFetchWord (s : State) (nbits w : Nat) : State :=
  match Sys2Proof.decodeTableWord nbits w with
  | some i => s.push i
  | none => s

end Sys2Proof.Machine
end

