-- ==== Sys2Proof/Safety.lean ====
section
/-! DEFINITION. What the statements speak of: the parts of the state beside the registers, what a command leaves unchanged, an entry
of the event log, a counter that counts, and a write that a port carries to its register. -/

namespace Sys2Proof.Machine

/-- The parts of the state beside the register words, the queue and the pins. -/
inductive Part where
  | chans | outs | pps | refs | msyn | posts | dmem | twl | intake | pair | cal | rst | fuse | mgmt | dev | holdoff | free
  deriving DecidableEq, Repr

/-- A part is the same in two states. -/
def Part.same (p : Part) (s t : State) : Prop :=
  match p with
  | .chans => t.chans = s.chans
  | .outs => t.outs = s.outs
  | .pps => t.pps = s.pps
  | .refs => t.refs = s.refs
  | .msyn => t.msyn = s.msyn
  | .posts => t.posts = s.posts
  | .dmem => t.dmem = s.dmem
  | .twl => t.twl = s.twl
  | .intake => t.intake = s.intake
  | .pair => t.pair = s.pair
  | .cal => t.cal = s.cal
  | .rst => t.rst = s.rst
  | .fuse => t.fuse = s.fuse
  | .mgmt => t.mgmt = s.mgmt
  | .dev => t.dev = s.dev
  | .holdoff => t.holdoff = s.holdoff
  | .free => t.free = s.free

/-- Every part but those listed is unchanged, and so is the queue; the pins show the state. -/
def State.keepsParts (s t : State) (parts : List Part) : Prop :=
  t.pending = s.pending ∧ t.pins = t.pinsOf ∧ ∀ p, p ∉ parts → p.same s t

/-- Every register word but those listed is unchanged: counters, status words, parameter blocks, presets, rules and tables among them. -/
def State.keepsWords (s t : State) (words : List (Rg × Nat)) : Prop :=
  ∀ r i, (∀ q ∈ words, q.1.key q.2 ≠ r.key i) → t.rd r i = s.rd r i

/-- The frame of a command: it changes nothing but the parts and words listed. -/
def State.frame (s t : State) (parts : List Part) (words : List (Rg × Nat)) : Prop :=
  s.keepsParts t parts ∧ s.keepsWords t words

/-- No channel but `c` has changed. -/
def State.onlyChan (s t : State) (c : Nat) : Prop := ∀ k, k ≠ c → t.chan k = s.chan k

/-- No output but `n` has changed beside its registers. -/
def State.onlyOut (s t : State) (n : Nat) : Prop := ∀ k, k ≠ n → t.out k = s.out k

/-- No PPS pin but `m` has changed beside its registers. -/
def State.onlyPps (s t : State) (m : Nat) : Prop := ∀ k, k ≠ m → t.ppsPin k = s.ppsPin k

/-- No input but `i` has changed beside its registers. -/
def State.onlyRefin (s t : State) (i : Nat) : Prop := ∀ k, k ≠ i → t.refin k = s.refin k

/-- R6: the counter has taken `n` more, or stands at its maximum. -/
def State.counted (s t : State) (r : Rg) (i n : Nat) : Prop :=
  (t.rd r i).toNat = min 0xFFFFFFFF ((s.rd r i).toNat + n)

/-- R302, R303: the command has put its entry to the log port: the entry has been written at the next sequence number, with the tick
number of the command. Where the port took another entry in this tick or the one before, the entry may have been lost and counted
instead. In TEST nothing is written. -/
def State.wrote (s t : State) (code block sev : Nat) (d0 d1 d2 : Word) : Prop :=
  if s.mode = 11 then t.mgmt.log = s.mgmt.log ∧ t.mgmt.logSeq = s.mgmt.logSeq
  else
    (Tab.get .none t.mgmt.log (s.mgmt.logSeq % 2048) = ⟨s.dev.tick, code, block, sev, s.mgmt.logSeq, d0, d1, d2⟩
      ∧ t.mgmt.logSeq = (s.mgmt.logSeq + 1) % 2 ^ 32)
    ∨ (s.logRecent = true ∧ t.mgmt.log = s.mgmt.log ∧ t.mgmt.logSeq = s.mgmt.logSeq ∧ s.counted t .MGMT_LOG_LOST_CNT 0 1)

/-- R87, R89, R101: a trigger of a source finds channel `c` eligible: the mode executes it, the channel is enabled for hops and not FROZEN,
its slot is armed with `p` and no hop is in flight. The preset does not chain. -/
def State.hopReady (s : State) (src : HopSrc) (c : Nat) (p : Preset) : Prop :=
  s.mode ≠ 0 ∧ s.hopExecuted src = true ∧ s.chEn c = true ∧ s.on CH_HOP.HOP_EN c = true ∧ (s.chan c).state ≠ .frozen
    ∧ (s.chan c).inflight = none ∧ (s.chan c).armed = some p ∧ p.chain = false

/-- R89, R90, R102: channel `c` has committed preset `p` for the instant `h`, its slot is empty, its group counts where it belongs to one,
and nothing but the notes of the hop, the parts and the words listed has changed. -/
def State.hopCommitted (s t : State) (src : HopSrc) (c : Nat) (p : Preset) (h : Nat) (parts : List Part) (words : List (Rg × Nat)) : Prop :=
  t.chan c = { s.chan c with armed := none, inflight := some ⟨p, h, src.bit⟩ } ∧ s.onlyChan t c
    ∧ s.counted t .HOP_GRP_CNT (s.get CH_HOP.GROUP c)
        (if s.on CH_HOP.GRP_EN c && !(s.committedAt h).any fun k => s.on CH_HOP.GRP_EN k && s.get CH_HOP.GROUP k == s.get CH_HOP.GROUP c
          then 1 else 0)
    ∧ s.frame t (parts ++ [.chans, .cal, .pair, .dev]) (words ++ [(.HOP_GRP_CNT, s.get CH_HOP.GROUP c)])

/-- R130: the lowest free spare once engine `e` is retired. -/
def State.spareFor (s : State) (e : Nat) : Option Nat :=
  lowestBit (if e < 512 then s.get ENG_SPARE_FREE.BITS else withBit (s.get ENG_SPARE_FREE.BITS) (e - 512) false) 16 0

/-- R129, R130: engine `e` has been retired for `cause`: it is marked and counted, its posts are gone, its channel freezes at the next
boundary and waits for the lowest free spare, and nothing but the records of the retirement, the parts and the words listed has
changed. -/
def State.engineRetired (s t : State) (e cause : Nat) (parts : List Part) (words : List (Rg × Nat)) : Prop :=
  t.engRetired e = true ∧ s.counted t .ENG_RETIRE_CNT 0 1
    ∧ (match retireCounter cause with | some r => s.counted t r 0 1 | none => True)
    ∧ t.get ENG_POOL.RETIRED = s.get ENG_POOL.RETIRED + 1
    ∧ t.posts = s.posts.filter (·.2 != e)
    ∧ (match s.channelOf e with
      | none => t.chans = s.chans
      | some c => s.onlyChan t c ∧ t.chan c = { s.chan c with
          posted := none, freezePend := true, takeover := (s.spareFor e).map fun sp => ⟨512 + sp, false, false⟩ })
    ∧ s.frame t (parts ++ [.chans, .posts, .pair, .mgmt, .free])
        (words ++ [(.ENG_RETIRED, e / 32), (.ENG_RETIRED16, 0), (.ENG_SPARE_FREE, 0), (.ENG_RETIRE_CNT, 0), (.ENG_POOL, 0),
          ((retireCounter cause).getD .ENG_RETIRE_CNT, 0), (.ENG_LAST_RETIRE, 0), (.MGMT_LOG_OVW_CNT, 0), (.MGMT_LOG_LOST_CNT, 0)])

/-- R211, R212: the write has gone into the event stream as one CONFIG record, and waits for its EXEC boundary on this unit too. -/
def State.streamedWrite (s t : State) (key : Nat) (w : Word) : Prop :=
  t.pair = { s.pair with out := s.pair.out ++ [.config 0 0 [(key, w)] true] }

/-- R150, R153, R190: message `m` has left: it took the next tag and the next number of its lane, its tag is outstanding, and its lane has
counted it. -/
def State.sentMsg (s t : State) (m : OutMsg) : Prop :=
  let m' := { m with tag := s.twl.nextTag, seq := Tab.get 0 s.twl.laneSeq m.lane }
  t.twl.sent.take (s.twl.sent.length + 1) = s.twl.sent ++ [m']
    ∧ Tab.get none t.twl.tags s.twl.nextTag = some ⟨m', s.dev.tick⟩

/-- No flow but `f` has changed beside its registers. -/
def State.onlyFlow (s t : State) (f : Nat) : Prop := ∀ k, k ≠ f → t.flow k = s.flow k

/-- No mirror receive lane but `l` has changed in its order. -/
def State.onlyLane (s t : State) (l : Nat) : Prop := ∀ k, k ≠ l → t.lane k = s.lane k

/-- R329 to R331, R333: a write of word `i` of register `r` by port `p` reaches its register: the ports are open, the block answers
no bus error and the key guard is open where the register is guarded. -/
def State.reaches (s : State) (p : Port) (r : Rg) (i : Nat) : Prop :=
  s.portsClosed = false ∧ (isHost p = true → s.busError (r.key i) = false)
    ∧ (isHost p = true → r.info.guard = true → (s.port p).keyAge ≠ 0)

/-- The words that entry to BASIC may write while no calibration item is in progress (R26, R222, R250). -/
def basicWords : List (Rg × Nat) :=
  [(.DEV_MODE, 0), (.RST_BASIC, 0), (.CAL_STS, 0), (.MGMT_LOG_OVW_CNT, 0), (.MGMT_LOG_LOST_CNT, 0), (.PAIR_STS, 0), (.PAIR_EPOCH_STS, 0), (.MGMT_UPD_STS, 0),
   (.MSYN_STS, 0), (.PAIR_CMD, 0)]

/-- R26: the unit has entered BASIC for `cause`: the mode, the lifeline pin and RST_BASIC show it, the channels freeze at the next
boundary, the posted results are gone and the entry of R303 is written or counted as lost (R302). `parts` and `words` are what the event writes beside it. -/
def State.fellToBasic (s t : State) (cause : Nat) (parts : List Part) (words : List (Rg × Nat)) : Prop :=
  t.mode = 9 ∧ t.get RST_BASIC.CAUSE = cause ∧ t.dev.freezePend = true ∧ t.pins.lifeline = true ∧ t.posts = []
    ∧ (let e := Tab.get .none t.mgmt.log ((t.mgmt.logSeq + 2047) % 2048)
       (e.code = 3 ∧ e.block = 14 ∧ e.sev = 2 ∧ e.d0 = BitVec.ofNat 32 cause) ∨ t.rd .MGMT_LOG_LOST_CNT ≠ 0)
    ∧ s.keepsParts t (parts ++ [.posts, .pair, .cal, .mgmt, .dev, .free])
    ∧ (s.get CAL_STS.ITEM = 0xFF → s.keepsWords t (words ++ basicWords))

/-- R265, R266, R287: an XO failure has been declared: XO_OK clears, it is counted, ROOT goes to the internal oscillator, a running
master is held; BOOT takes the XO as absent, and a device in modes 2 to 8 or 10 enters BASIC. -/
def State.xoDeclared (s t : State) : Prop :=
  t.on CLK_STS.XO_OK = false ∧ t.on CLK_STS.ROOT_INT = true ∧ s.counted t .CLK_XOFAIL_CNT 0 1
    ∧ (s.on CLK_STS.ROOT_INT = false → t.on CLK_STS.FORCED = true)
    ∧ (s.get MSYN_STS.STATE ≠ 0 → t.on MSYN_STS.HELD = true ∧ t.msyn = { s.msyn with heldBasic := true })
    ∧ t.rst.xoFailed = true ∧ (s.mode = 1 → t.rst.xoAbsent = true)
    ∧ ((2 ≤ s.mode ∧ s.mode ≤ 8 ∨ s.mode = 10) →
        s.fellToBasic t 2 [.rst, .msyn] [(.CLK_STS, 0), (.CLK_XOCNT, 0), (.CLK_XOFAIL_CNT, 0)])
    ∧ ((s.mode = 0 ∨ s.mode = 1 ∨ s.mode = 9) →
        s.frame t [.rst, .mgmt, .msyn, .free] [(.CLK_STS, 0), (.CLK_XOCNT, 0), (.CLK_XOFAIL_CNT, 0), (.MGMT_LOG_OVW_CNT, 0), (.MGMT_LOG_LOST_CNT, 0), (.MSYN_STS, 0)])

/-- R232: the standby's epoch has aborted for `cause`: it is counted and recorded, no channel stays joined (those that had joined go on from
the unit's own inputs, a frequency program with a build-out zero at its next iteration), the unit is no longer paced, the peer is told while the link is up, and nothing but the parts and
words listed has changed beside that. -/
def State.epochAborted (s t : State) (cause : Nat) (parts : List Part) (words : List (Rg × Nat)) : Prop :=
  t.get PAIR_EPOCH_STS.PHASE = 0 ∧ t.get PAIR_EPOCH_STS.JOINED = 0 ∧ t.get PAIR_EPOCH_STS.LAST_ABORT = cause
    ∧ t.get PAIR_EPOCH_STS.EPOCH = s.get PAIR_EPOCH_STS.EPOCH ∧ s.counted t .PAIR_EPOCH_ABORT_CNT 0 1
    ∧ t.on PAIR_STS.PACED = false ∧ t.on PAIR_STS.GRID_OK = false ∧ t.on PAIR_STS.ALIGNED = false
    ∧ (∀ c, t.chan c = if c ∈ s.pair.joined ∧ s.freqProg c = true then { s.chan c with rezero := true } else s.chan c)
    ∧ t.pair.joined = [] ∧ t.pair.copyPend = [] ∧ t.pair.stream = [] ∧ t.pair.seen = [] ∧ t.pair.streamInputs = []
    ∧ (t.on PAIR_STS.LINK_UP = true → t.pair.out = s.pair.out ++ [.epochAbort (s.get PAIR_EPOCH_STS.EPOCH)])
    ∧ s.frame t (parts ++ [.chans, .pair, .mgmt, .free])
        (words ++ [(.PAIR_STS, 0), (.PAIR_EPOCH_STS, 0), (.PAIR_EPOCH_ABORT_CNT, 0), (.MGMT_LOG_OVW_CNT, 0), (.MGMT_LOG_LOST_CNT, 0)])

/-- R229, R230: the words that a copy of channel `c` carries. -/
def copiedWords (c : Nat) (d : ChanCopy) : List (Rg × Nat) :=
  (d.words.filterMap fun w => Rg.ofKey w.1) ++ d.checkpoint.map fun w => (.PARAM, c * 512 + w.1)

/-- R239, R242: the samples high at code `k` of a slice, or the edges that land below tap `k` of a TDC, in one half of a measurement. -/
def countBelow (tdc : Bool) (half : List Nat) (k : Nat) : Nat :=
  if tdc then ((List.range k).map fun j => half.getD j 0).sum else if k = 0 then 0 else half.getD k 0

/-- R242: the first of the four limits that a measured table of 256 positions fails, 0 for none: positions rise, each width lies in 0.15 ps
to 0.50 ps, the span lies within 3 % of TM, the residual INL (the largest difference of the odd and the even table, and 0.02 ps) is at most
0.40 ps for a slice and 0.50 ps for a TDC. A position is in units of TM / 32,768, and TM is 78.125 ps. -/
def failedLimit (tdc : Bool) (m : CalMeasure) : Nat :=
  let p (k : Nat) : Nat := (calTaps tdc m).getD k 0
  let n := if tdc then 40000 else m.samples
  let limit := if tdc then 500 else 400
  let landed := m.odd.sum + m.even.sum
  if !((List.range 255).all fun k => decide (p k < p (k + 1))) then 1
  else if !((List.range 255).all fun k => decide (p k * 78125 + 150 * 32768 ≤ p (k + 1) * 78125)
      && decide (p (k + 1) * 78125 ≤ p k * 78125 + 500 * 32768)) then 2
  else if tdc = true ∧ ¬ (97 * 80000 ≤ 100 * landed ∧ 100 * landed ≤ 103 * 80000) then 3
  else if tdc = false ∧ ¬ (97 * 32768 * 255 ≤ 100 * 256 * p 255 ∧ 100 * 256 * p 255 ≤ 103 * 32768 * 255) then 3
  else if !((List.range 256).all fun k =>
      decide (78125 * ((countBelow tdc m.odd k : Int) - countBelow tdc m.even k).natAbs + 20 * n ≤ limit * n)) then 4
  else 0

/-- R270, R273, R275, R303: the effective level has risen to `lv` (3 for L2, 4 for L3) by source `src`, the only one asserted: the mode reads
0, RST_LAST and the last entry (unless the log port was busy, R302) show the level and the source, the engines' posts, the intake and the gates are reset. Under L2 the synthesis
runs on at its words and the configuration stands; under L3 it is reset. -/
def State.resetTo (s t : State) (lv src : Nat) : Prop :=
  t.mode = 0 ∧ t.rst.level = lv ∧ t.rst.asserted = [(src, lv)]
    ∧ t.rd .RST_LAST = BitVec.ofNat 32 (lv * 2 ^ 28 + 2 ^ src)
    ∧ (let e := Tab.get .none t.mgmt.log ((t.mgmt.logSeq + 2047) % 2048)
       (e.code = 2 ∧ e.block = 13 ∧ e.sev = 1 ∧ e.d0 = t.rd .RST_LAST) ∨ t.rd .MGMT_LOG_LOST_CNT ≠ 0)
    ∧ t.posts = [] ∧ t.holdoff = [] ∧ t.intake = .reset ∧ t.get DEV_GATE.GATE = 0
    ∧ t.pending = s.pending ∧ t.fuse = s.fuse ∧ t.pins = t.pinsOf ∧ t.pins.mode = 0 ∧ t.pins.activeLow = false
    ∧ (lv = 3 → t.outs = s.outs ∧ t.pps = s.pps ∧ t.refs = s.refs ∧ t.twl = s.twl ∧ t.dmem = s.dmem ∧ t.dev.tick = s.dev.tick
        ∧ t.msyn.mcc = s.msyn.mcc ∧ t.rd .CAL_CTL = s.rd .CAL_CTL ∧ t.rd .MSYN_XOF = s.rd .MSYN_XOF
        ∧ t.rd .DEV_ALERT_EN = s.rd .DEV_ALERT_EN)
    ∧ (lv = 4 → t.chans = [] ∧ t.outs = [] ∧ t.pps = [] ∧ t.refs = [] ∧ t.twl = .reset ∧ t.msyn = .reset ∧ t.rst.cold = true
        ∧ t.rd .CAL_CTL = Rg.resetWord .CAL_CTL 0 ∧ t.get MSYN_XOF.XOF = MSYN_XOF.XOF.of (Rg.resetWord .MSYN_XOF 0))

/-- R276: the idle handshake of source `src` with unit `u` has begun: 0 to 7 blocks, 8 management, 9 frame intake. -/
def State.handshakeBegun (s t : State) (src u : Nat) (parts : List Part) (words : List (Rg × Nat)) : Prop :=
  t.rst = { s.rst with waiting := s.rst.waiting ++ [(src, u)] }
    ∧ t.get RST_IDLE_STS.WAIT = (if u < 8 then withBit (s.get RST_IDLE_STS.WAIT) u true else s.get RST_IDLE_STS.WAIT)
    ∧ t.get RST_IDLE_STS.WAIT_L1 = (if u < 8 then s.get RST_IDLE_STS.WAIT_L1 else withBit (s.get RST_IDLE_STS.WAIT_L1) (u - 8) true)
    ∧ s.frame t (parts ++ [.rst]) (words ++ [(.RST_IDLE_STS, 0)])

/-- R139: the uncorrectable errors that a fetch of the addressed word meets: one where it is such a word of the data memory. -/
def State.fetchErrors (s : State) : Nat :=
  match s.indPlace (s.get IND_ADDR.SPACE) (s.get IND_ADDR.INDEX) with
  | .dmem e w => flag (s.dmemBad e w)
  | _ => 0

/-- R11, R26, R201, R279, R344: the pins show the state. -/
def State.pinsShow (s : State) : Prop := s.pins = s.pinsOf

end Sys2Proof.Machine
end

