-- ==== Sys2Proof/WellFormed.lean ====
section
/-! DEFINITION. Which commands name only what the device has: units within their number, ports of host software, words and opcodes of
the width the spec gives them. -/

namespace Sys2Proof

/-- R70, R77: the pin exists: OUT0 to OUT127, PPS0 to PPS15. -/
def OutPin.exists_ : OutPin → Bool
  | .out n => decide (n < 128)
  | .pps m => decide (m < 16)

/-- R11, R53, R63, R88, R105, R116, R153, R160, R167, R170, R182, R202, R208, R268, R271, R276, R277, R299, R300, R360: every unit that a command names is
one the device has. -/
def Instr.unitOk : Instr → Bool
  | .gateRampStep b => decide (b < 13)
  | .tset _ c | .slewCancel _ c => decide (c < 512)
  | .outputStart pin | .outputStop pin | .loopbackMiss pin | .loopbackExtra pin | .loopbackFaultClear pin => pin.exists_
  | .driverChangeMuteEnd n | .sliceSwap n => decide (n < 128)
  | .channelLockDeclared c | .channelLockLost c | .hopArmingComplete c | .hopTakesEffect c | .waitToRestoreExpired ⟨c, _⟩
  | .engineIteration c _ _ | .spareLoadComplete c | .retireRecord c _ | .copy c _ _ | .channelJoinComplete c _ => decide (c < 512)
  | .hopPinEdge ⟨p, _⟩ _ | .hopHoldoffExpired p => decide (p < 8)
  | .refinActivityTimeout i | .refinSignalReturn i | .refinFreqGateClose i _ | .refinSoakExpired i | .refinHitHoldExpired i
  | .refinHitPersistExpired i | .tdcEdgeDrop i => decide (i < 36)
  | .engineParityError e | .engineWatchdogExpired e | .engineDmemUncorrectable e | .engineOverrun e => decide (e < 528)
  | .announceReceiptTimeout f | .syncReceiptTimeout f | .delayReqDue f | .pdelayReqDue f | .exchangeResponseTimeout f
  | .originSyncDue f | .originAnnounceDue f => decide (f < 64)
  | .esmcQlTimeout i => decide (i < 32)
  | .mirrorFrameArrival ⟨l, _, _⟩ _ | .mirBlockLockLoss l | .mirBlockLockAcquired l | .frameRelease l | .reorderTimeout l
  | .pairLaneFrameReceived l _ _ _ _ _ _ => decide (l < 4)
  | .heartbeatEdge k | .heartbeatInputDead k => decide (k < 2)
  | .softResetComplete b => decide (b < 8)
  | .refConfigWrite _ i _ _ => decide (i < 36)
  | .refinLockout _ i | .refinRelease _ i => decide (i < 64)
  | .engineRestart _ k | .engineRetireCommand _ k => decide (k < 1024)
  | .parsePassDecision l => decide (l < 16)
  | .fragmentEntryAged e => decide (e < 256)
  | .esmcInfoPduDue k | .esmcEventPduSend k | .sensorConversion k _ => decide (k < 8)
  | .supplyConversion k _ | .powerFailWarning k => decide (k < 5)
  | .resetHoldExpired src _ => decide (src < 12)
  | .idleAcknowledge u | .idleTimeout u => match u with
    | .block b => decide (b < 8)
    | _ => true
  | _ => true

/-- R6, R320, R329: the direct commands of a host port come by SPI or in band; the preload and the event stream issue register writes
only. -/
def Instr.portOk : Instr → Bool
  | .mailboxOpenRead p | .mailboxCloseRead p | .indDataRead p => p == .spi || p == .inb
  | _ => true

/-- R321, R325: an SPI transaction names an address of 24 bits and an opcode of 8. -/
def Instr.addressOk : Instr → Bool
  | .spiWrite a _ | .spiWriteFixed a _ | .spiRead a _ | .spiReadFixed a _ | .registerWrite _ a _ => decide (a < 2 ^ 24)
  | .spiBadOpcode op => decide (op < 256)
  | _ => true

/-- A well-formed command. -/
def Instr.wf (i : Instr) : Bool := i.unitOk && i.portOk && i.addressOk

end Sys2Proof
end

