-- ==== Sys2Proof/Certificates/Slice0/Obligations.lean ====
section
/-! DEFINITION. The statements for the provers. -/

open Sys2Proof Sys2Proof.Machine

/-- R2 (the queue is the model's own form, log 1): a step takes the command at the front of the queue and runs it on the state with the
rest of the queue; on an empty queue the block idles. -/
def Obligations.StepRunsFrontCommand : Prop :=
  (∀ (i : Instr) (q : List Instr) (s : State), step (s.withQueue (i :: q)) = exec i (s.withQueue q))
    ∧ ∀ s : State, s.pending = [] → step s = .next s

/-- Every command answers a next state, in every state of the device and on every operand: the spec has it stop at none. -/
def Obligations.CommandsAnswer : Prop := ∀ (i : Instr) (s : State), ∃ t, exec i s = .next t

/-- The pins show the state in the state after reset. -/
def Obligations.PinsShowAtReset : Prop := State.reset.pinsShow

/-- Whatever command stands at the front of the queue, a step from a state whose pins show it leads to one whose pins show it. -/
def Obligations.PinsShowKept : Prop :=
  ∀ s t : State, s.pinsShow → step s = .next t → t.pinsShow

/-- R42, R37: the steps of an acquisition: the settle of the first attempt, the band search, the failure of an attempt before the third. R47: the reference of the master is missing and resumes: the loop is held with REFMISS, counted, and goes on where it stood; a settle and
a failed attempt go on behind the hold, and a word held for BASIC stays held. -/
def Obligations.AcquisitionAndHold : Prop :=
  ((∀ s : State, s.on MSYN_STS.ACQ = true → s.get MSYN_STS.STATE = 1 →
     ∃ t, exec .acquisitionSettleDone s = .next t
       ∧ t.rd .MSYN_STS = MSYN_STS.STATE.put (s.rd .MSYN_STS) 2 ∧ t.msyn = { s.msyn with settled := true }
       ∧ s.frame t [.msyn] [(.MSYN_STS, 0)])
   ∧ (∀ s : State, s.on MSYN_STS.ACQ = true → s.get MSYN_STS.STATE = 7 → s.msyn.heldStage = 1 →
     ∃ t, exec .acquisitionSettleDone s = .next t
       ∧ t.msyn = { s.msyn with settled := true, heldStage := 2 } ∧ s.frame t [.msyn] [])
   ∧ (∀ (s : State) (vco band tune : Nat), s.get MSYN_STS.STATE = 2 →
     ∃ t, exec (.bandSearchDone vco band tune) s = .next t
       ∧ t.rd .MSYN_STS = MSYN_STS.STATE.put (MSYN_STS.BAND.put (MSYN_STS.VCO.put (s.rd .MSYN_STS) vco) band) 3
       ∧ t.rd .MSYN_TUNE = MSYN_TUNE.TUNE.put (s.rd .MSYN_TUNE) tune
       ∧ s.frame t [] [(.MSYN_STS, 0), (.MSYN_TUNE, 0)])
   ∧ (∀ s : State, s.on MSYN_STS.ACQ = true → s.get MSYN_STS.ATTEMPT < 3 → s.on MSYN_STS.HELD = false →
     ∃ t, exec .acquisitionAttemptTimeout s = .next t
       ∧ t.rd .MSYN_STS = MSYN_STS.STATE.put (MSYN_STS.ATTEMPT.put (s.rd .MSYN_STS) (s.get MSYN_STS.ATTEMPT + 1)) 2
       ∧ s.counted t .MSYN_ATTEMPT_FAIL_CNT 0 1
       ∧ s.frame t [] [(.MSYN_STS, 0), (.MSYN_ATTEMPT_FAIL_CNT, 0)])
   ∧ (∀ s : State, s.on MSYN_STS.ACQ = true → s.get MSYN_STS.ATTEMPT < 3 → s.on MSYN_STS.HELD = true →
     ∃ t, exec .acquisitionAttemptTimeout s = .next t
       ∧ t.rd .MSYN_STS = MSYN_STS.ATTEMPT.put (s.rd .MSYN_STS) (s.get MSYN_STS.ATTEMPT + 1) ∧ t.msyn = { s.msyn with heldStage := 2 }
       ∧ s.counted t .MSYN_ATTEMPT_FAIL_CNT 0 1
       ∧ s.frame t [.msyn] [(.MSYN_STS, 0), (.MSYN_ATTEMPT_FAIL_CNT, 0)]))
  ∧ ((∀ s : State, s.get MSYN_STS.STATE ≠ 0 → s.on MSYN_STS.HELD = false → s.mode ≠ 11 →
     ∃ t, exec .xoReferenceMissing s = .next t
       ∧ t.rd .MSYN_STS = MSYN_STS.STATE.put (MSYN_STS.REFMISS.put (MSYN_STS.HELD.put (s.rd .MSYN_STS) 1) 1) 7
       ∧ s.counted t .MSYN_REFMISS_CNT 0 1 ∧ t.msyn = { s.msyn with heldStage := s.get MSYN_STS.STATE }
       ∧ s.frame t [.msyn] [(.MSYN_STS, 0), (.MSYN_REFMISS_CNT, 0)])
   ∧ (∀ s : State, s.on MSYN_STS.REFMISS = true → s.on CLK_STS.FORCED = false → s.mode ≠ 11 →
     ∃ t, exec .xoReferenceResumed s = .next t
       ∧ t.rd .MSYN_STS = (if s.msyn.heldBasic then MSYN_STS.REFMISS.put (s.rd .MSYN_STS) 0
           else MSYN_STS.STATE.put (MSYN_STS.REFMISS.put (MSYN_STS.HELD.put (s.rd .MSYN_STS) 0) 0) s.msyn.heldStage)
       ∧ s.frame t [] [(.MSYN_STS, 0)]))

/-- R42, R45: a lock declared: the loop is locked, the acquisition ends with the number of its attempts and its duration, and the
master-cycle count starts at the first lock and goes on at any other. R44, R48, R49: an unlock with no rotation running clears LOCK, is counted and logged, and opens the window of 1 ms; recovery sets LOCK
again; the grace of an unlock that is not an active's of a formed pair ends in the unlocked state, behind a hold too.
An entry that may find the log port busy is written, or lost and counted (R302, log 33). -/
def Obligations.MasterLockCourse : Prop :=
  (∀ (s : State) (durationUs tune : Nat),
     s.get MSYN_STS.STATE = 3 → s.on MSYN_STS.ACQ = true → s.on MSYN_STS.HELD = false →
     ∃ t, exec (.masterLockDeclared durationUs tune) s = .next t
       ∧ t.get MSYN_STS.LOCK = 1 ∧ t.get MSYN_STS.STATE = 4 ∧ t.get MSYN_STS.ACQ = 0 ∧ t.get MSYN_STS.ATTEMPT = 0
       ∧ t.get MSYN_ACQ.ATTEMPTS = s.get MSYN_STS.ATTEMPT ∧ t.get MSYN_ACQ.LOCK_TIME = min durationUs (2 ^ 24 - 1)
       ∧ t.rd .MSYN_CMD = 0 ∧ t.rd .MSYN_TUNE = MSYN_TUNE.TUNE.put (s.rd .MSYN_TUNE) tune
       ∧ t.msyn.counting = true ∧ t.msyn.mcc = (if s.msyn.counting then s.msyn.mcc else 0)
       ∧ s.frame t [.msyn, .rst] [(.MSYN_STS, 0), (.MSYN_ACQ, 0), (.MSYN_TUNE, 0), (.MSYN_CMD, 0)])
  ∧ ((∀ s : State, s.on MSYN_STS.LOCK = true → (3 ≤ s.mode ∧ s.mode ≤ 8 ∨ s.mode = 10) → s.on CAL_STS.ROTATING = false →
     ∃ t, exec .masterUnlock s = .next t
       ∧ t.rd .MSYN_STS = MSYN_STS.STATE.put (MSYN_STS.LOCK.put (s.rd .MSYN_STS) 0) 5
       ∧ s.counted t .MSYN_UNLOCK_CNT 0 1 ∧ t.msyn = { s.msyn with unlocked := true }
       ∧ s.wrote t 5 1 2 (s.rd .MSYN_PHERR) (s.rd .MSYN_TUNE) 0
       ∧ t.pair = { s.pair with evidence := s.pair.evidence.lor 16 }
       ∧ s.frame t [.msyn, .pair, .mgmt, .free] [(.MSYN_STS, 0), (.MSYN_UNLOCK_CNT, 0), (.MGMT_LOG_OVW_CNT, 0), (.MGMT_LOG_LOST_CNT, 0)])
   ∧ (∀ s : State, s.on MSYN_STS.LOCK = false → s.on MSYN_STS.ACQ = false → s.on MSYN_STS.HELD = false → s.msyn.everLocked = true →
       s.mode ≠ 11 →
     ∃ t, exec .masterLockRecovered s = .next t
       ∧ t.rd .MSYN_STS = MSYN_STS.STATE.put (MSYN_STS.LOCK.put (s.rd .MSYN_STS) 1) 4
       ∧ t.msyn = { s.msyn with unlocked := false } ∧ s.wrote t 5 1 2 (s.rd .MSYN_PHERR) (s.rd .MSYN_TUNE) 1
       ∧ s.frame t [.msyn, .mgmt, .free] [(.MSYN_STS, 0), (.MGMT_LOG_OVW_CNT, 0), (.MGMT_LOG_LOST_CNT, 0)])
   ∧ (∀ s : State, s.get MSYN_STS.STATE = 5 → s.isActive = false →
     ∃ t, exec .unlockGraceExpired s = .next t
       ∧ t.rd .MSYN_STS = MSYN_STS.STATE.put (s.rd .MSYN_STS) 6 ∧ s.frame t [] [(.MSYN_STS, 0)])
   ∧ (∀ s : State, s.get MSYN_STS.STATE = 7 → s.msyn.heldStage = 5 → s.isActive = false →
     ∃ t, exec .unlockGraceExpired s = .next t
       ∧ t.msyn = { s.msyn with heldStage := 6 } ∧ s.frame t [.msyn] []))

/-- R26, R48, R116, R296: the events that lead to BASIC: a loss of master lock that its 1 ms window does not recover, a mismatch of the
lockstep processors, an uncorrectable word of the program store; a scrub that meets corrected words only counts them.
An entry that may find the log port busy is written, or lost and counted (R302, log 33). -/
def Obligations.BasicEntries : Prop :=
  (∀ s : State, s.msyn.unlocked = true → s.on MSYN_STS.LOCK = false → s.mode ≠ 0 → s.mode ≠ 9 → s.mode ≠ 11 →
    ∃ t, exec .masterUnlockTimeout s = .next t
      ∧ s.fellToBasic t 3 [.msyn] [] ∧ t.on MSYN_STS.HELD = true ∧ t.msyn = { s.msyn with unlocked := false, heldBasic := true })
  ∧ (∀ s : State, s.mgmtRuns = true → s.mode ≠ 9 →
    ∃ t, exec .lockstepMismatch s = .next t ∧ s.fellToBasic t 5 [] [])
  ∧ (∀ (s : State) (n : Nat), s.on ENG_CTL.SCRUB_EN = true → s.mode ≠ 0 → s.mode ≠ 9 → s.mode ≠ 11 →
    ∃ t, exec (.pstoreScrub n true) s = .next t
      ∧ t.on ENG_POOL.PSTORE_OK = false ∧ s.counted t .ENG_PSTORE_CORR_CNT 0 n
      ∧ s.fellToBasic t 4 [] [(.ENG_PSTORE_CORR_CNT, 0), (.ENG_POOL, 0)])
  ∧ (∀ (s : State) (n : Nat), s.on ENG_CTL.SCRUB_EN = true → s.mode ≠ 0 → s.mode ≠ 11 →
    ∃ t, exec (.pstoreScrub n false) s = .next t
      ∧ s.counted t .ENG_PSTORE_CORR_CNT 0 n ∧ s.frame t [] [(.ENG_PSTORE_CORR_CNT, 0)])

/-- R265, R266: the second window in range sets XO_OK, and each window shows its count beside the expected one; one window out of range
only counts towards the failure. R265, R266, R287: an XO failure is declared by a missing edge, and by the second window out of range.
An entry that may find the log port busy is written, or lost and counted (R302, log 33). -/
def Obligations.ClockWindowAndXoFailure : Prop :=
  ((∀ (s : State) (count : Nat), s.monitorRuns = true → 1 ≤ s.rst.goodWin →
       5 * ((count * 100000000 : Nat) - ((s.get MSYN_XOF.XOF * 1024 : Nat) : Int)).natAbs ≤ s.get MSYN_XOF.XOF * 1024 →
     ∃ t, exec (.xoMonitorWindow count) s = .next t
       ∧ t.rd .CLK_STS = CLK_STS.XO_OK.put (s.rd .CLK_STS) 1
       ∧ t.rd .CLK_XOCNT = CLK_XOCNT.EXPECT.put (CLK_XOCNT.COUNT.put (s.rd .CLK_XOCNT) (min count 65535)) (min s.xoExpect 65535)
       ∧ t.rst = { s.rst with goodWin := 2, badWin := 0, xoFailed := false }
       ∧ s.frame t [.rst] [(.CLK_STS, 0), (.CLK_XOCNT, 0)])
   ∧ (∀ (s : State) (count : Nat), s.monitorRuns = true → s.rst.badWin = 0 →
       s.get MSYN_XOF.XOF * 1024 < 5 * ((count * 100000000 : Nat) - ((s.get MSYN_XOF.XOF * 1024 : Nat) : Int)).natAbs →
     ∃ t, exec (.xoMonitorWindow count) s = .next t
       ∧ t.rd .CLK_XOCNT = CLK_XOCNT.EXPECT.put (CLK_XOCNT.COUNT.put (s.rd .CLK_XOCNT) (min count 65535)) (min s.xoExpect 65535)
       ∧ t.rst = { s.rst with goodWin := 0, badWin := 1 } ∧ s.frame t [.rst] [(.CLK_XOCNT, 0)]))
  ∧ ((∀ s : State, s.monitorRuns = true → s.rst.xoFailed = false →
     ∃ t, exec .xoMissingEdge s = .next t ∧ s.xoDeclared t)
   ∧ (∀ (s : State) (count : Nat), s.monitorRuns = true → s.rst.xoFailed = false → 1 ≤ s.rst.badWin →
       s.get MSYN_XOF.XOF * 1024 < 5 * ((count * 100000000 : Nat) - ((s.get MSYN_XOF.XOF * 1024 : Nat) : Int)).natAbs →
     ∃ t, exec (.xoMonitorWindow count) s = .next t ∧ s.xoDeclared t
       ∧ t.rd .CLK_XOCNT = CLK_XOCNT.EXPECT.put (CLK_XOCNT.COUNT.put (s.rd .CLK_XOCNT) (min count 65535)) (min s.xoExpect 65535)))

/-- R260, R266, R267: the system PLL locks; a proof that fails is counted and one that holds starts the switch of ROOT; the switch
completes, by itself or through the forced select. R269, R287: the XO counts as absent in a BOOT that does not get it; the frequency count ends in its result; the tuning word is
trimmed and held in BASIC without an XO, where the master-cycle count starts. -/
def Obligations.RootSwitchesAndCompletions : Prop :=
  ((∀ s : State, s.on CLK_STS.XO_OK = true → s.mode ≠ 0 → s.mode ≠ 11 → s.internalStart = false →
     ∃ t, exec .systemPllLock s = .next t
       ∧ t.rd .CLK_STS = CLK_STS.SPLL_LOCK.put (s.rd .CLK_STS) 1 ∧ s.frame t [] [(.CLK_STS, 0)])
   ∧ (∀ (s : State) (toSpll : Bool), (s.mode = 1 ∨ s.mode = 10 ∨ s.mode = 11) → s.internalStart = false → s.rst.mux = .idle →
       s.on CLK_STS.ROOT_INT = toSpll →
     (∃ t, exec (.muxProofWindow toSpll false) s = .next t
       ∧ s.counted t .CLK_MUX_REJ_CNT 0 1 ∧ s.frame t [] [(.CLK_MUX_REJ_CNT, 0)])
     ∧ ((toSpll = true → s.on CLK_STS.FORCED = false) →
       ∃ t, exec (.muxProofWindow toSpll true) s = .next t
         ∧ t.rst = { s.rst with mux := .switching toSpll } ∧ s.frame t [.rst] []))
   ∧ (∀ (s : State) (toSpll : Bool), s.rst.mux = .switching toSpll → s.mode ≠ 1 →
     (∃ t, exec .muxSwitchComplete s = .next t
       ∧ t.rd .CLK_STS = CLK_STS.ROOT_INT.put (s.rd .CLK_STS) (flag (!toSpll)) ∧ s.counted t .CLK_MUX_CNT 0 1
       ∧ t.rst = { s.rst with mux := .idle } ∧ s.frame t [.rst] [(.CLK_STS, 0), (.CLK_MUX_CNT, 0)])
     ∧ ∃ t, exec .muxSwitchTimeout s = .next t
       ∧ t.rd .CLK_STS = CLK_STS.ROOT_INT.put (s.rd .CLK_STS) (flag (!toSpll)) ∧ s.counted t .CLK_MUX_CNT 0 1
       ∧ s.counted t .CLK_MUX_FORCE_CNT 0 1 ∧ t.rst = { s.rst with mux := .idle }
       ∧ s.frame t [.rst] [(.CLK_STS, 0), (.CLK_MUX_CNT, 0), (.CLK_MUX_FORCE_CNT, 0)]))
  ∧ ((∀ s : State, s.mode = 1 → s.internalStart = false → (s.on CLK_STS.XO_OK = false ∨ s.on CLK_STS.ROOT_INT = true) →
     ∃ t, exec .xoAbsentTimeout s = .next t ∧ t.rst = { s.rst with xoAbsent := true } ∧ s.frame t [.rst] [])
   ∧ (∀ (s : State) (count : Nat), s.on CLK_STS.FC_BUSY = true →
     ∃ t, exec (.freqCountDone count) s = .next t
       ∧ t.rd .CLK_FC_RES = BitVec.ofNat 32 (min count (2 ^ 32 - 1))
       ∧ t.rd .CLK_STS = CLK_STS.FC_DONE.put (CLK_STS.FC_BUSY.put (s.rd .CLK_STS) 0) 1
       ∧ t.rd .CLK_FC_CTL = CLK_FC_CTL.START.put (s.rd .CLK_FC_CTL) 0
       ∧ s.frame t [] [(.CLK_FC_RES, 0), (.CLK_STS, 0), (.CLK_FC_CTL, 0)])
   ∧ (∀ (s : State) (vco band tune : Nat), s.mode = 9 → s.dev.basicNoXo = true → s.on OUT_CTL.INTREF_OK = true →
       s.msyn.everLocked = false →
     ∃ t, exec (.intrefTrimComplete vco band tune) s = .next t
       ∧ t.rd .MSYN_STS = MSYN_STS.STATE.put (MSYN_STS.HELD.put (MSYN_STS.BAND.put (MSYN_STS.VCO.put (s.rd .MSYN_STS) vco) band) 1) 7
       ∧ t.rd .MSYN_TUNE = MSYN_TUNE.TUNE.put (s.rd .MSYN_TUNE) tune
       ∧ t.msyn = { s.msyn with intref := true, counting := true, mcc := 0, everLocked := true }
       ∧ s.frame t [.msyn] [(.MSYN_STS, 0), (.MSYN_TUNE, 0)]))

/-- R360, R361, R362, R363: outside L3 and L4 the TAP takes the instruction of the opcode's low six bits, BYPASS where the table lists none;
the boundary register takes what the scans under an instruction that selects it have left there; an instruction that takes the pins puts
the device into TEST, where the master and every output show TAP and no time words leave; Test-Logic-Reset selects IDCODE and leaves the
mode. R53, R71, R250: an item in progress is aborted, and its words change too. -/
def Obligations.TapInstructions : Prop :=
  (∀ (s : State) (op : Nat) (scan : BitVec 502), s.rst.level < 4 →
    ∃ t, exec (.tapUpdateIr ⟨op, scan⟩) s = .next t
      ∧ t.rst = { s.rst with
          tap := if op % 64 ≤ 6 then op % 64 else 0x3F
          cells := if s.rst.tap = 0 ∨ s.rst.tap = 1 ∨ s.rst.tap = 5 ∨ s.rst.tap = 6 then scan else s.rst.cells
          tapMuted := t.rst.tapMuted }
      ∧ (op % 64 = 1 ∨ op % 64 = 2 ∨ 7 ≤ op % 64 ∨ s.mode = 0 ∨ s.mode = 11 → t.rst.tapMuted = s.rst.tapMuted ∧ s.frame t [.rst] [])
      ∧ ((op % 64 = 0 ∨ 3 ≤ op % 64 ∧ op % 64 ≤ 6) → s.mode ≠ 0 → s.mode ≠ 11 →
          t.mode = 11 ∧ t.get MSYN_STS.STATE = 8 ∧ (∀ n, n < 128 → t.get OUT_STS.STATE n = 3) ∧ t.on TWL_STS.FRAMES = false
            ∧ (∀ n, n ∈ t.rst.tapMuted ↔ n < 128 ∧ (s.on OUT_CFG.EN n = false ∨ s.get OUT_STS.STATE n = 0))
            ∧ s.keepsParts t [.rst, .cal, .twl]
            ∧ (s.get CAL_STS.ITEM = 0xFF → s.keepsWords t
                ([(.DEV_MODE, 0), (.CAL_STS, 0), (.MSYN_STS, 0), (.TWL_STS, 0)] ++ (List.range 128).map fun n => (.OUT_STS, n)))))
  ∧ (∀ s : State, ∃ t, exec .tapReset s = .next t ∧ t.rst = { s.rst with tap := 2 } ∧ s.frame t [.rst] [])

/-- R71, R73, R369: an output whose conditions hold starts; a running pin whose condition failed stops at the muted level, where a divider
that waits takes its place. R73: at the end of a driver change the output starts under R71 with the deskew and source in force, or stays muted where a condition
fails. R78, R222: a miss and an extra edge set the fault bit of their pin and count it; an active whose peer is in STANDBY_STEP yields where
LB_YIELD asks for it; clean edges clear the bit. -/
def Obligations.OutputChanges : Prop :=
  ((∀ (s : State) (n : Nat), n < 128 → s.get OUT_STS.STATE n = 1 → s.outMayRun n = true →
     ∃ t, exec (.outputStart (.out n)) s = .next t
       ∧ t.rd .OUT_STS n = OUT_STS.STATE.put (s.rd .OUT_STS n) 2 ∧ s.frame t [] [(.OUT_STS, n)])
   ∧ (∀ (s : State) (m : Nat), m < 16 → s.ppsRuns m = false → s.ppsMayRun m = true → (s.ppsPin m).stopping = false →
     ∃ t, exec (.outputStart (.pps m)) s = .next t
       ∧ t.rd .OUT_PPS_STS = OUT_PPS_STS.RUN.put (s.rd .OUT_PPS_STS) (withBit (s.get OUT_PPS_STS.RUN) m true)
       ∧ t.ppsPin m = { s.ppsPin m with
           src := s.get PPS_CFG.SRC m, width := s.get PPS_WIDTH.WIDTH m, ofs := signedOf 32 (s.get PPS_OFS.OFS m), hold := none }
       ∧ s.onlyPps t m ∧ s.frame t [.pps] [(.OUT_PPS_STS, 0)])
   ∧ (∀ (s : State) (n : Nat), n < 128 → s.get OUT_STS.STATE n = 2 → (s.out n).stopping = true → (s.out n).divPend = none →
     ∃ t, exec (.outputStop (.out n)) s = .next t
       ∧ t.rd .OUT_STS n = OUT_STS.STATE.put (s.rd .OUT_STS n) 0
       ∧ t.out n = { s.out n with stopping := false, hold := none }
       ∧ s.onlyOut t n ∧ s.frame t [.outs] [(.OUT_STS, n)])
   ∧ (∀ (s : State) (n d : Nat) (k : Int), n < 128 → s.get OUT_STS.STATE n = 2 → (s.out n).stopping = true →
       (s.out n).divPend = some (d, k) →
     ∃ t, exec (.outputStop (.out n)) s = .next t
       ∧ t.rd .OUT_STS n = OUT_STS.STATE.put (s.rd .OUT_STS n) 0 ∧ t.rd .OUT_DIV n = OUT_DIV.DIVM1.put (s.rd .OUT_DIV n) d
       ∧ t.out n = { s.out n with stopping := false, divPend := none, k0 := k, hold := none }
       ∧ s.onlyOut t n ∧ s.frame t [.outs] [(.OUT_STS, n), (.OUT_DIV, n)])
   ∧ (∀ (s : State) (m : Nat), m < 16 → s.ppsRuns m = true → (s.ppsPin m).stopping = true →
     ∃ t, exec (.outputStop (.pps m)) s = .next t
       ∧ t.rd .OUT_PPS_STS = OUT_PPS_STS.RUN.put (s.rd .OUT_PPS_STS) (withBit (s.get OUT_PPS_STS.RUN) m false)
       ∧ t.ppsPin m = { s.ppsPin m with stopping := false, hold := none }
       ∧ s.onlyPps t m ∧ s.frame t [.pps] [(.OUT_PPS_STS, 0)]))
  ∧ (∀ (s : State) (n : Nat), n < 128 → (s.out n).muteWait = true → (s.out n).stopping = false → s.get OUT_STS.STATE n = 0 →
     (s.outMayRun n = true → ∃ t, exec (.driverChangeMuteEnd n) s = .next t
       ∧ t.rd .OUT_STS n = OUT_STS.DESKEW_PEND.put (OUT_STS.STATE.put (s.rd .OUT_STS n) 1) 0
       ∧ t.out n = { s.out n with muteWait := false, src := s.get OUT_CFG.SRC n, deskew := s.get OUT_DRV.DESKEW n }
       ∧ s.onlyOut t n ∧ s.frame t [.outs] [(.OUT_STS, n)])
     ∧ (s.outMayRun n = false → ∃ t, exec (.driverChangeMuteEnd n) s = .next t
       ∧ t.out n = { s.out n with muteWait := false } ∧ s.onlyOut t n ∧ s.frame t [.outs] []))
  ∧ ((∀ (s : State) (n : Nat) (miss : Bool), n < 128 → s.lbActive (.out n) = true →
     ∃ t, exec (if miss then .loopbackMiss (.out n) else .loopbackExtra (.out n)) s = .next t
       ∧ t.rd .OUT_STS n = OUT_STS.LB_FAULT.put (s.rd .OUT_STS n) 1
       ∧ s.counted t (if miss then .OUT_LB_MISS_CNT else .OUT_LB_EXTRA_CNT) n 1
       ∧ t.pair = (if s.peerInStep && s.on PAIR_CFG.LB_YIELD && s.pair.yieldPend.isNone
           then { s.pair with yieldPend := some 3 } else s.pair)
       ∧ s.frame t [.pair] [(.OUT_STS, n), (if miss then .OUT_LB_MISS_CNT else .OUT_LB_EXTRA_CNT, n)])
   ∧ (∀ (s : State) (m : Nat) (miss : Bool), m < 16 → s.lbActive (.pps m) = true →
     ∃ t, exec (if miss then .loopbackMiss (.pps m) else .loopbackExtra (.pps m)) s = .next t
       ∧ t.rd .OUT_PPS_STS = OUT_PPS_STS.LB_FAULT.put (s.rd .OUT_PPS_STS) (withBit (s.get OUT_PPS_STS.LB_FAULT) m true)
       ∧ s.counted t .PPS_LB_CNT m 1
       ∧ t.pair = (if s.peerInStep && s.on PAIR_CFG.LB_YIELD && s.pair.yieldPend.isNone
           then { s.pair with yieldPend := some 3 } else s.pair)
       ∧ s.frame t [.pair] [(.OUT_PPS_STS, 0), (.PPS_LB_CNT, m)])
   ∧ (∀ (s : State) (n : Nat), n < 128 → s.lbActive (.out n) = true →
     ∃ t, exec (.loopbackFaultClear (.out n)) s = .next t
       ∧ t.rd .OUT_STS n = OUT_STS.LB_FAULT.put (s.rd .OUT_STS n) 0 ∧ s.frame t [] [(.OUT_STS, n)])
   ∧ (∀ (s : State) (m : Nat), m < 16 → s.lbActive (.pps m) = true →
     ∃ t, exec (.loopbackFaultClear (.pps m)) s = .next t
       ∧ t.rd .OUT_PPS_STS = OUT_PPS_STS.LB_FAULT.put (s.rd .OUT_PPS_STS) (withBit (s.get OUT_PPS_STS.LB_FAULT) m false)
       ∧ s.frame t [] [(.OUT_PPS_STS, 0)]))

/-- R63, R114, R23: a channel in ACQ with its 64 iterations enters LOCK, one in LOCK with its four beyond 2W enters ACQ, each counted; a
running device takes the mode that its channels then give; the wait to restore only marks its list entry. -/
def Obligations.ChannelLockMoves : Prop :=
  (∀ (s : State) (c : Nat), c < 512 → (s.chan c).state = .acq → 64 ≤ (s.chan c).lockRun →
    ∃ t, exec (.channelLockDeclared c) s = .next t
      ∧ t.chan c = { s.chan c with state := .lock, lockRun := 0, unlRun := 0 } ∧ s.counted t .CH_LOCK_CNT c 1
      ∧ t.mode = (if s.isRun then t.runMode else s.mode)
      ∧ s.onlyChan t c ∧ s.frame t [.chans, .mgmt, .free] [(.CH_LOCK_CNT, c), (.DEV_MODE, 0), (.MGMT_LOG_OVW_CNT, 0), (.MGMT_LOG_LOST_CNT, 0)])
  ∧ (∀ (s : State) (c : Nat), c < 512 → (s.chan c).state = .lock → 4 ≤ (s.chan c).unlRun →
    ∃ t, exec (.channelLockLost c) s = .next t
      ∧ t.chan c = { s.chan c with state := .acq, lockRun := 0, unlRun := 0 } ∧ s.counted t .CH_UNLOCK_CNT c 1
      ∧ t.mode = (if s.isRun then t.runMode else s.mode)
      ∧ s.onlyChan t c ∧ s.frame t [.chans, .mgmt, .free] [(.CH_UNLOCK_CNT, c), (.DEV_MODE, 0), (.MGMT_LOG_OVW_CNT, 0), (.MGMT_LOG_LOST_CNT, 0)])
  ∧ (∀ (s : State) (c k : Nat), c < 512 → k < 8 →
    ∃ t, exec (.waitToRestoreExpired ⟨c, k⟩) s = .next t
      ∧ t.chan c = { s.chan c with wtrDone := k :: (s.chan c).wtrDone.filter (· != k) } ∧ s.onlyChan t c ∧ s.frame t [.chans] [])

/-- R86 to R90, R100, R101: a trigger to one eligible channel, from a pin, the host, the TWL or the peer's stream, commits the armed
preset for its instant H and empties the slot. -/
def Obligations.HopTriggersCommit : Prop :=
  (∀ (s : State) (p cyc : Nat) (x : Preset), p < 8 → s.on HOP_PIN_CFG.EN p = true → s.on HOP_PIN_CFG.TGT p = true → p ∉ s.holdoff →
      s.hopReady .pin (s.get HOP_PIN_CFG.CH p) x →
    ∃ t, exec (.hopPinEdge ⟨p, !s.on HOP_PIN_CFG.EDGE p⟩ cyc) s = .next t
      ∧ s.counted t .HOP_PIN_CNT p 1 ∧ t.holdoff = (if s.on HOP_PIN_CFG.HOLDOFF p then p :: s.holdoff else s.holdoff)
      ∧ s.hopCommitted t .pin (s.get HOP_PIN_CFG.CH p) x (s.instantH (cyc + 16)) [.holdoff] [(.HOP_PIN_CNT, p)])
  ∧ (∀ (s : State) (p : Port) (w : Word) (cyc : Nat) (x : Preset), s.portsClosed = false → (isHost p = true → s.blockShut 3 = false) → s.liveOnly = none →
      HOP_CMD.TGT.of w ≠ 0 → s.hopReady .host (HOP_CMD.CH.of w) x →
    ∃ t, exec (.hopCommand p w cyc) s = .next t
      ∧ s.hopCommitted t .host (HOP_CMD.CH.of w) x (s.instantH cyc) [] [(.HOP_CMD, 0)])
  ∧ (∀ (s : State) (ty : Octet) (q : BitVec 16) (pay : BitVec 128) (crc : Word) (c gmask cyc : Nat) (x : Preset),
      let os := hopOctets ty q pay crc
      s.rxReads = true → returnCrcOk os = true → returnMsg os = .hop ⟨true, c, gmask⟩ → s.hopReady .twl c x →
    ∃ t, exec (.twlHopMessage ty q pay crc cyc) s = .next t
      ∧ s.counted t .TWL_HOP_RX_CNT 0 1 ∧ t.twl = { s.twl with rxSeq := some (beAt os 1 2 % 65536) }
      ∧ s.hopCommitted t .twl c x (s.instantH cyc) [.twl] [(.TWL_HOP_RX_CNT, 0), (.TWL_RX_SEQGAP_CNT, 0)])
  ∧ (∀ (s : State) (cyc exec_ : Nat) (r : HopRec) (x : Preset), s.pair.stream = [⟨exec_, .hop r⟩] → r.chTarget = true → r.ch < 512 →
      ((exec_ : Int) - s.dev.tick) * 12800 + r.ofs = (cyc / 8 * 8 + 40 : Nat) → s.hopReady .peer r.ch x →
    ∃ t, exec (.peerHopRouterEntry cyc) s = .next t
      ∧ t.pair = { s.pair with stream := [] }
      ∧ s.hopCommitted t .peer r.ch x (s.msyn.mcc + cyc / 8 * 8 + 40) [] [])

/-- R84, R85, R87, R88, R98: the edge that EDGE does not name does nothing; an edge in holdoff is counted and does nothing else, and holdoff
ends for its pin alone; an arming that passes its checks fills the slot, one that fails leaves it empty and is counted; a FROZEN channel
drops the hop whose edge E has come. That a channel disabled after the commit drops its hop at H is the model's choice (log 128). -/
def Obligations.HopEdgesAndArming : Prop :=
  (∀ (s : State) (p cyc : Nat), p < 8 →
    (∃ t, exec (.hopPinEdge ⟨p, s.on HOP_PIN_CFG.EDGE p⟩ cyc) s = .next t ∧ s.frame t [] [])
    ∧ (s.mode ≠ 0 → s.on HOP_PIN_CFG.EN p = true → p ∈ s.holdoff → ∃ t, exec (.hopPinEdge ⟨p, !s.on HOP_PIN_CFG.EDGE p⟩ cyc) s = .next t
      ∧ s.counted t .HOP_HOLDOFF_CNT 0 1 ∧ s.frame t [] [(.HOP_HOLDOFF_CNT, 0)]))
  ∧ (∀ (s : State) (p : Nat), p < 8 →
    ∃ t, exec (.hopHoldoffExpired p) s = .next t
      ∧ (∀ q, q ∈ t.holdoff ↔ q ∈ s.holdoff ∧ q ≠ p) ∧ s.frame t [.holdoff] [])
  ∧ (∀ (s : State) (c : Nat) (p : Preset), c < 512 → (s.chan c).arming = some p →
    (s.armOk c p = true → ∃ t, exec (.hopArmingComplete c) s = .next t
      ∧ t.chan c = { s.chan c with arming := none, armed := some p } ∧ s.onlyChan t c ∧ s.frame t [.chans] [])
    ∧ (s.armOk c p = false → ∃ t, exec (.hopArmingComplete c) s = .next t
      ∧ t.chan c = { s.chan c with arming := none, armed := none } ∧ s.onlyChan t c ∧ s.counted t .HOP_ARMFAIL_CNT 0 1
      ∧ s.frame t [.chans] [(.HOP_ARMFAIL_CNT, 0)]))
  ∧ (∀ (s : State) (c : Nat) (f : InFlight), c < 512 → (s.chan c).inflight = some f →
      ((s.chan c).running = true ∧ s.chEn c = true ∧ (s.chan c).state = .frozen
          ∧ (edgeAfter (s.chan c) (s.p0 c) s.msyn.mcc f.h).isSome = true
        ∨ s.chEn c = false ∧ f.h < s.msyn.mcc + 12800) →
    ∃ t, exec (.hopTakesEffect c) s = .next t
      ∧ t.chan c = { s.chan c with inflight := none } ∧ s.onlyChan t c ∧ s.counted t .HOP_IGNORED_CNT 0 1
      ∧ s.frame t [.chans] [(.HOP_IGNORED_CNT, 0)])

/-- R91 to R95: a hop whose edge E falls in the tick takes effect there: the period words and the residue are the preset's, the live
word is the preset's or keeps the rate, the offset follows where the preset loads it, channel time runs on through E, and the hop is
done. Without a step of the offset no pin is held; with one only the pins that the channel feeds are. With no pending words and no divider to
load, nothing else changes. -/
def Obligations.HopTakesEffectAtEdge : Prop :=
  ∀ (s : State) (c : Nat) (f : InFlight) (e : EdgeE), c < 512 → (s.chan c).inflight = some f → (s.chan c).state ≠ .frozen →
    (s.chan c).running = true → s.chEn c = true → edgeAfter (s.chan c) (s.p0 c) s.msyn.mcc f.h = some e →
    f.preset.ldDiv = false → s.dev.groups = [] → s.dev.spi.open_ = [] → s.dev.inb.open_ = [] → s.dev.shadow = [] →
    s.pair.cfgOpen = [] → s.pair.stream = [] → s.pair.out = [] →
    ∃ t, exec (.hopTakesEffect c) s = .next t
      ∧ t.rd .CH_PNOM_LO c = BitVec.ofNat 32 f.preset.pnom ∧ t.rd .CH_PNOM_HI c = BitVec.ofNat 32 (f.preset.pnom / 2 ^ 32)
      ∧ t.rd .CH_PRES c = f.preset.pres
      ∧ t.rd .CH_PHOFS c = (if f.preset.ldPhofs then f.preset.theta else s.rd .CH_PHOFS c)
      ∧ (t.chan c).p = (if f.preset.keepRate || (s.chan c).state == .overcast
          then carryRate f.preset.pnom (s.chan c).p (s.p0 c) else f.preset.pnom)
      ∧ (t.chan c).resAcc = 0 ∧ (t.chan c).time = addTime (s.chan c).time e.dt
      ∧ (t.chan c).restNum = e.restNum ∧ (t.chan c).restDen = e.restDen
      ∧ (t.chan c).anchor + (s.chan c).thetaLive + e.m * (tnomOf f.preset.pnom : Nat) = ((s.chan c).time + e.dt : Nat)
      ∧ (t.chan c).inflight = none ∧ (t.chan c).hopDone = some f ∧ (t.chan c).armed = (s.chan c).armed
      ∧ (t.chan c).state = (s.chan c).state ∧ (t.chan c).adj = (s.chan c).adj
      ∧ (f.preset.ldPhofs = false → t.outs = s.outs ∧ t.pps = s.pps)
      ∧ (∀ n, (s.out n).src ≠ c → t.out n = s.out n) ∧ (∀ m, (s.ppsPin m).src ≠ c → t.ppsPin m = s.ppsPin m)
      ∧ t.twl = { s.twl with jump := t.twl.jump } ∧ s.onlyChan t c
      ∧ s.frame t [.chans, .outs, .pps, .twl] [(.CH_PNOM_LO, c), (.CH_PNOM_HI, c), (.CH_PRES, c), (.CH_PHOFS, c), (.DEV_LOST_WRITES, 0)]

/-- R108 to R112, R135: outside L2 and wider the events of an input move its qualification state; a move into NOSIG or FREQ from SOAK,
QUALIFIED or HIT is counted. R110, R112: a gate closes: the measured offset shows, saturated; in FREQ an offset within the window less its hysteresis moves the
input to SOAK; in SOAK, QUALIFIED and HIT an offset beyond the window moves it to FREQ; any other offset leaves the state. -/
def Obligations.ReferenceChecks : Prop :=
  (∀ (s : State) (i : Nat), i < 36 → s.mode ≠ 0 →
     (s.get REF_STS.STATE i ≠ 0 → s.get REF_STS.STATE i ≠ 1 → s.get REF_STS.STATE i ≠ 6 →
       ∃ t, exec (.refinActivityTimeout i) s = .next t
         ∧ t.rd .REF_STS i = REF_STS.STATE.put (s.rd .REF_STS i) 1
         ∧ s.counted t .REF_DISQ_CNT i (if 3 ≤ s.get REF_STS.STATE i ∧ s.get REF_STS.STATE i ≤ 5 then 1 else 0)
         ∧ t.refin i = { s.refin i with gated := false }
         ∧ s.onlyRefin t i ∧ s.frame t [.refs] [(.REF_STS, i), (.REF_DISQ_CNT, i)])
     ∧ (s.get REF_STS.STATE i = 1 → ∃ t, exec (.refinSignalReturn i) s = .next t
         ∧ t.rd .REF_STS i = REF_STS.STATE.put (s.rd .REF_STS i) 2 ∧ t.refin i = { s.refin i with gated := false }
         ∧ s.onlyRefin t i ∧ s.frame t [.refs] [(.REF_STS, i)])
     ∧ (s.get REF_STS.STATE i = 3 → ∃ t, exec (.refinSoakExpired i) s = .next t
         ∧ t.rd .REF_STS i = REF_STS.STATE.put (s.rd .REF_STS i) 4 ∧ s.frame t [] [(.REF_STS, i)])
     ∧ (s.get REF_STS.STATE i = 5 → ∃ t, exec (.refinHitHoldExpired i) s = .next t
         ∧ t.rd .REF_STS i = REF_STS.STATE.put (s.rd .REF_STS i) 4 ∧ s.frame t [] [(.REF_STS, i)])
     ∧ (s.get REF_STS.STATE i = 5 → ∃ t, exec (.refinHitPersistExpired i) s = .next t
         ∧ t.rd .REF_STS i = REF_STS.STATE.put (s.rd .REF_STS i) 2 ∧ s.counted t .REF_DISQ_CNT i 1
         ∧ s.frame t [] [(.REF_STS, i), (.REF_DISQ_CNT, i)])
     ∧ (s.on REF_CFG.EN i = true → ∃ t, exec (.tdcEdgeDrop i) s = .next t
         ∧ s.counted t .REFIN_TDC_DROP_CNT 0 1 ∧ s.frame t [] [(.REFIN_TDC_DROP_CNT, 0)]))
  ∧ (∀ (s : State) (i : Nat) (ofs : Int), i < 36 → s.mode ≠ 0 → 2 ≤ s.get REF_STS.STATE i → s.get REF_STS.STATE i ≤ 5 →
     ∃ t, exec (.refinFreqGateClose i ofs) s = .next t
       ∧ t.rd .REF_FOFS i = BitVec.ofInt 32 (max (-(2 ^ 31)) (min ofs (2 ^ 31 - 1)))
       ∧ t.refin i = { s.refin i with gated := true }
       ∧ t.get REF_STS.STATE i =
           (if s.get REF_STS.STATE i = 2 then
             if ofs.natAbs * 100 ≤ s.get REF_QUAL.WIN i * 100000 * (100 - s.get REF_HIT.HYST i) then 3 else 2
           else if s.get REF_QUAL.WIN i * 100000 < ofs.natAbs then 2 else s.get REF_STS.STATE i)
       ∧ s.counted t .REF_DISQ_CNT i
           (if 3 ≤ s.get REF_STS.STATE i ∧ s.get REF_QUAL.WIN i * 100000 < ofs.natAbs then 1 else 0)
       ∧ s.onlyRefin t i ∧ s.frame t [.refs] [(.REF_FOFS, i), (.REF_STS, i), (.REF_DISQ_CNT, i)])

/-- R113, R134, R366: LOCKOUT puts its input into LOCKOUT and RELEASE restarts one that is there; a write that sets both is rejected with
reason range and changes no state; a configuration word in range is
stored and restarts the checks of an input outside LOCKOUT; in STANDBY_STEP and TEST the write is rejected. -/
def Obligations.ReferenceCommands : Prop :=
  (∀ (s : State) (p : Port) (i : Nat), i < 36 → s.reaches p .REFIN_CMD 0 → s.mode ≠ 7 → s.mode ≠ 11 →
    (∃ t, exec (.refinLockout p i) s = .next t
      ∧ t.get REF_STS.STATE i = 6 ∧ t.rd .REFIN_CMD = REFIN_CMD.IDX.put (s.rd .REFIN_CMD) i
      ∧ s.frame t [] [(.REFIN_CMD, 0), (.REF_STS, i)])
    ∧ (s.get REF_STS.STATE i = 6 → ∃ t, exec (.refinRelease p i) s = .next t
      ∧ t.get REF_STS.STATE i = (if s.on REF_CFG.EN i then 1 else 0) ∧ t.refin i = .reset
      ∧ s.onlyRefin t i ∧ s.frame t [.refs] [(.REFIN_CMD, 0), (.REF_STS, i)]))
  ∧ (∀ (s : State) (p : Port) (w : Word), s.reaches p .REFIN_CMD 0 → REFIN_CMD.LOCKOUT.of w = 1 → REFIN_CMD.RELEASE.of w = 1 →
    ∃ t, exec (.registerWrite p (Rg.REFIN_CMD.key 0) w) s = .next t
      ∧ t.get DEV_CMD_STATUS.REASON = 4 ∧ s.counted t .DEV_REJECT_CNT 0 1
      ∧ s.frame t [.dev] [(.DEV_CMD_STATUS, 0), (.DEV_REJECT_CNT, 0)])
  ∧ (∀ (s : State) (p : Port) (i word : Nat) (w : Word), i < 36 → word ≤ 3 → s.reaches p (refWord word) i → refWordOk word w = true →
    (s.mode ≠ 7 → s.mode ≠ 11 → ∃ t, exec (.refConfigWrite p i word w) s = .next t
      ∧ t.rd (refWord word) i = mergeMask (s.rd (refWord word) i) w ((refWord word).maskAt i)
      ∧ t.get REF_STS.STATE i = (if s.get REF_STS.STATE i = 6 then 6 else if t.on REF_CFG.EN i then 1 else 0)
      ∧ t.refin i = (if s.get REF_STS.STATE i = 6 then s.refin i else .reset)
      ∧ s.onlyRefin t i
      ∧ s.frame t [.refs, .dev] [(refWord word, i), (.REF_STS, i), (.REF_DISQ_CNT, i), (.CFG_CRC_CTL, 0)])
    ∧ (s.mode = 7 ∨ s.mode = 11 → ∃ t, exec (.refConfigWrite p i word w) s = .next t
      ∧ s.counted t .DEV_REJECT_CNT 0 1
      ∧ t.rd .DEV_CMD_STATUS = BitVec.ofNat 32
          ((if s.mode = 7 then 3 else 1) * 2 ^ 28 + portCode p * 2 ^ 26 + (refWord word).key i)
      ∧ s.frame t [.dev] [(.DEV_REJECT_CNT, 0), (.DEV_CMD_STATUS, 0)]))

/-- R129, R130: a parity error, a watchdog, an uncorrectable data word and an overrun each retire their engine while fewer than 17 are
retired. R26, R130: the 17th retirement leads to BASIC.
An entry that may find the log port busy is written, or lost and counted (R302, log 33). -/
def Obligations.EngineRetirements : Prop :=
  (∀ (s : State) (e : Nat), e < 528 → s.mode ≠ 0 → s.mode ≠ 11 → s.engRetired e = false → s.get ENG_POOL.RETIRED < 16 →
     (∃ t, exec (.engineParityError e) s = .next t ∧ s.engineRetired t e 1 [] [])
     ∧ (∃ t, exec (.engineWatchdogExpired e) s = .next t ∧ s.engineRetired t e 2 [] [])
     ∧ (∃ t, exec (.engineDmemUncorrectable e) s = .next t
         ∧ s.engineRetired t e 4 [.dev] [] ∧ t.dev = { s.dev with badDmem := e :: s.dev.badDmem })
     ∧ ((s.channelOf e).any (fun c => progPosts (s.prog c)) = true →
         ∃ t, exec (.engineOverrun e) s = .next t ∧ s.engineRetired t e 5 [] []))
  ∧ (∀ (s : State) (e : Nat), e < 528 → s.mode ≠ 0 → s.mode ≠ 9 → s.mode ≠ 11 → s.engRetired e = false → s.get ENG_POOL.RETIRED = 16 →
     ∃ t, exec (.engineParityError e) s = .next t
       ∧ t.engRetired e = true ∧ t.get ENG_POOL.RETIRED = 17
       ∧ s.fellToBasic t 1 [.chans]
           [(.ENG_RETIRED, e / 32), (.ENG_RETIRED16, 0), (.ENG_SPARE_FREE, 0), (.ENG_RETIRE_CNT, 0), (.ENG_POOL, 0),
            (.ENG_PARITY_CNT, 0), (.ENG_LAST_RETIRE, 0)])

/-- R130: the spare of a takeover has its load: the channel's ENGIDX names it. R121, R129, R134: the host retires an engine in SERVICE while a spare is free, and restarts a channel's program: the request waits
for the boundary, or goes into the event stream while the active streams; outside SERVICE, RETIRE is rejected. -/
def Obligations.EngineSparesAndCommands : Prop :=
  (∀ (s : State) (c : Nat) (k : Takeover), c < 512 → (s.chan c).takeover = some k → k.loaded = false →
     ∃ t, exec (.spareLoadComplete c) s = .next t
       ∧ t.rd .ENG_CHMAP c = ENG_CHMAP.ENGIDX.put (s.rd .ENG_CHMAP c) k.spare
       ∧ t.chan c = { s.chan c with takeover := some { k with loaded := true } }
       ∧ t.dmem = (s.runDmem k.spare).dmem ∧ t.free = s.free + 1
       ∧ s.onlyChan t c ∧ s.frame t [.chans, .dmem, .free] [(.ENG_CHMAP, c)])
  ∧ ((∀ (s : State) (p : Port) (e : Nat), e < 528 → s.reaches p .ENG_CMD 0 →
     (s.mode = 10 → s.engRetired e = false → s.on ENG_SPARE_FREE.BITS = true → s.get ENG_POOL.RETIRED < 16 →
       ∃ t, exec (.engineRetireCommand p e) s = .next t
         ∧ t.get ENG_CMD.IDX = e ∧ s.engineRetired t e 6 [.dev] [(.ENG_CMD, 0)])
     ∧ (s.mode ≠ 10 → ∃ t, exec (.engineRetireCommand p e) s = .next t
         ∧ t.get ENG_CMD.IDX = e ∧ s.counted t .DEV_REJECT_CNT 0 1
         ∧ s.frame t [.dev] [(.ENG_CMD, 0), (.DEV_REJECT_CNT, 0), (.DEV_CMD_STATUS, 0)]))
   ∧ (∀ (s : State) (p : Port) (c : Nat), c < 512 → s.reaches p .ENG_CMD 0 → s.liveOnly = none →
     ((isHost p && s.pair.streaming) = false → ∃ t, exec (.engineRestart p c) s = .next t
         ∧ t.rd .ENG_CMD = ENG_CMD.RESTART.put (ENG_CMD.IDX.put (s.rd .ENG_CMD) c) 1 ∧ s.frame t [.dev] [(.ENG_CMD, 0)])
     ∧ ((isHost p && s.pair.streaming) = true → ∃ t, exec (.engineRestart p c) s = .next t
         ∧ s.streamedWrite t (Rg.ENG_CMD.key 0) (BitVec.ofNat 32 (2 ^ 30 + c * 65536))
         ∧ t.rd .ENG_CMD = ENG_CMD.IDX.put (s.rd .ENG_CMD) c ∧ s.frame t [.dev, .pair] [(.ENG_CMD, 0)])))

/-- R106, R111, R115, R118, R122, R123, R126, R129: an iteration that is due takes its reading, or the event stream's, and posts its result
with its phase error, which apply at the next boundary; the first iteration after a switchover takes its build-out zero; the completed
exchanges are used up; a post after offset 380 retires the engine with cause 5, a result that fails its check or its clamps with
cause 3. -/
def Obligations.EngineIterations : Prop :=
  ∀ (s : State) (c : Nat) (rd : Reading) (r : EngResult), c < 512 → s.iterationDue c = true →
    let u := if s.fromStream c then s else (s.inputOf c).elim s fun i => s.readInput i rd
    let fresh := u.iterFresh c rd
    let joins := (s.chan c).rezero && s.freqProg c
    let ph := s.measured c r.phase
    let zero := if joins then ph else (s.chan c).zero
    let err := s.phaseError c zero ph
    let res := s.iterResult c r err fresh joins
    let ok := r.checkOk && clampOk (s.p0 c) ((s.chan c).baseP (s.p0 c)) res.p (bitsOf (s.param c 2) 31 16) (s.param c 7)
    let words := (Rg.ENG_DMEM_CORR_CNT, 0) :: (s.inputOf c).elim [] fun i => [(Rg.REF_STS, i), (Rg.REF_HIT_CNT, i)]
    (r.offset ≤ 380 → ok = true → ∃ t, exec (.engineIteration c rd r) s = .next t
      ∧ t.chan c = { s.chan c with
          posted := some ⟨res, err, s.dev.tick + 1, fresh, false⟩, restart := false, zero := zero
          rezero := (s.chan c).rezero && !joins
          lastFresh := if fresh && u.iterQualified c then some s.dev.tick else (s.chan c).lastFresh }
      ∧ t.posts = s.posts ++ [(r.offset, s.engineOf c)] ∧ s.onlyChan t c
      ∧ (∀ f, t.flow f = { s.flow f with done := (s.flow f).done.filter (·.1 != c) })
      ∧ s.counted t .ENG_DMEM_CORR_CNT 0 r.corrected
      ∧ s.frame t [.chans, .posts, .dmem, .refs, .twl, .free] words)
    ∧ (s.engineOf c < 528 → s.get ENG_POOL.RETIRED < 16 →
      (380 < r.offset → ∃ t, exec (.engineIteration c rd r) s = .next t
        ∧ s.engineRetired t (s.engineOf c) 5 [.dmem, .refs, .free] words)
      ∧ (r.offset ≤ 380 → ok = false → ∃ t, exec (.engineIteration c rd r) s = .next t
        ∧ s.engineRetired t (s.engineOf c) 3 [.dmem, .refs, .free] words))

/-- R147, R148: on the return lane a message of unknown type is counted and its sequence number checked; one that fails its CRC is counted and is
not compared; block lock comes and goes. R150, R152, R158, R159: an ack whose tag is not outstanding is an orphan; one that does not stamp is a
drop, and the request it belongs to cannot complete; the ack of a Delay_Req or Pdelay_Req gives its flow the departure time in the scale of
each channel that uses it, which may complete the exchange; a tag that expires is no longer outstanding. -/
def Obligations.ReturnLaneAndAcks : Prop :=
  ((∀ (s : State) (body : BitVec 152) (crc : Word),
     let os := returnOctets body crc
     s.rxReads = true →
     (returnCrcOk os = true → returnMsg os = .unknown → ∃ t, exec (.twlRxBadMessage body crc) s = .next t
       ∧ s.counted t .TWL_RX_TYPE_CNT 0 1
       ∧ s.counted t .TWL_RX_SEQGAP_CNT 0 (if s.twl.rxSeq.any fun q => (q + 1) % 65536 != beAt os 1 2 % 65536 then 1 else 0)
       ∧ t.twl = { s.twl with rxSeq := some (beAt os 1 2 % 65536) }
       ∧ s.frame t [.twl] [(.TWL_RX_TYPE_CNT, 0), (.TWL_RX_SEQGAP_CNT, 0)])
     ∧ (returnCrcOk os = false → ∃ t, exec (.twlRxBadMessage body crc) s = .next t
       ∧ s.counted t .TWL_RX_CRC_CNT 0 1 ∧ s.frame t [] [(.TWL_RX_CRC_CNT, 0)]))
   ∧ (∀ s : State, s.rst.level < 4 → s.rst.settled = true → bitOf (s.get RST_STS.SOFT) 0 = false →
     ∃ t, exec .twlRxBlockLock s = .next t
       ∧ t.rd .TWL_STS = TWL_STS.RX_LOCK.put (s.rd .TWL_STS) 1 ∧ t.twl = { s.twl with rxSeq := none }
       ∧ s.frame t [.twl] [(.TWL_STS, 0)])
   ∧ (∀ s : State, s.on TWL_STS.RX_LOCK = true →
     ∃ t, exec .twlRxBlockLockLoss s = .next t
       ∧ t.rd .TWL_STS = TWL_STS.RX_LOCK.put (s.rd .TWL_STS) 0
       ∧ s.counted t .TWL_RX_BLK_CNT 0 (if s.on TWL_CTL.RX_EN then 1 else 0)
       ∧ s.frame t [] [(.TWL_STS, 0), (.TWL_RX_BLK_CNT, 0)]))
  ∧ ((∀ (s : State) (ty : Octet) (q w1 w2 : BitVec 16) (st : BitVec 96) (crc : Word) (tag status port ch : Nat) (ts : Timestamp),
     let os := ackOctets ty q w1 w2 st crc
     s.rxReads = true → returnCrcOk os = true → returnMsg os = .ack tag status port ch ts →
     (Tab.get none s.twl.tags tag = none → ∃ t, exec (.twlStampAck ty q w1 w2 st crc) s = .next t
       ∧ s.counted t .TWL_ACK_ORPHAN_CNT 0 1 ∧ s.counted t .TWL_ACK_DROP_CNT 0 (if status = 0 then 0 else 1)
       ∧ t.twl = { s.twl with rxSeq := some (beAt os 1 2 % 65536) }
       ∧ s.frame t [.twl] [(.TWL_ACK_ORPHAN_CNT, 0), (.TWL_ACK_DROP_CNT, 0), (.TWL_RX_SEQGAP_CNT, 0)])
     ∧ (∀ (f : Nat) (e : TagEntry), Tab.get none s.twl.tags tag = some e → (e.msg.kind = .delayReq f ∨ e.msg.kind = .pdelayReq f) →
         s.mode ≠ 11 → s.requestOut f e.msg.seqId = true →
       (status ≠ 0 → (s.flow f).exch.t3 = [] → ∃ t, exec (.twlStampAck ty q w1 w2 st crc) s = .next t
         ∧ s.counted t .TWL_ACK_DROP_CNT 0 1 ∧ s.counted t .FLOW_MISS_CNT f 1
         ∧ t.flow f = { s.flow f with exch := (s.flow f).exch.dropRequest }
         ∧ s.onlyFlow t f ∧ s.frame t [.twl] [(.TWL_ACK_DROP_CNT, 0), (.TWL_RX_SEQGAP_CNT, 0), (.FLOW_MISS_CNT, f)])
       ∧ (status = 0 → s.isStep = false → s.fromStream (s.flowHome f) = false → s.pair.streaming = false →
         let at_ := (s.takeStamps f ch true ts).1
         let x := { (s.flow f).exch with t3 := at_ }
         let done := x.t2.filterMap fun q => (exchangeOffset (s.flowPeerDelay f) (s.flowAsym f) x q.1).map fun o => (q.1, o)
         ∃ t, exec (.twlStampAck ty q w1 w2 st crc) s = .next t
           ∧ (at_ = [] → t.flow f = { s.flow f with exch := (s.flow f).exch.dropRequest })
           ∧ (at_ ≠ [] → done = [] → t.flow f = { s.flow f with exch := x })
           ∧ (at_ ≠ [] → done ≠ [] → (t.flow f).done = done ++ (s.flow f).done ∧ (t.flow f).exch.t1 = none ∧ (t.flow f).exch.t2 = [])
           ∧ s.counted t .FLOW_MISS_CNT f (if at_ = [] then 1 else 0)
           ∧ s.onlyFlow t f
           ∧ s.frame t [.twl, .free] [(.TWL_RX_SEQGAP_CNT, 0), (.TWL_CONV_DROP_CNT, 0), (.FLOW_MISS_CNT, f)])))
   ∧ (∀ (s : State) (tag : Nat),
     ((∀ (f : Nat) (e : TagEntry), Tab.get none s.twl.tags tag = some e → e.msg.kind ≠ .delayReq f ∧ e.msg.kind ≠ .pdelayReq f) →
       ∃ t, exec (.stampTagExpired tag) s = .next t
         ∧ t.twl = { s.twl with tags := Tab.set none s.twl.tags tag none } ∧ s.frame t [.twl] [])
     ∧ (∀ (f : Nat) (e : TagEntry), Tab.get none s.twl.tags tag = some e → (e.msg.kind = .delayReq f ∨ e.msg.kind = .pdelayReq f) →
         s.requestOut f e.msg.seqId = true → (s.flow f).exch.t3 = [] →
       ∃ t, exec (.stampTagExpired tag) s = .next t
         ∧ t.twl.tags = Tab.set none s.twl.tags tag none ∧ t.flow f = { s.flow f with exch := (s.flow f).exch.dropRequest }
         ∧ s.counted t .FLOW_MISS_CNT f 1 ∧ s.onlyFlow t f ∧ s.frame t [.twl] [(.FLOW_MISS_CNT, f)])))

/-- R154, R159: the timeouts of a flow, where the message has not come in the same tick (R21): without Announce it falls silent and holds no
announce data, without Sync it is no longer qualified, and an exchange whose Follow_Up or response does not come is counted and its part dropped. R150, R153, R156, R159, R191: a flow that has seen a Sync sends its request on that Sync's lane, under its next sequenceId, while the
lane may send; an open request it replaces is counted; where the lane may not send, the exchange is counted. -/
def Obligations.FlowTimeoutsAndRequests : Prop :=
  (∀ (s : State) (f : Nat), f < 64 → s.flowActive f = true → s.mode ≠ 0 → s.mode ≠ 11 →
     ((s.flow f).annTick ≠ some s.dev.tick → ∃ t, exec (.announceReceiptTimeout f) s = .next t
       ∧ t.flow f = { s.flow f with announce := none, lastAnn := none, annSeen := 0, annTick := none } ∧ t.get FLOW_STS.STATE f = 1
       ∧ s.onlyFlow t f ∧ s.frame t [.twl] [(.FLOW_STS, f)])
     ∧ ((s.flow f).syncTick ≠ some s.dev.tick → ∃ t, exec (.syncReceiptTimeout f) s = .next t
       ∧ t.flow f = { s.flow f with syncOk := false } ∧ t.get FLOW_STS.STATE f ≠ 4
       ∧ s.onlyFlow t f ∧ s.frame t [.twl] [(.FLOW_STS, f)])
     ∧ ((s.flow f).exch.followDue = true → ∃ t, exec (.exchangeResponseTimeout f) s = .next t
       ∧ t.flow f = { s.flow f with exch := { (s.flow f).exch with followDue := false, t1 := none, t2 := [], cSync := 0 } }
       ∧ s.counted t .FLOW_MISS_CNT f 1 ∧ s.onlyFlow t f ∧ s.frame t [.twl] [(.FLOW_STS, f), (.FLOW_MISS_CNT, f)])
     ∧ ((s.flow f).exch.followDue = false → (s.flow f).exch.waitsResponse = true →
       ∃ t, exec (.exchangeResponseTimeout f) s = .next t
       ∧ t.flow f = { s.flow f with exch := (s.flow f).exch.dropRequest }
       ∧ s.counted t .FLOW_MISS_CNT f 1 ∧ s.onlyFlow t f ∧ s.frame t [.twl] [(.FLOW_STS, f), (.FLOW_MISS_CNT, f)]))
  ∧ (∀ (s : State) (f : Nat) (pd : Bool), f < 64 → s.flowActive f = true → s.mirTransmits = true → s.flowPeerDelay f = pd →
       (s.flow f).hdr ≠ [] →
     (s.canSend (s.flow f).lane = true → ∃ t, exec (if pd then .pdelayReqDue f else .delayReqDue f) s = .next t
       ∧ s.sentMsg t ⟨if pd then .pdelayReq f else .delayReq f, 0, (s.flow f).lane, 0, s.flowHome f, s.get FLOW_CFG.PORT f, 0, 1, false, 0,
           (s.flow f).hdr, [(1, (s.flow f).nextSeq), (10, 127), (13, s.get FLOW_CFG.DOMAIN f), (30, s.portId f)]⟩
       ∧ t.twl.sent.length = s.twl.sent.length + 1 ∧ t.twl.nextTag = (s.twl.nextTag + 1) % 65536
       ∧ s.counted t .MIR_TX_FRAMES_CNT (s.flow f).lane 1
       ∧ t.flow f = { s.flow f with
           nextSeq := ((s.flow f).nextSeq + 1) % 65536
           exch := { (s.flow f).exch.dropRequest with reqSeq := (s.flow f).nextSeq, reqOut := true } }
       ∧ s.counted t .FLOW_MISS_CNT f (if (s.flow f).exch.waitsResponse then 1 else 0)
       ∧ s.onlyFlow t f ∧ s.frame t [.twl] [(.MIR_TX_FRAMES_CNT, (s.flow f).lane), (.FLOW_MISS_CNT, f), (.FLOW_STS, f)])
     ∧ (s.canSend (s.flow f).lane = false → ∃ t, exec (if pd then .pdelayReqDue f else .delayReqDue f) s = .next t
       ∧ t.flow f = s.flow f ∧ s.counted t .FLOW_MISS_CNT f 1
       ∧ s.onlyFlow t f ∧ s.frame t [.twl] [(.FLOW_MISS_CNT, f), (.FLOW_STS, f)]))

/-- R156, R157, R166, R191: a stream whose port group is in use and whose lane may send sends its Sync and its Announce, with the headers of
the group's template, and numbers them; the Announce carries the clock class and stepsRemoved that ORIG_STS then shows, and the
grandmaster fields of the parent or of this device. A message that may not leave is counted, and ORIG_STS stands. -/
def Obligations.OriginStreams : Prop :=
  ∀ (s : State) (k : Nat), k < 64 → s.on ORIG_CFG.EN k = true → s.mirTransmits = true →
    let g := s.get ORIG_CFG.PGROUP k
    let l := s.get MIR_PGRP.LANE g
    let c := s.get ORIG_CFG.CHANNEL k
    let q := streamOf s.twl.streams k
    let cls := s.clockClass c (s.get ORIG_CFG.PROFILE k)
    let steps : Nat := match s.parent c with | some a => a.steps + 1 | none => 0
    let sync : OutMsg := ⟨.sync k, 0, l, 0, c, 0, g, 0, s.on ORIG_CFG.ONESTEP k, 0, [],
      [(30, (s.portId (64 + k) : Int)), (1, (q.syncSeq : Int)), (10, signedOf 4 (s.get ORIG_INT.LOG_SYNC k)),
        (13, (s.get ORIG_CFG.DOMAIN k : Int))]⟩
    let ann : OutMsg := ⟨.announce k, 0, l, 0, c, 0, g, 0, false, 1, [],
      [(30, (s.portId (64 + k) : Int)), (1, (q.annSeq : Int)), (5, (cls : Int)), (6, (steps : Int)),
        (10, signedOf 4 (s.get ORIG_INT.LOG_ANN k)), (13, (s.get ORIG_CFG.DOMAIN k : Int))] ++ (s.gmFields k).1⟩
    (s.groupUsed g = true → s.canSend l = true →
      (∃ t, exec (.originSyncDue k) s = .next t
        ∧ s.sentMsg t { sync with hdr := (s.fillTemplate (s.get MIR_PGRP.TPL g) sync.payload true).1 }
        ∧ t.twl.streams = Tab.set .reset s.twl.streams k { q with syncSeq := (q.syncSeq + 1) % 65536 }
        ∧ s.counted t .MIR_TX_FRAMES_CNT l 1 ∧ s.frame t [.twl] [(.MIR_TX_FRAMES_CNT, l)])
      ∧ ∃ t, exec (.originAnnounceDue k) s = .next t
        ∧ t.rd .ORIG_STS k = ORIG_STS.STEPS.put (ORIG_STS.CLASS.put (s.rd .ORIG_STS k) cls) (min 255 steps)
        ∧ s.sentMsg t { ann with hdr := (s.fillTemplate (s.get MIR_PGRP.TPL g) ann.payload false).1 }
        ∧ (∀ a, s.parent c = some a → (s.gmFields k).1.take 5 =
            [(7, (a.prio1 : Int)), (8, (a.prio2 : Int)), (9, (a.gmId : Int)), (15, (a.accuracy : Int)), (16, (a.variance : Int))])
        ∧ (s.parent c = none → (s.gmFields k).1.take 3 =
            [(7, (s.get ORIG_INT.PRIO1 k : Int)), (8, (s.get ORIG_INT.PRIO2 k : Int)), (9, (s.clockId : Int))])
        ∧ t.twl.streams = Tab.set .reset s.twl.streams k { q with annSeq := (q.annSeq + 1) % 65536 }
        ∧ s.counted t .MIR_TX_FRAMES_CNT l 1 ∧ s.frame t [.twl, .free] [(.MIR_TX_FRAMES_CNT, l), (.ORIG_STS, k)])
    ∧ ((s.groupUsed g && s.canSend l) = false →
      (∃ t, exec (.originSyncDue k) s = .next t
        ∧ s.counted t .ORIG_DROP_CNT k 1 ∧ t.twl.sent = s.twl.sent ∧ s.frame t [.twl] [(.ORIG_DROP_CNT, k)])
      ∧ ∃ t, exec (.originAnnounceDue k) s = .next t
        ∧ s.counted t .ORIG_DROP_CNT k 1 ∧ t.twl.sent = s.twl.sent ∧ s.frame t [.twl, .free] [(.ORIG_DROP_CNT, k)])

/-- R160, R161, R191: an input without a quality message for 5 s counts as without quality level; a transmit group sends its level at its
interval and when the level has changed. -/
def Obligations.QualityMessages : Prop :=
  (∀ (s : State) (i : Nat), i < 32 → s.on ESMC_MAP.EN i = true → s.mode ≠ 0 → s.isStep = false → s.mode ≠ 11 →
      s.pair.streaming = false → Tab.get 0 s.twl.qlTick i ≠ s.dev.tick + 1 →
    ∃ t, exec (.esmcQlTimeout i) s = .next t
      ∧ t.rd .ESMC_MAP i = ESMC_MAP.NOQL.put (s.rd .ESMC_MAP i) 1 ∧ s.counted t .ESMC_TIMEOUT_CNT 0 1
      ∧ s.frame t [] [(.ESMC_MAP, i), (.ESMC_TIMEOUT_CNT, 0)])
  ∧ (∀ (s : State) (k : Nat) (event : Bool), k < 8 → s.on ESMC_TX.EN k = true → s.mirTransmits = true →
      s.groupUsed (s.get ESMC_TX.PGROUP k) = true → s.canSend (s.get MIR_PGRP.LANE (s.get ESMC_TX.PGROUP k)) = true →
      (event = true → (streamOf s.twl.esmc k).lastQl ≠ some (s.txQl k)) →
    let g := s.get ESMC_TX.PGROUP k
    let l := s.get MIR_PGRP.LANE g
    ∃ t, exec (if event then .esmcEventPduSend k else .esmcInfoPduDue k) s = .next t
      ∧ s.sentMsg t ⟨if event then .esmcEvent k else .esmcInfo k, 0, l, 0, s.get ESMC_TX.CHANNEL k, 0, g, 0, false, 2, s.esmcHeader g,
          [(11, ((s.txQl k).1 : Int)), (12, ((s.txQl k).2 : Int))] ++ if (s.txQl k).2 = 0 then []
            else [(9, (s.clockId : Int)), (33, ((s.drawNat (2 ^ 24)).1 % 256 : Nat)), (34, ((s.drawNat (2 ^ 24)).1 / 256 % 256 : Nat)),
              (35, ((s.drawNat (2 ^ 24)).1 / 65536 : Nat))]⟩
      ∧ (streamOf t.twl.esmc k).lastQl = some (s.txQl k)
      ∧ (s.qlInput (s.get ESMC_TX.CHANNEL k) = none → t.twl.sent.length = s.twl.sent.length + 1 ∧ s.counted t .ESMC_TX_CNT 0 1)
      ∧ s.frame t [.twl, .free] [(.MIR_TX_FRAMES_CNT, l), (.ESMC_TX_CNT, 0)])

/-- R167, R168, R186: block lock of a mirror lane: its loss is counted, its return lets the next frame set the expected number. R151, R167, R168, R170, R186, R193: a frame that the lane accepts brings the FEC blocks
of its lane, which count under FEC_EN, and is counted by the first check it fails, giant, FCS, runt; one that passes is
counted and enters the intake FIFO behind the others with its stamp, or is counted as an overflow where 256 wait; the lane's first
frame sets its expected number. -/
def Obligations.FramesAndBlockLock : Prop :=
  ((∀ (s : State) (l : Nat), l < 4 → s.mode ≠ 0 → s.mode ≠ 11 → bitOf (s.get MIR_STS.BLOCK_LOCK) l = true →
     ∃ t, exec (.mirBlockLockLoss l) s = .next t
       ∧ t.get MIR_STS.BLOCK_LOCK = withBit (s.get MIR_STS.BLOCK_LOCK) l false
       ∧ t.get MIR_STS.SEQ_SYNC = withBit (s.get MIR_STS.SEQ_SYNC) l false ∧ s.counted t .MIR_BLK_CNT l 1
       ∧ s.frame t [] [(.MIR_STS, 0), (.MIR_BLK_CNT, l)])
   ∧ (∀ (s : State) (l : Nat), l < 4 → s.mode ≠ 0 → s.mode ≠ 11 → bitOf (s.get RST_STS.SOFT) 1 = false →
     ∃ t, exec (.mirBlockLockAcquired l) s = .next t
       ∧ t.get MIR_STS.BLOCK_LOCK = withBit (s.get MIR_STS.BLOCK_LOCK) l true
       ∧ t.get MIR_STS.SEQ_SYNC = withBit (s.get MIR_STS.SEQ_SYNC) l false
       ∧ t.lane l = { s.lane l with fresh := true } ∧ s.onlyLane t l
       ∧ s.frame t [.intake] [(.MIR_STS, 0)]))
  ∧ (∀ (s : State) (l corr unc : Nat) (os : List Octet), l < 4 → s.accepts l = true →
     let fec := [(Rg.MIR_FEC_CORR_CNT, l), (.MIR_FEC_UNC_CNT, l)]
     (∃ t, exec (.mirrorFrameArrival ⟨l, corr, unc⟩ os) s = .next t
       ∧ s.counted t .MIR_FEC_CORR_CNT l (if bitOf (s.get MIR_CTL.FEC_EN) l then corr else 0)
       ∧ s.counted t .MIR_FEC_UNC_CNT l (if bitOf (s.get MIR_CTL.FEC_EN) l then unc else 0))
     ∧ (2048 < os.length → ∃ t, exec (.mirrorFrameArrival ⟨l, corr, unc⟩ os) s = .next t
       ∧ s.counted t .MIR_GIANT_CNT l 1 ∧ s.frame t [] ((.MIR_GIANT_CNT, l) :: fec))
     ∧ (os.length ≤ 2048 → fcsOk os = false → ∃ t, exec (.mirrorFrameArrival ⟨l, corr, unc⟩ os) s = .next t
       ∧ s.counted t .MIR_FCS_CNT l 1 ∧ s.frame t [] ((.MIR_FCS_CNT, l) :: fec))
     ∧ (fcsOk os = true → os.length < 80 → ∃ t, exec (.mirrorFrameArrival ⟨l, corr, unc⟩ os) s = .next t
       ∧ s.counted t .MIR_RUNT_CNT l 1 ∧ s.frame t [] ((.MIR_RUNT_CNT, l) :: fec))
     ∧ (os.length ≤ 2048 → fcsOk os = true → 80 ≤ os.length → 256 ≤ s.intake.fifo.length →
       ∃ t, exec (.mirrorFrameArrival ⟨l, corr, unc⟩ os) s = .next t
       ∧ s.counted t .MIR_RX_FRAMES_CNT l 1 ∧ s.counted t .PARSE_INTAKE_OVF_CNT 0 1
       ∧ s.frame t [] ([(.MIR_RX_FRAMES_CNT, l), (.PARSE_INTAKE_OVF_CNT, 0)] ++ fec))
     ∧ (os.length ≤ 2048 → fcsOk os = true → 80 ≤ os.length → s.intake.fifo.length < 256 → (s.lane l).held = [] →
       let first := (s.lane l).expect.isNone || (s.lane l).fresh
       ∃ t, exec (.mirrorFrameArrival ⟨l, corr, unc⟩ os) s = .next t
       ∧ s.counted t .MIR_RX_FRAMES_CNT l 1
       ∧ t.intake.fifo = s.intake.fifo ++ [⟨l, stampOf os, (os.drop 16).take (os.length - 20)⟩]
       ∧ t.lane l = (if first then { s.lane l with expect := some (stampOf os).seq, fresh := false } else s.lane l)
       ∧ t.get MIR_STS.SEQ_SYNC = (if first then withBit (s.get MIR_STS.SEQ_SYNC) l true else s.get MIR_STS.SEQ_SYNC)
       ∧ t.intake = { s.intake with fifo := t.intake.fifo, lanes := t.intake.lanes } ∧ s.onlyLane t l
       ∧ s.frame t [.intake] ([(.MIR_RX_FRAMES_CNT, l), (.MIR_STS, 0)] ++ fec)))

/-- R170, R184: the next parse lane in round robin, when free, takes a recirculated pass, or else the oldest frame of the FIFO as a first
pass of the active generation. -/
def Obligations.ParsePassStarts : Prop :=
  ∀ s : State, s.intakeRuns = true → s.passAt s.intake.nextLane = none →
    (∀ (p : Pass) (ps : List Pass), s.intake.recirc = p :: ps → ∃ t, exec .parsePassStart s = .next t
      ∧ t.intake = { s.intake with
          recirc := ps, passes := Tab.set none s.intake.passes s.intake.nextLane (some p)
          nextLane := (s.intake.nextLane + 1) % 16 }
      ∧ s.frame t [.intake] [])
    ∧ (∀ (f : Frame) (fs : List Frame), s.intake.recirc = [] → s.intake.fifo = f :: fs → ∃ t, exec .parsePassStart s = .next t
      ∧ t.intake = { s.intake with
          fifo := fs, passes := Tab.set none s.intake.passes s.intake.nextLane (some ⟨f, false, 0, s.get PARSE_BANK_STS.GEN, []⟩)
          nextLane := (s.intake.nextLane + 1) % 16 }
      ∧ s.frame t [.intake] [])

/-- R178, R179, R186, R188: a decided pass leaves its parse lane. With no frame held, the frame of the expected number is ready for release with its
fate: a frame with a bad switch FCS and one that its walk drops are dropped under their counter, and one that its rule sends to the slow
path goes there, with the copies its passes owe. -/
def Obligations.ParsePassDecisions : Prop :=
  ∀ (s : State) (k : Nat) (p : Pass), k < 16 → s.passAt k = some p → (s.lane p.frame.lane).held = [] →
      (s.lane p.frame.lane).expect = some p.frame.stamp.seq → p.frame.stamp.seq < 65536 →
    let l := p.frame.lane
    let after (d : Decided) : LaneOrder :=
      { s.lane l with expect := some ((p.frame.stamp.seq + 1) % 65536), held := [], ready := (s.lane l).ready ++ [d] }
    let wk := walk ⟨p.frame.os, p.frame.stamp.trunc, p.second⟩ p.base
    (p.frame.stamp.fcsErr = true → ∃ t, exec (.parsePassDecision k) s = .next t
      ∧ t.passAt k = none ∧ t.lane l = after ⟨p.frame, .drop, p.copies⟩ ∧ s.counted t .PARSE_SW_FCS_CNT 0 1
      ∧ s.frame t [.intake] [(.PARSE_SW_FCS_CNT, 0), (.PARSE_BANK_STS, 0)])
    ∧ (∀ cnt : Rg, p.frame.stamp.fcsErr = false → wk = .drop cnt → ∃ t, exec (.parsePassDecision k) s = .next t
      ∧ t.passAt k = none ∧ t.lane l = after ⟨p.frame, .drop, p.copies⟩ ∧ s.keepsParts t [.intake]
      ∧ s.keepsWords t [(cnt, 0), (.PARSE_BANK_STS, 0)])
    ∧ (∀ (w : Walk) (d : Decision), p.frame.stamp.fcsErr = false → wk = .found w → w.frag = none → d.action = 3 →
        (s.lookup p.gen (w.key p.frame.os l p.frame.stamp.port (flag p.frame.stamp.dir) p.frame.stamp.channel p.frame.stamp.path
          p.second)).1 = d →
      ∃ t, exec (.parsePassDecision k) s = .next t
      ∧ t.passAt k = none ∧ t.lane l = after ⟨p.frame, .slow 0 d.rsv, p.copies⟩ ∧ s.keepsParts t [.intake])

/-- R181, R186, R189: the oldest ready frame of a lane is released: a dropped one leaves nothing, one for the slow path enters its queue
while its share has room and a token, and a delivery takes a token of its policer and is counted, or is policed. -/
def Obligations.FrameReleases : Prop :=
  ∀ (s : State) (l : Nat) (d : Decided) (ds : List Decided), l < 4 → (s.lane l).ready = d :: ds → d.copies = [] →
    (d.fate = .drop → ∃ t, exec (.frameRelease l) s = .next t
      ∧ t.lane l = { s.lane l with ready := ds } ∧ s.onlyLane t l
      ∧ t.intake = { s.intake with lanes := t.intake.lanes } ∧ s.frame t [.intake] [])
    ∧ (∀ cause : Nat, d.fate = .slow cause false → s.intake.slow.length < 960 →
        (s.token 1026 (s.get PARSE_SLOW_POL0.RATE) (s.get PARSE_SLOW_POL0.BURST)).1 = true →
      ∃ t, exec (.frameRelease l) s = .next t
      ∧ t.intake.slow = s.intake.slow ++ [⟨cause, d.frame⟩] ∧ s.counted t .PARSE_SLOW_CNT 0 1
      ∧ t.get PARSE_SLOW_STS.DEPTH = s.intake.slow.length + 1 ∧ t.lane l = { s.lane l with ready := ds }
      ∧ s.frame t [.intake] [(.PARSE_SLOW_CNT, 0), (.PARSE_SLOW_STS, 0)])
    ∧ (∀ flow kind body ip : Nat, d.fate = .deliver 0 flow kind body ip →
      ∃ t, exec (.frameRelease l) s = .next t
      ∧ t.lane l = { s.lane l with ready := ds }
      ∧ (if (s.token (flow * 16 + ptpType (d.frame.os.drop body)) (s.get PARSE_FLOW_POL.RATE) (s.get PARSE_FLOW_POL.BURST)).1 then
          s.counted t .PARSE_DELIVER_CNT 0 1 ∧ t.rd .PARSE_FLOW_POLICE_CNT = s.rd .PARSE_FLOW_POLICE_CNT
        else s.counted t .PARSE_FLOW_POLICE_CNT 0 1 ∧ s.frame t [.intake] [(.PARSE_FLOW_POLICE_CNT, 0)]))

/-- R182, R184, R186, R189, R192, R298: a reorder timeout releases the held frame and counts the numbers missing before it; a fragment entry
ages out 2 ms after the last fragment that used it, one that came in the same cycle included (R21); SWAP waits for its boundary, and while a bank retires it is deferred; firmware takes the oldest slow-path entry. -/
def Obligations.IntakeHousekeeping : Prop :=
  (∀ (s : State) (l e : Nat) (d : Decided), l < 4 → s.intakeRuns = true → (s.lane l).held = [d] → (s.lane l).expect = some e →
      e < 65536 → d.frame.stamp.seq < 65536 → d.frame.stamp.seq ≠ e →
    ∃ t, exec (.reorderTimeout l) s = .next t
      ∧ t.lane l = { s.lane l with
          expect := some ((d.frame.stamp.seq + 1) % 65536), held := [], ready := (s.lane l).ready ++ [d] }
      ∧ s.counted t .MIR_SEQ_GAP_CNT l ((d.frame.stamp.seq + 65536 - e) % 65536)
      ∧ s.onlyLane t l ∧ s.frame t [.intake] [(.MIR_SEQ_GAP_CNT, l)])
  ∧ (∀ (s : State) (e : Nat) (x : FragEntry), e < 256 → s.frag e = some x →
    (x.at_ + 2000 ≤ s.dev.tick → ∃ t, exec (.fragmentEntryAged e) s = .next t
      ∧ t.intake = { s.intake with frags := Tab.set none s.intake.frags e none }
      ∧ s.frame t [.intake] [(.PARSE_FRAG_STS, 0)])
    ∧ (s.dev.tick < x.at_ + 2000 → ∃ t, exec (.fragmentEntryAged e) s = .next t ∧ s.frame t [] []))
  ∧ (∀ (s : State) (p : Port), s.reaches p .PARSE_BANK_CMD 0 → s.mode ≠ 7 → s.mode ≠ 11 → s.on PARSE_BANK_CMD.SWAP = false →
    (s.on PARSE_BANK_STS.RETIRING = false → ∃ t, exec (.bankSwap p) s = .next t
      ∧ t.rd .PARSE_BANK_CMD = PARSE_BANK_CMD.SWAP.put (s.rd .PARSE_BANK_CMD) 1 ∧ s.frame t [] [(.PARSE_BANK_CMD, 0)])
    ∧ (s.on PARSE_BANK_STS.RETIRING = true → ∃ t, exec (.bankSwap p) s = .next t
      ∧ t.rd .PARSE_BANK_CMD = PARSE_BANK_CMD.SWAP.put (s.rd .PARSE_BANK_CMD) 1
      ∧ t.rd .PARSE_BANK_STS = PARSE_BANK_STS.DEFER.put (s.rd .PARSE_BANK_STS) 1
      ∧ s.counted t .PARSE_SWAP_DEFER_CNT 0 1 ∧ s.counted t .DEV_DEFER_CNT 0 1
      ∧ s.frame t [] [(.PARSE_BANK_CMD, 0), (.PARSE_BANK_STS, 0), (.PARSE_SWAP_DEFER_CNT, 0), (.DEV_DEFER_CNT, 0),
          (.DEV_CMD_STATUS, 0)]))
  ∧ (∀ (s : State) (e : SlowEntry) (es : List SlowEntry), s.on MGMT_STS.FW_RUN = true → s.intake.slow = e :: es →
    ∃ t, exec .slowPathEntryConsumed s = .next t
      ∧ t.intake = { s.intake with slow := es }
      ∧ t.rd .PARSE_SLOW_STS = PARSE_SLOW_STS.DEPTH.put (s.rd .PARSE_SLOW_STS) es.length
      ∧ s.frame t [.intake] [(.PARSE_SLOW_STS, 0)])

/-- R202, R203, R205, R206: in the live modes both heartbeat outputs toggle, elsewhere they stop; an edge makes its input and the peer
alive; an edge in the tick keeps its input alive (R21); a dead input is counted, and with the other input dead and the link down the peer is declared dead and counted. -/
def Obligations.PairHeartbeats : Prop :=
  (∀ s : State,
    ((3 ≤ s.mode ∧ s.mode ≤ 8 ∨ s.mode = 10) → ∃ t, exec .heartbeatToggle s = .next t
      ∧ t.pair = { s.pair with hbOut := (!s.pair.hbOut.1, !s.pair.hbOut.2) } ∧ s.frame t [.pair] [])
    ∧ (¬ (3 ≤ s.mode ∧ s.mode ≤ 8 ∨ s.mode = 10) → ∃ t, exec .heartbeatToggle s = .next t ∧ s.frame t [] []))
  ∧ (∀ (s : State) (k : Nat), k < 2 → s.pairRuns = true →
    (s.pair.holdStep = false → ∃ t, exec (.heartbeatEdge k) s = .next t
      ∧ t.rd .PAIR_STS = PAIR_STS.CLAIM_BLOCK.put (PAIR_STS.PEER_ALIVE.put ((hbOk k).put (s.rd .PAIR_STS) 1) 1) 0
      ∧ t.pair = { s.pair with hbEdge := k :: s.pair.hbEdge.filter (· != k) } ∧ s.frame t [.pair] [(.PAIR_STS, 0)])
    ∧ (s.dev.ticking = true → k ∈ s.pair.hbEdge → ∃ t, exec (.heartbeatInputDead k) s = .next t ∧ s.frame t [] [])
    ∧ (k ∉ s.pair.hbEdge → s.on (hbOk k) = true → s.on (hbOk (1 - k)) = true → ∃ t, exec (.heartbeatInputDead k) s = .next t
      ∧ t.rd .PAIR_STS = (hbOk k).put (s.rd .PAIR_STS) 0
      ∧ s.counted t (if k = 0 then .PAIR_HB0_MISS_CNT else .PAIR_HB1_MISS_CNT) 0 1
      ∧ s.frame t [] [(.PAIR_STS, 0), (if k = 0 then .PAIR_HB0_MISS_CNT else .PAIR_HB1_MISS_CNT, 0)])
    ∧ (k ∉ s.pair.hbEdge → s.on (hbOk k) = true → s.on (hbOk (1 - k)) = false → s.on PAIR_STS.LINK_UP = false → s.on PAIR_STS.PEER_ALIVE = true →
        s.isStandby = false → ∃ t, exec (.heartbeatInputDead k) s = .next t
      ∧ t.rd .PAIR_STS = PAIR_STS.PEER_ALIVE.put ((hbOk k).put (s.rd .PAIR_STS) 0) 0
      ∧ s.counted t .PAIR_PEER_DEATH_CNT 0 1 ∧ t.pair = { s.pair with peerRole := 0 }
      ∧ s.frame t [.pair]
          [(.PAIR_STS, 0), (.PAIR_PEER_DEATH_CNT, 0), (if k = 0 then .PAIR_HB0_MISS_CNT else .PAIR_HB1_MISS_CNT, 0)]))

/-- R204, R205, R223: a running unit that wants the role claims it once ACTIVE_N has read high for its wait, and drives the line; a fall
seen first makes it a standby; a rise starts the wait again and unblocks a claim. Without link and heartbeats, FORM_WAIT makes the unit
a standby where ACTIVE_N is low, and lets it want the role where it is high. -/
def Obligations.PairClaims : Prop :=
  ∀ s : State, s.pairRuns = true →
    (s.pair.peerLow = false → s.pair.claimWant = true → s.get PAIR_STS.ROLE = 0 → s.isRun = true →
      ∃ t, exec .claimWaitExpired s = .next t
        ∧ t.rd .PAIR_STS = PAIR_STS.FORMED.put (PAIR_STS.ROLE.put (s.rd .PAIR_STS) 1) 1 ∧ t.pins.activeLow = true
        ∧ t.pair = { s.pair with waitDone := true, drive := true, claimWant := false, forming := false }
        ∧ s.frame t [.pair] [(.PAIR_STS, 0)])
    ∧ (s.pair.peerLow = true → ∃ t, exec .claimWaitExpired s = .next t ∧ s.frame t [] [])
    ∧ (∃ t, exec .activeNFall s = .next t
        ∧ t.pair = (if s.pair.claimWant ∧ s.get PAIR_STS.ROLE = 0
            then { s.pair with peerLow := true, waitDone := false, claimWant := false, detachPend := true, epochDue := true }
            else { s.pair with peerLow := true, waitDone := false })
        ∧ s.frame t [.pair] [])
    ∧ (∃ t, exec .activeNRise s = .next t
        ∧ t.rd .PAIR_STS = PAIR_STS.CLAIM_BLOCK.put (s.rd .PAIR_STS) 0
        ∧ t.pair = { s.pair with peerLow := false, waitDone := false } ∧ s.frame t [.pair] [(.PAIR_STS, 0)])
    ∧ (s.pair.forming = true → s.isRun = true → s.get PAIR_STS.ROLE = 0 → s.on PAIR_STS.LINK_UP = false →
        s.on PAIR_STS.PEER_ALIVE = false →
      (s.pair.peerLow = true → ∃ t, exec .formWaitExpired s = .next t
        ∧ t.pair = { s.pair with detachPend := true, epochDue := true } ∧ s.frame t [.pair] [])
      ∧ (s.pair.peerLow = false → s.pair.waitDone = false → ∃ t, exec .formWaitExpired s = .next t
        ∧ t.pair = { s.pair with claimWant := true } ∧ s.frame t [.pair] []))

/-- R208, R209, R228: the link comes up with the peer alive; its loss is counted: the active stops the lead, and the events that have
not left wait on it alone for their boundary; a standby in step holds STANDBY_STEP; a lane frame that fails its checks is counted and discarded, in a good one the unknown records are counted. -/
def Obligations.PairLink : Prop :=
  ∀ s : State, s.pairRuns = true →
    (s.on PAIR_STS.LINK_UP = false → s.pair.forming = false → ∃ t, exec .pairLinkUp s = .next t
      ∧ t.rd .PAIR_STS = PAIR_STS.CLAIM_BLOCK.put (PAIR_STS.PEER_ALIVE.put (PAIR_STS.LINK_UP.put (s.rd .PAIR_STS) 1) 1) 0
      ∧ t.pair = { s.pair with leftOnEdge := false, epochDue := s.pair.epochDue || (s.isStandby && s.mode == 8) }
      ∧ s.frame t [.pair] [(.PAIR_STS, 0)])
    ∧ (∀ b : Bool, s.on PAIR_STS.LINK_UP = true → (s.on PAIR_STS.HB0_OK = true ∨ s.on PAIR_STS.HB1_OK = true) →
      (s.isActive = true → ∃ t, exec (.pairLinkLoss b) s = .next t
        ∧ t.rd .PAIR_STS = PAIR_STS.IN_STEP.put (PAIR_STS.LINK_UP.put (s.rd .PAIR_STS) 0) 0 ∧ t.get PAIR_EPOCH_STS.PHASE = 0
        ∧ s.counted t .PAIR_LINK_LOSS_CNT 0 1
        ∧ t.pair = { s.pair with
            streaming := false, streamInputs := [], seen := [], recopy := [], helloOk := false, peerRole := 0
            out := s.pair.out.filter fun r => !r.isEvent
            stream := s.pair.stream
              ++ (s.pair.out.filter PairRec.isTimed).map fun r => ⟨s.dev.tick + 1 + s.get HOP_CTL.PAIR_LEAD, r⟩ }
        ∧ s.frame t [.pair] [(.PAIR_STS, 0), (.PAIR_EPOCH_STS, 0), (.PAIR_LINK_LOSS_CNT, 0)])
      ∧ (s.isStandby = true → s.isStep = true → s.epochRuns = false → ∃ t, exec (.pairLinkLoss b) s = .next t
        ∧ t.rd .PAIR_STS = PAIR_STS.LINK_UP.put (s.rd .PAIR_STS) 0 ∧ s.counted t .PAIR_LINK_LOSS_CNT 0 1
        ∧ t.pair = { s.pair with holdStep := true, streamInputs := [], seen := [], helloOk := false, peerRole := 0 }
        ∧ s.frame t [.pair] [(.PAIR_STS, 0), (.PAIR_LINK_LOSS_CNT, 0)]))
    ∧ (∀ (l tick epoch n : Nat) (crc same act : Bool), l < 4 →
      ∃ t, exec (.pairLaneFrameReceived l crc same tick epoch act n) s = .next t
        ∧ s.counted t .PAIR_RX_ERR_CNT 0 (if crc && same then n else 1)
        ∧ (crc = true → same = true → t.pair = { s.pair with
            frameRel := signedOf 40 (fieldOf 40 ((tick : Int) - s.dev.tick)), frameOwn := some s.dev.tick, frameAct := act
            frameEpoch := epoch % 256 })
        ∧ s.frame t (if crc && same then [.pair] else []) [(.PAIR_RX_ERR_CNT, 0)])

/-- R200, R205, R222, R223, R231, R233: the records of the peer outside step and epochs: HELLO sets PEER_ERR by identity, hash, PREF and
REVERT; ROLE shows the peer's mode and role, and to the active whether the peer is in step; a YIELD of causes 1 to 4 makes a standby take over at the next boundary;
RETIRE places a channel under repair; a clone request is answered, and clone data is seen by the unit that seeks it. -/
def Obligations.PeerRecords : Prop :=
  ∀ s : State, s.pairRuns = true →
    (∀ (pos revert : Bool) (pairId pref : Nat) (hash : Word), s.pair.forming = false → s.pair.waitDone = false →
      let idOk := pairId == s.get PAIR_CFG.PAIR_ID && flag pos != s.get DEV_STRAP.POS
      let agree := pref == s.get PAIR_CFG.PREF && revert == s.on PAIR_CFG.REVERT
      ∃ t, exec (.hello pos pairId pref revert hash) s = .next t
        ∧ t.rd .PAIR_STS = PAIR_STS.PEER_ERR.put (s.rd .PAIR_STS) (flag (!idOk || !(hash == s.mgmt.hash) || !agree))
        ∧ t.pair = { s.pair with
            helloOk := idOk && hash == s.mgmt.hash, helloBad := !idOk
            prefAgreed := if idOk then agree else s.pair.prefAgreed
            helloMismatch := if idOk then !agree else s.pair.helloMismatch }
        ∧ s.frame t [.pair] [(.PAIR_STS, 0)])
    ∧ (s.pair.helloBad = false →
      (∀ (code mode phase : Nat) (b : Int) (claim : Bool), s.isActive = false → s.on PAIR_STS.PACED = false →
          s.pair.roleTick ≤ s.recordTick → s.epochRuns = false → s.pair.forming = false → s.pair.epochDue = false →
        ∃ t, exec (.role code mode claim phase b) s = .next t
          ∧ t.rd .PAIR_STS = PAIR_STS.PEER_MODE.put (s.rd .PAIR_STS) mode
          ∧ t.pair = { s.pair with peerRole := code } ∧ s.frame t [.pair] [(.PAIR_STS, 0)])
      ∧ (∀ (code mode phase : Nat) (b : Int), s.isActive = true → s.pair.streaming = false → s.pair.roleTick ≤ s.recordTick →
        ∃ t, exec (.role code mode false phase b) s = .next t
          ∧ t.rd .PAIR_STS = PAIR_STS.IN_STEP.put (PAIR_STS.PEER_MODE.put (s.rd .PAIR_STS) mode) (flag (code == 2 && mode == 7))
          ∧ t.pair = { s.pair with peerRole := code } ∧ s.frame t [.pair] [(.PAIR_STS, 0)])
      ∧ (∀ cause tick : Nat, s.isStandby = true → (s.mode = 7 ∨ s.mode = 8) → s.epochRuns = false →
        ∃ t, exec (.yield cause tick) s = .next t
          ∧ t.pair = (if 1 ≤ cause ∧ cause ≤ 4 then { s.pair with takeoverPend := true, peerRole := 0 } else s.pair)
          ∧ s.frame t [.pair] [])
      ∧ (∀ c tick : Nat, c < 512 → s.on PAIR_STS.FORMED = true → s.on PAIR_STS.IN_STEP = true →
        ∃ t, exec (.retireRecord c tick) s = .next t
          ∧ t.pair = { s.pair with
              repair := (c, tick % 2 ^ 32) :: s.pair.repair.filter (·.1 != c)
              copied := s.pair.copied.filter (· != c), joined := s.pair.joined.filter (· != c) }
          ∧ s.frame t [.pair] []))
    ∧ (∀ (pos : Bool) (die : Nat), 3 ≤ s.mode → s.mode ≤ 10 → s.on PAIR_STS.LINK_UP = true →
      ∃ t, exec (.cloneRequest pos die) s = .next t
        ∧ t.pair.out = s.pair.out ++ [.cloneData (Config.freeNat s.free % 1161)] ∧ t.free = s.free + 1
        ∧ t.pair = { s.pair with out := t.pair.out } ∧ s.frame t [.pair, .free] [])
    ∧ (∀ n : Nat, s.cloneSeeks = true → ∃ t, exec (.cloneData n) s = .next t
        ∧ t.rst = { s.rst with cloneSeen := true } ∧ s.frame t [.rst] [])

/-- R211, R212, R214: a standby in step takes each event record of the stream in the order of SSEQ and holds it for its EXEC boundary;
one that comes late is counted, recorded in PAIR_DIV and makes the standby leave step at the next boundary; a hop that reaches a
detached standby is not held: the channels it reaches join again. -/
def Obligations.EventStream : Prop :=
  ∀ (s : State) (n e : Nat), s.pairRuns = true → s.pair.helloBad = false → s.isStandby = true →
    (s.isStep = true → s.dev.tick < s.ownTick e → s.pair.rxSseq = some n →
      (∀ (ps : List (Nat × Word)) (b : Bool), ∃ t, exec (.config n e ps b) s = .next t
        ∧ t.pair = { s.pair with
            rxSseq := some ((n + 1) % 65536), stream := s.pair.stream ++ [⟨s.ownTick e, .config n e ps b⟩] }
        ∧ s.frame t [.pair] [])
      ∧ (∀ (m : Nat) (is : List InputReading), ∃ t, exec (.readings n e m is) s = .next t
        ∧ t.pair = { s.pair with
            rxSseq := some ((n + 1) % 65536), stream := s.pair.stream ++ [⟨s.ownTick e, .readings n e m is⟩] }
        ∧ s.frame t [.pair] [])
      ∧ (∀ (f : Nat) (st : Stamp) (os : List Octet), ∃ t, exec (.message n e f st os) s = .next t
        ∧ t.pair = { s.pair with
            rxSseq := some ((n + 1) % 65536), stream := s.pair.stream ++ [⟨s.ownTick e, .message n e f st os⟩] }
        ∧ s.frame t [.pair] [])
      ∧ (∀ i ssm essm : Nat, ∃ t, exec (.ql n e i ssm essm) s = .next t
        ∧ t.pair = { s.pair with
            rxSseq := some ((n + 1) % 65536), stream := s.pair.stream ++ [⟨s.ownTick e, .ql n e i ssm essm⟩] }
        ∧ s.frame t [.pair] [])
      ∧ (∀ r : HopRec, r.sseq = n → r.exec = e → ∃ t, exec (.hopStreamRecord r) s = .next t
        ∧ t.pair = { s.pair with
            rxSseq := some ((n + 1) % 65536), stream := s.pair.stream ++ [⟨s.ownTick e, .hop r⟩] }
        ∧ s.frame t [.pair] []))
    ∧ (∀ i ssm essm : Nat, s.isStep = true → s.ownTick e ≤ s.dev.tick → ∃ t, exec (.ql n e i ssm essm) s = .next t
        ∧ s.counted t .PAIR_EVT_LATE_CNT 0 1
        ∧ t.rd .PAIR_DIV = BitVec.ofNat 32 (2 ^ 30 + fieldOf 16 s.activeTick)
        ∧ t.pair = { s.pair with rxSseq := some ((n + 1) % 65536), detachPend := true, epochDue := true }
        ∧ s.frame t [.pair, .mgmt, .free] [(.PAIR_EVT_LATE_CNT, 0), (.PAIR_DIV, 0), (.MGMT_LOG_OVW_CNT, 0), (.MGMT_LOG_LOST_CNT, 0)])
    ∧ (∀ r : HopRec, s.mode = 8 → r.sseq = n → ∃ t, exec (.hopStreamRecord r) s = .next t
        ∧ t.pair.rxSseq = some ((n + 1) % 65536) ∧ t.pair.stream = s.pair.stream
        ∧ (r.chTarget = true → s.epochRuns = false → r.ch < 512 → s.chEn r.ch = true → s.on CH_HOP.HOP_EN r.ch = true → r.ch ∉ t.pair.joined)
        ∧ s.frame t [.pair] [(.PAIR_EPOCH_STS, 0)])

/-- R219: at an active tick divisible by 1,000 a unit of a formed pair forms its digest over the channels that it does not skip, keeps it
with the last three, queues its record and starts the evidence of the next interval; at other ticks nothing happens. R220, R221, R229, R232: the digest of the peer against the own one: a match counts towards VERIFY, and the last one needed asks for the
commit; a mismatch starts the exchange of the channels' CRCs. A channel that differs and is not under repair, or a digest that comes late,
is a divergence: it is counted and recorded in PAIR_DIV, and the unit that shows evidence is at fault. With none at fault the standby
leaves step; a standby whose active is at fault takes over; a unit at fault enters BASIC.
An entry that may find the log port busy is written, or lost and counted (R302, log 33). -/
def Obligations.DigestStepsAndComparison : Prop :=
  (∀ s : State, s.pairRuns = true → s.on PAIR_STS.FORMED = true → 0 ≤ s.activeTick →
     (s.activeTick % 1000 = 0 → ∃ t, exec .stepDigest s = .next t
       ∧ (let qs := (List.range 512).map fun c => if s.digestSkips c s.activeTick.toNat then [] else s.chanDigest c
          let d : DigestRec := ⟨s.activeTick.toNat % 2 ^ 32, Config.digestCrc qs, s.pair.evidence,
            qs.map fun q => if q.isEmpty then 0 else Config.channelCrc q % 65536⟩
          t.pair = { s.pair with
            digests := d :: s.pair.digests.take 3, evidence := 0, out := s.pair.out ++ [.digest d.tick d.crc d.flags] })
       ∧ s.frame t [.pair] [])
     ∧ (s.activeTick % 1000 ≠ 0 → ∃ t, exec .stepDigest s = .next t ∧ s.frame t [] []))
  ∧ (∀ (s : State) (k : Nat) (d : DigestRec), s.pairRuns = true → s.pair.helloBad = false → s.digestsCount = true →
       s.pair.digests.find? (·.tick == k) = some d →
     (∀ flags : Nat,
       (s.isStandby = true → s.get PAIR_EPOCH_STS.PHASE = 5 → ∃ t, exec (.digest k d.crc flags) s = .next t
         ∧ t.pair = { s.pair with
             peerDigest := some (k, d.crc, flags), verified := s.pair.verified + 1
             out := if s.get PAIR_EPOCH_CFG.VERIFY_N ≤ s.pair.verified + 1
               then s.pair.out ++ [.epochCommit (s.get PAIR_EPOCH_STS.EPOCH)] else s.pair.out }
         ∧ t.get PAIR_EPOCH_STS.PHASE = (if s.get PAIR_EPOCH_CFG.VERIFY_N ≤ s.pair.verified + 1 then 6 else 5)
         ∧ s.frame t [.pair] [(.PAIR_EPOCH_STS, 0)])
       ∧ (∀ crc : Word, d.crc ≠ crc → ∃ t, exec (.digest k crc flags) s = .next t
         ∧ t.pair = { s.pair with
             peerDigest := some (k, crc, flags), verified := 0, out := s.pair.out ++ [.chdig k d.chs] }
         ∧ s.frame t [.pair] []))
     ∧ (∀ (c : Nat) (crcs : List Nat) (p : Nat × Word × Nat), s.pair.peerDigest = some p → p.1 = k → s.isStep = true →
         s.isStandby = true → s.epochRuns = false → ((List.range 512).find? fun c =>
             d.chs.getD c 0 != crcs.getD c 0 && !(s.pair.repair.any fun r => r.1 == c && decide (r.2 ≤ k))) = some c →
       (d.flags % 16 = 0 → ∃ t, exec (.chdig k crcs) s = .next t
         ∧ t.rd .PAIR_DIV = BitVec.ofNat 32
             ((if p.2.2 % 16 = 0 then 1 else 3) * 2 ^ 30 + 2 ^ 29 + c * 2 ^ 20 + k % 65536)
         ∧ s.counted t .PAIR_DIGEST_MISMATCH_CNT 0 1
         ∧ t.pair = (if p.2.2 % 16 = 0 then { s.pair with detachPend := true, epochDue := true }
             else { s.pair with takeoverPend := true })
         ∧ s.frame t [.pair, .mgmt, .free] [(.PAIR_DIV, 0), (.PAIR_DIGEST_MISMATCH_CNT, 0), (.MGMT_LOG_OVW_CNT, 0), (.MGMT_LOG_LOST_CNT, 0)])
       ∧ (d.flags % 16 ≠ 0 → ∃ t, exec (.chdig k crcs) s = .next t
         ∧ t.rd .PAIR_DIV = BitVec.ofNat 32 (2 * 2 ^ 30 + 2 ^ 29 + c * 2 ^ 20 + k % 65536)
         ∧ s.counted t .PAIR_DIGEST_MISMATCH_CNT 0 1 ∧ s.fellToBasic t 7 [] [(.PAIR_DIV, 0), (.PAIR_DIGEST_MISMATCH_CNT, 0)]))
     ∧ (s.pair.digests.head? = some d → s.pair.holdStep = false → s.ownTick d.tick + 8 ≤ s.dev.tick →
         s.pair.peerDigest = none → s.isStep = true → s.isStandby = true → s.epochRuns = false → d.flags % 16 = 0 →
       ∃ t, exec .digestLate s = .next t
         ∧ t.rd .PAIR_DIV = BitVec.ofNat 32 (2 ^ 30 + d.tick % 65536)
         ∧ s.counted t .PAIR_DIGEST_LATE_CNT 0 1 ∧ s.counted t .PAIR_DIGEST_MISMATCH_CNT 0 1
         ∧ t.pair = { s.pair with peerDigest := some (d.tick, d.crc, 0), detachPend := true, epochDue := true }
         ∧ s.frame t [.pair, .mgmt, .free]
             [(.PAIR_DIV, 0), (.PAIR_DIGEST_LATE_CNT, 0), (.PAIR_DIGEST_MISMATCH_CNT, 0), (.MGMT_LOG_OVW_CNT, 0), (.MGMT_LOG_LOST_CNT, 0)]))

/-- R225, R226, R227, R229, R230, R232: the standby's side of an epoch: it begins when one is due, START begins the pacing, the grid and
the configuration copy end their phases, a copy is replayed and joins its channel, the ACK sets the boundary of the commit; a failed
copy and a timeout abort. Beside it, the boundary of a handover, the revertive request and the end of the cold window. -/
def Obligations.StandbyEpochs : Prop :=
  ∀ (s : State) (n : Nat), s.pairRuns = true → s.pair.helloBad = false → s.isStandby = true → s.get PAIR_EPOCH_STS.EPOCH = n →
    (s.mode = 8 → s.on PAIR_STS.LINK_UP = true → s.on PAIR_STS.PEER_ALIVE = true → s.pair.peerRole = 1 → s.get PAIR_STS.PEER_MODE ≠ 10 →
        s.epochRuns = false → s.pair.detachPend = false → s.pair.takeoverPend = false → ∃ t, exec .epochRetryDue s = .next t
      ∧ t.get PAIR_EPOCH_STS.EPOCH = (n + 1) % 65536 ∧ t.get PAIR_EPOCH_STS.PHASE = 1 ∧ t.get PAIR_EPOCH_STS.JOINED = 0
      ∧ t.pair = { s.pair with
          epochDue := false, joined := [], copyPend := [], copyWords := [], verified := 0, rxSseq := none, stream := []
          cfgOpen := [], streamInputs := [], seen := [], out := s.pair.out ++ [.epochOffer ((n + 1) % 65536)] }
      ∧ t.rd .PAIR_CMD = PAIR_CMD.RESYNC.put (s.rd .PAIR_CMD) 0
      ∧ s.frame t [.pair] [(.PAIR_EPOCH_STS, 0), (.PAIR_CMD, 0)])
    ∧ (∀ k : Nat, s.get PAIR_EPOCH_STS.PHASE = 1 → ∃ t, exec (.epochStart n k) s = .next t
      ∧ t.get PAIR_EPOCH_STS.PHASE = 2 ∧ t.rd .PAIR_STS = PAIR_STS.TRIM_HELD.put (PAIR_STS.PACED.put (s.rd .PAIR_STS) 1) 0
      ∧ t.rd .PAIR_TRIM = 0 ∧ t.rd .PAIR_PHASE = 0 ∧ t.pair = { s.pair with trimAcc := 0, alignRun := 0 }
      ∧ s.frame t [.pair] [(.PAIR_EPOCH_STS, 0), (.PAIR_STS, 0), (.PAIR_TRIM, 0), (.PAIR_PHASE, 0)])
    ∧ (∀ (g : Int) (d : Nat), s.get PAIR_EPOCH_STS.PHASE = 2 → g.natAbs ≤ 12 → ∃ t, exec (.epochPaceComplete g d) s = .next t
      ∧ t.get PAIR_EPOCH_STS.PHASE = 3 ∧ t.rd .PAIR_STS = PAIR_STS.GRID_OK.put (s.rd .PAIR_STS) 1
      ∧ t.get PAIR_GRID.G = fieldOf 16 g ∧ t.get PAIR_GRID.LINKDLY = min d 65535
      ∧ t.rd .PAIR_REL = BitVec.ofInt 32 s.pair.frameRel ∧ t.pair = { s.pair with rel := s.pair.frameRel }
      ∧ s.frame t [.pair] [(.PAIR_EPOCH_STS, 0), (.PAIR_STS, 0), (.PAIR_GRID, 0), (.PAIR_REL, 0)])
    ∧ (∀ (c k : Nat) (d : ChanCopy), c < 512 → s.get PAIR_EPOCH_STS.PHASE = 3 → ∃ t, exec (.copy c k d) s = .next t
      ∧ t.pair = { s.pair with copyWords := s.pair.copyWords ++ d.words } ∧ s.frame t [.pair] [])
    ∧ (s.get PAIR_EPOCH_STS.PHASE = 3 → ∃ t, exec (.epochStaticComplete true) s = .next t
      ∧ t.get PAIR_EPOCH_STS.PHASE = 4 ∧ t.pair = { s.pair with copyWords := [] }
      ∧ s.frame t [.pair] ((.PAIR_EPOCH_STS, 0) :: s.pair.copyWords.filterMap fun w => Rg.ofKey w.1))
    ∧ (∀ (c k : Nat) (d : ChanCopy), c < 512 → 4 ≤ s.get PAIR_EPOCH_STS.PHASE → ∃ t, exec (.copy c k d) s = .next t
      ∧ t.chan c = { s.chan c with posted := none } ∧ s.onlyChan t c
      ∧ t.pair = { s.pair with
          copyPend := c :: s.pair.copyPend.filter (· != c), joined := s.pair.joined.filter (· != c) }
      ∧ s.frame t [.chans, .pair] [])
    ∧ (∀ (c : Nat) (d : ChanCopy), c < 512 → s.isActive = false → c ∈ s.pair.copyPend → s.epochRuns = true →
        ∃ t, exec (.channelJoinComplete c d) s = .next t
      ∧ t.chan c = { (s.chan c).to (.ofCode d.state) with
          held := .ofCode d.held, p := d.p, resAcc := d.resAcc, patK := d.patK, long := d.long, time := d.time, anchor := d.anchor
          thetaLive := d.thetaLive, thetaTarget := d.thetaTarget, adj := d.adjPend, lockRun := d.lockRun, unlRun := d.unlRun
          arming := d.arming, armed := d.armed, inflight := d.inflight.map fun f => { f with h := f.h + s.msyn.mcc }
          zero := d.zero, rezero := d.rezero, t0 := some (s.ownTick d.t0), posted := none, running := true }
      ∧ s.onlyChan t c ∧ t.pair.joined = c :: s.pair.joined.filter (· != c)
      ∧ t.pair.copyPend = s.pair.copyPend.filter (· != c)
      ∧ s.frame t [.chans, .outs, .pps, .pair] ((.PAIR_EPOCH_STS, 0) :: (.PAIR_REPAIR_CNT, 0) :: copiedWords c d))
    ∧ (∀ k : Nat, s.get PAIR_EPOCH_STS.PHASE = 6 → s.pair.commitAt = none → ∃ t, exec (.epochAck n k) s = .next t
      ∧ t.pair = { s.pair with commitAt := some (max (s.dev.tick + 1) (s.ownTick k)) } ∧ s.frame t [.pair] [])
    ∧ (s.epochRuns = true → s.pair.commitAt = none → s.pair.joined.all (· < 512) = true →
      (∃ t, exec .epochTimeout s = .next t ∧ s.epochAborted t 5 [] [])
      ∧ (∃ t, exec (.epochAbort n) s = .next t ∧ s.epochAborted t (Config.freeNat s.free % 8) [.free] [])
      ∧ (s.get PAIR_EPOCH_STS.PHASE = 3 → ∃ t, exec (.epochStaticComplete false) s = .next t ∧ s.epochAborted t 6 [] []))
    ∧ (∀ k : Nat, s.isStep = true → ∃ t, exec (.epochHandover ((n + 1) % 65536) k) s = .next t
      ∧ t.pair = { s.pair with handoverAt := some (max (s.dev.tick + 1) (s.ownTick k)), handoverOld := false }
      ∧ s.frame t [.pair] [])
    ∧ (s.isStep = true → s.on PAIR_CFG.REVERT = true → s.preferred = true → s.pair.helloMismatch = false → s.pair.holdStep = false →
      ∃ t, exec .revertWaitExpired s = .next t ∧ t.pair = { s.pair with revertAsk := true } ∧ s.frame t [.pair] [])
    ∧ (∃ t, exec .coldWindowExpired s = .next t
      ∧ t.rd .PAIR_STS = PAIR_STS.COLD.put (s.rd .PAIR_STS) 0 ∧ t.pair = { s.pair with coldChans := [] }
      ∧ s.frame t [.pair] [(.PAIR_STS, 0)])

/-- R226, R229, R231, R232, R233, R234: the active's side: it answers an OFFER with START and streams with lead, answers the COMMIT with
the boundary it names, drops the epoch on an ABORT, and counts a channel repaired when its copy has been replayed. A planned handover is
granted at a boundary PAIR_LEAD + 2 ticks after the frame that carries it. -/
def Obligations.ActiveEpochs : Prop :=
  ∀ (s : State) (n : Nat), s.pairRuns = true → s.pair.helloBad = false → s.isActive = true →
    (n < 65536 → s.isRun = true → s.on PAIR_STS.LINK_UP = true → ∃ t, exec (.epochOffer n) s = .next t
      ∧ t.get PAIR_EPOCH_STS.EPOCH = n ∧ t.get PAIR_EPOCH_STS.PHASE = 2 ∧ t.rd .PAIR_STS = PAIR_STS.IN_STEP.put (s.rd .PAIR_STS) 0
      ∧ t.pair = { s.pair with
          streaming := true, commitAt := none, wordNext := 0, copyNext := 0, recopy := [], joined := [], copied := []
          out := s.pair.out ++ [.epochStart n ((s.dev.tick + 1) % 2 ^ 32)] }
      ∧ s.frame t [.pair] [(.PAIR_EPOCH_STS, 0), (.PAIR_STS, 0)])
    ∧ (s.get PAIR_EPOCH_STS.EPOCH = n →
      (s.pair.streaming = true → ∃ t, exec (.epochCommit n) s = .next t
        ∧ t.pair = { s.pair with
            commitAt := some (s.dev.tick + 3), out := s.pair.out ++ [.epochAck n ((s.dev.tick + 3) % 2 ^ 32)] }
        ∧ s.frame t [.pair] [])
      ∧ (s.epochRuns = true → ∃ t, exec (.epochAbort n) s = .next t
        ∧ t.get PAIR_EPOCH_STS.PHASE = 0 ∧ s.counted t .PAIR_EPOCH_ABORT_CNT 0 1 ∧ t.pair = { s.pair with commitAt := none }
        ∧ s.frame t [.pair, .free] [(.PAIR_EPOCH_STS, 0), (.PAIR_EPOCH_ABORT_CNT, 0)])
      ∧ (∀ p : Port, s.reaches p .PAIR_CMD 0 → s.isRun = true → s.peerInStep = true → s.pair.handoverAt = none →
        ∃ t, exec (.handover p) s = .next t
        ∧ t.pair = { s.pair with
            handoverAt := some (s.dev.tick + 1 + s.get HOP_CTL.PAIR_LEAD + 2), handoverOld := true
            out := s.pair.out ++ [.epochHandover ((n + 1) % 65536) ((s.dev.tick + 1 + s.get HOP_CTL.PAIR_LEAD + 2) % 2 ^ 32)] }
        ∧ t.rd .PAIR_CMD = PAIR_CMD.HANDOVER.put (s.rd .PAIR_CMD) 1 ∧ s.frame t [.pair, .dev] [(.PAIR_CMD, 0)]))
    ∧ (∀ (c : Nat) (d : ChanCopy), c < 512 → c ∈ s.pair.copied → (s.pair.repair.any (·.1 == c)) = true →
        ∃ t, exec (.channelJoinComplete c d) s = .next t
      ∧ s.counted t .PAIR_REPAIR_CNT 0 1
      ∧ t.pair = { s.pair with
          repair := s.pair.repair.filter (·.1 != c), copied := s.pair.copied.filter (· != c)
          joined := if s.pair.streaming && !s.peerInStep then c :: s.pair.joined.filter (· != c) else s.pair.joined }
      ∧ s.frame t [.pair] [(.PAIR_REPAIR_CNT, 0)])

/-- R5, R229, R232, R233, R234: the commands of PAIR_CMD through a port: RESYNC makes an epoch due, reads 1 until it starts, and starts it, ABORT aborts the one that
runs, PEER_RESET queues a reset request; in STANDBY_STEP the first two are rejected. -/
def Obligations.PairCommands : Prop :=
  ∀ (s : State) (p : Port), isHost p = true → s.reaches p .PAIR_CMD 0 →
    (s.isRun = true → s.isActive = true → s.on PAIR_STS.LINK_UP = true → ∃ t, exec (.peerReset p) s = .next t
      ∧ t.pair = { s.pair with out := s.pair.out ++ [.resetReq] } ∧ s.frame t [.pair, .dev] [])
    ∧ (s.mode = 8 →
      (s.isStandby = false → ∃ t, exec (.resync p) s = .next t
        ∧ t.pair = { s.pair with epochDue := true } ∧ t.rd .PAIR_CMD = PAIR_CMD.RESYNC.put (s.rd .PAIR_CMD) 1
        ∧ s.frame t [.pair, .dev] [(.PAIR_CMD, 0)])
      ∧ (s.isStandby = true → s.on PAIR_STS.LINK_UP = true → s.on PAIR_STS.PEER_ALIVE = true → s.pair.peerRole = 1 →
          s.get PAIR_STS.PEER_MODE ≠ 10 → s.epochRuns = false → s.pair.detachPend = false → s.pair.takeoverPend = false →
          ∃ t, exec (.resync p) s = .next t
        ∧ t.get PAIR_EPOCH_STS.EPOCH = (s.get PAIR_EPOCH_STS.EPOCH + 1) % 65536 ∧ t.get PAIR_EPOCH_STS.PHASE = 1
        ∧ t.pair.out = s.pair.out ++ [.epochOffer ((s.get PAIR_EPOCH_STS.EPOCH + 1) % 65536)]
        ∧ t.on PAIR_CMD.RESYNC = false ∧ s.frame t [.pair, .dev] [(.PAIR_EPOCH_STS, 0), (.PAIR_CMD, 0)])
      ∧ (s.isStandby = true → s.epochRuns = true → s.pair.commitAt = none → s.pair.joined.all (· < 512) = true →
          ∃ t, exec (.abort p) s = .next t ∧ s.epochAborted t 3 [.dev] []))
    ∧ (s.mode = 7 → ∀ i ∈ [Instr.resync p, Instr.abort p], ∃ t, exec i s = .next t
      ∧ t.get DEV_CMD_STATUS.REASON = 3 ∧ s.counted t .DEV_REJECT_CNT 0 1
      ∧ s.frame t [.dev] [(.DEV_CMD_STATUS, 0), (.DEV_REJECT_CNT, 0)])

/-- R240, R241, R244, R245, R246, R255: a trigger starts a rotation at the next boundary, or makes one further rotation pending; a rotation takes
the sensor readings as its reference, runs its items in order, a TDC being stale through its slot, and counts when item 164 ends. The slot
of the master check shows whether the tuning word lies outside its margin, and counts it where it does. -/
def Obligations.CalibrationRotation : Prop :=
  ∀ s : State, s.calModes = true →
    (∀ i ∈ [Instr.calPeriodExpired, Instr.calTemperatureCheck], s.on CAL_CTL.AUTO = true →
        (i = .calPeriodExpired → s.on CAL_CTL.PERIOD = true) →
        (i = .calTemperatureCheck → s.dev.tick % 100000 = 0 ∧ (List.range 8).any (fun k => s.tempApart (s.temp k) (s.cal.tempRef.getD k 0) 1) = true) →
      ∃ t, exec i s = .next t
        ∧ s.counted t .CAL_TRIG_TEMP_CNT 0 (if i = .calTemperatureCheck then 1 else 0)
        ∧ t.rd .CAL_STS = (if s.on CAL_STS.ROTATING then CAL_STS.PENDING.put (s.rd .CAL_STS) 1 else s.rd .CAL_STS)
        ∧ t.cal = (if s.on CAL_STS.ROTATING || s.on CAL_STS.PENDING then s.cal else { s.cal with startDue := true })
        ∧ s.frame t [.cal] [(.CAL_STS, 0), (.CAL_TRIG_TEMP_CNT, 0)])
    ∧ (∀ p : Port, isHost p = true → s.reaches p .CAL_CMD 0 →
      (s.on CAL_STS.ROTATING = false → ∃ t, exec (.calRun p) s = .next t
        ∧ t.on CAL_CMD.RUN = true ∧ t.cal = (if s.on CAL_STS.PENDING then s.cal else { s.cal with startDue := true })
        ∧ s.frame t [.cal] [(.CAL_CMD, 0)])
      ∧ (s.on CAL_STS.ROTATING = true → ∃ t, exec (.calRun p) s = .next t
        ∧ t.on CAL_CMD.RUN = true ∧ t.on CAL_STS.PENDING = true ∧ t.get DEV_CMD_STATUS.REASON = 8 ∧ s.counted t .DEV_DEFER_CNT 0 1
        ∧ s.frame t [] [(.CAL_CMD, 0), (.CAL_STS, 0), (.DEV_CMD_STATUS, 0), (.DEV_DEFER_CNT, 0)]))
    ∧ ((s.cal.startDue = true ∨ s.on CAL_STS.PENDING = true) → s.on CAL_STS.ROTATING = false →
      ∃ t, exec .calRotationStart s = .next t
        ∧ (let further := s.cal.startDue && s.on CAL_STS.PENDING
           t.rd .CAL_STS = (if further then CAL_STS.ROTATING.put (s.rd .CAL_STS) 1
               else CAL_STS.PENDING.put (CAL_STS.ROTATING.put (s.rd .CAL_STS) 1) 0)
             ∧ t.on CAL_CMD.RUN = (further && s.on CAL_CMD.RUN))
        ∧ t.cal = { s.cal with startDue := false, nextItem := some 0, tempRef := (List.range 8).map s.temp }
        ∧ s.frame t [.cal] [(.CAL_STS, 0), (.CAL_CMD, 0)])
    ∧ (∀ k : Nat, k < 165 → s.on CAL_STS.ROTATING = true → s.get CAL_STS.ITEM = 0xFF → s.on MSYN_STS.LOCK = true →
        s.cal.nextItem = some k → (s.cal.swapPend.any (·.1 == k - 37)) = false → ∃ t, exec .calItemStart s = .next t
        ∧ t.rd .CAL_STS = CAL_STS.ITEM.put (CAL_STS.PAUSED.put (s.rd .CAL_STS) 0) k
        ∧ t.cal = { s.cal with
            itemMcc := s.msyn.mcc, measured := none, hopDiscard := false, outcome := 0, nextItem := none }
        ∧ (1 ≤ k → k ≤ 36 → t.on REF_STS.STALE (k - 1) = true)
        ∧ s.frame t [.cal] ((.CAL_STS, 0) :: (if 1 ≤ k ∧ k ≤ 36 then [(.REF_STS, k - 1)] else [])))
    ∧ (s.get CAL_STS.ITEM = 0 → s.cal.outcome = 0 → ∃ t, exec .calItemEnd s = .next t
        ∧ (let out := outsideMargin (s.get MSYN_TUNE.TUNE)
           t.on MSYN_STS.BAND_MARGIN = out
             ∧ t.rd .MSYN_ACQ = (if out then MSYN_ACQ.MARGIN.put (s.rd .MSYN_ACQ) (min 63 (s.get MSYN_ACQ.MARGIN + 1)) else s.rd .MSYN_ACQ))
        ∧ t.get CAL_STS.ITEM = 0xFF ∧ t.cal.nextItem = some 1 ∧ s.frame t [.cal] [(.CAL_STS, 0), (.MSYN_STS, 0), (.MSYN_ACQ, 0)])
    ∧ (∀ k : Nat, k < 164 → s.get CAL_STS.ITEM = k → (k = 0 → s.cal.outcome ≠ 0) →
      let blend := decide (1 ≤ k) && decide (k ≤ 36) && s.cal.outcome == 1 && s.enginesRun && s.on REF_CFG.EN (k - 1)
      let bs := if blend then s.cal.blends ++ [⟨255 + k, 0, 0, s.cal.tdcOld⟩] else s.cal.blends
      ∃ t, exec .calItemEnd s = .next t
        ∧ t.rd .CAL_STS = CAL_STS.ITEM.put (if blend then CAL_STS.BLENDS.put (s.rd .CAL_STS) bs.length else s.rd .CAL_STS) 0xFF
        ∧ t.cal = { s.cal with
            measured := none, hopDiscard := false, outcome := 0, tdcOld := [], nextItem := some (k + 1), blends := bs }
        ∧ (1 ≤ k → k ≤ 36 → t.on REF_STS.STALE (k - 1) = false)
        ∧ s.frame t [.cal] ((.CAL_STS, 0) :: (if 1 ≤ k ∧ k ≤ 36 then [(.REF_STS, k - 1)] else [])))
    ∧ (s.get CAL_STS.ITEM = 164 → s.cal.intervalDue = false → ∃ t, exec .calItemEnd s = .next t
        ∧ t.rd .CAL_STS = CAL_STS.ROTATING.put (CAL_STS.ITEM.put (s.rd .CAL_STS) 0xFF) 0 ∧ s.counted t .CAL_ROT_CNT 0 1
        ∧ t.cal = { s.cal with measured := none, hopDiscard := false, outcome := 0, tdcOld := [], nextItem := none }
        ∧ s.frame t [.cal] [(.CAL_STS, 0), (.CAL_ROT_CNT, 0)])

/-- R238, R239, R240, R242, R243, R247, R248, R249, R258: the master check takes the averaged tuning word; a measured table that meets every limit goes into the idle slice or the TDC with its record,
and a slice's waits for its swap; one that fails is discarded, the first failed limit is counted and recorded, and the rejections in a
row count up to 3. A swap changes the driving slice and, where the output runs, starts its blend; a blend ends at its step 80. -/
def Obligations.CalibrationTables : Prop :=
  (∀ (s : State) (m : CalMeasure), s.get CAL_STS.ITEM = 0 → s.cal.outcome = 0 → s.cal.measured = none →
    ∃ t, exec (.calMeasureComplete m) s = .next t
      ∧ t.on MSYN_STS.BAND_MARGIN = outsideMargin (m.tune % 2 ^ 20) ∧ t.cal = { s.cal with outcome := 2 }
      ∧ s.frame t [.cal] [(.MSYN_STS, 0), (.MSYN_ACQ, 0)])
  ∧ (∀ (s : State) (m : CalMeasure) (k : Nat), s.get CAL_STS.ITEM = k → 1 ≤ k → k ≤ 164 →
    (s.cal.outcome = 0 → s.cal.measured = none → s.cal.hopDiscard = false → ∃ t, exec (.calMeasureComplete m) s = .next t
      ∧ t.cal = { s.cal with measured := some m } ∧ s.frame t [.cal] [])
    ∧ (s.cal.measured = some m →
      let x := s.itemTable k
      let taps := calTaps (decide (k ≤ 36)) m
      let sen := calSensor x
      let v := failedLimit (decide (k ≤ 36)) m
      (v = 0 → ∃ t, exec .calItemAccept s = .next t
        ∧ (∀ w, w < 128 → t.rd .TAP (x * 128 + w)
            = BitVec.ofNat 32 (taps.getD (2 * w) 0 % 65536 + taps.getD (2 * w + 1) 0 % 65536 * 65536))
        ∧ t.rd .CALREC (x * 4) = BitVec.ofNat 32
            (calInl (decide (k ≤ 36)) m % 65536 * 65536 + calSpan (decide (k ≤ 36)) m % 65536)
        ∧ t.rd .CALREC (x * 4 + 1) = BitVec.ofNat 32 s.dev.tick
        ∧ t.rd .CALREC (x * 4 + 2) = BitVec.ofNat 32 (s.get MGMT_TEMP.TEMP sen * 65536 + sen * 256)
        ∧ t.rd .CALREC (x * 4 + 3) = 0x80000000#32
        ∧ t.rd .CAL_STS = CAL_STS.ALERT.put (s.rd .CAL_STS) (t.get CAL_STS.ALERT) ∧ s.counted t .CAL_ITEM_OK_CNT 0 1
        ∧ t.cal = { s.cal with
            measured := none, outcome := 1, acceptedSince := true, tdcOld := if k ≤ 36 then s.tapsOf x else []
            swapPend := if 37 ≤ k then s.cal.swapPend ++ [(k - 37, m.delta)] else s.cal.swapPend }
        ∧ s.frame t [.cal] ([(.CAL_STS, 0), (.CAL_ITEM_OK_CNT, 0), (.OUT_STS, x / 2), (.CALREC, x * 4), (.CALREC, x * 4 + 1),
            (.CALREC, x * 4 + 2), (.CALREC, x * 4 + 3)] ++ (List.range 128).map fun w => (.TAP, x * 128 + w)))
      ∧ (v ≠ 0 → ∃ t, exec .calItemAccept s = .next t
        ∧ s.counted t (calRejCounter v) 0 1
        ∧ bitsOf (t.calRec x 3) 25 24 = min 3 (bitsOf (s.calRec x 3) 25 24 + 1) ∧ bitsOf (t.calRec x 3) 28 26 = v
        ∧ (bitsOf (t.calRec x 3) 25 24 = 3 → t.on CAL_STS.ALERT = true)
        ∧ t.cal = { s.cal with measured := none, outcome := 2 }
        ∧ s.frame t [.cal] [(.CAL_STS, 0), (calRejCounter v, 0), (.OUT_STS, x / 2), (.CALREC, x * 4 + 3)])))
  ∧ (∀ (s : State) (n : Nat) (d : Int), n < 128 → s.cal.swapPend.find? (·.1 == n) = some (n, d) →
    ∃ t, exec (.sliceSwap n) s = .next t
      ∧ t.get OUT_STS.SLICE n = 1 - s.get OUT_STS.SLICE n
      ∧ t.cal = { s.cal with
          swapPend := s.cal.swapPend.filter (·.1 != n)
          blends := if s.get OUT_STS.STATE n = 2
            then s.cal.blends ++ [⟨2 * n + (1 - s.get OUT_STS.SLICE n), 0, d, []⟩] else s.cal.blends }
      ∧ s.frame t [.cal] [(.OUT_STS, n), (.CAL_STS, 0)])
  ∧ (∀ s : State, s.mode ≠ 0 → s.mode ≠ 11 → ∃ t, exec .calBlendStep s = .next t
      ∧ t.cal = { s.cal with
          blends := (s.cal.blends.map fun b => { b with step := b.step + 1 }).filter fun b => decide (b.step < 80) }
      ∧ t.rd .CAL_STS = CAL_STS.BLENDS.put (s.rd .CAL_STS) t.cal.blends.length ∧ s.frame t [.cal] [(.CAL_STS, 0)])

/-- R251, R252, R253, R255: a store starts on STORE, or when its interval has passed with a table accepted since and no rotation running: it
takes the tables in use and erases the working slot that does not hold the highest SEQ; its operations follow one another, and the COMMIT page
gives the slot the next SEQ; a failed operation ends it; under the power-fail warning it is abandoned, and starts again once the warning
has been clear.
An entry that may find the log port busy is written, or lost and counted (R302, log 33). -/
def Obligations.CalibrationStores : Prop :=
  ∀ s : State,
    let put (x : Cal) (c : CalSlot) : Cal := if x.highSlot = 1 then { x with slotB := c } else { x with slotA := c }
    let started : Cal := put { s.cal with storeOp := 1, abandonDue := false, image := s.newSlot } erasedSlot
    (s.on MGMT_STS.PFW = false → s.on CAL_STS.STORING = false → s.updateWrites = false → s.on RST_STS.L1M = false →
      (∀ p : Port, isHost p = true → s.reaches p .CAL_CMD 0 → s.calModes = true → ∃ t, exec (.calStore p) s = .next t
        ∧ t.rd .CAL_STS = CAL_STS.STORE_PEND.put (CAL_STS.STORING.put (s.rd .CAL_STS) 1) 0 ∧ t.on CAL_CMD.STORE = true
        ∧ t.cal = started ∧ s.frame t [.cal] [(.CAL_STS, 0), (.CAL_CMD, 0)])
      ∧ (s.on CAL_STS.ROTATING = false → s.cal.acceptedSince = true → s.mode ≠ 0 → s.mode ≠ 11 →
        ∃ t, exec .calStoreIntervalExpired s = .next t
        ∧ t.rd .CAL_STS = CAL_STS.STORE_PEND.put (CAL_STS.STORING.put (s.rd .CAL_STS) 1) 0
        ∧ t.cal = { started with intervalDue := true } ∧ s.frame t [.cal] [(.CAL_STS, 0)])
      ∧ (s.cal.abandoned = true → ∃ t, exec .calStoreResume s = .next t
        ∧ t.rd .CAL_STS = CAL_STS.STORE_PEND.put (CAL_STS.STORING.put (s.rd .CAL_STS) 1) 0
        ∧ t.cal = { started with abandoned := false } ∧ s.frame t [.cal] [(.CAL_STS, 0)]))
    ∧ (s.on CAL_STS.STORING = true →
      (s.on MGMT_STS.PFW = false → s.cal.abandonDue = false → s.cal.storeOp ≠ 5 →
        ∃ t, exec (.calStoreOperationComplete true) s = .next t
        ∧ t.cal = { (if s.cal.storeOp = 2 then put s.cal { s.cal.image with crc := 0xFFFFFFFF, commit := 0xFFFFFFFF }
              else if s.cal.storeOp = 3 then put s.cal { s.cal.image with commit := 0xFFFFFFFF } else s.cal) with
            storeOp := s.cal.storeOp + 1 }
        ∧ s.frame t [.cal] [])
      ∧ (s.mgmt.updWait = false → s.on CAL_STS.STORE_PEND = false → s.cal.storeOp = 5 →
        ∃ t, exec (.calStoreOperationComplete true) s = .next t
        ∧ t.rd .CAL_SEQ = BitVec.ofNat 32 ((s.cal.highSeq + 1) % 2 ^ 32) ∧ s.counted t .CAL_STORE_CNT 0 1
        ∧ t.rd .CAL_STS = CAL_STS.STORING.put (s.rd .CAL_STS) 0 ∧ t.on CAL_CMD.STORE = false
        ∧ s.wrote t 8 2 0 (BitVec.ofNat 32 ((s.cal.highSeq + 1) % 2 ^ 32)) 0 0
        ∧ t.cal = { put s.cal s.cal.image with
            storeOp := 0, highSeq := (s.cal.highSeq + 1) % 2 ^ 32, highSlot := if s.cal.highSlot = 1 then 2 else 1
            acceptedSince := false, intervalDue := false, abandonDue := false }
        ∧ s.frame t [.cal, .mgmt, .free] [(.CAL_SEQ, 0), (.CAL_STORE_CNT, 0), (.CAL_STS, 0), (.CAL_CMD, 0), (.MGMT_LOG_OVW_CNT, 0), (.MGMT_LOG_LOST_CNT, 0)])
      ∧ (s.mgmt.updWait = false → s.on CAL_STS.STORE_PEND = false → s.on MGMT_STS.PFW = false → s.cal.abandonDue = false →
        ∃ t, exec (.calStoreOperationComplete false) s = .next t
        ∧ s.counted t .CAL_STORE_FAIL_CNT 0 1 ∧ t.rd .CAL_STS = CAL_STS.STORING.put (s.rd .CAL_STS) 0
        ∧ t.cal = { s.cal with storeOp := 0 }
        ∧ s.frame t [.cal, .mgmt, .free] [(.CAL_STORE_FAIL_CNT, 0), (.CAL_STS, 0), (.CAL_CMD, 0), (.MGMT_LOG_OVW_CNT, 0), (.MGMT_LOG_LOST_CNT, 0)])
      ∧ (∀ ok : Bool, s.mgmt.updWait = false → (s.on MGMT_STS.PFW = true ∨ s.cal.abandonDue = true) → s.cal.storeOp ≠ 5 →
        ∃ t, exec (.calStoreOperationComplete ok) s = .next t
        ∧ s.counted t .CAL_STORE_BLOCK_CNT 0 1 ∧ t.rd .CAL_STS = CAL_STS.STORING.put (s.rd .CAL_STS) 0
        ∧ t.cal = { s.cal with storeOp := 0, abandonDue := false, abandoned := true }
        ∧ s.frame t [.cal] [(.CAL_STORE_BLOCK_CNT, 0), (.CAL_STS, 0)]))

/-- R233, R270 to R277, R296: the sources of reset at their default reach, no other source asserted and the internal oscillator running.
L1 of a subsystem and L0 of a block begin an idle handshake; L2 and L3 rise at once and are counted. A pair-peer request that is not
accepted is logged and nothing else.
An entry that may find the log port busy is written, or lost and counted (R302, log 33). -/
def Obligations.ResetSources : Prop :=
  ∀ s : State, s.on CLK_STS.INTOSC_OK = true → s.on DEV_STRAP.SYS = false → s.rst.level = 0 → s.rst.asserted = [] → s.rst.waiting = [] →
      s.on RST_STS.SOFT = false → s.mode ≠ 0 → s.mode ≠ 11 →
    (∀ p : Port, isHost p = true →
      (s.reaches p .RST_CMD 0 →
        (∃ t, exec (.hostResetManagement p) s = .next t
          ∧ t.rd .RST_CMD = RST_CMD.GO.put (RST_CMD.REQ.put (s.rd .RST_CMD) 0) 1 ∧ s.handshakeBegun t 4 8 [.dev] [(.RST_CMD, 0)])
        ∧ (∃ t, exec (.hostResetIntake p) s = .next t
          ∧ t.rd .RST_CMD = RST_CMD.GO.put (RST_CMD.REQ.put (s.rd .RST_CMD) 1) 1 ∧ s.handshakeBegun t 5 9 [.dev] [(.RST_CMD, 0)])
        ∧ (∃ t, exec (.hostResetWarm p) s = .next t ∧ s.resetTo t 3 6 ∧ s.counted t .RST_HOST_CNT 0 1)
        ∧ ∃ t, exec (.hostResetCold p) s = .next t ∧ s.resetTo t 4 7 ∧ s.counted t .RST_HOST_CNT 0 1)
      ∧ (s.reaches p .RST_SOFT 0 → s.mode ≠ 1 → s.on RST_STS.L1M = false →
        ∀ q ∈ [(Instr.softResetTwlReceiver p, 0), (.softResetMirPcs p, 1), (.softResetPlPcs p, 2), (.softResetCalSequencer p, 3),
            (.softResetFlash p, 4), (.softResetEmmc p, 5), (.softResetSensor p, 6), (.softResetFreqCounter p, 7)],
          (bitOf (s.get RST_SOFT.SOFT) q.2 = false → ∃ t, exec q.1 s = .next t
            ∧ t.get RST_SOFT.SOFT = withBit (s.get RST_SOFT.SOFT) q.2 true ∧ s.handshakeBegun t 11 q.2 [.dev] [(.RST_SOFT, 0)])
          ∧ (bitOf (s.get RST_SOFT.SOFT) q.2 = true → ∃ t, exec q.1 s = .next t ∧ s.frame t [.dev] [])))
    ∧ (s.on RST_STS.L1M = false → ∃ t, exec .mgmtWatchdogExpired s = .next t ∧ s.handshakeBegun t 3 8 [] [])
    ∧ (∀ n : Nat, s.rst.wrstBall = false → s.rst.wrstTaken = true →
        ∃ t, exec (.resetBallLevelTaken .wrst n) s = .next t
          ∧ s.resetTo t 3 2 ∧ s.counted t .RST_WRST_CNT 0 1 ∧ t.rst.wrstTaken = false)
    ∧ (∀ n : Nat, s.rst.porstBall = false → s.rst.porstTaken = true →
        ∃ t, exec (.resetBallLevelTaken .porst n) s = .next t
          ∧ s.resetTo t 4 1 ∧ s.counted t .RST_PORST_CNT 0 1 ∧ t.rst.porstTaken = false)
    ∧ (s.pairRuns = true → s.pair.peerRole = 1 → s.pair.helloBad = false →
      (s.on PAIR_CFG.RST_ACCEPT = true →
        ∃ t, exec .resetReq s = .next t ∧ s.resetTo t 4 8 ∧ s.counted t .RST_PEER_CNT 0 1)
      ∧ (s.on PAIR_CFG.RST_ACCEPT = false → ∃ t, exec .resetReq s = .next t ∧ s.frame t [.mgmt, .free] [(.MGMT_LOG_OVW_CNT, 0), (.MGMT_LOG_LOST_CNT, 0)]))

/-- R262, R274, R276, R277: the end of an idle handshake, by acknowledgement or, counted, by timeout, puts the block in reset, and its
completion clears both of its bits; a subsystem's L1 asserts and is counted. A change of a ball only restarts its filter, and the
oscillator's stop and return are shown.
An entry that may find the log port busy is written, or lost and counted (R302, log 33). -/
def Obligations.ResetHandshakes : Prop :=
  (∀ (s : State) (b : Nat), b < 8 → s.on CLK_STS.INTOSC_OK = true → s.rst.waiting = [(11, b)] →
      (b = 2 → s.on PAIR_STS.LINK_UP = false) → (b = 3 → s.get CAL_STS.ITEM = 0xFF) →
    ∀ forced : Bool, ∃ t, exec (if forced then .idleTimeout (.block b) else .idleAcknowledge (.block b)) s = .next t
      ∧ t.rst = { s.rst with waiting := [] }
      ∧ t.get RST_IDLE_STS.WAIT = withBit (s.get RST_IDLE_STS.WAIT) b false ∧ t.get RST_STS.SOFT = withBit (s.get RST_STS.SOFT) b true
      ∧ s.counted t .RST_FORCED_CNT 0 (if forced then 1 else 0)
      ∧ (b = 0 → t.on TWL_STS.RX_LOCK = false ∧ t.twl = { s.twl with rxSeq := none, tags := [] })
      ∧ (b = 1 → t.on MIR_STS.BLOCK_LOCK = false ∧ t.on MIR_STS.SEQ_SYNC = false)
      ∧ (b = 3 → t.on CAL_STS.ROTATING = false ∧ t.on CAL_STS.PENDING = false
          ∧ t.cal = { s.cal with startDue := false, nextItem := none, storeDue := true })
      ∧ (b = 7 → t.on CLK_STS.FC_DONE = false ∧ t.on CLK_STS.FC_BUSY = false)
      ∧ s.frame t ([.rst] ++ (if b = 0 then [.twl] else if b = 3 then [.cal] else if b = 5 ∨ b = 6 then [.mgmt] else []))
          ([(.RST_IDLE_STS, 0), (.RST_STS, 0), (.RST_FORCED_CNT, 0)]
            ++ (if b = 0 then [(.TWL_STS, 0)] else if b = 1 then [(.MIR_STS, 0)] else if b = 3 then [(.CAL_STS, 0)]
                else if b = 5 then [(.MGMT_JRN_STS, 0)] else if b = 7 then [(.CLK_STS, 0), (.CLK_FC_CTL, 0)] else [])))
  ∧ (∀ s : State, s.on CLK_STS.INTOSC_OK = true → s.rst.level = 0 → s.mode ≠ 11 →
    (s.rst.waiting = [(5, 9)] → s.rst.asserted = [] → ∃ t, exec (.idleAcknowledge .intake) s = .next t
      ∧ t.on RST_STS.L1I = true ∧ t.intake = .reset ∧ s.counted t .RST_HOST_CNT 0 1 ∧ t.on RST_CMD.GO = false
      ∧ t.rst = { s.rst with waiting := [], asserted := [(5, 2)] }
      ∧ t.rd .CAL_CTL = s.rd .CAL_CTL ∧ s.keepsParts t [.intake, .rst])
    ∧ (s.rst.waiting = [(3, 8)] → s.rst.asserted = [] → ∃ t, exec (.idleTimeout .management) s = .next t
      ∧ t.on RST_STS.L1M = true ∧ s.counted t .RST_WDOG_CNT 0 1 ∧ s.counted t .RST_FORCED_CNT 0 1
      ∧ t.rst = { s.rst with waiting := [], asserted := [(3, 1)] }
      ∧ t.mgmt.log = s.mgmt.log ∧ t.rd .CAL_CTL = s.rd .CAL_CTL ∧ t.on CAL_STS.STORING = false
      ∧ s.keepsParts t (if s.on CAL_STS.STORING then [.mgmt, .rst, .cal] else [.mgmt, .rst])))
  ∧ (∀ (s : State) (b : Nat), b < 8 → s.on CLK_STS.INTOSC_OK = true → bitOf (s.get RST_STS.SOFT) b = true → ∃ t, exec (.softResetComplete b) s = .next t
      ∧ t.rd .RST_STS = RST_STS.SOFT.put (s.rd .RST_STS) (withBit (s.get RST_STS.SOFT) b false)
      ∧ t.rd .RST_SOFT = RST_SOFT.SOFT.put (s.rd .RST_SOFT) (withBit (s.get RST_SOFT.SOFT) b false)
      ∧ s.frame t [] [(.RST_STS, 0), (.RST_SOFT, 0)])
  ∧ (∀ s : State,
    (∀ (b : Ball) (v : Bool), ∃ t, exec (.resetBallEdge b v) s = .next t
      ∧ t.rst = (match b with | .porst => { s.rst with porstBall := v } | .wrst => { s.rst with wrstBall := v }) ∧ s.frame t [.rst] [])
    ∧ (s.on CLK_STS.INTOSC_OK = true → ∃ t, exec .intoscStop s = .next t
      ∧ t.rd .CLK_STS = CLK_STS.INTOSC_OK.put (s.rd .CLK_STS) 0 ∧ s.wrote t (Config.freeNat s.free % 65536) 0 1 0 0 0
      ∧ s.frame t [.mgmt, .free] [(.CLK_STS, 0), (.MGMT_LOG_OVW_CNT, 0), (.MGMT_LOG_LOST_CNT, 0)])
    ∧ (s.on CLK_STS.INTOSC_OK = false → s.rst.settled = true → s.rst.heldPend = [] → ∃ t, exec .intoscReturn s = .next t
      ∧ t.rd .CLK_STS = CLK_STS.INTOSC_OK.put (s.rd .CLK_STS) 1 ∧ s.frame t [.rst] [(.CLK_STS, 0)]))

/-- R15, R36, R261, R264, R271, R273, R275, R278, R288, R367: power-on reset restores everything but the fuses; its release and the settle
count lead to a cold BOOT with the straps sampled and the master words of STRAP_CLK; the end of a source's hold time, with no other
source, leads to a BOOT that is warm after L2 and cold after L3. -/
def Obligations.ResetReleases : Prop :=
  ∀ (s : State) (straps : Nat),
    (∃ t, exec .powerOnResetAssert s = .next t
      ∧ t.regs = [] ∧ t.chans = [] ∧ t.outs = [] ∧ t.pps = [] ∧ t.refs = [] ∧ t.msyn = .reset ∧ t.twl = .reset ∧ t.intake = .reset
      ∧ t.cal = { Cal.reset with slotA := s.cal.slotA, slotB := s.cal.slotB } ∧ t.dev = .reset ∧ t.mode = 0 ∧ t.rst.level = 5 ∧ t.rst.asserted = [(0, 5)] ∧ t.rst.supplies = false
      ∧ t.fuse = s.fuse ∧ t.pending = s.pending ∧ t.pins = t.pinsOf)
    ∧ (∃ t, exec .powerOnResetRelease s = .next t ∧ t.rst = { s.rst with supplies := true } ∧ s.frame t [.rst] [])
    ∧ (s.rst.supplies = true → s.rst.settled = false → s.rst.asserted = [(0, 5)] → s.rst.level = 5 → s.mode = 0 →
      ∃ t, exec (.intoscSettleComplete straps) s = .next t
        ∧ t.on CLK_STS.INTOSC_OK = true ∧ t.on CLK_STS.MON_ARMED = true ∧ t.rd .DEV_STRAP = BitVec.ofNat 32 (straps % 128)
        ∧ t.mode = 1 ∧ t.get RST_BOOT_STS.KIND = 1 ∧ t.rst.level = 0 ∧ t.rst.asserted = [] ∧ t.rst.bootMute = true
        ∧ t.dev.tick = 0 ∧ t.dev.ticking = false
        ∧ (∀ w ∈ strapWords (t.get DEV_STRAP.CLK), t.rd .MSYN_REF = w.ref ∧ t.rd .MSYN_NINT = w.nint ∧ t.rd .MSYN_NNUM = w.nnum
            ∧ t.rd .MSYN_NDEN = w.nden ∧ t.rd .MSYN_XOF = w.xof ∧ t.msyn.useNint = w.nint)
        ∧ s.frame t [.rst, .mgmt, .dev, .msyn, .free]
            [(.CLK_STS, 0), (.MGMT_STS, 0), (.DEV_STRAP, 0), (.RST_REACH0, 0), (.RST_REACH1, 0), (.RST_STS, 0), (.DEV_MODE, 0),
             (.RST_BOOT_STS, 0), (.PAIR_STS, 0), (.MSYN_REF, 0), (.MSYN_NINT, 0), (.MSYN_NNUM, 0), (.MSYN_NDEN, 0), (.MSYN_XOF, 0),
             (.MSYN_STS, 0), (.MGMT_LOG_OVW_CNT, 0), (.MGMT_LOG_LOST_CNT, 0)])
    ∧ (∀ src : Nat, 3 ≤ src → src < 11 → s.mode = 0 → s.on CLK_STS.INTOSC_OK = true →
      (s.rst.level = 3 → s.rst.asserted = [(src, 3)] → s.rst.cold = false → s.on CLK_STS.FORCED = false → s.on MSYN_STS.LOCK = true →
          s.on MSYN_STS.HELD = false → ∃ t, exec (.resetHoldExpired src straps) s = .next t
        ∧ t.mode = 1 ∧ t.get RST_BOOT_STS.KIND = 2 ∧ t.rst.level = 0 ∧ t.rst.asserted = [] ∧ t.rst.bootMute = false
        ∧ t.cal = { s.cal with l2Trigger := true }
        ∧ s.frame t [.rst, .mgmt, .cal, .free]
            [(.RST_STS, 0), (.DEV_MODE, 0), (.RST_BOOT_STS, 0), (.PAIR_STS, 0), (.MGMT_LOG_OVW_CNT, 0), (.MGMT_LOG_LOST_CNT, 0)])
      ∧ (s.rst.level = 4 → s.rst.asserted = [(src, 4)] → ∃ t, exec (.resetHoldExpired src straps) s = .next t
        ∧ t.mode = 1 ∧ t.get RST_BOOT_STS.KIND = 1 ∧ t.rst.level = 0 ∧ t.rst.asserted = [] ∧ t.rst.bootMute = true
        ∧ t.rd .DEV_STRAP = BitVec.ofNat 32 (straps % 128) ∧ t.dev.tick = 0 ∧ t.dev.ticking = false))

/-- R254, R280, R285, R297: in a cold BOOT the valid working slot with the highest SEQ is loaded, else the factory slot, else the nominal
table, every table marked as taken from storage; firmware runs from the first slot that passes; the image of the source in turn is
accepted, or refused with its cause and the next source is tried.
An entry that may find the log port busy is written, or lost and counted (R302, log 33). -/
def Obligations.BootSources : Prop :=
  (∀ (s : State) (f a b : CalSlot), s.mode = 1 → s.get RST_BOOT_STS.KIND = 1 →
    ∃ t, exec (.bootCalSlotsRead f a b) s = .next t
      ∧ (let ok (c : CalSlot) : Bool := slotValid s.fuse.dieId c
         let k := if ok a && (!ok b || decide (b.seq < a.seq)) then 1 else if ok b then 2 else if ok f then 0 else 3
         let q := if k = 1 then a.seq else if k = 2 then b.seq else f.seq
         t.get CAL_STS.SLOT = k ∧ (k ≠ 3 → t.rd .CAL_SEQ = BitVec.ofNat 32 q)
           ∧ t.cal = { s.cal with highSlot := if k = 3 then 0 else k, highSeq := if k = 1 ∨ k = 2 then q else 0, slotA := a, slotB := b }
           ∧ (k = 3 → ∀ w, w < 256 → t.rd .TAP w = Rg.resetWord .TAP w))
      ∧ t.rd .CALREC 3 = 0x60000000#32 ∧ t.rd .CALREC 1167 = 0x40000000#32
      ∧ s.counted t .CAL_SLOT_INVALID_CNT 0 (flag (!slotValid s.fuse.dieId f) + flag (!slotValid s.fuse.dieId a) + flag (!slotValid s.fuse.dieId b))
      ∧ s.frame t [.cal] ([(.CAL_STS, 0), (.CAL_SEQ, 0), (.CAL_SLOT_INVALID_CNT, 0)] ++ ((List.range 128).map fun n => (.OUT_STS, n))
          ++ ((List.range 37376).map fun w => (.TAP, w)) ++ (List.range 1168).map fun w => (.CALREC, w)))
  ∧ (∀ (s : State) (b : Bool) (rest : List Bool) (x : FwSlot), s.mgmtRuns = true → s.mgmt.fwTry = b :: rest →
    let cause := fwCause x s.fuse.arb
    ∃ t, exec (.firmwareSlotCheck b x) s = .next t
      ∧ t.get (if b then MGMT_FW_STS.CAUSE_B else MGMT_FW_STS.CAUSE_A) = cause
      ∧ t.mgmt.secVers = s.mgmt.secVers.set (flag b) (if cause = 0 then some x.header.secVer else none)
      ∧ (cause = 0 → t.on MGMT_STS.FW_RUN = true ∧ t.on MGMT_STS.ROM_SVC = false ∧ t.get MGMT_FW_STS.SLOT = flag b
          ∧ t.mgmt.fwTry = [] ∧ t.mgmt.lastSeq = 0 ∧ t.rd .MGMT_INB_STS = Config.freeWord s.free
          ∧ s.wrote t 0x10 0xFF 0 (BitVec.ofNat 32 (flag b)) (BitVec.ofNat 32 (x.header.imgVer % 65536 + x.header.secVer % 65536 * 65536))
              (Config.freeWord s.free))
      ∧ (cause ≠ 0 → s.counted t .MGMT_FW_REFUSE_CNT 0 1 ∧ t.mgmt.fwTry = rest ∧ (rest = [] → t.on MGMT_STS.ROM_SVC = true))
      ∧ s.frame t [.mgmt, .free]
          [(.MGMT_FW_STS, 0), (.MGMT_STS, 0), (.MGMT_INB_STS, 0), (.MGMT_FW_REFUSE_CNT, 0), (.MGMT_LOG_OVW_CNT, 0), (.MGMT_LOG_LOST_CNT, 0)])
  ∧ (∀ (s : State) (src : BootSrc) (rest : List BootSrc) (img : Image), s.mode = 1 → s.rst.toTry = src :: rest →
    ((s.checkImage img none).1 ≠ 0 → ∃ t, exec (.bootImageCheck src img) s = .next t
      ∧ t.rd .RST_BOOT_STS = (causeField src).put (s.rd .RST_BOOT_STS) (s.checkImage img none).1
      ∧ t.rst = { s.rst with
          toTry := rest, cloneOpen := s.rst.cloneOpen && src != .clone, refusedAll := rest.isEmpty }
      ∧ (src = .slotA → t.mgmt.secVers = s.mgmt.secVers.set 2 none) ∧ (src = .slotB → t.mgmt.secVers = s.mgmt.secVers.set 3 none)
      ∧ s.frame t (if src = .slotA ∨ src = .slotB then [.rst, .mgmt] else [.rst]) [(.RST_BOOT_STS, 0)])
    ∧ ((s.checkImage img none).1 = 0 → ∃ t, exec (.bootImageCheck src img) s = .next t
      ∧ t.on RST_BOOT_STS.ACCEPTED = true ∧ t.get RST_BOOT_STS.SRC = srcCode src ∧ t.get (causeField src) = 0
      ∧ t.rst.toTry = [] ∧ t.rst.cloneOpen = false ∧ t.rst.preloaded = true
      ∧ (src = .slotA → t.mgmt.secVers = s.mgmt.secVers.set 2 (some img.header.secVer))
      ∧ (img.preload = [] → t.mgmt.idMode = img.idMode ∧ t.mgmt.ids = img.ids)
      ∧ (img.preload = [] → hasSect img 3 = true → t.on ENG_POOL.PSTORE_OK = true ∧ (∀ k, k < img.pstore.length → t.rd .PSTORE k = img.pstore.getD k 0)
          ∧ t.mgmt.hash = crc32 (img.pstore.flatMap fun w => octetsLe w.toNat 4)))
    ∧ (src = .clone → s.rst.cloneSeen = false → ∃ t, exec .cloneTimeout s = .next t
      ∧ t.rd .RST_BOOT_STS = RST_BOOT_STS.CAUSE_CLONE.put (s.rd .RST_BOOT_STS) 11
      ∧ t.rst = { s.rst with toTry := rest, cloneOpen := false, refusedAll := rest.isEmpty }
      ∧ s.frame t [.rst] [(.RST_BOOT_STS, 0)]))

/-- R27, R247, R299, R300, R301: a sensor reading is shown, judges the slices it serves, and warns above the threshold until every sensor lies at
or below it less the hysteresis; a rail below its reset threshold asserts power-on reset; a rail warns after 10 readings in a row outside its window and clears after 10 inside; the power-fail
warning stands from the first rail that fails until they have recovered. Each warning and each end is logged.
An entry that may find the log port busy is written, or lost and counted (R302, log 33). -/
def Obligations.SensorsAndSupplies : Prop :=
  (∀ (s : State) (k corr : Nat) (temp : Int), k < 8 → s.mode ≠ 0 → bitOf (s.get RST_STS.SOFT) 6 = false →
    ∃ t, exec (.sensorConversion k ⟨temp, corr⟩) s = .next t
      ∧ t.get MGMT_TEMP.TEMP k = fieldOf 16 temp ∧ s.counted t .MGMT_RAM_CORR_CNT 0 corr
      ∧ (∀ j, j < 32 → k < 8 → bitOf (t.calRec (32 * k + j) 3) 29 = t.sliceStale (32 * k + j))
      ∧ (s.on MGMT_STS.TEMP_WARN = false →
          t.rd .MGMT_STS = (if s.tempThr < temp then MGMT_STS.TEMP_WARN.put (s.rd .MGMT_STS) 1 else s.rd .MGMT_STS)
          ∧ s.counted t .MGMT_TEMP_WARN_CNT 0 (if s.tempThr < temp then 1 else 0)
          ∧ (s.tempThr < temp → s.wrote t 0xB 11 1 (BitVec.ofNat 32 k) (t.rd .MGMT_TEMP k) 0))
      ∧ (s.on MGMT_STS.TEMP_WARN = true →
          t.rd .MGMT_STS = (if t.tempCool then MGMT_STS.TEMP_WARN.put (s.rd .MGMT_STS) 0 else s.rd .MGMT_STS)
          ∧ (t.tempCool = true → s.wrote t 0xB 11 1 (BitVec.ofNat 32 k) (t.rd .MGMT_TEMP k) 1))
      ∧ s.frame t [.mgmt, .free] ([(.MGMT_RAM_CORR_CNT, 0), (.MGMT_TEMP, k), (.MGMT_STS, 0), (.MGMT_TEMP_WARN_CNT, 0), (.MGMT_LOG_OVW_CNT, 0), (.MGMT_LOG_LOST_CNT, 0)]
          ++ ((List.range 16).map fun j => (.OUT_STS, 16 * k + j)) ++ (List.range 32).map fun j => (.CALREC, (32 * k + j) * 4 + 3)))
  ∧ (∀ (s : State) (k mv : Nat), k < 5 → mv < supReset k → s.rst.supplies = true → ∃ t, exec (.supplyConversion k mv) s = .next t
      ∧ t.mode = 0 ∧ t.rst.level = 5 ∧ t.rst.asserted = [(0, 5)] ∧ t.rst.supplies = false ∧ t.regs = [] ∧ t.fuse = s.fuse)
  ∧ (∀ (s : State) (k mv : Nat), k < 5 → s.mode ≠ 0 → supReset k ≤ mv →
    let out := decide (mv < (supWindow k).1) || decide ((supWindow k).2 < mv)
    let bad := if out then min 10 (Tab.get 0 s.mgmt.supBad k + 1) else 0
    let good := if out then 0 else min 10 (Tab.get 0 s.mgmt.supGood k + 1)
    let warn := bitOf (s.get MGMT_STS.SUP_WARN) k
    ∃ t, exec (.supplyConversion k mv) s = .next t
      ∧ t.rd .MGMT_SUP k = MGMT_SUP.HIGH.put (MGMT_SUP.LOW.put (MGMT_SUP.MV.put (s.rd .MGMT_SUP k) mv)
          (flag (decide (mv < (supWindow k).1)))) (flag (decide ((supWindow k).2 < mv)))
      ∧ Tab.get 0 t.mgmt.supBad k = bad ∧ Tab.get 0 t.mgmt.supGood k = good
      ∧ t.get MGMT_STS.SUP_WARN = (if bad = 10 then withBit (s.get MGMT_STS.SUP_WARN) k true
          else if good = 10 then withBit (s.get MGMT_STS.SUP_WARN) k false else s.get MGMT_STS.SUP_WARN)
      ∧ s.counted t .MGMT_SUP_WARN_CNT 0 (if bad = 10 ∧ warn = false then 1 else 0)
      ∧ (bad = 10 → warn = false → s.wrote t 0xC 11 1 (BitVec.ofNat 32 k) (BitVec.ofNat 32 mv) 0)
      ∧ (good = 10 → warn = true → s.wrote t 0xC 11 1 (BitVec.ofNat 32 k) (BitVec.ofNat 32 mv) 1)
      ∧ s.frame t [.mgmt, .free] [(.MGMT_SUP, k), (.MGMT_STS, 0), (.MGMT_SUP_WARN_CNT, 0), (.MGMT_LOG_OVW_CNT, 0), (.MGMT_LOG_LOST_CNT, 0)])
  ∧ (∀ s : State,
    (∀ r : Nat, (r = 3 ∧ s.on MGMT_PFW_CTL.EN18 = true ∨ r = 4 ∧ s.on MGMT_PFW_CTL.EN33 = true) → s.mgmt.pfwRails = [] →
      ∃ t, exec (.powerFailWarning r) s = .next t
        ∧ t.rd .MGMT_STS = MGMT_STS.PFW.put (s.rd .MGMT_STS) 1 ∧ s.counted t .MGMT_PFW_CNT 0 1 ∧ t.mgmt.pfwRails = [r]
        ∧ s.wrote t 0xC 11 1 (BitVec.ofNat 32 r) (BitVec.ofNat 32 (s.get MGMT_SUP.MV r)) 0
        ∧ t.get MGMT_UPD_STS.STATE
            = (if s.get MGMT_UPD_STS.STATE = 1 ∨ s.get MGMT_UPD_STS.STATE = 2 then 5 else s.get MGMT_UPD_STS.STATE)
        ∧ t.cal = { s.cal with abandonDue := s.cal.abandonDue || s.on CAL_STS.STORING }
        ∧ s.frame t [.mgmt, .cal, .free] [(.MGMT_STS, 0), (.MGMT_PFW_CNT, 0), (.MGMT_UPD_STS, 0), (.MGMT_LOG_OVW_CNT, 0), (.MGMT_LOG_LOST_CNT, 0)])
    ∧ (s.mgmt.pfwRails ≠ [] → ∃ t, exec .powerFailClear s = .next t
        ∧ t.rd .MGMT_STS = MGMT_STS.PFW.put (s.rd .MGMT_STS) 0 ∧ t.mgmt.pfwRails = []
        ∧ s.frame t [.mgmt, .free] [(.MGMT_STS, 0), (.MGMT_LOG_OVW_CNT, 0), (.MGMT_LOG_LOST_CNT, 0)]))

/-- R298, R304 to R309: the journal opens with the tiers that fit the eMMC and stops where they do not; at a second a capture is queued and
its end of write puts it in the per-second tier; 600 captures make an aggregate; the event tier takes the log entries not yet copied;
a capture that waits too long is lost and counted; the third failure in a row stops the journal; a read brings one record.
An entry that may find the log port busy is written, or lost and counted (R302, log 33). -/
def Obligations.JournalDuties : Prop :=
  (∀ (s : State) (sectors : Nat) (held : List Nat), s.mgmtRuns = true → s.on MGMT_STS.FW_RUN = true → s.get MGMT_JRN_STS.STATE = 0 →
      bitOf (s.get RST_STS.SOFT) 5 = false → sectors < 2 ^ 32 →
    (fitDays s.mgmt.policy (sectors * 512) = none → ∃ t, exec (.journalOpen sectors held) s = .next t
      ∧ t.get MGMT_JRN_STS.STATE = 3 ∧ s.frame t [] [(.MGMT_JRN_STS, 0), (.MGMT_EMMC_STS, 0)])
    ∧ (∀ (d : Nat) (short : Bool), fitDays s.mgmt.policy (sectors * 512) = some (d, short) →
      ∃ t, exec (.journalOpen sectors held) s = .next t
      ∧ t.get MGMT_JRN_STS.STATE = 1 ∧ t.on MGMT_JRN_STS.SHORT = short
      ∧ t.mgmt.t1.cap = d * 86400 * popCount s.mgmt.policy.t1Mask 512
      ∧ t.mgmt.t2.cap = s.mgmt.policy.t2Days * 144 * popCount s.mgmt.policy.t2Mask 512
      ∧ t.mgmt.t3.cap = s.mgmt.policy.t3Gb * 10 ^ 9 / 32 ∧ t.mgmt.captures = []
      ∧ s.frame t [.mgmt] [(.MGMT_JRN_STS, 0), (.MGMT_EMMC_STS, 0)]))
  ∧ (∀ s : State, s.journalWrites = true →
    (s.dev.ticking = true → s.dev.tick % 1000000 = 0 → ∃ t, exec .journalCapture s = .next t
      ∧ t.mgmt.captures = s.mgmt.captures ++ [(s.dev.tick,
          (maskChannels s.mgmt.policy.t1Mask).map fun c => s.secRecord c (Config.freeInt s.free))]
      ∧ t.mgmt.capCount = s.mgmt.capCount + 1 ∧ t.mgmt.sec = [] ∧ t.free = s.free + 1 ∧ s.frame t [.mgmt, .free] [])
    ∧ (s.on MGMT_STS.PFW = false →
      (600 ≤ s.mgmt.capCount → ∃ t, exec .journalAggregate s = .next t
        ∧ t.mgmt.capCount = s.mgmt.capCount - 600
        ∧ t.mgmt.t2 = (maskChannels s.mgmt.policy.t2Mask).foldl
            (fun x c => x.push (Tab.get .reset s.mgmt.agg c).tick (s.aggRecord c)) s.mgmt.t2
        ∧ s.frame t [.mgmt] [])
      ∧ (∃ t, exec .journalCheckpoint s = .next t
        ∧ t.mgmt = { s.mgmt with ckpt := [s.mgmt.t1.held, s.mgmt.t2.held, s.mgmt.t3.held] } ∧ s.frame t [.mgmt] [])
      ∧ (∀ n : Nat, s.mgmt.logCopied < s.mgmt.logSeq → 0 < n → ∃ t, exec (.eventTierCopy n) s = .next t
        ∧ t.mgmt.logCopied = min s.mgmt.logSeq (s.mgmt.logCopied + min n 2048)
        ∧ t.mgmt = { s.mgmt with logCopied := t.mgmt.logCopied, t3 := t.mgmt.t3 }
        ∧ (s.mgmt.t3.cap ≤ s.mgmt.t3.held ∨ s.mgmt.t3.held + n ≤ s.mgmt.t3.cap →
            s.counted t .MGMT_EVT_OVW_CNT 0 (if s.mgmt.t3.cap ≤ s.mgmt.t3.held
              then t.mgmt.logCopied - s.mgmt.logCopied else 0))
        ∧ s.frame t [.mgmt] [(.MGMT_EVT_OVW_CNT, 0)])))
  ∧ (∀ s : State,
    (∀ (c : Nat × List JournalRec) (cs : List (Nat × List JournalRec)), s.mgmt.captures = c :: cs →
      (c.1 + 2000000 ≤ s.dev.tick → ∃ t, exec .journalCaptureDropped s = .next t
        ∧ t.mgmt = { s.mgmt with captures := cs } ∧ s.counted t .MGMT_JRN_LOST_CNT 0 1
        ∧ s.frame t [.mgmt] [(.MGMT_JRN_LOST_CNT, 0)])
      ∧ (s.mgmtRuns = true → s.get MGMT_JRN_STS.STATE = 1 → ∀ w : Word, ∃ t, exec (.emmcCommandComplete 25 true w) s = .next t
        ∧ t.mgmt = { s.mgmt with
            emmcFails := 0, captures := cs, t1 := c.2.foldl (fun x r => x.push c.1 r) s.mgmt.t1 }
        ∧ s.frame t [.mgmt] []))
    ∧ (s.mgmtRuns = true → s.get MGMT_JRN_STS.STATE = 1 → ∀ (i : Nat) (w : Word), ∃ t, exec (.emmcCommandComplete i false w) s = .next t
        ∧ t.mgmt.emmcFails = s.mgmt.emmcFails + 1
        ∧ (2 ≤ s.mgmt.emmcFails → t.rd .MGMT_JRN_STS = MGMT_JRN_STS.STATE.put (s.rd .MGMT_JRN_STS) 2
            ∧ s.counted t .MGMT_EMMC_ERR_CNT 0 1 ∧ s.wrote t 0xF 0xFF 2 (BitVec.ofNat 32 i) w 0)
        ∧ s.frame t [.mgmt, .free] (if 2 ≤ s.mgmt.emmcFails
            then [(.MGMT_JRN_STS, 0), (.MGMT_EMMC_ERR_CNT, 0), (.MGMT_LOG_OVW_CNT, 0), (.MGMT_LOG_LOST_CNT, 0)] else []))
    ∧ (∀ p : Port, isHost p = true → s.reaches p .MGMT_JRN_CTL 0 → s.mode ≠ 1 → s.mode ≠ 11 →
        s.get MGMT_JRN_RDIDX.INDEX < (s.mgmt.tier (s.get MGMT_JRN_RDIDX.TIER)).held → s.get MGMT_JRN_RDIDX.TIER ≠ 3 →
      ∃ t, exec (.journalRead p) s = .next t
        ∧ t.on MGMT_JRN_CTL.READ = true ∧ t.mgmt = { s.mgmt with readPend := true } ∧ s.frame t [.mgmt, .dev] [(.MGMT_JRN_CTL, 0)])
    ∧ (s.mgmtRuns = true → s.mgmt.readPend = true → ∃ t, exec .journalReadComplete s = .next t
        ∧ (∀ w, w < 16 → t.rd .MGMT_JRN_RDBUF w
            = (s.journalRec (s.get MGMT_JRN_RDIDX.TIER) (s.get MGMT_JRN_RDIDX.INDEX)).getD w 0)
        ∧ t.on MGMT_JRN_CTL.READ = false ∧ t.mgmt = { s.mgmt with readPend := false }
        ∧ s.frame t [.mgmt] ((.MGMT_JRN_CTL, 0) :: (List.range 16).map fun w => (.MGMT_JRN_RDBUF, w))))

/-- R285, R289, R290: the host load in SERVICE without an image: chunks are taken and counted, END starts the check, an image that passes
is accepted, one that does not leaves its cause, and ABORT empties the load. -/
def Obligations.HostLoad : Prop :=
  ∀ s : State, s.mode = 10 → s.dev.svcNoImage = true →
    (∀ (p : Port) (n : Nat), isHost p = true → s.reaches p .RST_HLOAD_CTL 0 → 1 ≤ n → n ≤ 512 → 1 ≤ s.get RST_HLOAD_CTL.WORDS →
        s.get RST_HLOAD_CTL.WORDS ≤ 512 → s.get RST_HLOAD_STS.STATE ≠ 3 →
      (s.get RST_HLOAD_STS.STATE ≠ 2 →
        (∃ t, exec (.hostLoadChunk p n) s = .next t
          ∧ t.get RST_HLOAD_CTL.WORDS = n ∧ t.on RST_HLOAD_CTL.CHUNK = true ∧ s.frame t [.dev] [(.RST_HLOAD_CTL, 0)])
        ∧ ∃ t, exec (.hostLoadEnd p) s = .next t
          ∧ t.on RST_HLOAD_CTL.END = true ∧ t.get RST_HLOAD_STS.STATE = 2 ∧ s.frame t [.dev] [(.RST_HLOAD_CTL, 0), (.RST_HLOAD_STS, 0)])
      ∧ ∃ t, exec (.hostLoadAbort p) s = .next t
        ∧ t.on RST_HLOAD_CTL.CHUNK = false ∧ t.on RST_HLOAD_CTL.END = false ∧ t.get RST_HLOAD_STS.OCTETS = 0
        ∧ t.get RST_HLOAD_STS.STATE = 1 ∧ t.mgmt = { s.mgmt with hostLen := 0 }
        ∧ s.frame t [.dev, .mgmt] [(.RST_HLOAD_CTL, 0), (.RST_HLOAD_STS, 0), (.RST_BOOT_STS, 0)])
    ∧ (s.on RST_HLOAD_CTL.CHUNK = true → s.get RST_HLOAD_STS.STATE ≠ 2 → ∃ t, exec .hostLoadChunkConsumed s = .next t
      ∧ t.mgmt = { s.mgmt with hostLen := s.mgmt.hostLen + 4 * s.get RST_HLOAD_CTL.WORDS }
      ∧ t.get RST_HLOAD_STS.OCTETS = min t.mgmt.hostLen (2 ^ 25 - 1) ∧ t.get RST_HLOAD_STS.STATE = 1
      ∧ t.rd .RST_HLOAD_CTL = RST_HLOAD_CTL.CHUNK.put (s.rd .RST_HLOAD_CTL) 0
      ∧ s.frame t [.mgmt] [(.RST_HLOAD_CTL, 0), (.RST_HLOAD_STS, 0)])
    ∧ (∀ img : Image, s.get RST_HLOAD_STS.STATE = 2 →
      let r := (s.set RST_HLOAD_CTL.END 0).checkImage img (some s.mgmt.hostLen)
      (r.1 = 0 → ∃ t, exec (.hostLoadCheckComplete img) s = .next t
        ∧ t.get RST_HLOAD_STS.STATE = 3 ∧ t.on RST_BOOT_STS.ACCEPTED = true ∧ t.get RST_BOOT_STS.SRC = 2
        ∧ t.get RST_BOOT_STS.CAUSE_HOST = 0)
      ∧ (r.1 ≠ 0 → ∃ t, exec (.hostLoadCheckComplete img) s = .next t
        ∧ t.get RST_HLOAD_STS.STATE = 4 ∧ t.rd .RST_BOOT_STS = RST_BOOT_STS.CAUSE_HOST.put (s.rd .RST_BOOT_STS) r.1
        ∧ t.on RST_HLOAD_CTL.END = false ∧ s.frame t [] [(.RST_HLOAD_CTL, 0), (.RST_HLOAD_STS, 0), (.RST_BOOT_STS, 0)]))

/-- R252, R310, R311, R316: an update begins on its target, loads chunk by chunk, is checked on END and ends accepted or refused with its
cause, counted and logged; ACTIVATE of an accepted one asks for the reset of source 10, ABORT abandons it, the power-fail warning pauses
it. The anti-rollback counter advances to the least version that passes, and its fuses hold it when programmed.
An entry that may find the log port busy is written, or lost and counted (R302, log 33). -/
def Obligations.Updates : Prop :=
  ∀ s : State, s.mgmtRuns = true → s.on CAL_STS.STORING = false → s.on CAL_STS.STORE_PEND = false →
    (∀ p : Port, isHost p = true → s.reaches p .MGMT_UPD_CTL 0 → s.updateActs = true → 1 ≤ s.get MGMT_UPD_CTL.WORDS →
        s.get MGMT_UPD_CTL.WORDS ≤ 512 →
      (∀ x : Nat, x < 4 → ∃ t, exec (.updateStart p x) s = .next t
        ∧ t.get MGMT_UPD_CTL.TARGET = x ∧ t.get MGMT_UPD_STS.STATE = (if s.on MGMT_STS.PFW then 5 else 1)
        ∧ t.get MGMT_UPD_STS.OCTETS = 0 ∧ t.mgmt.updTarget = x ∧ t.mgmt.secVers = s.mgmt.secVers.set x none
        ∧ s.frame t [.dev, .mgmt] [(.MGMT_UPD_CTL, 0), (.MGMT_UPD_STS, 0)])
      ∧ (s.get MGMT_UPD_STS.STATE = 1 →
        (∀ n : Nat, 1 ≤ n → n ≤ 512 → ∃ t, exec (.updateChunk p n) s = .next t
          ∧ t.get MGMT_UPD_CTL.WORDS = n ∧ t.on MGMT_UPD_CTL.CHUNK = true ∧ s.frame t [.dev] [(.MGMT_UPD_CTL, 0)])
        ∧ (∃ t, exec (.updateEnd p) s = .next t
          ∧ t.on MGMT_UPD_CTL.END = true ∧ t.rd .MGMT_UPD_STS = MGMT_UPD_STS.STATE.put (s.rd .MGMT_UPD_STS) 2
          ∧ s.frame t [.dev] [(.MGMT_UPD_CTL, 0), (.MGMT_UPD_STS, 0)])
        ∧ ∃ t, exec (.updateAbort p) s = .next t
          ∧ t.rd .MGMT_UPD_STS = 0 ∧ s.counted t .MGMT_UPD_FAIL_CNT 0 1 ∧ t.mgmt.updWait = false
          ∧ t.mgmt.secVers = s.mgmt.secVers.set s.mgmt.updTarget none
          ∧ s.frame t [.dev, .mgmt, .free] [(.MGMT_UPD_CTL, 0), (.MGMT_UPD_STS, 0), (.MGMT_UPD_FAIL_CNT, 0), (.MGMT_LOG_OVW_CNT, 0), (.MGMT_LOG_LOST_CNT, 0)])
      ∧ (s.get MGMT_UPD_STS.STATE = 3 → s.on DEV_STRAP.SYS = false → s.rst.level = 0 → s.rst.asserted = [] → s.rst.waiting = [] →
          s.on RST_STS.SOFT = false → s.on CLK_STS.INTOSC_OK = true →
        ∃ t, exec (.updateActivate p) s = .next t ∧ s.resetTo t 4 10 ∧ s.counted t .RST_UPDATE_CNT 0 1)
      ∧ (∀ v : Nat, leastVer s.mgmt.secVers = some v → (s.mgmt.secVers.take 2).any (·.isSome) = true →
          (s.mgmt.secVers.drop 2).any (·.isSome) = true → s.fuse.arb < v → ∃ t, exec (.fuseAdv p) s = .next t
        ∧ t.on MGMT_UPD_CTL.FUSE_ADV = true ∧ t.mgmt = { s.mgmt with fuseAdv := some v } ∧ s.frame t [.dev, .mgmt] [(.MGMT_UPD_CTL, 0)]))
    ∧ (s.get MGMT_UPD_STS.STATE = 1 → s.on MGMT_UPD_CTL.CHUNK = true →
      (∃ t, exec (.updateChunkProgrammed true) s = .next t
        ∧ t.rd .MGMT_UPD_CTL = MGMT_UPD_CTL.CHUNK.put (s.rd .MGMT_UPD_CTL) 0
        ∧ t.rd .MGMT_UPD_STS = MGMT_UPD_STS.OCTETS.put (s.rd .MGMT_UPD_STS)
            (min (2 ^ 25 - 1) (s.get MGMT_UPD_STS.OCTETS + 4 * s.get MGMT_UPD_CTL.WORDS))
        ∧ s.frame t [] [(.MGMT_UPD_CTL, 0), (.MGMT_UPD_STS, 0)])
      ∧ ∃ t, exec (.updateChunkProgrammed false) s = .next t
        ∧ t.get MGMT_UPD_STS.STATE = 4 ∧ t.get MGMT_UPD_STS.CAUSE = 14 ∧ s.counted t .MGMT_UPD_FAIL_CNT 0 1
        ∧ s.frame t [.mgmt, .free] [(.MGMT_UPD_CTL, 0), (.MGMT_UPD_STS, 0), (.MGMT_UPD_FAIL_CNT, 0), (.MGMT_LOG_OVW_CNT, 0), (.MGMT_LOG_LOST_CNT, 0)])
    ∧ (∀ (programmed : Bool) (x : UpdSlot), s.get MGMT_UPD_STS.STATE = 2 →
        let cause := if programmed then s.updCause x else 14
        ∃ t, exec (.updateCheckComplete programmed x) s = .next t
        ∧ t.get MGMT_UPD_STS.STATE = (if cause = 0 then 3 else 4) ∧ t.get MGMT_UPD_STS.CAUSE = cause
        ∧ s.counted t (if cause = 0 then .MGMT_UPD_OK_CNT else .MGMT_UPD_FAIL_CNT) 0 1
        ∧ t.mgmt.secVers = (if cause = 0 then s.mgmt.secVers.set s.mgmt.updTarget (some (updSecVer x)) else s.mgmt.secVers)
        ∧ s.frame t [.mgmt, .free] [(.MGMT_UPD_CTL, 0), (.MGMT_UPD_STS, 0),
            (if cause = 0 then .MGMT_UPD_OK_CNT else .MGMT_UPD_FAIL_CNT, 0), (.MGMT_LOG_OVW_CNT, 0), (.MGMT_LOG_LOST_CNT, 0)])
    ∧ (s.get MGMT_UPD_STS.STATE = 5 → s.on MGMT_STS.PFW = false → ∃ t, exec .updateResume s = .next t
        ∧ t.rd .MGMT_UPD_STS = MGMT_UPD_STS.STATE.put (s.rd .MGMT_UPD_STS) (if s.mgmt.updChecking then 2 else 1)
        ∧ s.frame t [] [(.MGMT_UPD_STS, 0)])
    ∧ (∀ v : Nat, s.mgmt.fuseAdv = some v → ∃ t, exec .fuseProgramComplete s = .next t
        ∧ t.fuse = { s.fuse with arb := min 64 (max s.fuse.arb v) } ∧ t.mgmt = { s.mgmt with fuseAdv := none }
        ∧ t.rd .MGMT_UPD_CTL = MGMT_UPD_CTL.FUSE_ADV.put (s.rd .MGMT_UPD_CTL) 0 ∧ s.frame t [.fuse, .mgmt] [(.MGMT_UPD_CTL, 0)])

/-- R6, R321 to R325, R329 to R331: a port's access. While the level leaves the ports closed nothing happens; a gated block answers with a bus
error that is counted; a guarded register is written only under the key, which the write consumes, and is rejected without it; a write
to a counter clears it when it writes 0 and is ignored otherwise; a transaction that begins numbers itself and, misaligned, is counted; a
read drives the word; the end of a transaction ends its write group and ages its key. -/
def Obligations.PortAccess : Prop :=
  (∀ (s : State) (p : Port) (a : Nat) (w : Word), isHost p = true →
    (s.portsClosed = true → ∃ t, exec (.registerWrite p a w) s = .next t ∧ s.frame t [] [])
    ∧ (s.portsClosed = false → s.busError (a / 4 * 4 % 2 ^ 24) = true → ∃ t, exec (.registerWrite p a w) s = .next t
      ∧ s.counted t .DEV_BUSERR_CNT 0 1 ∧ (t.port p).busErr = true ∧ s.frame t [.dev] [(.DEV_BUSERR_CNT, 0)])
    ∧ (∀ (r : Rg) (i : Nat), s.portsClosed = false → s.busError (a / 4 * 4 % 2 ^ 24) = false →
        addrKey (a / 4 * 4 % 2 ^ 24) ≠ 0x304 → regAt (a / 4 * 4 % 2 ^ 24) = some (r, i) → r ≠ .DEV_KEY →
      (r.info.guard = true → (s.port p).keyAge = 0 → ∃ t, exec (.registerWrite p a w) s = .next t
        ∧ t.rd .DEV_CMD_STATUS = BitVec.ofNat 32 (7 * 2 ^ 28 + portCode p * 2 ^ 26 + a / 4 * 4 % 2 ^ 24)
        ∧ s.counted t .DEV_REJECT_CNT 0 1 ∧ (t.port p).reject = true
        ∧ s.frame t [.dev] [(.DEV_CMD_STATUS, 0), (.DEV_REJECT_CNT, 0)])
      ∧ (r.info.guard = false → r.info.cnt ≠ 0 → s.mode ≠ 11 → (∃ t, exec (.registerWrite p a w) s = .next t
          ∧ t.rd r i = (if w = 0 then 0 else s.rd r i) ∧ s.frame t [] [(r, i)])
        ∧ (p = .spi → a % 4 = 0 → r ≠ .DEV_SPI_ERR_CNT →
          (∃ t, exec (.spiWrite a [w]) s = .next t ∧ t.rd r i = (if w = 0 then 0 else s.rd r i) ∧ s.frame t [.dev] [(r, i)])
          ∧ ∃ t, exec (.spiWriteFixed a [w]) s = .next t ∧ t.rd r i = (if w = 0 then 0 else s.rd r i) ∧ s.frame t [.dev] [(r, i)]))))
  ∧ (∀ (s : State) (p : Port) (w : Word), isHost p = true → s.portsClosed = false → s.mode ≠ 11 →
    ∃ t, exec (.devKeyWrite p w) s = .next t
      ∧ (t.port p).keyAge = (if w = 0x5A3C#32 then 2 else 0)
      ∧ (w ≠ 0x5A3C#32 → t.get DEV_CMD_STATUS.REASON = 7 ∧ s.counted t .DEV_REJECT_CNT 0 1)
      ∧ s.frame t [.dev] (if w = 0x5A3C#32 then [] else [(.DEV_CMD_STATUS, 0), (.DEV_REJECT_CNT, 0)]))
  ∧ (∀ (s : State) (a : Nat), s.portsClosed = false →
    let b := a / 4 * 4 % 2 ^ 24
    (∃ t, exec .spiStatus s = .next t
      ∧ t.dev.tseq = (s.dev.tseq + 1) % 16 ∧ t.dev.readWords = []
      ∧ t.dev.header / 2 ^ 10 % 2 = 0 ∧ t.dev.header % 16 = (s.dev.tseq + 1) % 16
      ∧ t.dev.spi = { s.dev.spi with busErr := false, reject := false, status := true } ∧ s.frame t [.dev] [])
    ∧ (∀ op : Nat, spiKnown op = false → ∃ t, exec (.spiBadOpcode op) s = .next t
      ∧ t.dev.tseq = (s.dev.tseq + 1) % 16 ∧ t.dev.readWords = []
      ∧ t.dev.header / 2 ^ 10 % 2 = 1 ∧ t.dev.header % 16 = (s.dev.tseq + 1) % 16
      ∧ t.dev.spi = { s.dev.spi with busErr := false, reject := false, status := false } ∧ s.frame t [.dev] [])
    ∧ (∀ (r : Rg) (i : Nat), a % 4 = 0 → s.busError b = false → addrKey b ≠ 0x304 → regAt b = some (r, i) → r ≠ .MBX_D → r ≠ .SNAP_HOLD →
      (∃ t, exec (.spiRead a 1) s = .next t
        ∧ t.dev.readWords = [s.placeWord .spi (.reg r i)] ∧ t.dev.tseq = (s.dev.tseq + 1) % 16 ∧ s.frame t [.dev] [])
      ∧ ∃ t, exec (.spiReadFixed a 1) s = .next t
        ∧ t.dev.readWords = [s.placeWord .spi (.reg r i)] ∧ t.dev.tseq = (s.dev.tseq + 1) % 16 ∧ s.frame t [.dev] []))
  ∧ (∀ (s : State) (short part : Bool), s.portsClosed = false → s.on MBX_STAT.OPEN = false → s.pair.streaming = false →
    ∃ t, exec (.spiTransactionEnd short part) s = .next t
      ∧ t.dev.groups = s.dev.groups ++ (if s.dev.spi.open_ = [] then [] else [⟨.spi, s.dev.spi.open_⟩])
      ∧ t.dev.spi = ⟨s.dev.spi.keyAge - 1, [], false, false, part, s.dev.spi.busErr, s.dev.spi.reject, false⟩
      ∧ s.counted t .DEV_SPI_ERR_CNT 0 (flag part + flag (short && !s.dev.spi.status))
      ∧ s.frame t [.dev] [(.DEV_SPI_ERR_CNT, 0)])

/-- R312 to R314, R316, R326: an in-band frame for another device, without authentication, or replayed, is refused, counted and logged; an
accepted request of no operation, or one with a bad width, is answered on its lane; in TEST it is answered as not executed.
An entry that may find the log port busy is written, or lost and counted (R302, log 33). -/
def Obligations.InBandFrames : Prop :=
  ∀ (s : State) (r : InbRequest), s.inbRuns = true →
    (∀ i ∈ [Instr.inBandRequest r, .inBandSessionRequest r.dieId r.macOk r.swPort ⟨r.lane, r.eth⟩],
      (r.dieId ≠ s.fuse.dieId → ∃ t, exec i s = .next t
        ∧ s.counted t .MGMT_INB_REJ_CNT 0 1
        ∧ s.wrote t 0xE 11 1 (Config.inbandReason 1) (BitVec.ofNat 32 r.swPort) (BitVec.ofNat 32 r.dieId)
        ∧ s.frame t [.mgmt, .free] [(.MGMT_INB_REJ_CNT, 0), (.MGMT_LOG_OVW_CNT, 0), (.MGMT_LOG_LOST_CNT, 0)])
      ∧ (r.dieId = s.fuse.dieId → (s.on MGMT_CTL.INB_EN = false ∨ s.fuse.keyZero = true ∨ r.macOk = false) → ∃ t, exec i s = .next t
        ∧ s.counted t .MGMT_INB_AUTH_CNT 0 1
        ∧ s.wrote t 0xE 11 1 (Config.inbandReason 2) (BitVec.ofNat 32 r.swPort) (BitVec.ofNat 32 r.dieId)
        ∧ s.frame t [.mgmt, .free] [(.MGMT_INB_AUTH_CNT, 0), (.MGMT_LOG_OVW_CNT, 0), (.MGMT_LOG_LOST_CNT, 0)]))
    ∧ (r.dieId = s.fuse.dieId → s.on MGMT_CTL.INB_EN = true → s.fuse.keyZero = false → r.macOk = true →
      (s.laneSends r.lane = true → ∃ t, exec (.inBandSessionRequest r.dieId r.macOk r.swPort ⟨r.lane, r.eth⟩) s = .next t
        ∧ s.sentMsg t (inbAnswer r.lane r.swPort (exchanged r.eth) [(20, 4), (21, if s.mode = 11 then 2 else 0),
            (22, ((s.rd .MGMT_INB_STS).toNat : Int)), (23, (s.mgmt.lastSeq : Int)), (29, (s.fuse.dieId : Int))])
        ∧ s.frame t [.twl] [(.MIR_TX_FRAMES_CNT, r.lane)])
      ∧ ((r.session ≠ s.rd .MGMT_INB_STS ∨ r.seq ≤ s.mgmt.lastSeq) → ∃ t, exec (.inBandRequest r) s = .next t
        ∧ s.counted t .MGMT_INB_REPLAY_CNT 0 1 ∧ t.mgmt.lastSeq = s.mgmt.lastSeq
        ∧ s.frame t [.mgmt, .free] [(.MGMT_INB_REPLAY_CNT, 0), (.MGMT_LOG_OVW_CNT, 0), (.MGMT_LOG_LOST_CNT, 0)])
      ∧ (r.session = s.rd .MGMT_INB_STS → s.mgmt.lastSeq < r.seq →
        (s.mode = 11 → s.laneSends r.lane = true → ∃ t, exec (.inBandRequest r) s = .next t
          ∧ s.sentMsg t (inbAnswer r.lane r.swPort (exchanged r.eth) (inbBody r 2 (r.ops.map fun o => ⟨3, o.data0, o.data1⟩)))
          ∧ t.mgmt = { s.mgmt with lastSeq := r.seq } ∧ s.frame t [.twl, .mgmt] [(.MIR_TX_FRAMES_CNT, r.lane)])
        ∧ (s.mode ≠ 11 → (r.ops.any fun o => decide (o.width < 2)) = true → s.laneSends r.lane = true →
          ∃ t, exec (.inBandRequest r) s = .next t
          ∧ s.sentMsg t (inbAnswer r.lane r.swPort (exchanged r.eth)
              (inbBody r 1 (r.ops.map fun o => ⟨if o.width < 2 then 1 else 3, o.data0, o.data1⟩)))
          ∧ s.counted t .MGMT_INB_REJ_CNT 0 1 ∧ t.mgmt = { s.mgmt with lastSeq := r.seq }
          ∧ s.frame t [.twl, .mgmt] [(.MGMT_INB_REJ_CNT, 0), (.MIR_TX_FRAMES_CNT, r.lane)])
        ∧ (s.mode ≠ 11 → r.ops = [] → s.laneSends r.lane = true → s.on MBX_STAT.OPEN = false → s.dev.inb.open_ = [] →
          ∃ t, exec (.inBandRequest r) s = .next t
          ∧ s.sentMsg t (inbAnswer r.lane r.swPort (exchanged r.eth) (inbBody r 0 [])) ∧ s.counted t .MGMT_INB_OK_CNT 0 1
          ∧ t.mgmt = { s.mgmt with lastSeq := r.seq }
          ∧ s.frame t [.twl, .mgmt, .dev] [(.MGMT_INB_OK_CNT, 0), (.MIR_TX_FRAMES_CNT, r.lane)])))

/-- R24, R42, R50, R60, R64, R66, R268, R269, R330, R333: commands of single registers through a host port: mode requests are stored, or
rejected by the table; a master command in SERVICE is stored for its boundary; TSET and SLEW_CANCEL enter the open write group; a count of
the frequency counter starts; gates of a running device ramp in three steps. -/
def Obligations.RegisterCommands : Prop :=
  ∀ (s : State) (p : Port), isHost p = true →
    (∀ (i : Instr) (v : Nat), (i, v) ∈ [(Instr.modeReqAutomatic p, 15), (.modeReqHoldFreerun p, 3), (.modeReqForceHoldover p, 6),
        (.modeReqService p, 10)] → s.reaches p .DEV_MODE_REQ 0 → s.pair.streaming = false →
      (s.isRun = true → ∃ t, exec i s = .next t ∧ t.get DEV_MODE_REQ.REQ = v ∧ s.frame t [] [(.DEV_MODE_REQ, 0)])
      ∧ (s.mode = 7 → v ≠ 10 → ∃ t, exec i s = .next t ∧ t.get DEV_CMD_STATUS.REASON = 3 ∧ s.counted t .DEV_REJECT_CNT 0 1
          ∧ s.frame t [.dev] [(.DEV_CMD_STATUS, 0), (.DEV_REJECT_CNT, 0)]))
    ∧ (∀ v : Nat, v < 16 → modeReqKnown v = false → s.reaches p .DEV_MODE_REQ 0 → s.mode ≠ 11 →
        ∃ t, exec (.modeReqInvalid p v) s = .next t ∧ t.get DEV_CMD_STATUS.REASON = 4 ∧ s.counted t .DEV_REJECT_CNT 0 1
          ∧ s.frame t [.dev] [(.DEV_CMD_STATUS, 0), (.DEV_REJECT_CNT, 0)])
    ∧ (∀ (i : Instr) (b : Nat), (i, b) ∈ [(Instr.retune p, 1), (.relock p, 2), (.bandsel p, 4)] → s.reaches p .MSYN_CMD 0 → s.mode = 10 →
        s.rd .MSYN_CMD = 0 → s.storedWords.ok = true → ∃ t, exec i s = .next t
      ∧ t.rd .MSYN_CMD = BitVec.ofNat 32 b ∧ t.msyn = { s.msyn with svcStart := some p } ∧ s.frame t [.dev, .msyn] [(.MSYN_CMD, 0)])
    ∧ (∀ (c b : Nat), c < 512 → s.reaches p .CH_CMD c → s.pair.streaming = false → b = 1 ∨ b = 2 →
        ∃ t, exec (if b = 1 then .tset p c else .slewCancel p c) s = .next t
      ∧ (t.port p).open_ = (s.port p).open_ ++ [⟨.CH_CMD, c, BitVec.ofNat 32 b⟩]
      ∧ Tab.get none t.dev.shadow (Rg.key .CH_CMD c) = some (s.shadowWord .CH_CMD c ||| BitVec.ofNat 32 b)
      ∧ s.frame t [.dev] [])
    ∧ (∀ w : Word, s.reaches p .OUT_CTL 0 → s.mode ≠ 11 → ∃ t, exec (.outCtlWrite p w) s = .next t
      ∧ t.rd .OUT_CTL = mergeMask (s.rd .OUT_CTL) w (Rg.OUT_CTL.maskAt 0) ∧ t.on CFG_CRC_CTL.ARMED = false
      ∧ s.frame t [.dev] [(.OUT_CTL, 0), (.CFG_CRC_CTL, 0)])
    ∧ (∀ w : Word, s.reaches p .CLK_FC_CTL 0 → s.mode ≠ 11 → 10 ≤ CLK_FC_CTL.GATE.of w → CLK_FC_CTL.GATE.of w ≤ 30 →
        CLK_FC_CTL.TGT.of w < 56 → CLK_FC_CTL.REF.of w < 56 → ∃ t, exec (.freqCountStart p w) s = .next t
      ∧ t.on CLK_FC_CTL.START = true ∧ t.get CLK_FC_CTL.TGT = CLK_FC_CTL.TGT.of w ∧ t.get CLK_FC_CTL.GATE = CLK_FC_CTL.GATE.of w
      ∧ t.rd .CLK_STS = CLK_STS.FC_DONE.put (CLK_STS.FC_BUSY.put (s.rd .CLK_STS) 1) 0
      ∧ s.frame t [.dev] [(.CLK_FC_CTL, 0), (.CLK_STS, 0), (.CFG_CRC_CTL, 0)])
    ∧ (∀ (b : Nat) (on : Bool), b < 13 → s.reaches p .DEV_GATE 0 → 3 ≤ s.mode → s.mode ≤ 10 → bitOf (s.get DEV_GATE.GATE) b = !on →
        ∃ t, exec (.devGateWrite p (BitVec.ofNat 32 (2 ^ (b + 16) + flag on * 2 ^ b))) s = .next t
      ∧ t.get DEV_GATE.GATE = withBit (s.get DEV_GATE.GATE) b on ∧ s.counted t .CLK_RAMP_CNT 0 1
      ∧ t.dev.ramping = s.dev.ramping.filter (·.1 != b) ++ [(b, 0)]
      ∧ s.frame t [.dev] [(.DEV_GATE, 0), (.CLK_RAMP_CNT, 0), (.CFG_CRC_CTL, 0)])
    ∧ (∀ (b n : Nat), b < 13 → s.dev.ramping = [(b, n)] → ∃ t, exec (.gateRampStep b) s = .next t
      ∧ t.dev = { s.dev with ramping := if n + 1 < 3 then [(b, n + 1)] else [] } ∧ s.frame t [.dev] [])

/-- R333 to R343: the windows of the register interface. GO captures the mailbox's source, a read of word 0 opens a valid mailbox and one
of word 3 empties and closes it; TAKE takes a snapshot, or waits for a boundary when coherent; IND_ADDR fetches the addressed word, a
read of IND_DATA gives it and advances, a write goes to the addressed word and advances; COMMIT and a written REF wait for the next
scan, whose end compares, and takes the CRC as REF where it committed.
An entry that may find the log port busy is written, or lost and counted (R302, log 33). -/
def Obligations.RegisterWindows : Prop :=
  ∀ (s : State) (p : Port), isHost p = true →
    (∀ w : Word, s.reaches p .MBX_SEL 0 → s.on MBX_STAT.OPEN = false → MBX_SEL.SRC.of w = 1 → MBX_SEL.INDEX.of w < 512 → s.mode ≠ 11 →
        ∃ t, exec (.mailboxGo p w) s = .next t
      ∧ [t.rd .MBX_D 0, t.rd .MBX_D 1, t.rd .MBX_D 2, t.rd .MBX_D 3] = chTimeWords (s.chan (MBX_SEL.INDEX.of w)) s.dev.tick
      ∧ t.on MBX_STAT.VALID = true ∧ t.get MBX_STAT.CSEQ = (s.get MBX_STAT.CSEQ + 1) % 256 ∧ t.get MBX_STAT.INDEX = MBX_SEL.INDEX.of w
      ∧ t.on MBX_SEL.GO = false
      ∧ s.frame t [.dev, .free] [(.MBX_SEL, 0), (.MBX_STAT, 0), (.MBX_D, 0), (.MBX_D, 1), (.MBX_D, 2), (.MBX_D, 3)])
    ∧ (s.reaches p .MBX_D 0 → s.on MBX_STAT.OPEN = false → s.on MBX_STAT.VALID = true → ∃ t, exec (.mailboxOpenRead p) s = .next t
      ∧ t.dev.readWords = [s.rd .MBX_D 0]
      ∧ t.rd .MBX_STAT = MBX_STAT.OWNER.put (MBX_STAT.OPEN.put (s.rd .MBX_STAT) 1) (portCode p)
      ∧ s.frame t [.dev] [(.MBX_STAT, 0)])
    ∧ (s.reaches p .MBX_D 3 → s.on MBX_STAT.OPEN = true → s.get MBX_STAT.OWNER = portCode p → s.on MBX_STAT.PEND = false →
        s.dev.mbxDefer = none → ∃ t, exec (.mailboxCloseRead p) s = .next t
      ∧ t.dev.readWords = [s.rd .MBX_D 3] ∧ t.rd .MBX_STAT = MBX_STAT.OPEN.put (MBX_STAT.VALID.put (s.rd .MBX_STAT) 0) 0
      ∧ s.frame t [.dev] [(.MBX_STAT, 0)])
    ∧ (∀ (w : Word) (ofs : Nat), s.portsClosed = false → s.mode ≠ 11 → s.on SNAP_STAT.BUSY = false →
      (SNAP_CMD.TICK.of w = 0 → ∃ t, exec (.snapshotTake p w ofs) s = .next t
        ∧ (∀ x ∈ t.dev.snap, x.tick = s.dev.tick ∧ x.ofs = ofs % 400 ∧ x.coherent = false ∧ x.chans = s.chans
            ∧ x.seq = (s.get SNAP_STAT.SEQ + 1) % 65536)
        ∧ t.dev.snap ≠ none ∧ t.get SNAP_STAT.SEQ = (s.get SNAP_STAT.SEQ + 1) % 65536 ∧ t.on SNAP_STAT.COHERENT = false
        ∧ s.frame t [.dev] [(.SNAP_CMD, 0), (.SNAP_STAT, 0)])
      ∧ (SNAP_CMD.TICK.of w = 1 → ∃ t, exec (.snapshotTake p w ofs) s = .next t
        ∧ t.on SNAP_STAT.BUSY = true ∧ t.on SNAP_CMD.TAKE = true ∧ t.get DEV_CMD_STATUS.REASON = 8 ∧ s.counted t .DEV_DEFER_CNT 0 1
        ∧ s.frame t [] [(.SNAP_CMD, 0), (.SNAP_STAT, 0), (.DEV_CMD_STATUS, 0), (.DEV_DEFER_CNT, 0)]))
    ∧ (s.dev.snapDue = true → ∃ t, exec .snapshotCoherentCapture s = .next t
      ∧ (∀ x ∈ t.dev.snap, x.tick = s.dev.tick ∧ x.ofs = 1 ∧ x.coherent = true ∧ x.chans = s.chans)
      ∧ t.dev.snap ≠ none ∧ t.on SNAP_STAT.BUSY = false ∧ t.on SNAP_STAT.COHERENT = true
      ∧ s.frame t [.dev] [(.SNAP_CMD, 0), (.SNAP_STAT, 0)])
    ∧ (∀ w : Word, s.reaches p .IND_ADDR 0 → s.mode ≠ 11 → ∃ t, exec (.indAddrWrite p w) s = .next t
      ∧ t.rd .IND_ADDR = w ∧ t.dev.fetched = t.placeWord .spi (t.indPlace (IND_ADDR.SPACE.of w) (IND_ADDR.INDEX.of w))
      ∧ s.counted t .ENG_DMEM_UNC_CNT 0 t.fetchErrors ∧ s.frame t [.dev] [(.IND_ADDR, 0), (.ENG_DMEM_UNC_CNT, 0)])
    ∧ (s.reaches p .IND_DATA 0 →
      (∃ t, exec (.indDataRead p) s = .next t
        ∧ t.dev.readWords = [s.dev.fetched]
        ∧ t.rd .IND_ADDR = IND_ADDR.INDEX.put (s.rd .IND_ADDR)
            (s.get IND_ADDR.INDEX + [0, 1, 2, 4].getD (s.get IND_CTL.INC) 4)
        ∧ s.counted t .ENG_DMEM_UNC_CNT 0 t.fetchErrors ∧ s.frame t [.dev] [(.IND_ADDR, 0), (.ENG_DMEM_UNC_CNT, 0)])
      ∧ (∀ (w : Word) (r : Rg) (i : Nat), r = .RULE_A ∧ s.get PARSE_BANK_STS.ACTIVE = 1 ∨ r = .RULE_B ∧ s.get PARSE_BANK_STS.ACTIVE = 0 →
          s.on PARSE_BANK_STS.RETIRING = false → s.isRun = true →
          s.indPlace (s.get IND_ADDR.SPACE) (s.get IND_ADDR.INDEX) = .reg r i → ∃ t, exec (.indDataWrite p w) s = .next t
        ∧ t.rd r i = mergeMask (s.rd r i) w (r.maskAt i)
        ∧ t.rd .IND_ADDR = IND_ADDR.INDEX.put (s.rd .IND_ADDR)
            (s.get IND_ADDR.INDEX + [0, 1, 2, 4].getD (s.get IND_CTL.INC) 4)
        ∧ s.frame t [.dev] [(r, i), (.IND_ADDR, 0), (.CFG_CRC_CTL, 0), (.ENG_DMEM_UNC_CNT, 0)]))
    ∧ (∀ w : Word, s.reaches p .CFG_CRC_CTL 0 → s.mode ≠ 1 → s.mode ≠ 11 → CFG_CRC_CTL.POLICY.of w ≠ 3 →
        ∃ t, exec (.cfgCrcCommit p w) s = .next t
      ∧ t.on CFG_CRC_CTL.COMMIT = true ∧ t.get CFG_CRC_CTL.POLICY = CFG_CRC_CTL.POLICY.of w ∧ t.get DEV_CMD_STATUS.REASON = 8
      ∧ s.counted t .DEV_DEFER_CNT 0 1 ∧ s.frame t [.dev] [(.CFG_CRC_CTL, 0), (.DEV_CMD_STATUS, 0), (.DEV_DEFER_CNT, 0)])
    ∧ (∀ w : Word, s.reaches p .CFG_CRC_REF 0 → s.mode ≠ 11 → ∃ t, exec (.cfgCrcRefWrite p w) s = .next t
      ∧ t.rd .CFG_CRC_REF = w ∧ t.dev = { s.dev with refWritten := true } ∧ s.frame t [.dev] [(.CFG_CRC_REF, 0)])
    ∧ (s.mode ≠ 0 → s.dev.ticking = true → s.dev.tick % 1000 = 0 → s.dev.scan = false → ∃ t, exec .crcScanStart s = .next t
      ∧ t.dev = { s.dev with scan := true, scanCommit := s.on CFG_CRC_CTL.COMMIT, refWritten := false }
      ∧ t.rd .CFG_CRC_CTL = (if s.dev.refWritten then CFG_CRC_CTL.ARMED.put (s.rd .CFG_CRC_CTL) 1 else s.rd .CFG_CRC_CTL)
      ∧ s.frame t [.dev] [(.CFG_CRC_CTL, 0)])
    ∧ (s.dev.scan = true → s.dev.refWritten = false →
      ((s.on CFG_CRC_CTL.EN = false ∨ s.on CFG_CRC_CTL.ARMED = false ∨ s.rd .CFG_CRC_REF = s.cfgCrc) → ∃ t, exec .crcScanEnd s = .next t
        ∧ t.rd .CFG_CRC_LIVE = s.cfgCrc ∧ t.rd .CFG_CRC_REF = (if s.dev.scanCommit then s.cfgCrc else s.rd .CFG_CRC_REF)
        ∧ (s.dev.scanCommit = true → t.on CFG_CRC_CTL.ARMED = true ∧ t.on CFG_CRC_CTL.COMMIT = false)
        ∧ t.dev.scan = false ∧ s.frame t [.dev] [(.CFG_CRC_LIVE, 0), (.CFG_CRC_REF, 0), (.CFG_CRC_CTL, 0)])
      ∧ (s.on CFG_CRC_CTL.EN = true → s.on CFG_CRC_CTL.ARMED = true → s.rd .CFG_CRC_REF ≠ s.cfgCrc → s.dev.scanCommit = false →
          s.get CFG_CRC_CTL.POLICY = 0 → ∃ t, exec .crcScanEnd s = .next t
        ∧ t.rd .CFG_CRC_LIVE = s.cfgCrc ∧ t.dev = { s.dev with scan := false, crcAlert := true }
        ∧ s.counted t .CFG_CRC_MISMATCH_CNT 0 1 ∧ s.wrote t 9 14 2 s.cfgCrc (s.rd .CFG_CRC_REF) 0
        ∧ s.frame t [.dev, .mgmt, .free] [(.CFG_CRC_LIVE, 0), (.CFG_CRC_MISMATCH_CNT, 0), (.MGMT_LOG_OVW_CNT, 0), (.MGMT_LOG_LOST_CNT, 0)]))

/-- R15, R22, R38, R39, R46, R51, R53, R57, R217: a boundary. While the device comes from L3 or L4 it does not count. In TEST, and under L2
with every channel at rest, the tick and the master-cycle count go on, a slip is counted, the master takes its bandwidth code, and the lane
references switch once after the first lock; under L2 the readings of a closed loop are live and the counters of enabled channels start once
the master has been locked. -/
def Obligations.TickBoundaries : Prop :=
  ∀ (s : State) (m : MasterSample),
    (s.rst.cold = true → ∃ t, exec (.applyTickBoundary m) s = .next t ∧ s.frame t [] [])
    ∧ (s.rst.cold = false → s.chans = [] → s.dev.snapDue = false →
      let tick := if s.dev.ticking then (s.dev.tick + 1) % 2 ^ 64 else s.dev.tick
      let mcc := (s.msyn.mcc + m.cycles) % 2 ^ 64
      let slip := s.msyn.counting && s.msyn.sample.isSome && decide (1 < ((m.cycles : Int) - 12800).natAbs)
      let lanes := s.msyn.everLocked && !s.msyn.intref && s.get MSYN_STS.LANE_SRC == 0
      let closed := decide (3 ≤ s.get MSYN_STS.STATE) && s.get MSYN_STS.STATE != 7
      let trims := s.msyn.counting && (s.on PAIR_STS.PACED || s.on PAIR_STS.TRIM_HELD)
      let counts (t : State) : Prop :=
        t.dev = { s.dev with tick := tick, ticking := true }
        ∧ t.msyn = { s.msyn with
            mcc := if s.msyn.counting then mcc else s.msyn.mcc, sample := if s.msyn.counting then some mcc else s.msyn.sample
            bw := s.get MSYN_LOOP.BW, lockTick := s.on MSYN_STS.LOCK }
        ∧ s.counted t .MSYN_TICKSLIP_CNT 0 (if slip then 1 else 0)
        ∧ t.get MSYN_STS.LANE_SRC = (if lanes then 7 else s.get MSYN_STS.LANE_SRC)
        ∧ s.counted t .MSYN_LANE_SW_CNT 0 (if lanes then 1 else 0)
        ∧ t.pair = (if trims then
            { s.pair with trimAcc := s.pair.trimAcc + m.cycles * signedOf 32 (s.rd .PAIR_TRIM).toNat } else s.pair)
      (s.mode = 11 → s.dev.groups = [] → ∃ t, exec (.applyTickBoundary m) s = .next t
        ∧ counts t ∧ s.frame t [.dev, .msyn, .pair] [(.MSYN_TICKSLIP_CNT, 0), (.MSYN_STS, 0), (.MSYN_LANE_SW_CNT, 0)])
      ∧ (s.mode = 0 → ∃ t, exec (.applyTickBoundary m) s = .next t
        ∧ counts t
        ∧ t.rd .MSYN_TUNE = (if closed then MSYN_TUNE.TUNE.put (s.rd .MSYN_TUNE) (m.tune % 2 ^ 20) else s.rd .MSYN_TUNE)
        ∧ t.rd .MSYN_PHERR = (if closed then MSYN_PHERR.PHERR.put (MSYN_PHERR.PHMAX.put (s.rd .MSYN_PHERR) (min m.phMax 65535))
            (BitVec.ofInt 16 (clampInt m.phErr (-32768) 32767)).toNat else s.rd .MSYN_PHERR)
        ∧ (t.on MSYN_STS.BAND_MARGIN = true ↔ s.on MSYN_STS.BAND_MARGIN = true ∧ (closed = true → outsideMargin (m.tune % 2 ^ 20) = true))
        ∧ (∀ c, c < 512 → t.chan c = { s.chan c with running := s.chEn c && s.msyn.counting })
        ∧ (∀ k, s.ppsRuns k = false → t.ppsPin k = s.ppsPin k)
        ∧ t.twl.sent = [] ∧ s.frame t [.dev, .msyn, .pair, .chans, .pps, .twl]
            [(.MSYN_TICKSLIP_CNT, 0), (.MSYN_STS, 0), (.MSYN_LANE_SW_CNT, 0), (.MSYN_TUNE, 0), (.MSYN_PHERR, 0), (.TWL_STS, 0)]))

/-- R15, R45, R46: in every mode from BOOT to SERVICE a boundary on which no write group and no event of the pair is due answers, and the tick
number and the master-cycle count go on, whatever the boundary decides. -/
def Obligations.LiveBoundariesCount : Prop :=
  ∀ (s : State) (m : MasterSample), s.rst.cold = false → 1 ≤ s.mode → s.mode ≤ 10 → s.dev.groups = [] → s.pair.stream = [] →
    ∃ t, exec (.applyTickBoundary m) s = .next t
      ∧ t.dev.tick = (if s.dev.ticking then (s.dev.tick + 1) % 2 ^ 64 else s.dev.tick) ∧ t.dev.ticking = true
      ∧ t.msyn.mcc = (if s.msyn.counting then (s.msyn.mcc + m.cycles) % 2 ^ 64 else s.msyn.mcc)
      ∧ t.pending = s.pending ∧ t.pins = t.pinsOf

/-- R6, R55, R57, R60: the arithmetic of a tick. An enabled, running channel advances by 1,000 ns × P0 / P, by 1,000 ns exactly when P = P0,
and stays below the wrap; its residue stays below the denominator; a disabled channel stands still. A Drizzle step moves adjustment and
offset together by at most S × 1 µs, moves time by the adjustment only, overshoots neither, and moves whatever is still pending. A counter
never wraps. -/
def Obligations.TickArithmetic : Prop :=
  (∀ (s : State) (c : Nat),
    (s.chEn c = true → (s.chan c).running = true → (s.chan c).restNum = 1 → (s.chan c).restDen = 1 → 0 < (s.chan c).p →
      ((s.advance c).chan c).time = ((s.chan c).time + 1000 * tuNs * s.p0 c / (s.chan c).p) % tuWrap
      ∧ ((s.chan c).p = s.p0 c → ((s.advance c).chan c).time = ((s.chan c).time + 1000 * tuNs) % tuWrap)
      ∧ (2 ≤ s.get CH_PRES.RDEN c → ((s.advance c).chan c).resAcc < s.get CH_PRES.RDEN c)
      ∧ ((s.advance c).chan c).p = (s.chan c).p ∧ ((s.advance c).chan c).adj = (s.chan c).adj ∧ s.onlyChan (s.advance c) c)
    ∧ (s.chEn c = false → s.advance c = s))
  ∧ (∀ (x : Chan) (rate : Nat), 0 < rate → x.time < tuWrap →
    let y := drizzle x rate
    (x.adj - y.adj).natAbs + (y.thetaLive - x.thetaLive).natAbs ≤ rate * 2 ^ 48
    ∧ (y.time : Int) % tuWrap = ((x.time : Int) + (x.adj - y.adj)) % tuWrap ∧ y.time < tuWrap
    ∧ y.adj.natAbs ≤ x.adj.natAbs ∧ 0 ≤ y.adj * x.adj
    ∧ (x.thetaTarget - y.thetaLive).natAbs ≤ (x.thetaTarget - x.thetaLive).natAbs
    ∧ (x.adj ≠ 0 ∨ x.thetaTarget ≠ x.thetaLive →
        y.adj.natAbs + (x.thetaTarget - y.thetaLive).natAbs < x.adj.natAbs + (x.thetaTarget - x.thetaLive).natAbs)
    ∧ y = { x with adj := y.adj, thetaLive := y.thetaLive, time := y.time })
  ∧ (∀ (s : State) (r : Rg) (i n : Nat),
    s.counted (s.add r n i) r i n ∧ (s.rd r i).toNat ≤ ((s.add r n i).rd r i).toNat)

/-- R331: an access meets a bus error where the block of its address has its gate bit 0, ramps, or is MGMT under L1 management, MIR or
PARSE under L1 intake, and at IND_DATA where the block of the addressed space is such a block; DEV and RST give none of their own. A
read that meets one answers 0 and a write is discarded, without a side effect: the error is counted, the port reports it, and an index
does not advance. -/
def Obligations.BusErrors : Prop :=
  (∀ (s : State) (a : Nat),
    let shut (b : Nat) : Prop := b < 13 ∧ (bitOf (s.get DEV_GATE.GATE) b = false ∨ (∃ n, (b, n) ∈ s.dev.ramping)
      ∨ b = 11 ∧ s.on RST_STS.L1M = true ∨ (b = 8 ∨ b = 9) ∧ s.on RST_STS.L1I = true)
    s.busError a = true ↔ shut (addrBlock a) ∨ addrKey a = 0x304 ∧ shut (spaceBlock (s.get IND_ADDR.SPACE)))
  ∧ (∀ (s : State) (a : Nat) (w : Word), s.portsClosed = false → s.busError (a / 4 * 4 % 2 ^ 24) = true →
    (∀ i ∈ [Instr.spiRead a 1, .spiReadFixed a 1, .spiWrite a [w], .spiWriteFixed a [w]], ∃ t, exec i s = .next t
      ∧ t.dev.readWords = (if i = .spiRead a 1 ∨ i = .spiReadFixed a 1 then [0] else [])
      ∧ s.counted t .DEV_BUSERR_CNT 0 1 ∧ s.counted t .DEV_SPI_ERR_CNT 0 (if a % 4 = 0 then 0 else 1)
      ∧ t.dev = { s.dev with
          tseq := t.dev.tseq, header := t.dev.header, readWords := t.dev.readWords
          spi := { s.dev.spi with busErr := true, reject := false, status := false } }
      ∧ t.dev.header / 2 ^ 11 % 2 = 1 ∧ s.frame t [.dev] [(.DEV_BUSERR_CNT, 0), (.DEV_SPI_ERR_CNT, 0)])
    ∧ (∀ p : Port, isHost p = true → ∃ t, exec (.registerWrite p a w) s = .next t
      ∧ s.counted t .DEV_BUSERR_CNT 0 1 ∧ t.port p = { s.port p with busErr := true }
      ∧ t.dev = { s.dev with spi := t.dev.spi, inb := t.dev.inb } ∧ s.frame t [.dev] [(.DEV_BUSERR_CNT, 0)])
    ∧ (∀ (r : InbRequest) (o : InbOp), s.inbRuns = true → s.inbCheck r.dieId r.macOk = none → r.session = s.rd .MGMT_INB_STS →
        s.mgmt.lastSeq < r.seq → s.mode ≠ 11 → s.laneSends r.lane = true → s.on MBX_STAT.OPEN = false → s.dev.inb.open_ = [] →
        r.ops = [o] → o.addr = a → o.width = 2 → ∃ t, exec (.inBandRequest r) s = .next t
      ∧ s.sentMsg t (inbAnswer r.lane r.swPort (exchanged r.eth) (inbBody r 0 [⟨2, if o.write then o.data0 else 0, o.data1⟩]))
      ∧ s.counted t .DEV_BUSERR_CNT 0 1 ∧ s.counted t .MGMT_INB_OK_CNT 0 1
      ∧ s.frame t [.twl, .mgmt, .dev] [(.DEV_BUSERR_CNT, 0), (.MGMT_INB_OK_CNT, 0), (.MIR_TX_FRAMES_CNT, r.lane)]))

/-- R336: while one port holds the mailbox open, the other port's reads of MBX_D give the held words and change nothing of the mailbox,
that of MBX_D3 among them, and its write to MBX_SEL is deferred until the mailbox closes, where it takes effect. -/
def Obligations.MailboxOtherPort : Prop :=
  ∀ (s : State) (p q : Port), isHost p = true → isHost q = true → p ≠ q → s.portsClosed = false → s.on MBX_STAT.OPEN = true →
      s.get MBX_STAT.OWNER = portCode q →
    (∀ k : Nat, k < 4 → p = .spi → ∀ i ∈ [Instr.spiRead (Rg.MBX_D.key k) 1, .spiReadFixed (Rg.MBX_D.key k) 1], ∃ t, exec i s = .next t
      ∧ t.dev.readWords = [s.rd .MBX_D k] ∧ s.frame t [.dev] [])
    ∧ (∀ i ∈ [Instr.mailboxOpenRead p, .mailboxCloseRead p], ∃ t, exec i s = .next t
      ∧ t.dev = { s.dev with readWords := [s.rd .MBX_D (if i = .mailboxOpenRead p then 0 else 3)] } ∧ s.frame t [.dev] [])
    ∧ (∀ (r : InbRequest) (o : InbOp) (k : Nat), p = .inb → k < 4 → s.inbRuns = true → s.inbCheck r.dieId r.macOk = none →
        r.session = s.rd .MGMT_INB_STS → s.mgmt.lastSeq < r.seq → s.mode ≠ 11 → s.laneSends r.lane = true → s.dev.inb.open_ = [] →
        r.ops = [o] → o.addr = Rg.MBX_D.key k → o.width = 2 → o.write = false → ∃ t, exec (.inBandRequest r) s = .next t
      ∧ s.sentMsg t (inbAnswer r.lane r.swPort (exchanged r.eth) (inbBody r 0 [⟨0, s.rd .MBX_D k, o.data1⟩]))
      ∧ s.frame t [.twl, .mgmt, .dev] [(.MGMT_INB_OK_CNT, 0), (.MIR_TX_FRAMES_CNT, r.lane)])
    ∧ (∀ w : Word, s.mode ≠ 11 → s.dev.mbxDefer = none → ∀ i ∈ [Instr.registerWrite p (Rg.MBX_SEL.key 0) w, .mailboxGo p w],
        ∃ t, exec i s = .next t
      ∧ t.dev = { s.dev with mbxDefer := some (p, if i = .mailboxGo p w then MBX_SEL.GO.put w 1 else w) }
      ∧ t.get DEV_CMD_STATUS.REASON = 8 ∧ s.counted t .DEV_DEFER_CNT 0 1
      ∧ s.frame t [.dev] [(.DEV_CMD_STATUS, 0), (.DEV_DEFER_CNT, 0)])
    ∧ (∀ w : Word, s.dev.mbxDefer = some (p, w) → s.on MBX_STAT.PEND = false →
      (MBX_SEL.GO.of w = 0 → ∃ t, exec (.mailboxCloseRead q) s = .next t
        ∧ t.dev = { s.dev with mbxDefer := none, readWords := [s.rd .MBX_D 3] }
        ∧ t.on MBX_STAT.OPEN = false ∧ t.on MBX_STAT.VALID = false
        ∧ t.rd .MBX_SEL = mergeMask (s.rd .MBX_SEL) w Rg.MBX_SEL.info.cfg
        ∧ s.frame t [.dev] [(.MBX_STAT, 0), (.MBX_SEL, 0)])
      ∧ (MBX_SEL.GO.of w = 1 → 1 ≤ MBX_SEL.SRC.of w → MBX_SEL.SRC.of w ≤ 4 → ∃ t, exec (.mailboxCloseRead q) s = .next t
        ∧ t.dev = { s.dev with mbxDefer := none, readWords := [s.rd .MBX_D 3] }
        ∧ t.on MBX_STAT.OPEN = false ∧ t.on MBX_STAT.VALID = true ∧ t.get MBX_STAT.CSEQ = (s.get MBX_STAT.CSEQ + 1) % 256
        ∧ t.get MBX_STAT.SRC = MBX_SEL.SRC.of w ∧ t.get MBX_STAT.INDEX = MBX_SEL.INDEX.of w
        ∧ s.frame t [.dev, .free] [(.MBX_STAT, 0), (.MBX_SEL, 0), (.MBX_D, 0), (.MBX_D, 1), (.MBX_D, 2), (.MBX_D, 3)]))

/-- R342: at a mismatch of the configuration CRC, POLICY 0 records only, POLICY 1 leads to BASIC, POLICY 2 asserts reset source 9; a
write of POLICY 3 is discarded with reason range.
An entry that may find the log port busy is written, or lost and counted (R302, log 33). -/
def Obligations.CrcPolicies : Prop :=
  (∀ s : State, s.dev.scan = true → s.dev.refWritten = false → s.dev.scanCommit = false → s.on CFG_CRC_CTL.EN = true →
      s.on CFG_CRC_CTL.ARMED = true → s.rd .CFG_CRC_REF ≠ s.cfgCrc →
    (s.get CFG_CRC_CTL.POLICY = 0 → ∃ t, exec .crcScanEnd s = .next t
      ∧ s.counted t .CFG_CRC_MISMATCH_CNT 0 1 ∧ t.dev = { s.dev with scan := false, crcAlert := true }
      ∧ s.frame t [.dev, .mgmt, .free] [(.CFG_CRC_LIVE, 0), (.CFG_CRC_MISMATCH_CNT, 0), (.MGMT_LOG_OVW_CNT, 0), (.MGMT_LOG_LOST_CNT, 0)])
    ∧ (s.get CFG_CRC_CTL.POLICY = 1 → s.mode ≠ 0 → s.mode ≠ 9 → s.mode ≠ 11 → ∃ t, exec .crcScanEnd s = .next t
      ∧ s.counted t .CFG_CRC_MISMATCH_CNT 0 1
      ∧ s.fellToBasic t 6 [] [(.CFG_CRC_LIVE, 0), (.CFG_CRC_MISMATCH_CNT, 0)])
    ∧ (s.get CFG_CRC_CTL.POLICY = 2 → s.on CLK_STS.INTOSC_OK = true → s.on DEV_STRAP.SYS = false → s.rst.asserted = [] →
        s.rst.waiting = [] → s.rst.level = 0 → s.on RST_STS.SOFT = false → s.mode ≠ 0 → s.mode ≠ 11 → ∃ t, exec .crcScanEnd s = .next t
      ∧ s.resetTo t 4 9 ∧ s.counted t .RST_CRC_CNT 0 1))
  ∧ (∀ (s : State) (p : Port) (w : Word), isHost p = true → s.reaches p .CFG_CRC_CTL 0 → s.mode ≠ 11 → CFG_CRC_CTL.POLICY.of w = 3 →
    ∀ i ∈ [Instr.registerWrite p (Rg.CFG_CRC_CTL.key 0) w, .cfgCrcCommit p w], ∃ t, exec i s = .next t
      ∧ t.get DEV_CMD_STATUS.REASON = 4 ∧ s.counted t .DEV_REJECT_CNT 0 1
      ∧ s.frame t [.dev] [(.DEV_CMD_STATUS, 0), (.DEV_REJECT_CNT, 0)])

/-- The own effect of commands that other statements name in lists. R5, R321: a stored register takes the written bits through either port and
either SPI write, and a read drives the word. R322: STATUS and an opcode of no operation begin a transaction and touch no register; the end of a
transaction puts its words into a group. R329: DEV_KEY opens the guard. R24, R50, R66: requests and commands are stored. R78: a loop-back fault
shows. R159, R161: a request and a quality message leave. R244: a trigger makes a rotation due. R277: a soft reset asks for the idle handshake. -/
def Obligations.CommandEffects : Prop :=
  (∀ (s : State) (p : Port) (r : Rg) (w : Word), isHost p = true → s.mode ≠ 11 →
      r ∈ [Rg.DEV_ALERT_EN, .IND_CTL, .OUT_CTL, .MIR_CTL, .MGMT_TEMP_WARN] → s.reaches p r 0 →
    (∃ t, exec (.registerWrite p (r.key 0) w) s = .next t
      ∧ t.rd r 0 = mergeMask (s.rd r 0) w (r.maskAt 0) ∧ s.frame t [.dev] [(r, 0), (.CFG_CRC_CTL, 0)])
    ∧ (p = .spi → ∃ t, exec (.spiWrite (r.key 0) [w]) s = .next t
      ∧ t.rd r 0 = mergeMask (s.rd r 0) w (r.maskAt 0) ∧ t.dev.tseq = (s.dev.tseq + 1) % 16
      ∧ s.frame t [.dev] [(r, 0), (.CFG_CRC_CTL, 0)])
    ∧ (p = .spi → ∃ t, exec (.spiWriteFixed (r.key 0) [w]) s = .next t
      ∧ t.rd r 0 = mergeMask (s.rd r 0) w (r.maskAt 0) ∧ t.dev.tseq = (s.dev.tseq + 1) % 16
      ∧ s.frame t [.dev] [(r, 0), (.CFG_CRC_CTL, 0)])
    ∧ (p = .spi → ∃ t, exec (.spiRead (r.key 0) 1) s = .next t
      ∧ t.dev.readWords = [s.placeWord .spi (.reg r 0)] ∧ t.dev.tseq = (s.dev.tseq + 1) % 16 ∧ s.frame t [.dev] [])
    ∧ (p = .spi → ∃ t, exec (.spiReadFixed (r.key 0) 1) s = .next t
      ∧ t.dev.readWords = [s.placeWord .spi (.reg r 0)] ∧ t.dev.tseq = (s.dev.tseq + 1) % 16 ∧ s.frame t [.dev] []))
  ∧ (∀ s : State, s.portsClosed = false →
    (∃ t, exec .spiStatus s = .next t
      ∧ t.dev.tseq = (s.dev.tseq + 1) % 16 ∧ t.dev.header % 16 = (s.dev.tseq + 1) % 16 ∧ t.dev.header / 2 ^ 10 % 2 = 0
      ∧ t.dev.spi.status = true ∧ t.dev.readWords = [] ∧ s.frame t [.dev] [])
    ∧ (∀ op : Nat, spiKnown op = false → ∃ t, exec (.spiBadOpcode op) s = .next t
      ∧ t.dev.tseq = (s.dev.tseq + 1) % 16 ∧ t.dev.header % 16 = (s.dev.tseq + 1) % 16 ∧ t.dev.header / 2 ^ 10 % 2 = 1
      ∧ t.dev.spi.status = false ∧ t.dev.readWords = [] ∧ s.frame t [.dev] [])
    ∧ (s.on MBX_STAT.OPEN = false → s.pair.streaming = false → ∃ t, exec (.spiTransactionEnd false false) s = .next t
      ∧ t.dev.groups = s.dev.groups ++ (if s.dev.spi.open_ = [] then [] else [⟨.spi, s.dev.spi.open_⟩])
      ∧ t.dev.spi.open_ = [] ∧ t.dev.spi.keyAge = s.dev.spi.keyAge - 1 ∧ t.dev.spi.prevBusErr = s.dev.spi.busErr
      ∧ t.dev.spi.prevReject = s.dev.spi.reject ∧ s.frame t [.dev] [])
    ∧ (∀ p : Port, isHost p = true → s.mode ≠ 11 → ∃ t, exec (.devKeyWrite p 0x5A3C#32) s = .next t
      ∧ (t.port p).keyAge = 2 ∧ s.frame t [.dev] []))
  ∧ (∀ (s : State) (p : Port), isHost p = true →
    (s.reaches p .DEV_MODE_REQ 0 → s.pair.streaming = false → s.isRun = true →
      (∃ t, exec (.modeReqAutomatic p) s = .next t ∧ t.get DEV_MODE_REQ.REQ = 15 ∧ s.frame t [] [(.DEV_MODE_REQ, 0)])
      ∧ (∃ t, exec (.modeReqHoldFreerun p) s = .next t ∧ t.get DEV_MODE_REQ.REQ = 3 ∧ s.frame t [] [(.DEV_MODE_REQ, 0)])
      ∧ (∃ t, exec (.modeReqForceHoldover p) s = .next t ∧ t.get DEV_MODE_REQ.REQ = 6 ∧ s.frame t [] [(.DEV_MODE_REQ, 0)])
      ∧ ∃ t, exec (.modeReqService p) s = .next t ∧ t.get DEV_MODE_REQ.REQ = 10 ∧ s.frame t [] [(.DEV_MODE_REQ, 0)])
    ∧ (s.reaches p .MSYN_CMD 0 → s.mode = 10 → s.rd .MSYN_CMD = 0 → s.storedWords.ok = true →
      (∃ t, exec (.retune p) s = .next t
        ∧ t.rd .MSYN_CMD = 1 ∧ t.msyn = { s.msyn with svcStart := some p } ∧ s.frame t [.dev, .msyn] [(.MSYN_CMD, 0)])
      ∧ (∃ t, exec (.relock p) s = .next t
        ∧ t.rd .MSYN_CMD = 2 ∧ t.msyn = { s.msyn with svcStart := some p } ∧ s.frame t [.dev, .msyn] [(.MSYN_CMD, 0)])
      ∧ ∃ t, exec (.bandsel p) s = .next t
        ∧ t.rd .MSYN_CMD = 4 ∧ t.msyn = { s.msyn with svcStart := some p } ∧ s.frame t [.dev, .msyn] [(.MSYN_CMD, 0)])
    ∧ (∀ c : Nat, c < 512 → s.reaches p .CH_CMD c →
      (∃ t, exec (.tset p c) s = .next t
        ∧ (t.port p).open_ = (s.port p).open_ ++ [⟨.CH_CMD, c, 1#32⟩] ∧ s.frame t [.dev] [])
      ∧ ∃ t, exec (.slewCancel p c) s = .next t
        ∧ (t.port p).open_ = (s.port p).open_ ++ [⟨.CH_CMD, c, 2#32⟩] ∧ s.frame t [.dev] [])
    ∧ (s.reaches p .RST_SOFT 0 → s.on CLK_STS.INTOSC_OK = true → s.on DEV_STRAP.SYS = false → s.on RST_STS.L1M = false →
        s.get RST_SOFT.SOFT = 0 → s.mode ≠ 1 → s.mode ≠ 11 →
      (∃ t, exec (.softResetTwlReceiver p) s = .next t
        ∧ t.get RST_SOFT.SOFT = 1 ∧ s.handshakeBegun t 11 0 [.dev] [(.RST_SOFT, 0)])
      ∧ (∃ t, exec (.softResetMirPcs p) s = .next t
        ∧ t.get RST_SOFT.SOFT = 2 ∧ s.handshakeBegun t 11 1 [.dev] [(.RST_SOFT, 0)])
      ∧ (∃ t, exec (.softResetPlPcs p) s = .next t
        ∧ t.get RST_SOFT.SOFT = 4 ∧ s.handshakeBegun t 11 2 [.dev] [(.RST_SOFT, 0)])
      ∧ (∃ t, exec (.softResetCalSequencer p) s = .next t
        ∧ t.get RST_SOFT.SOFT = 8 ∧ s.handshakeBegun t 11 3 [.dev] [(.RST_SOFT, 0)])
      ∧ (∃ t, exec (.softResetFlash p) s = .next t
        ∧ t.get RST_SOFT.SOFT = 16 ∧ s.handshakeBegun t 11 4 [.dev] [(.RST_SOFT, 0)])
      ∧ (∃ t, exec (.softResetEmmc p) s = .next t
        ∧ t.get RST_SOFT.SOFT = 32 ∧ s.handshakeBegun t 11 5 [.dev] [(.RST_SOFT, 0)])
      ∧ (∃ t, exec (.softResetSensor p) s = .next t
        ∧ t.get RST_SOFT.SOFT = 64 ∧ s.handshakeBegun t 11 6 [.dev] [(.RST_SOFT, 0)])
      ∧ ∃ t, exec (.softResetFreqCounter p) s = .next t
        ∧ t.get RST_SOFT.SOFT = 128 ∧ s.handshakeBegun t 11 7 [.dev] [(.RST_SOFT, 0)]))
  ∧ (∀ (s : State) (n : Nat), n < 128 → s.lbActive (.out n) = true →
    (∃ t, exec (.loopbackMiss (.out n)) s = .next t
      ∧ t.rd .OUT_STS n = OUT_STS.LB_FAULT.put (s.rd .OUT_STS n) 1 ∧ s.counted t .OUT_LB_MISS_CNT n 1
      ∧ s.frame t [.pair] [(.OUT_STS, n), (.OUT_LB_MISS_CNT, n)])
    ∧ ∃ t, exec (.loopbackExtra (.out n)) s = .next t
      ∧ t.rd .OUT_STS n = OUT_STS.LB_FAULT.put (s.rd .OUT_STS n) 1 ∧ s.counted t .OUT_LB_EXTRA_CNT n 1
      ∧ s.frame t [.pair] [(.OUT_STS, n), (.OUT_LB_EXTRA_CNT, n)])
  ∧ (∀ (s : State) (f : Nat), f < 64 → s.flowActive f = true → s.mirTransmits = true → (s.flow f).hdr ≠ [] →
      s.canSend (s.flow f).lane = true →
    (s.flowPeerDelay f = false → ∃ t, exec (.delayReqDue f) s = .next t
      ∧ t.twl.sent.length = s.twl.sent.length + 1 ∧ (t.flow f).nextSeq = ((s.flow f).nextSeq + 1) % 65536
      ∧ (t.flow f).exch.reqOut = true ∧ (t.flow f).exch.reqSeq = (s.flow f).nextSeq ∧ s.onlyFlow t f
      ∧ s.frame t [.twl] [(.MIR_TX_FRAMES_CNT, (s.flow f).lane), (.FLOW_MISS_CNT, f), (.FLOW_STS, f)])
    ∧ (s.flowPeerDelay f = true → ∃ t, exec (.pdelayReqDue f) s = .next t
      ∧ t.twl.sent.length = s.twl.sent.length + 1 ∧ (t.flow f).nextSeq = ((s.flow f).nextSeq + 1) % 65536
      ∧ (t.flow f).exch.reqOut = true ∧ (t.flow f).exch.reqSeq = (s.flow f).nextSeq ∧ s.onlyFlow t f
      ∧ s.frame t [.twl] [(.MIR_TX_FRAMES_CNT, (s.flow f).lane), (.FLOW_MISS_CNT, f), (.FLOW_STS, f)]))
  ∧ (∀ (s : State) (k : Nat), k < 8 → s.on ESMC_TX.EN k = true → s.mirTransmits = true → s.groupUsed (s.get ESMC_TX.PGROUP k) = true →
      s.canSend (s.get MIR_PGRP.LANE (s.get ESMC_TX.PGROUP k)) = true → s.qlInput (s.get ESMC_TX.CHANNEL k) = none →
    (∃ t, exec (.esmcInfoPduDue k) s = .next t
      ∧ t.twl.sent.length = s.twl.sent.length + 1 ∧ s.counted t .ESMC_TX_CNT 0 1 ∧ (streamOf t.twl.esmc k).lastQl = some (s.txQl k)
      ∧ s.frame t [.twl, .free] [(.MIR_TX_FRAMES_CNT, s.get MIR_PGRP.LANE (s.get ESMC_TX.PGROUP k)), (.ESMC_TX_CNT, 0)])
    ∧ ((streamOf s.twl.esmc k).lastQl ≠ some (s.txQl k) → ∃ t, exec (.esmcEventPduSend k) s = .next t
      ∧ t.twl.sent.length = s.twl.sent.length + 1 ∧ s.counted t .ESMC_TX_CNT 0 1 ∧ (streamOf t.twl.esmc k).lastQl = some (s.txQl k)
      ∧ s.frame t [.twl, .free] [(.MIR_TX_FRAMES_CNT, s.get MIR_PGRP.LANE (s.get ESMC_TX.PGROUP k)), (.ESMC_TX_CNT, 0)]))
  ∧ (∀ s : State, s.calModes = true → s.on CAL_CTL.AUTO = true → s.on CAL_STS.ROTATING = false → s.on CAL_STS.PENDING = false →
    (s.on CAL_CTL.PERIOD = true → ∃ t, exec .calPeriodExpired s = .next t
      ∧ t.cal = { s.cal with startDue := true } ∧ s.frame t [.cal] [])
    ∧ (s.dev.tick % 100000 = 0 → (List.range 8).any (fun k => s.tempApart (s.temp k) (s.cal.tempRef.getD k 0) 1) = true →
      ∃ t, exec .calTemperatureCheck s = .next t
      ∧ t.cal = { s.cal with startDue := true } ∧ s.counted t .CAL_TRIG_TEMP_CNT 0 1
      ∧ s.frame t [.cal] [(.CAL_TRIG_TEMP_CNT, 0)]))
end

