-- ==== Sys2Proof/Laws/Tab.lean ====
section
/-! SUPPORT. Sparse tables: a read after a write, and the canonical form. -/

namespace Sys2Proof.Machine

theorem Tab.get_erase {α : Type} (d : α) (t : Tab α) (k j : Nat) :
    Tab.get d (Tab.erase t k) j = if k = j then d else Tab.get d t j := by
  induction t with
  | nil => simp [Tab.erase, Tab.get]
  | cons x t ih =>
    obtain ⟨i, v⟩ := x
    simp only [Tab.erase]
    by_cases h : i = k
    · subst h
      simp only [if_true, ih, Tab.get]
      split <;> simp_all
    · simp only [h, if_false, Tab.get, ih]
      by_cases hj : i = j
      · subst hj; simp [Ne.symm h]
      · simp [hj]

theorem Tab.get_insert {α : Type} (d : α) (t : Tab α) (k j : Nat) (v : α) (h : Tab.get d t k = d) (hj : k ≠ j ∨ ∀ w, (k, w) ∉ t) :
    Tab.get d (Tab.insert t k v) j = if k = j then v else Tab.get d t j := by
  induction t with
  | nil => simp [Tab.insert, Tab.get]
  | cons x t ih =>
    obtain ⟨i, w⟩ := x
    simp only [Tab.insert]
    by_cases hl : k < i
    · simp only [hl, if_true, Tab.get]
    · simp only [hl, if_false, Tab.get]
      by_cases hk : k = j
      · subst hk
        have hn : i ≠ k := by
          intro e; subst e
          rcases hj with hj | hj
          · exact hj rfl
          · exact hj w (by simp)
        simp only [hn, if_false, if_true]
        have := ih (by simpa [Tab.get, hn] using h) (by
          rcases hj with hj | hj
          · exact absurd rfl hj
          · exact .inr fun u hu => hj u (List.mem_cons_of_mem _ hu))
        simpa using this
      · by_cases hi : i = j
        · subst hi; simp [hk]
        · simp only [hi, if_false, hk]
          by_cases hik : i = k
          · have : ∀ t' : Tab α, Tab.get d (Tab.insert t' k v) j = Tab.get d t' j := by
              intro t'
              induction t' with
              | nil => simp [Tab.insert, Tab.get, hk]
              | cons y t' ih' =>
                obtain ⟨a, b⟩ := y
                simp only [Tab.insert]
                split
                · simp [Tab.get, hk]
                · simp [Tab.get, ih']
            exact this t
          · have := ih (by simpa [Tab.get, hik] using h) (.inl hk)
            simpa [hk] using this

theorem Tab.not_mem_erase {α : Type} (t : Tab α) (k : Nat) (w : α) : (k, w) ∉ Tab.erase t k := by
  induction t with
  | nil => simp [Tab.erase]
  | cons x t ih =>
    obtain ⟨i, v⟩ := x
    simp only [Tab.erase]
    split
    · exact ih
    · rename_i h
      simp only [List.mem_cons, Prod.mk.injEq, not_or, not_and]
      exact ⟨fun e => absurd e.symm h, ih⟩

/-- A read after a write: the value written at its key, every other key as before. -/
theorem Tab.get_set {α : Type} [DecidableEq α] (d : α) (t : Tab α) (k j : Nat) (v : α) :
    Tab.get d (Tab.set d t k v) j = if k = j then v else Tab.get d t j := by
  unfold Tab.set
  split
  · rename_i h; subst h; exact Tab.get_erase _ _ _ _
  · rw [Tab.get_insert d _ k j v (by simp [Tab.get_erase]) (.inr (Tab.not_mem_erase t k)), Tab.get_erase]
    split <;> simp_all

@[simp] theorem Tab.get_set_same {α : Type} [DecidableEq α] (d : α) (t : Tab α) (k : Nat) (v : α) :
    Tab.get d (Tab.set d t k v) k = v := by simp [Tab.get_set]

theorem Tab.get_set_ne {α : Type} [DecidableEq α] (d : α) (t : Tab α) {k j : Nat} (v : α) (h : k ≠ j) :
    Tab.get d (Tab.set d t k v) j = Tab.get d t j := by simp [Tab.get_set, h]

theorem Tab.above_erase {α : Type} (t : Tab α) (k j : Nat) (h : Tab.above j t = true) : Tab.above j (Tab.erase t k) = true := by
  induction t with
  | nil => simp [Tab.erase, Tab.above]
  | cons x t ih =>
    obtain ⟨i, v⟩ := x
    simp only [Tab.above, Bool.and_eq_true, decide_eq_true_eq] at h
    simp only [Tab.erase]
    split
    · exact ih h.2
    · simp [Tab.above, h.1, ih h.2]

theorem Tab.wf_erase {α : Type} [DecidableEq α] (d : α) (t : Tab α) (k : Nat) (h : Tab.wf d t = true) :
    Tab.wf d (Tab.erase t k) = true := by
  induction t with
  | nil => simp [Tab.erase, Tab.wf]
  | cons x t ih =>
    obtain ⟨i, v⟩ := x
    simp only [Tab.wf, Bool.and_eq_true, decide_eq_true_eq] at h
    simp only [Tab.erase]
    split
    · exact ih h.2
    · simp [Tab.wf, h.1.1, Tab.above_erase _ _ _ h.1.2, ih h.2]

theorem Tab.above_mono {α : Type} (t : Tab α) {a b : Nat} (hab : a ≤ b) (h : Tab.above b t = true) : Tab.above a t = true := by
  induction t with
  | nil => rfl
  | cons x t ih =>
    obtain ⟨i, v⟩ := x
    simp only [Tab.above, Bool.and_eq_true, decide_eq_true_eq] at h ⊢
    exact ⟨by omega, ih h.2⟩

theorem Tab.above_insert {α : Type} (t : Tab α) (k j : Nat) (v : α) (hj : j < k) (h : Tab.above j t = true) :
    Tab.above j (Tab.insert t k v) = true := by
  induction t with
  | nil => simp [Tab.insert, Tab.above, hj]
  | cons x t ih =>
    obtain ⟨i, w⟩ := x
    have h' := h
    simp only [Tab.above, Bool.and_eq_true, decide_eq_true_eq] at h
    simp only [Tab.insert]
    split
    · simp only [Tab.above, Bool.and_eq_true, decide_eq_true_eq]; exact ⟨hj, h.1, h.2⟩
    · simp [Tab.above, h.1, ih h.2]

theorem Tab.wf_insert {α : Type} [DecidableEq α] (d : α) (t : Tab α) (k : Nat) (v : α) (hv : v ≠ d) (hk : ∀ w, (k, w) ∉ t)
    (h : Tab.wf d t = true) : Tab.wf d (Tab.insert t k v) = true := by
  induction t with
  | nil => simp [Tab.insert, Tab.wf, Tab.above, hv]
  | cons x t ih =>
    obtain ⟨i, w⟩ := x
    have hw := h
    simp only [Tab.wf, Bool.and_eq_true, decide_eq_true_eq] at h
    have hne : i ≠ k := fun e => hk w (by simp [e])
    simp only [Tab.insert]
    split
    · rename_i hl
      simp only [Tab.wf, Tab.above, Bool.and_eq_true, decide_eq_true_eq]
      exact ⟨⟨hv, hl, Tab.above_mono t (Nat.le_of_lt hl) h.1.2⟩, h.1, h.2⟩
    · rename_i hl
      have hik : i < k := by omega
      simp only [Tab.wf, Bool.and_eq_true, decide_eq_true_eq]
      exact ⟨⟨h.1.1, Tab.above_insert t k i v hik h.1.2⟩, ih (fun u hu => hk u (List.mem_cons_of_mem _ hu)) h.2⟩

/-- Every store keeps the canonical form. -/
theorem Tab.wf_set {α : Type} [DecidableEq α] (d : α) (t : Tab α) (k : Nat) (v : α) (h : Tab.wf d t = true) :
    Tab.wf d (Tab.set d t k v) = true := by
  unfold Tab.set
  split
  · exact Tab.wf_erase d t k h
  · rename_i hv
    exact Tab.wf_insert d _ k v hv (Tab.not_mem_erase t k) (Tab.wf_erase d t k h)

end Sys2Proof.Machine
end

