-- ==== Sys2Proof/Laws/State.lean ====
section
/-! SUPPORT. One lemma per field per update of the state, each true by computation, and the reads of a word, a channel, a pin and an
input across an update of another part. The proofs are written as a chain so that simp uses the lemmas as rewriting steps and the
kernel never compares two whole states. -/

namespace Sys2Proof.Machine

@[simp] theorem State.wr_pending (s : State) (r : Rg) (i : Nat) (w : Word) : (s.wr r i w).pending = s.pending := .trans (.refl _) rfl
@[simp] theorem State.wr_chans (s : State) (r : Rg) (i : Nat) (w : Word) : (s.wr r i w).chans = s.chans := .trans (.refl _) rfl
@[simp] theorem State.wr_outs (s : State) (r : Rg) (i : Nat) (w : Word) : (s.wr r i w).outs = s.outs := .trans (.refl _) rfl
@[simp] theorem State.wr_pps (s : State) (r : Rg) (i : Nat) (w : Word) : (s.wr r i w).pps = s.pps := .trans (.refl _) rfl
@[simp] theorem State.wr_refs (s : State) (r : Rg) (i : Nat) (w : Word) : (s.wr r i w).refs = s.refs := .trans (.refl _) rfl
@[simp] theorem State.wr_msyn (s : State) (r : Rg) (i : Nat) (w : Word) : (s.wr r i w).msyn = s.msyn := .trans (.refl _) rfl
@[simp] theorem State.wr_posts (s : State) (r : Rg) (i : Nat) (w : Word) : (s.wr r i w).posts = s.posts := .trans (.refl _) rfl
@[simp] theorem State.wr_dmem (s : State) (r : Rg) (i : Nat) (w : Word) : (s.wr r i w).dmem = s.dmem := .trans (.refl _) rfl
@[simp] theorem State.wr_twl (s : State) (r : Rg) (i : Nat) (w : Word) : (s.wr r i w).twl = s.twl := .trans (.refl _) rfl
@[simp] theorem State.wr_intake (s : State) (r : Rg) (i : Nat) (w : Word) : (s.wr r i w).intake = s.intake := .trans (.refl _) rfl
@[simp] theorem State.wr_pair (s : State) (r : Rg) (i : Nat) (w : Word) : (s.wr r i w).pair = s.pair := .trans (.refl _) rfl
@[simp] theorem State.wr_cal (s : State) (r : Rg) (i : Nat) (w : Word) : (s.wr r i w).cal = s.cal := .trans (.refl _) rfl
@[simp] theorem State.wr_rst (s : State) (r : Rg) (i : Nat) (w : Word) : (s.wr r i w).rst = s.rst := .trans (.refl _) rfl
@[simp] theorem State.wr_fuse (s : State) (r : Rg) (i : Nat) (w : Word) : (s.wr r i w).fuse = s.fuse := .trans (.refl _) rfl
@[simp] theorem State.wr_mgmt (s : State) (r : Rg) (i : Nat) (w : Word) : (s.wr r i w).mgmt = s.mgmt := .trans (.refl _) rfl
@[simp] theorem State.wr_dev (s : State) (r : Rg) (i : Nat) (w : Word) : (s.wr r i w).dev = s.dev := .trans (.refl _) rfl
@[simp] theorem State.wr_holdoff (s : State) (r : Rg) (i : Nat) (w : Word) : (s.wr r i w).holdoff = s.holdoff := .trans (.refl _) rfl
@[simp] theorem State.wr_pins (s : State) (r : Rg) (i : Nat) (w : Word) : (s.wr r i w).pins = s.pins := .trans (.refl _) rfl
@[simp] theorem State.wr_free (s : State) (r : Rg) (i : Nat) (w : Word) : (s.wr r i w).free = s.free := .trans (.refl _) rfl

@[simp] theorem State.set_pending (s : State) (f : Fld) (v i : Nat) : (s.set f v i).pending = s.pending := .trans (.refl _) rfl
@[simp] theorem State.set_chans (s : State) (f : Fld) (v i : Nat) : (s.set f v i).chans = s.chans := .trans (.refl _) rfl
@[simp] theorem State.set_outs (s : State) (f : Fld) (v i : Nat) : (s.set f v i).outs = s.outs := .trans (.refl _) rfl
@[simp] theorem State.set_pps (s : State) (f : Fld) (v i : Nat) : (s.set f v i).pps = s.pps := .trans (.refl _) rfl
@[simp] theorem State.set_refs (s : State) (f : Fld) (v i : Nat) : (s.set f v i).refs = s.refs := .trans (.refl _) rfl
@[simp] theorem State.set_msyn (s : State) (f : Fld) (v i : Nat) : (s.set f v i).msyn = s.msyn := .trans (.refl _) rfl
@[simp] theorem State.set_posts (s : State) (f : Fld) (v i : Nat) : (s.set f v i).posts = s.posts := .trans (.refl _) rfl
@[simp] theorem State.set_dmem (s : State) (f : Fld) (v i : Nat) : (s.set f v i).dmem = s.dmem := .trans (.refl _) rfl
@[simp] theorem State.set_twl (s : State) (f : Fld) (v i : Nat) : (s.set f v i).twl = s.twl := .trans (.refl _) rfl
@[simp] theorem State.set_intake (s : State) (f : Fld) (v i : Nat) : (s.set f v i).intake = s.intake := .trans (.refl _) rfl
@[simp] theorem State.set_pair (s : State) (f : Fld) (v i : Nat) : (s.set f v i).pair = s.pair := .trans (.refl _) rfl
@[simp] theorem State.set_cal (s : State) (f : Fld) (v i : Nat) : (s.set f v i).cal = s.cal := .trans (.refl _) rfl
@[simp] theorem State.set_rst (s : State) (f : Fld) (v i : Nat) : (s.set f v i).rst = s.rst := .trans (.refl _) rfl
@[simp] theorem State.set_fuse (s : State) (f : Fld) (v i : Nat) : (s.set f v i).fuse = s.fuse := .trans (.refl _) rfl
@[simp] theorem State.set_mgmt (s : State) (f : Fld) (v i : Nat) : (s.set f v i).mgmt = s.mgmt := .trans (.refl _) rfl
@[simp] theorem State.set_dev (s : State) (f : Fld) (v i : Nat) : (s.set f v i).dev = s.dev := .trans (.refl _) rfl
@[simp] theorem State.set_holdoff (s : State) (f : Fld) (v i : Nat) : (s.set f v i).holdoff = s.holdoff := .trans (.refl _) rfl
@[simp] theorem State.set_pins (s : State) (f : Fld) (v i : Nat) : (s.set f v i).pins = s.pins := .trans (.refl _) rfl
@[simp] theorem State.set_free (s : State) (f : Fld) (v i : Nat) : (s.set f v i).free = s.free := .trans (.refl _) rfl

@[simp] theorem State.setB_pending (s : State) (f : Fld) (b : Bool) (i : Nat) : (s.setB f b i).pending = s.pending := .trans (.refl _) rfl
@[simp] theorem State.setB_chans (s : State) (f : Fld) (b : Bool) (i : Nat) : (s.setB f b i).chans = s.chans := .trans (.refl _) rfl
@[simp] theorem State.setB_outs (s : State) (f : Fld) (b : Bool) (i : Nat) : (s.setB f b i).outs = s.outs := .trans (.refl _) rfl
@[simp] theorem State.setB_pps (s : State) (f : Fld) (b : Bool) (i : Nat) : (s.setB f b i).pps = s.pps := .trans (.refl _) rfl
@[simp] theorem State.setB_refs (s : State) (f : Fld) (b : Bool) (i : Nat) : (s.setB f b i).refs = s.refs := .trans (.refl _) rfl
@[simp] theorem State.setB_msyn (s : State) (f : Fld) (b : Bool) (i : Nat) : (s.setB f b i).msyn = s.msyn := .trans (.refl _) rfl
@[simp] theorem State.setB_posts (s : State) (f : Fld) (b : Bool) (i : Nat) : (s.setB f b i).posts = s.posts := .trans (.refl _) rfl
@[simp] theorem State.setB_dmem (s : State) (f : Fld) (b : Bool) (i : Nat) : (s.setB f b i).dmem = s.dmem := .trans (.refl _) rfl
@[simp] theorem State.setB_twl (s : State) (f : Fld) (b : Bool) (i : Nat) : (s.setB f b i).twl = s.twl := .trans (.refl _) rfl
@[simp] theorem State.setB_intake (s : State) (f : Fld) (b : Bool) (i : Nat) : (s.setB f b i).intake = s.intake := .trans (.refl _) rfl
@[simp] theorem State.setB_pair (s : State) (f : Fld) (b : Bool) (i : Nat) : (s.setB f b i).pair = s.pair := .trans (.refl _) rfl
@[simp] theorem State.setB_cal (s : State) (f : Fld) (b : Bool) (i : Nat) : (s.setB f b i).cal = s.cal := .trans (.refl _) rfl
@[simp] theorem State.setB_rst (s : State) (f : Fld) (b : Bool) (i : Nat) : (s.setB f b i).rst = s.rst := .trans (.refl _) rfl
@[simp] theorem State.setB_fuse (s : State) (f : Fld) (b : Bool) (i : Nat) : (s.setB f b i).fuse = s.fuse := .trans (.refl _) rfl
@[simp] theorem State.setB_mgmt (s : State) (f : Fld) (b : Bool) (i : Nat) : (s.setB f b i).mgmt = s.mgmt := .trans (.refl _) rfl
@[simp] theorem State.setB_dev (s : State) (f : Fld) (b : Bool) (i : Nat) : (s.setB f b i).dev = s.dev := .trans (.refl _) rfl
@[simp] theorem State.setB_holdoff (s : State) (f : Fld) (b : Bool) (i : Nat) : (s.setB f b i).holdoff = s.holdoff := .trans (.refl _) rfl
@[simp] theorem State.setB_pins (s : State) (f : Fld) (b : Bool) (i : Nat) : (s.setB f b i).pins = s.pins := .trans (.refl _) rfl
@[simp] theorem State.setB_free (s : State) (f : Fld) (b : Bool) (i : Nat) : (s.setB f b i).free = s.free := .trans (.refl _) rfl

@[simp] theorem State.setBit_pending (s : State) (f : Fld) (k : Nat) (b : Bool) (i : Nat) : (s.setBit f k b i).pending = s.pending := .trans (.refl _) rfl
@[simp] theorem State.setBit_chans (s : State) (f : Fld) (k : Nat) (b : Bool) (i : Nat) : (s.setBit f k b i).chans = s.chans := .trans (.refl _) rfl
@[simp] theorem State.setBit_outs (s : State) (f : Fld) (k : Nat) (b : Bool) (i : Nat) : (s.setBit f k b i).outs = s.outs := .trans (.refl _) rfl
@[simp] theorem State.setBit_pps (s : State) (f : Fld) (k : Nat) (b : Bool) (i : Nat) : (s.setBit f k b i).pps = s.pps := .trans (.refl _) rfl
@[simp] theorem State.setBit_refs (s : State) (f : Fld) (k : Nat) (b : Bool) (i : Nat) : (s.setBit f k b i).refs = s.refs := .trans (.refl _) rfl
@[simp] theorem State.setBit_msyn (s : State) (f : Fld) (k : Nat) (b : Bool) (i : Nat) : (s.setBit f k b i).msyn = s.msyn := .trans (.refl _) rfl
@[simp] theorem State.setBit_posts (s : State) (f : Fld) (k : Nat) (b : Bool) (i : Nat) : (s.setBit f k b i).posts = s.posts := .trans (.refl _) rfl
@[simp] theorem State.setBit_dmem (s : State) (f : Fld) (k : Nat) (b : Bool) (i : Nat) : (s.setBit f k b i).dmem = s.dmem := .trans (.refl _) rfl
@[simp] theorem State.setBit_twl (s : State) (f : Fld) (k : Nat) (b : Bool) (i : Nat) : (s.setBit f k b i).twl = s.twl := .trans (.refl _) rfl
@[simp] theorem State.setBit_intake (s : State) (f : Fld) (k : Nat) (b : Bool) (i : Nat) : (s.setBit f k b i).intake = s.intake := .trans (.refl _) rfl
@[simp] theorem State.setBit_pair (s : State) (f : Fld) (k : Nat) (b : Bool) (i : Nat) : (s.setBit f k b i).pair = s.pair := .trans (.refl _) rfl
@[simp] theorem State.setBit_cal (s : State) (f : Fld) (k : Nat) (b : Bool) (i : Nat) : (s.setBit f k b i).cal = s.cal := .trans (.refl _) rfl
@[simp] theorem State.setBit_rst (s : State) (f : Fld) (k : Nat) (b : Bool) (i : Nat) : (s.setBit f k b i).rst = s.rst := .trans (.refl _) rfl
@[simp] theorem State.setBit_fuse (s : State) (f : Fld) (k : Nat) (b : Bool) (i : Nat) : (s.setBit f k b i).fuse = s.fuse := .trans (.refl _) rfl
@[simp] theorem State.setBit_mgmt (s : State) (f : Fld) (k : Nat) (b : Bool) (i : Nat) : (s.setBit f k b i).mgmt = s.mgmt := .trans (.refl _) rfl
@[simp] theorem State.setBit_dev (s : State) (f : Fld) (k : Nat) (b : Bool) (i : Nat) : (s.setBit f k b i).dev = s.dev := .trans (.refl _) rfl
@[simp] theorem State.setBit_holdoff (s : State) (f : Fld) (k : Nat) (b : Bool) (i : Nat) : (s.setBit f k b i).holdoff = s.holdoff := .trans (.refl _) rfl
@[simp] theorem State.setBit_pins (s : State) (f : Fld) (k : Nat) (b : Bool) (i : Nat) : (s.setBit f k b i).pins = s.pins := .trans (.refl _) rfl
@[simp] theorem State.setBit_free (s : State) (f : Fld) (k : Nat) (b : Bool) (i : Nat) : (s.setBit f k b i).free = s.free := .trans (.refl _) rfl

@[simp] theorem State.add_pending (s : State) (r : Rg) (n i : Nat) : (s.add r n i).pending = s.pending := .trans (.refl _) rfl
@[simp] theorem State.add_chans (s : State) (r : Rg) (n i : Nat) : (s.add r n i).chans = s.chans := .trans (.refl _) rfl
@[simp] theorem State.add_outs (s : State) (r : Rg) (n i : Nat) : (s.add r n i).outs = s.outs := .trans (.refl _) rfl
@[simp] theorem State.add_pps (s : State) (r : Rg) (n i : Nat) : (s.add r n i).pps = s.pps := .trans (.refl _) rfl
@[simp] theorem State.add_refs (s : State) (r : Rg) (n i : Nat) : (s.add r n i).refs = s.refs := .trans (.refl _) rfl
@[simp] theorem State.add_msyn (s : State) (r : Rg) (n i : Nat) : (s.add r n i).msyn = s.msyn := .trans (.refl _) rfl
@[simp] theorem State.add_posts (s : State) (r : Rg) (n i : Nat) : (s.add r n i).posts = s.posts := .trans (.refl _) rfl
@[simp] theorem State.add_dmem (s : State) (r : Rg) (n i : Nat) : (s.add r n i).dmem = s.dmem := .trans (.refl _) rfl
@[simp] theorem State.add_twl (s : State) (r : Rg) (n i : Nat) : (s.add r n i).twl = s.twl := .trans (.refl _) rfl
@[simp] theorem State.add_intake (s : State) (r : Rg) (n i : Nat) : (s.add r n i).intake = s.intake := .trans (.refl _) rfl
@[simp] theorem State.add_pair (s : State) (r : Rg) (n i : Nat) : (s.add r n i).pair = s.pair := .trans (.refl _) rfl
@[simp] theorem State.add_cal (s : State) (r : Rg) (n i : Nat) : (s.add r n i).cal = s.cal := .trans (.refl _) rfl
@[simp] theorem State.add_rst (s : State) (r : Rg) (n i : Nat) : (s.add r n i).rst = s.rst := .trans (.refl _) rfl
@[simp] theorem State.add_fuse (s : State) (r : Rg) (n i : Nat) : (s.add r n i).fuse = s.fuse := .trans (.refl _) rfl
@[simp] theorem State.add_mgmt (s : State) (r : Rg) (n i : Nat) : (s.add r n i).mgmt = s.mgmt := .trans (.refl _) rfl
@[simp] theorem State.add_dev (s : State) (r : Rg) (n i : Nat) : (s.add r n i).dev = s.dev := .trans (.refl _) rfl
@[simp] theorem State.add_holdoff (s : State) (r : Rg) (n i : Nat) : (s.add r n i).holdoff = s.holdoff := .trans (.refl _) rfl
@[simp] theorem State.add_pins (s : State) (r : Rg) (n i : Nat) : (s.add r n i).pins = s.pins := .trans (.refl _) rfl
@[simp] theorem State.add_free (s : State) (r : Rg) (n i : Nat) : (s.add r n i).free = s.free := .trans (.refl _) rfl

@[simp] theorem State.inc_pending (s : State) (r : Rg) (i : Nat) : (s.inc r i).pending = s.pending := .trans (.refl _) rfl
@[simp] theorem State.inc_chans (s : State) (r : Rg) (i : Nat) : (s.inc r i).chans = s.chans := .trans (.refl _) rfl
@[simp] theorem State.inc_outs (s : State) (r : Rg) (i : Nat) : (s.inc r i).outs = s.outs := .trans (.refl _) rfl
@[simp] theorem State.inc_pps (s : State) (r : Rg) (i : Nat) : (s.inc r i).pps = s.pps := .trans (.refl _) rfl
@[simp] theorem State.inc_refs (s : State) (r : Rg) (i : Nat) : (s.inc r i).refs = s.refs := .trans (.refl _) rfl
@[simp] theorem State.inc_msyn (s : State) (r : Rg) (i : Nat) : (s.inc r i).msyn = s.msyn := .trans (.refl _) rfl
@[simp] theorem State.inc_posts (s : State) (r : Rg) (i : Nat) : (s.inc r i).posts = s.posts := .trans (.refl _) rfl
@[simp] theorem State.inc_dmem (s : State) (r : Rg) (i : Nat) : (s.inc r i).dmem = s.dmem := .trans (.refl _) rfl
@[simp] theorem State.inc_twl (s : State) (r : Rg) (i : Nat) : (s.inc r i).twl = s.twl := .trans (.refl _) rfl
@[simp] theorem State.inc_intake (s : State) (r : Rg) (i : Nat) : (s.inc r i).intake = s.intake := .trans (.refl _) rfl
@[simp] theorem State.inc_pair (s : State) (r : Rg) (i : Nat) : (s.inc r i).pair = s.pair := .trans (.refl _) rfl
@[simp] theorem State.inc_cal (s : State) (r : Rg) (i : Nat) : (s.inc r i).cal = s.cal := .trans (.refl _) rfl
@[simp] theorem State.inc_rst (s : State) (r : Rg) (i : Nat) : (s.inc r i).rst = s.rst := .trans (.refl _) rfl
@[simp] theorem State.inc_fuse (s : State) (r : Rg) (i : Nat) : (s.inc r i).fuse = s.fuse := .trans (.refl _) rfl
@[simp] theorem State.inc_mgmt (s : State) (r : Rg) (i : Nat) : (s.inc r i).mgmt = s.mgmt := .trans (.refl _) rfl
@[simp] theorem State.inc_dev (s : State) (r : Rg) (i : Nat) : (s.inc r i).dev = s.dev := .trans (.refl _) rfl
@[simp] theorem State.inc_holdoff (s : State) (r : Rg) (i : Nat) : (s.inc r i).holdoff = s.holdoff := .trans (.refl _) rfl
@[simp] theorem State.inc_pins (s : State) (r : Rg) (i : Nat) : (s.inc r i).pins = s.pins := .trans (.refl _) rfl
@[simp] theorem State.inc_free (s : State) (r : Rg) (i : Nat) : (s.inc r i).free = s.free := .trans (.refl _) rfl

@[simp] theorem State.setChan_pending (s : State) (c : Nat) (x : Chan) : (s.setChan c x).pending = s.pending := .trans (.refl _) rfl
@[simp] theorem State.setChan_regs (s : State) (c : Nat) (x : Chan) : (s.setChan c x).regs = s.regs := .trans (.refl _) rfl
@[simp] theorem State.setChan_outs (s : State) (c : Nat) (x : Chan) : (s.setChan c x).outs = s.outs := .trans (.refl _) rfl
@[simp] theorem State.setChan_pps (s : State) (c : Nat) (x : Chan) : (s.setChan c x).pps = s.pps := .trans (.refl _) rfl
@[simp] theorem State.setChan_refs (s : State) (c : Nat) (x : Chan) : (s.setChan c x).refs = s.refs := .trans (.refl _) rfl
@[simp] theorem State.setChan_msyn (s : State) (c : Nat) (x : Chan) : (s.setChan c x).msyn = s.msyn := .trans (.refl _) rfl
@[simp] theorem State.setChan_posts (s : State) (c : Nat) (x : Chan) : (s.setChan c x).posts = s.posts := .trans (.refl _) rfl
@[simp] theorem State.setChan_dmem (s : State) (c : Nat) (x : Chan) : (s.setChan c x).dmem = s.dmem := .trans (.refl _) rfl
@[simp] theorem State.setChan_twl (s : State) (c : Nat) (x : Chan) : (s.setChan c x).twl = s.twl := .trans (.refl _) rfl
@[simp] theorem State.setChan_intake (s : State) (c : Nat) (x : Chan) : (s.setChan c x).intake = s.intake := .trans (.refl _) rfl
@[simp] theorem State.setChan_pair (s : State) (c : Nat) (x : Chan) : (s.setChan c x).pair = s.pair := .trans (.refl _) rfl
@[simp] theorem State.setChan_cal (s : State) (c : Nat) (x : Chan) : (s.setChan c x).cal = s.cal := .trans (.refl _) rfl
@[simp] theorem State.setChan_rst (s : State) (c : Nat) (x : Chan) : (s.setChan c x).rst = s.rst := .trans (.refl _) rfl
@[simp] theorem State.setChan_fuse (s : State) (c : Nat) (x : Chan) : (s.setChan c x).fuse = s.fuse := .trans (.refl _) rfl
@[simp] theorem State.setChan_mgmt (s : State) (c : Nat) (x : Chan) : (s.setChan c x).mgmt = s.mgmt := .trans (.refl _) rfl
@[simp] theorem State.setChan_dev (s : State) (c : Nat) (x : Chan) : (s.setChan c x).dev = s.dev := .trans (.refl _) rfl
@[simp] theorem State.setChan_holdoff (s : State) (c : Nat) (x : Chan) : (s.setChan c x).holdoff = s.holdoff := .trans (.refl _) rfl
@[simp] theorem State.setChan_pins (s : State) (c : Nat) (x : Chan) : (s.setChan c x).pins = s.pins := .trans (.refl _) rfl
@[simp] theorem State.setChan_free (s : State) (c : Nat) (x : Chan) : (s.setChan c x).free = s.free := .trans (.refl _) rfl

@[simp] theorem State.setOut_pending (s : State) (n : Nat) (x : Pin) : (s.setOut n x).pending = s.pending := .trans (.refl _) rfl
@[simp] theorem State.setOut_regs (s : State) (n : Nat) (x : Pin) : (s.setOut n x).regs = s.regs := .trans (.refl _) rfl
@[simp] theorem State.setOut_chans (s : State) (n : Nat) (x : Pin) : (s.setOut n x).chans = s.chans := .trans (.refl _) rfl
@[simp] theorem State.setOut_pps (s : State) (n : Nat) (x : Pin) : (s.setOut n x).pps = s.pps := .trans (.refl _) rfl
@[simp] theorem State.setOut_refs (s : State) (n : Nat) (x : Pin) : (s.setOut n x).refs = s.refs := .trans (.refl _) rfl
@[simp] theorem State.setOut_msyn (s : State) (n : Nat) (x : Pin) : (s.setOut n x).msyn = s.msyn := .trans (.refl _) rfl
@[simp] theorem State.setOut_posts (s : State) (n : Nat) (x : Pin) : (s.setOut n x).posts = s.posts := .trans (.refl _) rfl
@[simp] theorem State.setOut_dmem (s : State) (n : Nat) (x : Pin) : (s.setOut n x).dmem = s.dmem := .trans (.refl _) rfl
@[simp] theorem State.setOut_twl (s : State) (n : Nat) (x : Pin) : (s.setOut n x).twl = s.twl := .trans (.refl _) rfl
@[simp] theorem State.setOut_intake (s : State) (n : Nat) (x : Pin) : (s.setOut n x).intake = s.intake := .trans (.refl _) rfl
@[simp] theorem State.setOut_pair (s : State) (n : Nat) (x : Pin) : (s.setOut n x).pair = s.pair := .trans (.refl _) rfl
@[simp] theorem State.setOut_cal (s : State) (n : Nat) (x : Pin) : (s.setOut n x).cal = s.cal := .trans (.refl _) rfl
@[simp] theorem State.setOut_rst (s : State) (n : Nat) (x : Pin) : (s.setOut n x).rst = s.rst := .trans (.refl _) rfl
@[simp] theorem State.setOut_fuse (s : State) (n : Nat) (x : Pin) : (s.setOut n x).fuse = s.fuse := .trans (.refl _) rfl
@[simp] theorem State.setOut_mgmt (s : State) (n : Nat) (x : Pin) : (s.setOut n x).mgmt = s.mgmt := .trans (.refl _) rfl
@[simp] theorem State.setOut_dev (s : State) (n : Nat) (x : Pin) : (s.setOut n x).dev = s.dev := .trans (.refl _) rfl
@[simp] theorem State.setOut_holdoff (s : State) (n : Nat) (x : Pin) : (s.setOut n x).holdoff = s.holdoff := .trans (.refl _) rfl
@[simp] theorem State.setOut_pins (s : State) (n : Nat) (x : Pin) : (s.setOut n x).pins = s.pins := .trans (.refl _) rfl
@[simp] theorem State.setOut_free (s : State) (n : Nat) (x : Pin) : (s.setOut n x).free = s.free := .trans (.refl _) rfl

@[simp] theorem State.setPps_pending (s : State) (m : Nat) (x : Pin) : (s.setPps m x).pending = s.pending := .trans (.refl _) rfl
@[simp] theorem State.setPps_regs (s : State) (m : Nat) (x : Pin) : (s.setPps m x).regs = s.regs := .trans (.refl _) rfl
@[simp] theorem State.setPps_chans (s : State) (m : Nat) (x : Pin) : (s.setPps m x).chans = s.chans := .trans (.refl _) rfl
@[simp] theorem State.setPps_outs (s : State) (m : Nat) (x : Pin) : (s.setPps m x).outs = s.outs := .trans (.refl _) rfl
@[simp] theorem State.setPps_refs (s : State) (m : Nat) (x : Pin) : (s.setPps m x).refs = s.refs := .trans (.refl _) rfl
@[simp] theorem State.setPps_msyn (s : State) (m : Nat) (x : Pin) : (s.setPps m x).msyn = s.msyn := .trans (.refl _) rfl
@[simp] theorem State.setPps_posts (s : State) (m : Nat) (x : Pin) : (s.setPps m x).posts = s.posts := .trans (.refl _) rfl
@[simp] theorem State.setPps_dmem (s : State) (m : Nat) (x : Pin) : (s.setPps m x).dmem = s.dmem := .trans (.refl _) rfl
@[simp] theorem State.setPps_twl (s : State) (m : Nat) (x : Pin) : (s.setPps m x).twl = s.twl := .trans (.refl _) rfl
@[simp] theorem State.setPps_intake (s : State) (m : Nat) (x : Pin) : (s.setPps m x).intake = s.intake := .trans (.refl _) rfl
@[simp] theorem State.setPps_pair (s : State) (m : Nat) (x : Pin) : (s.setPps m x).pair = s.pair := .trans (.refl _) rfl
@[simp] theorem State.setPps_cal (s : State) (m : Nat) (x : Pin) : (s.setPps m x).cal = s.cal := .trans (.refl _) rfl
@[simp] theorem State.setPps_rst (s : State) (m : Nat) (x : Pin) : (s.setPps m x).rst = s.rst := .trans (.refl _) rfl
@[simp] theorem State.setPps_fuse (s : State) (m : Nat) (x : Pin) : (s.setPps m x).fuse = s.fuse := .trans (.refl _) rfl
@[simp] theorem State.setPps_mgmt (s : State) (m : Nat) (x : Pin) : (s.setPps m x).mgmt = s.mgmt := .trans (.refl _) rfl
@[simp] theorem State.setPps_dev (s : State) (m : Nat) (x : Pin) : (s.setPps m x).dev = s.dev := .trans (.refl _) rfl
@[simp] theorem State.setPps_holdoff (s : State) (m : Nat) (x : Pin) : (s.setPps m x).holdoff = s.holdoff := .trans (.refl _) rfl
@[simp] theorem State.setPps_pins (s : State) (m : Nat) (x : Pin) : (s.setPps m x).pins = s.pins := .trans (.refl _) rfl
@[simp] theorem State.setPps_free (s : State) (m : Nat) (x : Pin) : (s.setPps m x).free = s.free := .trans (.refl _) rfl

@[simp] theorem State.setRefin_pending (s : State) (i : Nat) (x : RefIn) : (s.setRefin i x).pending = s.pending := .trans (.refl _) rfl
@[simp] theorem State.setRefin_regs (s : State) (i : Nat) (x : RefIn) : (s.setRefin i x).regs = s.regs := .trans (.refl _) rfl
@[simp] theorem State.setRefin_chans (s : State) (i : Nat) (x : RefIn) : (s.setRefin i x).chans = s.chans := .trans (.refl _) rfl
@[simp] theorem State.setRefin_outs (s : State) (i : Nat) (x : RefIn) : (s.setRefin i x).outs = s.outs := .trans (.refl _) rfl
@[simp] theorem State.setRefin_pps (s : State) (i : Nat) (x : RefIn) : (s.setRefin i x).pps = s.pps := .trans (.refl _) rfl
@[simp] theorem State.setRefin_msyn (s : State) (i : Nat) (x : RefIn) : (s.setRefin i x).msyn = s.msyn := .trans (.refl _) rfl
@[simp] theorem State.setRefin_posts (s : State) (i : Nat) (x : RefIn) : (s.setRefin i x).posts = s.posts := .trans (.refl _) rfl
@[simp] theorem State.setRefin_dmem (s : State) (i : Nat) (x : RefIn) : (s.setRefin i x).dmem = s.dmem := .trans (.refl _) rfl
@[simp] theorem State.setRefin_twl (s : State) (i : Nat) (x : RefIn) : (s.setRefin i x).twl = s.twl := .trans (.refl _) rfl
@[simp] theorem State.setRefin_intake (s : State) (i : Nat) (x : RefIn) : (s.setRefin i x).intake = s.intake := .trans (.refl _) rfl
@[simp] theorem State.setRefin_pair (s : State) (i : Nat) (x : RefIn) : (s.setRefin i x).pair = s.pair := .trans (.refl _) rfl
@[simp] theorem State.setRefin_cal (s : State) (i : Nat) (x : RefIn) : (s.setRefin i x).cal = s.cal := .trans (.refl _) rfl
@[simp] theorem State.setRefin_rst (s : State) (i : Nat) (x : RefIn) : (s.setRefin i x).rst = s.rst := .trans (.refl _) rfl
@[simp] theorem State.setRefin_fuse (s : State) (i : Nat) (x : RefIn) : (s.setRefin i x).fuse = s.fuse := .trans (.refl _) rfl
@[simp] theorem State.setRefin_mgmt (s : State) (i : Nat) (x : RefIn) : (s.setRefin i x).mgmt = s.mgmt := .trans (.refl _) rfl
@[simp] theorem State.setRefin_dev (s : State) (i : Nat) (x : RefIn) : (s.setRefin i x).dev = s.dev := .trans (.refl _) rfl
@[simp] theorem State.setRefin_holdoff (s : State) (i : Nat) (x : RefIn) : (s.setRefin i x).holdoff = s.holdoff := .trans (.refl _) rfl
@[simp] theorem State.setRefin_pins (s : State) (i : Nat) (x : RefIn) : (s.setRefin i x).pins = s.pins := .trans (.refl _) rfl
@[simp] theorem State.setRefin_free (s : State) (i : Nat) (x : RefIn) : (s.setRefin i x).free = s.free := .trans (.refl _) rfl

@[simp] theorem State.settle_pending (s : State) : (s.settle).pending = s.pending := .trans (.refl _) rfl
@[simp] theorem State.settle_regs (s : State) : (s.settle).regs = s.regs := .trans (.refl _) rfl
@[simp] theorem State.settle_chans (s : State) : (s.settle).chans = s.chans := .trans (.refl _) rfl
@[simp] theorem State.settle_outs (s : State) : (s.settle).outs = s.outs := .trans (.refl _) rfl
@[simp] theorem State.settle_pps (s : State) : (s.settle).pps = s.pps := .trans (.refl _) rfl
@[simp] theorem State.settle_refs (s : State) : (s.settle).refs = s.refs := .trans (.refl _) rfl
@[simp] theorem State.settle_msyn (s : State) : (s.settle).msyn = s.msyn := .trans (.refl _) rfl
@[simp] theorem State.settle_posts (s : State) : (s.settle).posts = s.posts := .trans (.refl _) rfl
@[simp] theorem State.settle_dmem (s : State) : (s.settle).dmem = s.dmem := .trans (.refl _) rfl
@[simp] theorem State.settle_twl (s : State) : (s.settle).twl = s.twl := .trans (.refl _) rfl
@[simp] theorem State.settle_intake (s : State) : (s.settle).intake = s.intake := .trans (.refl _) rfl
@[simp] theorem State.settle_pair (s : State) : (s.settle).pair = s.pair := .trans (.refl _) rfl
@[simp] theorem State.settle_cal (s : State) : (s.settle).cal = s.cal := .trans (.refl _) rfl
@[simp] theorem State.settle_rst (s : State) : (s.settle).rst = s.rst := .trans (.refl _) rfl
@[simp] theorem State.settle_fuse (s : State) : (s.settle).fuse = s.fuse := .trans (.refl _) rfl
@[simp] theorem State.settle_mgmt (s : State) : (s.settle).mgmt = s.mgmt := .trans (.refl _) rfl
@[simp] theorem State.settle_dev (s : State) : (s.settle).dev = s.dev := .trans (.refl _) rfl
@[simp] theorem State.settle_holdoff (s : State) : (s.settle).holdoff = s.holdoff := .trans (.refl _) rfl
@[simp] theorem State.settle_free (s : State) : (s.settle).free = s.free := .trans (.refl _) rfl

@[simp] theorem State.push_regs (i : Instr) (s : State) : (s.push i).regs = s.regs := .trans (.refl _) rfl
@[simp] theorem State.push_chans (i : Instr) (s : State) : (s.push i).chans = s.chans := .trans (.refl _) rfl
@[simp] theorem State.push_outs (i : Instr) (s : State) : (s.push i).outs = s.outs := .trans (.refl _) rfl
@[simp] theorem State.push_pps (i : Instr) (s : State) : (s.push i).pps = s.pps := .trans (.refl _) rfl
@[simp] theorem State.push_refs (i : Instr) (s : State) : (s.push i).refs = s.refs := .trans (.refl _) rfl
@[simp] theorem State.push_msyn (i : Instr) (s : State) : (s.push i).msyn = s.msyn := .trans (.refl _) rfl
@[simp] theorem State.push_posts (i : Instr) (s : State) : (s.push i).posts = s.posts := .trans (.refl _) rfl
@[simp] theorem State.push_dmem (i : Instr) (s : State) : (s.push i).dmem = s.dmem := .trans (.refl _) rfl
@[simp] theorem State.push_twl (i : Instr) (s : State) : (s.push i).twl = s.twl := .trans (.refl _) rfl
@[simp] theorem State.push_intake (i : Instr) (s : State) : (s.push i).intake = s.intake := .trans (.refl _) rfl
@[simp] theorem State.push_pair (i : Instr) (s : State) : (s.push i).pair = s.pair := .trans (.refl _) rfl
@[simp] theorem State.push_cal (i : Instr) (s : State) : (s.push i).cal = s.cal := .trans (.refl _) rfl
@[simp] theorem State.push_rst (i : Instr) (s : State) : (s.push i).rst = s.rst := .trans (.refl _) rfl
@[simp] theorem State.push_fuse (i : Instr) (s : State) : (s.push i).fuse = s.fuse := .trans (.refl _) rfl
@[simp] theorem State.push_mgmt (i : Instr) (s : State) : (s.push i).mgmt = s.mgmt := .trans (.refl _) rfl
@[simp] theorem State.push_dev (i : Instr) (s : State) : (s.push i).dev = s.dev := .trans (.refl _) rfl
@[simp] theorem State.push_holdoff (i : Instr) (s : State) : (s.push i).holdoff = s.holdoff := .trans (.refl _) rfl
@[simp] theorem State.push_pins (i : Instr) (s : State) : (s.push i).pins = s.pins := .trans (.refl _) rfl
@[simp] theorem State.push_free (i : Instr) (s : State) : (s.push i).free = s.free := .trans (.refl _) rfl

@[simp] theorem State.withQueue_regs (q : List Instr) (s : State) : (s.withQueue q).regs = s.regs := .trans (.refl _) rfl
@[simp] theorem State.withQueue_chans (q : List Instr) (s : State) : (s.withQueue q).chans = s.chans := .trans (.refl _) rfl
@[simp] theorem State.withQueue_outs (q : List Instr) (s : State) : (s.withQueue q).outs = s.outs := .trans (.refl _) rfl
@[simp] theorem State.withQueue_pps (q : List Instr) (s : State) : (s.withQueue q).pps = s.pps := .trans (.refl _) rfl
@[simp] theorem State.withQueue_refs (q : List Instr) (s : State) : (s.withQueue q).refs = s.refs := .trans (.refl _) rfl
@[simp] theorem State.withQueue_msyn (q : List Instr) (s : State) : (s.withQueue q).msyn = s.msyn := .trans (.refl _) rfl
@[simp] theorem State.withQueue_posts (q : List Instr) (s : State) : (s.withQueue q).posts = s.posts := .trans (.refl _) rfl
@[simp] theorem State.withQueue_dmem (q : List Instr) (s : State) : (s.withQueue q).dmem = s.dmem := .trans (.refl _) rfl
@[simp] theorem State.withQueue_twl (q : List Instr) (s : State) : (s.withQueue q).twl = s.twl := .trans (.refl _) rfl
@[simp] theorem State.withQueue_intake (q : List Instr) (s : State) : (s.withQueue q).intake = s.intake := .trans (.refl _) rfl
@[simp] theorem State.withQueue_pair (q : List Instr) (s : State) : (s.withQueue q).pair = s.pair := .trans (.refl _) rfl
@[simp] theorem State.withQueue_cal (q : List Instr) (s : State) : (s.withQueue q).cal = s.cal := .trans (.refl _) rfl
@[simp] theorem State.withQueue_rst (q : List Instr) (s : State) : (s.withQueue q).rst = s.rst := .trans (.refl _) rfl
@[simp] theorem State.withQueue_fuse (q : List Instr) (s : State) : (s.withQueue q).fuse = s.fuse := .trans (.refl _) rfl
@[simp] theorem State.withQueue_mgmt (q : List Instr) (s : State) : (s.withQueue q).mgmt = s.mgmt := .trans (.refl _) rfl
@[simp] theorem State.withQueue_dev (q : List Instr) (s : State) : (s.withQueue q).dev = s.dev := .trans (.refl _) rfl
@[simp] theorem State.withQueue_holdoff (q : List Instr) (s : State) : (s.withQueue q).holdoff = s.holdoff := .trans (.refl _) rfl
@[simp] theorem State.withQueue_pins (q : List Instr) (s : State) : (s.withQueue q).pins = s.pins := .trans (.refl _) rfl
@[simp] theorem State.withQueue_free (q : List Instr) (s : State) : (s.withQueue q).free = s.free := .trans (.refl _) rfl

@[simp] theorem State.wr_chan_of (s : State) (r : Rg) (i : Nat) (w : Word) (c : Nat) : (s.wr r i w).chan c = s.chan c := .trans (.refl _) rfl
@[simp] theorem State.wr_out_of (s : State) (r : Rg) (i : Nat) (w : Word) (n : Nat) : (s.wr r i w).out n = s.out n := .trans (.refl _) rfl
@[simp] theorem State.wr_ppsPin_of (s : State) (r : Rg) (i : Nat) (w : Word) (m : Nat) : (s.wr r i w).ppsPin m = s.ppsPin m := .trans (.refl _) rfl
@[simp] theorem State.wr_refin_of (s : State) (r : Rg) (i : Nat) (w : Word) (i' : Nat) : (s.wr r i w).refin i' = s.refin i' := .trans (.refl _) rfl

@[simp] theorem State.set_chan_of (s : State) (f : Fld) (v i : Nat) (c : Nat) : (s.set f v i).chan c = s.chan c := .trans (.refl _) rfl
@[simp] theorem State.set_out_of (s : State) (f : Fld) (v i : Nat) (n : Nat) : (s.set f v i).out n = s.out n := .trans (.refl _) rfl
@[simp] theorem State.set_ppsPin_of (s : State) (f : Fld) (v i : Nat) (m : Nat) : (s.set f v i).ppsPin m = s.ppsPin m := .trans (.refl _) rfl
@[simp] theorem State.set_refin_of (s : State) (f : Fld) (v i : Nat) (i' : Nat) : (s.set f v i).refin i' = s.refin i' := .trans (.refl _) rfl

@[simp] theorem State.setB_chan_of (s : State) (f : Fld) (b : Bool) (i : Nat) (c : Nat) : (s.setB f b i).chan c = s.chan c := .trans (.refl _) rfl
@[simp] theorem State.setB_out_of (s : State) (f : Fld) (b : Bool) (i : Nat) (n : Nat) : (s.setB f b i).out n = s.out n := .trans (.refl _) rfl
@[simp] theorem State.setB_ppsPin_of (s : State) (f : Fld) (b : Bool) (i : Nat) (m : Nat) : (s.setB f b i).ppsPin m = s.ppsPin m := .trans (.refl _) rfl
@[simp] theorem State.setB_refin_of (s : State) (f : Fld) (b : Bool) (i : Nat) (i' : Nat) : (s.setB f b i).refin i' = s.refin i' := .trans (.refl _) rfl

@[simp] theorem State.setBit_chan_of (s : State) (f : Fld) (k : Nat) (b : Bool) (i : Nat) (c : Nat) : (s.setBit f k b i).chan c = s.chan c := .trans (.refl _) rfl
@[simp] theorem State.setBit_out_of (s : State) (f : Fld) (k : Nat) (b : Bool) (i : Nat) (n : Nat) : (s.setBit f k b i).out n = s.out n := .trans (.refl _) rfl
@[simp] theorem State.setBit_ppsPin_of (s : State) (f : Fld) (k : Nat) (b : Bool) (i : Nat) (m : Nat) : (s.setBit f k b i).ppsPin m = s.ppsPin m := .trans (.refl _) rfl
@[simp] theorem State.setBit_refin_of (s : State) (f : Fld) (k : Nat) (b : Bool) (i : Nat) (i' : Nat) : (s.setBit f k b i).refin i' = s.refin i' := .trans (.refl _) rfl

@[simp] theorem State.add_chan_of (s : State) (r : Rg) (n i : Nat) (c : Nat) : (s.add r n i).chan c = s.chan c := .trans (.refl _) rfl
@[simp] theorem State.add_out_of (s : State) (r : Rg) (n i : Nat) (n' : Nat) : (s.add r n i).out n' = s.out n' := .trans (.refl _) rfl
@[simp] theorem State.add_ppsPin_of (s : State) (r : Rg) (n i : Nat) (m : Nat) : (s.add r n i).ppsPin m = s.ppsPin m := .trans (.refl _) rfl
@[simp] theorem State.add_refin_of (s : State) (r : Rg) (n i : Nat) (i' : Nat) : (s.add r n i).refin i' = s.refin i' := .trans (.refl _) rfl

@[simp] theorem State.inc_chan_of (s : State) (r : Rg) (i : Nat) (c : Nat) : (s.inc r i).chan c = s.chan c := .trans (.refl _) rfl
@[simp] theorem State.inc_out_of (s : State) (r : Rg) (i : Nat) (n : Nat) : (s.inc r i).out n = s.out n := .trans (.refl _) rfl
@[simp] theorem State.inc_ppsPin_of (s : State) (r : Rg) (i : Nat) (m : Nat) : (s.inc r i).ppsPin m = s.ppsPin m := .trans (.refl _) rfl
@[simp] theorem State.inc_refin_of (s : State) (r : Rg) (i : Nat) (i' : Nat) : (s.inc r i).refin i' = s.refin i' := .trans (.refl _) rfl

@[simp] theorem State.setChan_rd_of (s : State) (c : Nat) (x : Chan) (r : Rg) (i : Nat) : (s.setChan c x).rd r i = s.rd r i := .trans (.refl _) rfl
@[simp] theorem State.setChan_get_of (s : State) (c : Nat) (x : Chan) (f : Fld) (j : Nat) : (s.setChan c x).get f j = s.get f j := .trans (.refl _) rfl
@[simp] theorem State.setChan_on_of (s : State) (c : Nat) (x : Chan) (f : Fld) (j : Nat) : (s.setChan c x).on f j = s.on f j := .trans (.refl _) rfl
@[simp] theorem State.setChan_out_of (s : State) (c : Nat) (x : Chan) (n : Nat) : (s.setChan c x).out n = s.out n := .trans (.refl _) rfl
@[simp] theorem State.setChan_ppsPin_of (s : State) (c : Nat) (x : Chan) (m : Nat) : (s.setChan c x).ppsPin m = s.ppsPin m := .trans (.refl _) rfl
@[simp] theorem State.setChan_refin_of (s : State) (c : Nat) (x : Chan) (i : Nat) : (s.setChan c x).refin i = s.refin i := .trans (.refl _) rfl

@[simp] theorem State.setOut_rd_of (s : State) (n : Nat) (x : Pin) (r : Rg) (i : Nat) : (s.setOut n x).rd r i = s.rd r i := .trans (.refl _) rfl
@[simp] theorem State.setOut_get_of (s : State) (n : Nat) (x : Pin) (f : Fld) (j : Nat) : (s.setOut n x).get f j = s.get f j := .trans (.refl _) rfl
@[simp] theorem State.setOut_on_of (s : State) (n : Nat) (x : Pin) (f : Fld) (j : Nat) : (s.setOut n x).on f j = s.on f j := .trans (.refl _) rfl
@[simp] theorem State.setOut_chan_of (s : State) (n : Nat) (x : Pin) (c : Nat) : (s.setOut n x).chan c = s.chan c := .trans (.refl _) rfl
@[simp] theorem State.setOut_ppsPin_of (s : State) (n : Nat) (x : Pin) (m : Nat) : (s.setOut n x).ppsPin m = s.ppsPin m := .trans (.refl _) rfl
@[simp] theorem State.setOut_refin_of (s : State) (n : Nat) (x : Pin) (i : Nat) : (s.setOut n x).refin i = s.refin i := .trans (.refl _) rfl

@[simp] theorem State.setPps_rd_of (s : State) (m : Nat) (x : Pin) (r : Rg) (i : Nat) : (s.setPps m x).rd r i = s.rd r i := .trans (.refl _) rfl
@[simp] theorem State.setPps_get_of (s : State) (m : Nat) (x : Pin) (f : Fld) (j : Nat) : (s.setPps m x).get f j = s.get f j := .trans (.refl _) rfl
@[simp] theorem State.setPps_on_of (s : State) (m : Nat) (x : Pin) (f : Fld) (j : Nat) : (s.setPps m x).on f j = s.on f j := .trans (.refl _) rfl
@[simp] theorem State.setPps_chan_of (s : State) (m : Nat) (x : Pin) (c : Nat) : (s.setPps m x).chan c = s.chan c := .trans (.refl _) rfl
@[simp] theorem State.setPps_out_of (s : State) (m : Nat) (x : Pin) (n : Nat) : (s.setPps m x).out n = s.out n := .trans (.refl _) rfl
@[simp] theorem State.setPps_refin_of (s : State) (m : Nat) (x : Pin) (i : Nat) : (s.setPps m x).refin i = s.refin i := .trans (.refl _) rfl

@[simp] theorem State.setRefin_rd_of (s : State) (i : Nat) (x : RefIn) (r : Rg) (i' : Nat) : (s.setRefin i x).rd r i' = s.rd r i' := .trans (.refl _) rfl
@[simp] theorem State.setRefin_get_of (s : State) (i : Nat) (x : RefIn) (f : Fld) (j : Nat) : (s.setRefin i x).get f j = s.get f j := .trans (.refl _) rfl
@[simp] theorem State.setRefin_on_of (s : State) (i : Nat) (x : RefIn) (f : Fld) (j : Nat) : (s.setRefin i x).on f j = s.on f j := .trans (.refl _) rfl
@[simp] theorem State.setRefin_chan_of (s : State) (i : Nat) (x : RefIn) (c : Nat) : (s.setRefin i x).chan c = s.chan c := .trans (.refl _) rfl
@[simp] theorem State.setRefin_out_of (s : State) (i : Nat) (x : RefIn) (n : Nat) : (s.setRefin i x).out n = s.out n := .trans (.refl _) rfl
@[simp] theorem State.setRefin_ppsPin_of (s : State) (i : Nat) (x : RefIn) (m : Nat) : (s.setRefin i x).ppsPin m = s.ppsPin m := .trans (.refl _) rfl

@[simp] theorem State.settle_rd_of (s : State) (r : Rg) (i : Nat) : (s.settle).rd r i = s.rd r i := .trans (.refl _) rfl
@[simp] theorem State.settle_get_of (s : State) (f : Fld) (j : Nat) : (s.settle).get f j = s.get f j := .trans (.refl _) rfl
@[simp] theorem State.settle_on_of (s : State) (f : Fld) (j : Nat) : (s.settle).on f j = s.on f j := .trans (.refl _) rfl
@[simp] theorem State.settle_chan_of (s : State) (c : Nat) : (s.settle).chan c = s.chan c := .trans (.refl _) rfl
@[simp] theorem State.settle_out_of (s : State) (n : Nat) : (s.settle).out n = s.out n := .trans (.refl _) rfl
@[simp] theorem State.settle_ppsPin_of (s : State) (m : Nat) : (s.settle).ppsPin m = s.ppsPin m := .trans (.refl _) rfl
@[simp] theorem State.settle_refin_of (s : State) (i : Nat) : (s.settle).refin i = s.refin i := .trans (.refl _) rfl

@[simp] theorem State.push_rd_of (i : Instr) (s : State) (r : Rg) (i' : Nat) : (s.push i).rd r i' = s.rd r i' := .trans (.refl _) rfl
@[simp] theorem State.push_get_of (i : Instr) (s : State) (f : Fld) (j : Nat) : (s.push i).get f j = s.get f j := .trans (.refl _) rfl
@[simp] theorem State.push_on_of (i : Instr) (s : State) (f : Fld) (j : Nat) : (s.push i).on f j = s.on f j := .trans (.refl _) rfl
@[simp] theorem State.push_chan_of (i : Instr) (s : State) (c : Nat) : (s.push i).chan c = s.chan c := .trans (.refl _) rfl
@[simp] theorem State.push_out_of (i : Instr) (s : State) (n : Nat) : (s.push i).out n = s.out n := .trans (.refl _) rfl
@[simp] theorem State.push_ppsPin_of (i : Instr) (s : State) (m : Nat) : (s.push i).ppsPin m = s.ppsPin m := .trans (.refl _) rfl
@[simp] theorem State.push_refin_of (i : Instr) (s : State) (i' : Nat) : (s.push i).refin i' = s.refin i' := .trans (.refl _) rfl

@[simp] theorem State.withQueue_rd_of (q : List Instr) (s : State) (r : Rg) (i : Nat) : (s.withQueue q).rd r i = s.rd r i := .trans (.refl _) rfl
@[simp] theorem State.withQueue_get_of (q : List Instr) (s : State) (f : Fld) (j : Nat) : (s.withQueue q).get f j = s.get f j := .trans (.refl _) rfl
@[simp] theorem State.withQueue_on_of (q : List Instr) (s : State) (f : Fld) (j : Nat) : (s.withQueue q).on f j = s.on f j := .trans (.refl _) rfl
@[simp] theorem State.withQueue_chan_of (q : List Instr) (s : State) (c : Nat) : (s.withQueue q).chan c = s.chan c := .trans (.refl _) rfl
@[simp] theorem State.withQueue_out_of (q : List Instr) (s : State) (n : Nat) : (s.withQueue q).out n = s.out n := .trans (.refl _) rfl
@[simp] theorem State.withQueue_ppsPin_of (q : List Instr) (s : State) (m : Nat) : (s.withQueue q).ppsPin m = s.ppsPin m := .trans (.refl _) rfl
@[simp] theorem State.withQueue_refin_of (q : List Instr) (s : State) (i : Nat) : (s.withQueue q).refin i = s.refin i := .trans (.refl _) rfl

@[simp] theorem State.settle_mode (s : State) : (s.settle).mode = s.mode := .trans (.refl _) rfl
@[simp] theorem State.settle_pinsOf (s : State) : (s.settle).pinsOf = s.pinsOf := .trans (.refl _) rfl
@[simp] theorem State.push_mode (i : Instr) (s : State) : (s.push i).mode = s.mode := .trans (.refl _) rfl
@[simp] theorem State.push_pinsOf (i : Instr) (s : State) : (s.push i).pinsOf = s.pinsOf := .trans (.refl _) rfl
@[simp] theorem State.withQueue_mode (q : List Instr) (s : State) : (s.withQueue q).mode = s.mode := .trans (.refl _) rfl
@[simp] theorem State.withQueue_pinsOf (q : List Instr) (s : State) : (s.withQueue q).pinsOf = s.pinsOf := .trans (.refl _) rfl
@[simp] theorem State.setChan_mode (s : State) (c : Nat) (x : Chan) : (s.setChan c x).mode = s.mode := .trans (.refl _) rfl
@[simp] theorem State.setOut_mode (s : State) (n : Nat) (x : Pin) : (s.setOut n x).mode = s.mode := .trans (.refl _) rfl
@[simp] theorem State.setPps_mode (s : State) (m : Nat) (x : Pin) : (s.setPps m x).mode = s.mode := .trans (.refl _) rfl
@[simp] theorem State.setRefin_mode (s : State) (i : Nat) (x : RefIn) : (s.setRefin i x).mode = s.mode := .trans (.refl _) rfl

/-! A record update leaves the reads of the parts it does not name. -/

@[simp] theorem State.mk_rd (s : State) (q : List Instr) (ch os ps rf ms po dm tw it pr ca rs fu mg dv ho pi fr) (r : Rg) (i : Nat) :
    (State.mk q s.regs ch os ps rf ms po dm tw it pr ca rs fu mg dv ho pi fr).rd r i = s.rd r i := .trans (.refl _) rfl
@[simp] theorem State.mk_get (s : State) (q : List Instr) (ch os ps rf ms po dm tw it pr ca rs fu mg dv ho pi fr) (f : Fld) (i : Nat) :
    (State.mk q s.regs ch os ps rf ms po dm tw it pr ca rs fu mg dv ho pi fr).get f i = s.get f i := .trans (.refl _) rfl
@[simp] theorem State.mk_on (s : State) (q : List Instr) (ch os ps rf ms po dm tw it pr ca rs fu mg dv ho pi fr) (f : Fld) (i : Nat) :
    (State.mk q s.regs ch os ps rf ms po dm tw it pr ca rs fu mg dv ho pi fr).on f i = s.on f i := .trans (.refl _) rfl
@[simp] theorem State.mk_mode (s : State) (q : List Instr) (ch os ps rf ms po dm tw it pr ca rs fu mg dv ho pi fr) :
    (State.mk q s.regs ch os ps rf ms po dm tw it pr ca rs fu mg dv ho pi fr).mode = s.mode := .trans (.refl _) rfl
@[simp] theorem State.mk_chan (s : State) (q : List Instr) (rg os ps rf ms po dm tw it pr ca rs fu mg dv ho pi fr) (c : Nat) :
    (State.mk q rg s.chans os ps rf ms po dm tw it pr ca rs fu mg dv ho pi fr).chan c = s.chan c := .trans (.refl _) rfl
@[simp] theorem State.mk_out (s : State) (q : List Instr) (rg ch ps rf ms po dm tw it pr ca rs fu mg dv ho pi fr) (n : Nat) :
    (State.mk q rg ch s.outs ps rf ms po dm tw it pr ca rs fu mg dv ho pi fr).out n = s.out n := .trans (.refl _) rfl
@[simp] theorem State.mk_ppsPin (s : State) (q : List Instr) (rg ch os rf ms po dm tw it pr ca rs fu mg dv ho pi fr) (m : Nat) :
    (State.mk q rg ch os s.pps rf ms po dm tw it pr ca rs fu mg dv ho pi fr).ppsPin m = s.ppsPin m := .trans (.refl _) rfl
@[simp] theorem State.mk_refin (s : State) (q : List Instr) (rg ch os ps ms po dm tw it pr ca rs fu mg dv ho pi fr) (i : Nat) :
    (State.mk q rg ch os ps s.refs ms po dm tw it pr ca rs fu mg dv ho pi fr).refin i = s.refin i := .trans (.refl _) rfl

end Sys2Proof.Machine
end

