-- ==== Sys2Proof/Laws/Ops.lean ====
section
/-! SUPPORT. What the shared operations do, once each: words, fields, counters, the event log, the mode, completion of a command. -/

namespace Sys2Proof.Machine

/-! ### Words -/

@[simp] theorem State.rd_wr_same (s : State) (r : Rg) (i : Nat) (w : Word) : (s.wr r i w).rd r i = w := by
  simp [State.rd, State.wr]

theorem State.rd_wr_ne (s : State) {r q : Rg} {i j : Nat} (w : Word) (h : r.key i ≠ q.key j) :
    (s.wr r i w).rd q j = s.rd q j := by
  simp [State.rd, State.wr, Tab.get_set_ne _ _ _ h]

/-! ### Fields -/

/-- A field lies inside a word. -/
def Fld.ok (f : Fld) : Bool := decide (f.lo ≤ f.hi) && decide (f.hi < 32)

/-- Two fields share no bit. -/
def Fld.apart (f g : Fld) : Bool := decide (f.hi < g.lo) || decide (g.hi < f.lo)

theorem Fld.of_lt (f : Fld) (w : Word) : f.of w < 2 ^ (f.hi - f.lo + 1) := Nat.mod_lt _ (by positivity)

theorem Fld.toNat_put (f : Fld) (w : Word) (v : Nat) (h : f.ok = true) :
    (f.put w v).toNat = w.toNat - f.of w * 2 ^ f.lo + v % 2 ^ (f.hi - f.lo + 1) * 2 ^ f.lo := by
  simp only [Fld.ok, Bool.and_eq_true, decide_eq_true_eq] at h
  have hw : w.toNat < 2 ^ 32 := w.isLt
  have h1 : f.of w * 2 ^ f.lo ≤ w.toNat := by
    have : f.of w ≤ w.toNat / 2 ^ f.lo := Nat.mod_le _ _
    calc f.of w * 2 ^ f.lo ≤ w.toNat / 2 ^ f.lo * 2 ^ f.lo := Nat.mul_le_mul_right _ this
      _ ≤ w.toNat := Nat.div_mul_le_self _ _
  -- the word splits into the part above the field, the field, the part below
  have hsplit : w.toNat = w.toNat / 2 ^ (f.hi + 1) * 2 ^ (f.hi + 1) + f.of w * 2 ^ f.lo + w.toNat % 2 ^ f.lo := by
    have e1 : 2 ^ (f.hi + 1) = 2 ^ f.lo * 2 ^ (f.hi - f.lo + 1) := by rw [← pow_add]; congr 1; omega
    have a := Nat.div_add_mod w.toNat (2 ^ f.lo)
    have b := Nat.div_add_mod (w.toNat / 2 ^ f.lo) (2 ^ (f.hi - f.lo + 1))
    rw [Nat.div_div_eq_div_mul, ← e1] at b
    have c : f.of w = w.toNat / 2 ^ f.lo % 2 ^ (f.hi - f.lo + 1) := rfl
    rw [← c] at b
    calc w.toNat = 2 ^ f.lo * (w.toNat / 2 ^ f.lo) + w.toNat % 2 ^ f.lo := a.symm
      _ = 2 ^ f.lo * (2 ^ (f.hi - f.lo + 1) * (w.toNat / 2 ^ (f.hi + 1)) + f.of w) + w.toNat % 2 ^ f.lo := by rw [b]
      _ = _ := by rw [e1]; ring
  have hv : v % 2 ^ (f.hi - f.lo + 1) * 2 ^ f.lo + 2 ^ f.lo ≤ 2 ^ (f.hi + 1) := by
    have e1 : 2 ^ (f.hi + 1) = 2 ^ (f.hi - f.lo + 1) * 2 ^ f.lo := by rw [← pow_add]; congr 1; omega
    have : v % 2 ^ (f.hi - f.lo + 1) + 1 ≤ 2 ^ (f.hi - f.lo + 1) := Nat.mod_lt _ (by positivity)
    calc v % 2 ^ (f.hi - f.lo + 1) * 2 ^ f.lo + 2 ^ f.lo = (v % 2 ^ (f.hi - f.lo + 1) + 1) * 2 ^ f.lo := by ring
      _ ≤ 2 ^ (f.hi - f.lo + 1) * 2 ^ f.lo := Nat.mul_le_mul_right _ this
      _ = _ := e1.symm
  have hlow : w.toNat % 2 ^ f.lo < 2 ^ f.lo := Nat.mod_lt _ (by positivity)
  have hq : (w.toNat / 2 ^ (f.hi + 1) + 1) * 2 ^ (f.hi + 1) ≤ 2 ^ 32 := by
    have e2 : 2 ^ 32 = 2 ^ (31 - f.hi) * 2 ^ (f.hi + 1) := by rw [← pow_add]; congr 1; omega
    have : w.toNat / 2 ^ (f.hi + 1) < 2 ^ (31 - f.hi) := by
      apply Nat.div_lt_of_lt_mul; rw [Nat.mul_comm, ← e2]; exact hw
    calc _ ≤ 2 ^ (31 - f.hi) * 2 ^ (f.hi + 1) := Nat.mul_le_mul_right _ this
      _ = _ := e2.symm
  have hq' : w.toNat / 2 ^ (f.hi + 1) * 2 ^ (f.hi + 1) + 2 ^ (f.hi + 1) ≤ 2 ^ 32 := by
    calc _ = (w.toNat / 2 ^ (f.hi + 1) + 1) * 2 ^ (f.hi + 1) := by ring
      _ ≤ _ := hq
  unfold Fld.put
  rw [BitVec.toNat_add, BitVec.toNat_sub, BitVec.toNat_ofNat, BitVec.toNat_ofNat]
  generalize w.toNat / 2 ^ (f.hi + 1) * 2 ^ (f.hi + 1) = A at *
  generalize f.of w * 2 ^ f.lo = B at *
  generalize w.toNat % 2 ^ f.lo = C at *
  generalize v % 2 ^ (f.hi - f.lo + 1) * 2 ^ f.lo = D at *
  generalize 2 ^ (f.hi + 1) = E at *
  generalize 2 ^ f.lo = F at *
  omega

/-- A field reads back what was put into it. -/
theorem Fld.of_put_same (f : Fld) (w : Word) (v : Nat) (h : f.ok = true) : f.of (f.put w v) = v % 2 ^ (f.hi - f.lo + 1) := by
  have hp := f.toNat_put w v h
  simp only [Fld.ok, Bool.and_eq_true, decide_eq_true_eq] at h
  have e1 : 2 ^ (f.hi + 1) = 2 ^ f.lo * 2 ^ (f.hi - f.lo + 1) := by rw [← pow_add]; congr 1; omega
  have hsub : w.toNat - f.of w * 2 ^ f.lo = w.toNat / 2 ^ (f.hi + 1) * 2 ^ (f.hi + 1) + w.toNat % 2 ^ f.lo := by
    have a := Nat.div_add_mod w.toNat (2 ^ f.lo)
    have b := Nat.div_add_mod (w.toNat / 2 ^ f.lo) (2 ^ (f.hi - f.lo + 1))
    rw [Nat.div_div_eq_div_mul, ← e1] at b
    have c : f.of w = w.toNat / 2 ^ f.lo % 2 ^ (f.hi - f.lo + 1) := rfl
    rw [← c] at b
    have : w.toNat = w.toNat / 2 ^ (f.hi + 1) * 2 ^ (f.hi + 1) + f.of w * 2 ^ f.lo + w.toNat % 2 ^ f.lo := by
      calc w.toNat = 2 ^ f.lo * (w.toNat / 2 ^ f.lo) + w.toNat % 2 ^ f.lo := a.symm
        _ = 2 ^ f.lo * (2 ^ (f.hi - f.lo + 1) * (w.toNat / 2 ^ (f.hi + 1)) + f.of w) + w.toNat % 2 ^ f.lo := by rw [b]
        _ = _ := by rw [e1]; ring
    omega
  have hlow : w.toNat % 2 ^ f.lo < 2 ^ f.lo := Nat.mod_lt _ (by positivity)
  show (f.put w v).toNat / 2 ^ f.lo % 2 ^ (f.hi - f.lo + 1) = _
  rw [hp, hsub, e1]
  have : w.toNat / (2 ^ f.lo * 2 ^ (f.hi - f.lo + 1)) * (2 ^ f.lo * 2 ^ (f.hi - f.lo + 1)) + w.toNat % 2 ^ f.lo
      + v % 2 ^ (f.hi - f.lo + 1) * 2 ^ f.lo
      = w.toNat % 2 ^ f.lo + 2 ^ f.lo * (2 ^ (f.hi - f.lo + 1) * (w.toNat / (2 ^ f.lo * 2 ^ (f.hi - f.lo + 1)))
        + v % 2 ^ (f.hi - f.lo + 1)) := by ring
  rw [this, Nat.add_mul_div_left _ _ (by positivity), Nat.div_eq_of_lt hlow, Nat.zero_add, Nat.mul_add_mod, Nat.mod_mod]

/-- A field apart from the one written reads as before. -/
theorem Fld.of_put_apart (f g : Fld) (w : Word) (v : Nat) (h : f.ok = true) (hg : g.ok = true) (ha : f.apart g = true) : g.of (f.put w v) = g.of w := by
  have hp := f.toNat_put w v h
  have hle : f.of w * 2 ^ f.lo ≤ w.toNat := by
    have : f.of w ≤ w.toNat / 2 ^ f.lo := Nat.mod_le _ _
    calc f.of w * 2 ^ f.lo ≤ w.toNat / 2 ^ f.lo * 2 ^ f.lo := Nat.mul_le_mul_right _ this
      _ ≤ w.toNat := Nat.div_mul_le_self _ _
  simp only [Fld.ok, Bool.and_eq_true, decide_eq_true_eq] at h
  simp only [Fld.ok, Bool.and_eq_true, decide_eq_true_eq] at hg
  simp only [Fld.apart, Bool.or_eq_true, decide_eq_true_eq] at ha
  rcases ha with ha | ha
  · -- the other field lies above: the part above is untouched
    have e1 : 2 ^ (f.hi + 1) = 2 ^ f.lo * 2 ^ (f.hi - f.lo + 1) := by rw [← pow_add]; congr 1; omega
    have hd : (f.put w v).toNat / 2 ^ (f.hi + 1) = w.toNat / 2 ^ (f.hi + 1) := by
      have a := Nat.div_add_mod w.toNat (2 ^ f.lo)
      have b := Nat.div_add_mod (w.toNat / 2 ^ f.lo) (2 ^ (f.hi - f.lo + 1))
      rw [Nat.div_div_eq_div_mul, ← e1] at b
      have c : f.of w = w.toNat / 2 ^ f.lo % 2 ^ (f.hi - f.lo + 1) := rfl
      rw [← c] at b
      have hs : w.toNat = w.toNat / 2 ^ (f.hi + 1) * 2 ^ (f.hi + 1) + f.of w * 2 ^ f.lo + w.toNat % 2 ^ f.lo := by
        calc w.toNat = 2 ^ f.lo * (w.toNat / 2 ^ f.lo) + w.toNat % 2 ^ f.lo := a.symm
          _ = 2 ^ f.lo * (2 ^ (f.hi - f.lo + 1) * (w.toNat / 2 ^ (f.hi + 1)) + f.of w) + w.toNat % 2 ^ f.lo := by rw [b]
          _ = _ := by rw [e1]; ring
      have hlow : w.toNat % 2 ^ f.lo < 2 ^ f.lo := Nat.mod_lt _ (by positivity)
      have hv : v % 2 ^ (f.hi - f.lo + 1) * 2 ^ f.lo + 2 ^ f.lo ≤ 2 ^ (f.hi + 1) := by
        have : v % 2 ^ (f.hi - f.lo + 1) + 1 ≤ 2 ^ (f.hi - f.lo + 1) := Nat.mod_lt _ (by positivity)
        calc _ = (v % 2 ^ (f.hi - f.lo + 1) + 1) * 2 ^ f.lo := by ring
          _ ≤ 2 ^ (f.hi - f.lo + 1) * 2 ^ f.lo := Nat.mul_le_mul_right _ this
          _ = _ := by rw [e1]; ring
      have hsub : w.toNat - f.of w * 2 ^ f.lo = w.toNat / 2 ^ (f.hi + 1) * 2 ^ (f.hi + 1) + w.toNat % 2 ^ f.lo := by omega
      rw [hp, hsub]
      have : w.toNat / 2 ^ (f.hi + 1) * 2 ^ (f.hi + 1) + w.toNat % 2 ^ f.lo + v % 2 ^ (f.hi - f.lo + 1) * 2 ^ f.lo
          = (w.toNat % 2 ^ f.lo + v % 2 ^ (f.hi - f.lo + 1) * 2 ^ f.lo) + 2 ^ (f.hi + 1) * (w.toNat / 2 ^ (f.hi + 1)) := by ring
      rw [this, Nat.add_mul_div_left _ _ (by positivity), Nat.div_eq_of_lt (by omega), Nat.zero_add]
    have e3 : ∀ n : Nat, n / 2 ^ g.lo = n / 2 ^ (f.hi + 1) / 2 ^ (g.lo - (f.hi + 1)) := by
      intro n; rw [Nat.div_div_eq_div_mul, ← pow_add]; congr 2; omega
    show (f.put w v).toNat / 2 ^ g.lo % _ = w.toNat / 2 ^ g.lo % _
    rw [e3, hd, ← e3]
  · -- the other field lies below: the part below is untouched
    have hm : (f.put w v).toNat % 2 ^ f.lo = w.toNat % 2 ^ f.lo := by
      rw [hp, Nat.add_mul_mod_self_right]
      have : w.toNat % 2 ^ f.lo = (w.toNat - f.of w * 2 ^ f.lo + f.of w * 2 ^ f.lo) % 2 ^ f.lo := by rw [Nat.sub_add_cancel hle]
      rw [this, Nat.add_mul_mod_self_right]
    have e4 : ∀ n : Nat, n / 2 ^ g.lo % 2 ^ (g.hi - g.lo + 1) = n % 2 ^ f.lo / 2 ^ g.lo % 2 ^ (g.hi - g.lo + 1) := by
      intro n
      have hk : f.lo = g.lo + (f.lo - g.lo) := by omega
      conv_rhs => rw [hk, pow_add, Nat.mod_mul_right_div_self]
      rw [Nat.mod_mod_of_dvd]
      exact pow_dvd_pow 2 (by omega)
    show (f.put w v).toNat / 2 ^ g.lo % _ = w.toNat / 2 ^ g.lo % _
    rw [e4, hm, ← e4]

theorem State.get_set_same (s : State) (f : Fld) (v i : Nat) (h : f.ok = true) :
    (s.set f v i).get f i = v % 2 ^ (f.hi - f.lo + 1) := by
  simp [State.get, State.set, Fld.of_put_same f _ v h]

theorem State.get_set_apart (s : State) (f g : Fld) (v i : Nat) (h : f.ok = true) (hg : g.ok = true) (hr : f.r = g.r)
    (ha : f.apart g = true) : (s.set f v i).get g i = s.get g i := by
  simp [State.get, State.set, ← hr, Fld.of_put_apart f g _ v h hg ha]

theorem State.get_set_ne (s : State) (f g : Fld) (v i j : Nat) (h : f.r.key i ≠ g.r.key j) :
    (s.set f v i).get g j = s.get g j := by
  simp [State.get, State.set, State.rd_wr_ne _ _ h]

theorem State.rd_set_ne (s : State) (f : Fld) (v i : Nat) {q : Rg} {j : Nat} (h : f.r.key i ≠ q.key j) :
    (s.set f v i).rd q j = s.rd q j := by
  simp [State.set, State.rd_wr_ne _ _ h]

/-! ### Counters -/

/-- R6: a counter takes the sum, and saturates. -/
theorem State.rd_add_same (s : State) (r : Rg) (n i : Nat) :
    ((s.add r n i).rd r i).toNat = min 0xFFFFFFFF ((s.rd r i).toNat + n) := by
  simp only [State.add, State.rd_wr_same, BitVec.toNat_ofNat]
  omega

theorem State.rd_inc_same (s : State) (r : Rg) (i : Nat) :
    ((s.inc r i).rd r i).toNat = min 0xFFFFFFFF ((s.rd r i).toNat + 1) := s.rd_add_same r 1 i

theorem State.rd_inc_ne (s : State) (r : Rg) (i : Nat) {q : Rg} {j : Nat} (h : r.key i ≠ q.key j) :
    (s.inc r i).rd q j = s.rd q j := by
  simp [State.inc, State.add, State.rd_wr_ne _ _ h]

theorem State.get_inc_ne (s : State) (r : Rg) (i : Nat) (g : Fld) (j : Nat) (h : r.key i ≠ g.r.key j) :
    (s.inc r i).get g j = s.get g j := by
  simp [State.get, State.rd_inc_ne _ _ _ h]

/-! ### Units -/

@[simp] theorem State.chan_setChan_same (s : State) (c : Nat) (x : Chan) : (s.setChan c x).chan c = x := by
  simp [State.chan, State.setChan]

theorem State.chan_setChan_ne (s : State) {c d : Nat} (x : Chan) (h : c ≠ d) : (s.setChan c x).chan d = s.chan d := by
  simp [State.chan, State.setChan, Tab.get_set_ne _ _ _ h]

@[simp] theorem State.out_setOut_same (s : State) (n : Nat) (x : Pin) : (s.setOut n x).out n = x := by
  simp [State.out, State.setOut]

@[simp] theorem State.ppsPin_setPps_same (s : State) (m : Nat) (x : Pin) : (s.setPps m x).ppsPin m = x := by
  simp [State.ppsPin, State.setPps]

@[simp] theorem State.refin_setRefin_same (s : State) (i : Nat) (x : RefIn) : (s.setRefin i x).refin i = x := by
  simp [State.refin, State.setRefin]

/-! ### Completion of a command -/

/-- A command that completes answers a state whose pins follow it. -/
theorem done_next (s : State) : done s = .next s.settle := rfl

/-- A command that names a unit of the device takes the state to its result. -/
theorem onUnit_next (i n : Nat) (s t : State) (h : i < n) : onUnit i n s t = .next t.settle := by simp [onUnit, h, done]

/-- A command that names no unit of the device leaves the state. -/
theorem onUnit_none (i n : Nat) (s t : State) (h : n ≤ i) : onUnit i n s t = .next s.settle := by
  simp [onUnit, Nat.not_lt.mpr h, done]

theorem done_settled (s t : State) (h : done s = .next t) : t.pins = t.pinsOf := by
  cases h; rfl

theorem onUnit_settled (i n : Nat) (s t u : State) (h : onUnit i n s t = .next u) : u.pins = u.pinsOf :=
  done_settled _ _ h

/-! ### Fields as words -/

/-- A field written is put into its word. -/
theorem State.rd_set_same (s : State) (f : Fld) (v i : Nat) {q : Rg} (h : f.r = q) : (s.set f v i).rd q i = f.put (s.rd q i) v := by
  subst h; simp [State.set]

theorem State.rd_setB_same (s : State) (f : Fld) (b : Bool) (i : Nat) {q : Rg} (h : f.r = q) :
    (s.setB f b i).rd q i = f.put (s.rd q i) (flag b) := s.rd_set_same f (flag b) i h

theorem State.rd_setB_ne (s : State) (f : Fld) (b : Bool) (i : Nat) {q : Rg} {j : Nat} (h : f.r.key i ≠ q.key j) :
    (s.setB f b i).rd q j = s.rd q j := s.rd_set_ne f (flag b) i h

theorem State.rd_setBit_same (s : State) (f : Fld) (k : Nat) (b : Bool) (i : Nat) {q : Rg} (h : f.r = q) :
    (s.setBit f k b i).rd q i = f.put (s.rd q i) (withBit (s.get f i) k b) := s.rd_set_same f _ i h

theorem State.rd_setBit_ne (s : State) (f : Fld) (k : Nat) (b : Bool) (i : Nat) {q : Rg} {j : Nat} (h : f.r.key i ≠ q.key j) :
    (s.setBit f k b i).rd q j = s.rd q j := s.rd_set_ne f _ i h

theorem State.rd_add_ne (s : State) (r : Rg) (n i : Nat) {q : Rg} {j : Nat} (h : r.key i ≠ q.key j) :
    (s.add r n i).rd q j = s.rd q j := by
  simp [State.add, State.rd_wr_ne _ _ h]

/-! ### The event log and the mode -/

/-- R302: an entry that the port takes changes the management part and one counter only. -/
theorem State.logTake_parts (s : State) (code block sev : Nat) (d0 d1 d2 : Word) :
    let t := s.logTake code block sev d0 d1 d2
    t.pending = s.pending ∧ t.chans = s.chans ∧ t.outs = s.outs ∧ t.pps = s.pps ∧ t.refs = s.refs ∧ t.msyn = s.msyn
      ∧ t.posts = s.posts ∧ t.dmem = s.dmem ∧ t.twl = s.twl ∧ t.intake = s.intake ∧ t.pair = s.pair ∧ t.cal = s.cal ∧ t.rst = s.rst
      ∧ t.fuse = s.fuse ∧ t.dev = s.dev ∧ t.holdoff = s.holdoff ∧ t.free = s.free := by
  simp only [State.logTake, State.cond]
  split <;> simp

theorem State.logTake_rd_ne (s : State) (code block sev : Nat) (d0 d1 d2 : Word) {q : Rg} {j : Nat}
    (h : Rg.MGMT_LOG_OVW_CNT.key 0 ≠ q.key j) : (s.logTake code block sev d0 d1 d2).rd q j = s.rd q j := by
  simp only [State.logTake, State.cond]
  split <;> simp [State.rd_inc_ne _ _ _ h]

/-- R302, R303: what an entry that the port takes leaves in the log. -/
theorem State.logTake_wrote (s : State) (code block sev : Nat) (d0 d1 d2 : Word) :
    Tab.get .none (s.logTake code block sev d0 d1 d2).mgmt.log (s.mgmt.logSeq % 2048)
      = ⟨s.dev.tick, code, block, sev, s.mgmt.logSeq, d0, d1, d2⟩
      ∧ (s.logTake code block sev d0 d1 d2).mgmt.logSeq = (s.mgmt.logSeq + 1) % 2 ^ 32 := by
  simp only [State.logTake, State.cond]
  split <;> simp

/-- R302: an entry is taken when the port is free; else a draw says whether it is taken or lost and counted. In TEST nothing happens. -/
theorem State.log_cases (s : State) (code block sev : Nat) (d0 d1 d2 : Word) :
    (s.get DEV_MODE.MODE = 11 ∧ s.log code block sev d0 d1 d2 = s) ∨
    (s.get DEV_MODE.MODE ≠ 11 ∧ s.logRecent = false ∧ s.log code block sev d0 d1 d2 = s.logTake code block sev d0 d1 d2) ∨
    (s.get DEV_MODE.MODE ≠ 11 ∧ s.logRecent = true ∧
      (s.log code block sev d0 d1 d2 = (s.drawNat 2).2.inc .MGMT_LOG_LOST_CNT
        ∨ s.log code block sev d0 d1 d2 = (s.drawNat 2).2.logTake code block sev d0 d1 d2)) := by
  unfold State.log
  by_cases hm : s.get DEV_MODE.MODE = 11
  · exact .inl ⟨hm, if_pos hm⟩
  · rw [if_neg hm]
    cases hr : s.logRecent with
    | false => exact .inr (.inl ⟨hm, rfl, by simp⟩)
    | true =>
      refine .inr (.inr ⟨hm, rfl, ?_⟩)
      simp only [if_true]
      split
      · exact .inl rfl
      · exact .inr rfl

theorem State.log_rd_ne (s : State) (code block sev : Nat) (d0 d1 d2 : Word) {q : Rg} {j : Nat}
    (h : Rg.MGMT_LOG_OVW_CNT.key 0 ≠ q.key j) (h' : Rg.MGMT_LOG_LOST_CNT.key 0 ≠ q.key j) :
    (s.log code block sev d0 d1 d2).rd q j = s.rd q j := by
  obtain ⟨-, e⟩ | ⟨-, -, e⟩ | ⟨-, -, e | e⟩ := s.log_cases code block sev d0 d1 d2 <;> rw [e]
  · exact s.logTake_rd_ne _ _ _ _ _ _ h
  · exact State.rd_inc_ne _ _ _ h'
  · exact State.logTake_rd_ne _ _ _ _ _ _ _ h

/-- An entry changes the management part, two counters and the count of draws only. -/
theorem State.log_parts (s : State) (code block sev : Nat) (d0 d1 d2 : Word) :
    let t := s.log code block sev d0 d1 d2
    t.pending = s.pending ∧ t.chans = s.chans ∧ t.outs = s.outs ∧ t.pps = s.pps ∧ t.refs = s.refs ∧ t.msyn = s.msyn
      ∧ t.posts = s.posts ∧ t.dmem = s.dmem ∧ t.twl = s.twl ∧ t.intake = s.intake ∧ t.pair = s.pair ∧ t.cal = s.cal ∧ t.rst = s.rst
      ∧ t.fuse = s.fuse ∧ t.dev = s.dev ∧ t.holdoff = s.holdoff := by
  obtain ⟨-, e⟩ | ⟨-, -, e⟩ | ⟨-, -, e | e⟩ := s.log_cases code block sev d0 d1 d2 <;> simp only [e]
  · simp
  · have l := s.logTake_parts code block sev d0 d1 d2
    simp_all
  · simp [State.drawNat]
  · have l := (s.drawNat 2).2.logTake_parts code block sev d0 d1 d2
    simp_all [State.drawNat]

end Sys2Proof.Machine
end

