-- ==== Sys2Proof/Laws/Crc.lean ====
section
/-! SUPPORT. What the register map answers is a register at the key asked for, and the configuration CRC reads no word of DEV (R340). -/

namespace Sys2Proof.Machine

theorem Rg.indexOf_key {r : Rg} {k i : Nat} (h : r.indexOf k = some i) : r.key i = k := by
  simp only [Rg.indexOf] at h
  unfold Rg.key
  split at h
  · cases h
  rename_i hk
  split at h
  · rename_i h0
    split at h
    · cases h; simp_all
    · cases h
  · split at h
    · rename_i h1
      cases h
      rw [Nat.mul_div_cancel' (Nat.dvd_of_mod_eq_zero h1.1)]
      omega
    · cases h

/-- The register that a key finds holds that key. -/
theorem Rg.find_key {k i : Nat} {r : Rg} {rs : List Rg} (h : Rg.find k rs = some (r, i)) : r.key i = k := by
  induction rs with
  | nil => cases h
  | cons q rs ih =>
    simp only [Rg.find] at h
    split at h
    · rename_i j hj
      split at h
      · cases h; exact Rg.indexOf_key hj
      · exact ih h
    · exact ih h

theorem coveredAt_key {k : Nat} {rs : List Rg} {x : Rg × Nat} (h : coveredAt k rs = some x) : x.1.key x.2 = k := by
  unfold coveredAt at h
  split at h
  · rename_i r i hf
    split at h
    · cases h; exact Rg.find_key hf
    · cases h
  · cases h

theorem blockWords_high (b n : Nat) (h : 0x10000 ≤ blockBase b) : ∀ x ∈ blockWords b n, 0x10000 ≤ x.1.key x.2 := by
  intro x hx
  simp only [blockWords, List.mem_filterMap] at hx
  obtain ⟨k, _, hk⟩ := hx
  rw [coveredAt_key hk]
  omega

/-- R340: no covered word lies in the window of DEV. -/
theorem coveredWords_high : ∀ x ∈ coveredWords, 0x10000 ≤ x.1.key x.2 := by
  intro x hx
  simp only [coveredWords, List.mem_append, List.mem_flatMap, List.mem_filterMap, List.mem_map] at hx
  rcases hx with ((((((⟨b, hb, hx⟩ | hx) | ⟨b, hb, hx⟩) | ⟨c, _, w, _, rfl⟩) | ⟨c, _, w, _, rfl⟩) | ⟨c, _, w, _, rfl⟩) | ⟨c, _, w, _, rfl⟩)
    | ⟨k, _, hk⟩
  · refine blockWords_high b 1024 ?_ x hx
    fin_cases hb <;> decide
  · exact blockWords_high 3 131072 (by decide) x hx
  · refine blockWords_high b 1024 ?_ x hx
    fin_cases hb <;> decide
  · exact Nat.le_trans (by decide : 0x10000 ≤ Rg.PARAM.info.base) (Nat.le_add_right _ _)
  · exact Nat.le_trans (by decide : 0x10000 ≤ Rg.RULE_A.info.base) (Nat.le_add_right _ _)
  · exact Nat.le_trans (by decide : 0x10000 ≤ Rg.RULE_B.info.base) (Nat.le_add_right _ _)
  · exact Nat.le_trans (by decide : 0x10000 ≤ Rg.PRESET.info.base) (Nat.le_add_right _ _)
  · rw [coveredAt_key hk]; omega

/-- R340: a word below the covered space does not enter the CRC. -/
theorem State.cfgCrc_wr_low (s : State) (r : Rg) (i : Nat) (w : Word) (h : r.key i < 0x10000) : (s.wr r i w).cfgCrc = s.cfgCrc := by
  unfold State.cfgCrc
  refine congrArg crc32 (List.flatMap_congr fun x hx => ?_)
  rw [State.rd_wr_ne s w (Nat.ne_of_lt (Nat.lt_of_lt_of_le h (coveredWords_high x hx)))]

end Sys2Proof.Machine
end

