-- ==== Sys2Proof/Laws/Frame.lean ====
section
/-! SUPPORT. Frames: how they arise from single updates, compose, and pass the settling of the pins; a write that a port carries to its
register. -/

namespace Sys2Proof.Machine

@[simp] theorem State.settle_pins (s : State) : s.settle.pins = s.pinsOf := .trans (.refl _) rfl

theorem State.settle_shows (s : State) : s.settle.pins = s.settle.pinsOf := by
  rw [State.settle_pins, State.settle_pinsOf]

theorem Part.same_refl (p : Part) (s : State) : p.same s s := by cases p <;> rfl

theorem Part.same_trans (p : Part) {s t u : State} (h : p.same s t) (h' : p.same t u) : p.same s u := by
  cases p <;> exact Eq.trans h' h

theorem Part.same_settle (p : Part) (s : State) : p.same s s.settle := by cases p <;> simp [Part.same]

theorem Part.same_wr (p : Part) (s : State) (r : Rg) (i : Nat) (w : Word) : p.same s (s.wr r i w) := by cases p <;> simp [Part.same]

theorem Part.same_set (p : Part) (s : State) (f : Fld) (v i : Nat) : p.same s (s.set f v i) := by cases p <;> simp [Part.same]

theorem Part.same_inc (p : Part) (s : State) (r : Rg) (i : Nat) : p.same s (s.inc r i) := by cases p <;> simp [Part.same]

theorem Part.same_log (p : Part) (s : State) (code block sev : Nat) (d0 d1 d2 : Word) (h : p ≠ .mgmt) (h' : p ≠ .free) :
    p.same s (s.log code block sev d0 d1 d2) := by
  have l := s.log_parts code block sev d0 d1 d2
  cases p <;> simp_all [Part.same]

/-- A frame, from what holds before the pins settle. -/
theorem State.frame_settle {s u : State} {parts : List Part} {words : List (Rg × Nat)} (hq : u.pending = s.pending)
    (hp : ∀ p, p ∉ parts → p.same s u) (hw : s.keepsWords u words) : s.frame u.settle parts words := by
  refine ⟨⟨by rw [State.settle_pending]; exact hq, u.settle_shows, fun p h => ?_⟩, fun r i h => ?_⟩
  · exact p.same_trans (hp p h) (p.same_settle u)
  · rw [State.settle_rd_of]; exact hw r i h

theorem State.keepsWords_refl (s : State) (words : List (Rg × Nat)) : s.keepsWords s words := fun _ _ _ => rfl

theorem State.keepsWords_trans {s t u : State} {words : List (Rg × Nat)} (h : s.keepsWords t words) (h' : t.keepsWords u words) :
    s.keepsWords u words := fun r i hk => (h' r i hk).trans (h r i hk)

theorem State.keepsWords_wr (s : State) (r : Rg) (i : Nat) (w : Word) {words : List (Rg × Nat)} (h : (r, i) ∈ words) :
    s.keepsWords (s.wr r i w) words := fun _ _ hk => s.rd_wr_ne w (hk _ h)

theorem State.keepsWords_set (s : State) (f : Fld) (v i : Nat) {words : List (Rg × Nat)} (h : (f.r, i) ∈ words) :
    s.keepsWords (s.set f v i) words := fun _ _ hk => s.rd_set_ne f v i (hk _ h)

theorem State.keepsWords_inc (s : State) (r : Rg) (i : Nat) {words : List (Rg × Nat)} (h : (r, i) ∈ words) :
    s.keepsWords (s.inc r i) words := fun _ _ hk => s.rd_inc_ne r i (hk _ h)

theorem State.keepsWords_log (s : State) (code block sev : Nat) (d0 d1 d2 : Word) {words : List (Rg × Nat)}
    (h : (Rg.MGMT_LOG_OVW_CNT, 0) ∈ words) (h' : (Rg.MGMT_LOG_LOST_CNT, 0) ∈ words) :
    s.keepsWords (s.log code block sev d0 d1 d2) words :=
  fun _ _ hk => s.log_rd_ne code block sev d0 d1 d2 (hk _ h) (hk _ h')

end Sys2Proof.Machine
end

