-- ==== Sys2Proof/Machine/Gnoavo.lean ====
section
/-! DEFINITION. The Gnoavo lane frames as they leave (08 R207, R208): the blocks of each lane of a tick, from the records of the last boundary. -/

namespace Sys2Proof.Machine

/-- The contents of a reading, in the order of R208. -/
def readingContents (x : InputReading) : List Int :=
  [(x.idx : Int), x.state, flag x.reading.fresh, flag x.stale, x.reading.edges, x.reading.ts]

/-- The contents of a timestamp of a message record. -/
def stampContents (t : Stamp) : List Int :=
  [(t.secLo : Int), t.ns, t.frac, t.channel, t.port, flag t.dir, flag t.tsValid, flag t.fcsErr, flag t.trunc, flag t.oneStep, t.path, t.seq]

/-- Address and data pairs, or numbered words, as contents. -/
def pairContents (ps : List (Nat × Word)) : List Int := ps.flatMap fun (kw : Nat × Word) => [(kw.1 : Int), (kw.2.toNat : Int)]

/-- A hop in flight as contents. -/
def flightContents (f : InFlight) : List Int := presetDigest f.preset ++ [(f.h : Int), f.sources]

/-- The contents of a channel's copy (R230). -/
def copyContents (d : ChanCopy) : List Int :=
  [(d.state : Int), d.held, d.p, d.resAcc, d.patK, flag d.long, d.time, d.anchor, d.thetaLive, d.thetaTarget, d.adjPend, d.lockRun, d.unlRun, d.zero
    , flag d.rezero, d.t0]
    ++ d.arming.elim [] presetDigest ++ d.armed.elim [] presetDigest ++ d.inflight.elim [] flightContents
    ++ pairContents d.words ++ pairContents d.checkpoint

/-- R208: what the body of a record holds, in the order of the table; SSEQ and EXEC stand in the header. -/
def PairRec.contents : PairRec → List Int
  | .hello pos id pref rev hash fw => [flag pos, id, pref, flag rev, hash.toNat, fw]
  | .role r m c ph b => [r, m, flag c, ph, b]
  | .yield c t => [c, t]
  | .hop r => [r.ofs, flag r.chTarget, r.ch, r.gmask, r.sources, r.preset]
  | .retire c t => [c, t]
  | .digest t crc f => [t, crc.toNat, f]
  | .epochOffer e => [1, e, 0]
  | .epochStart e t => [2, e, t]
  | .epochCommit e => [3, e, 0]
  | .epochAck e t => [4, e, t]
  | .epochAbort e => [5, e, 0]
  | .epochHandover e t => [6, e, t]
  | .resetReq => []
  | .config _ _ ps g => flag g :: pairContents ps
  | .readings _ _ m is => (m : Int) :: is.flatMap readingContents
  | .message _ _ f st os => (f : Int) :: (stampContents st ++ os.map fun (o : Octet) => (o.toNat : Int))
  | .ql _ _ i a b => [i, a, b]
  | .chdig t cs => (t : Int) :: cs.map fun (n : Nat) => (n : Int)
  | .copy c t d => (c : Int) :: (t : Int) :: copyContents d
  | .static n ws => (n : Int) :: ws.map fun (w : Word) => (w.toNat : Int)
  | .cloneRequest pos die => [flag pos, die]
  | .cloneData n => [n]

/-- R208: SSEQ and EXEC of an event record; 0 for any other. -/
def PairRec.order : PairRec → Nat × Nat
  | .hop r => (r.sseq, r.exec)
  | .config q e _ _ => (q, e)
  | .readings q e _ _ => (q, e)
  | .message q e _ _ _ => (q, e)
  | .ql q e _ _ _ => (q, e)
  | _ => (0, 0)

/-- R208: a record in octets: its header block, and its body, whose layout the spec leaves open. -/
def PairRec.octets (r : PairRec) : List Octet :=
  octetsBe r.type 1 ++ octetsBe r.blocks 1 ++ octetsBe r.order.1 2 ++ octetsBe r.order.2 4
    ++ (List.range (8 * (r.blocks - 1))).map (Config.recordBody r.type r.contents)

/-- The records that lane `l` carries in this tick. -/
def State.laneRecords (s : State) (l : Nat) : List PairRec := (s.pair.lastFrame.filter (·.1 == l)).map (·.2)

/-- R207: header octets 1 to 7 of lane `l`. -/
def State.plHeader (s : State) (l : Nat) : List Octet :=
  octetsBe (l * 64 + 8 + flag s.pair.sentAct * 2) 1 ++ octetsBe (s.dev.tick % 2 ^ 40) 5 ++ octetsBe s.pair.sentEpoch 1

/-- R207: trailer octets 4 to 7 of lane `l`: the number of records, and two of 0. -/
def State.plCount (s : State) (l : Nat) : List Octet := octetsBe (s.laneRecords l).length 2 ++ [0, 0]

/-- R207: the record octets of lane `l`. -/
def State.plBody (s : State) (l : Nat) : List Octet := (s.laneRecords l).flatMap PairRec.octets

/-- R207: trailer octets 0 to 3 of lane `l`. -/
def State.plCrc (s : State) (l : Nat) : List Octet := octetsLe (crc32 (s.plHeader l ++ s.plBody l ++ s.plCount l)).toNat 4

/-- R207: the block in slot `j` of lane `l`; the lanes idle in a tick without a frame. -/
def State.plSlot (s : State) (l j : Nat) : Block :=
  let n := (s.plBody l).length / 8
  if s.pair.frameTick ≠ some s.dev.tick then .idle
  else if j = 0 then .start (s.plHeader l)
  else if j ≤ n then .data (((s.plBody l).drop (8 * (j - 1))).take 8)
  else if j = n + 1 then .data (s.plCrc l ++ s.plCount l)
  else if j = n + 2 then .terminate
  else .idle

/-- R207: the frame of lane `l` in this tick, at most 149 blocks. -/
def State.plFrame (s : State) (l : Nat) : List Block := (List.range 149).map (s.plSlot l)

end Sys2Proof.Machine
end

