-- ==== Sys2Proof/Tests/Slice0.lean ====
section
/-! SUPPORT. Tests: ill-formed commands, single steps on small states, and for every statement of Obligations.lean with hypotheses, clause by
clause, a state and operands that meet them together. -/

open Sys2Proof Sys2Proof.Machine

namespace Sys2Proof.Tests

set_option Elab.async false

/-! ### Small states -/

/-- The state after reset. -/
def b0 : State := State.reset

/-- The state after reset, in mode `m`. -/
def mode (m : Nat) : State := b0.set DEV_MODE.MODE m

/-- Effective reset level `n`, with no source asserted. -/
def lvl (s : State) (n : Nat) : State := { s with rst := { s.rst with level := n, asserted := [] } }

/-- A device out of reset in mode `m`, the master locked and no calibration item in progress. -/
def run (m : Nat) : State := lvl ((((mode m).set MSYN_STS.LOCK 1).set MSYN_STS.STATE 4).set CAL_STS.ITEM 255) 0

def mon (m : Nat) : State := let s := ((run m).set CLK_STS.MON_ARMED 1).set CLK_STS.INTOSC_OK 1; { s with rst := { s.rst with goodWin := 1 } }

def monB (m : Nat) : State := let s := ((run m).set CLK_STS.MON_ARMED 1).set CLK_STS.INTOSC_OK 1; { s with rst := { s.rst with badWin := 1 } }

def okOut (s : State) : State := ((s.set OUT_CFG.EN 1 3).set OUT_CFG.SRC 2 3).set CH_CFG.EN 1 2

def okPps (s : State) : State := ((s.set PPS_CFG.EN 1 3).set PPS_CFG.SRC 2 3).set CH_CFG.EN 1 2

def lb : State := (((((((run 5).set OUT_CFG.LB_EN 1 3).set PPS_CFG.LB_EN 1 3).set PAIR_STS.ROLE 1).set PAIR_STS.IN_STEP 1).set PAIR_CFG.LB_YIELD 1))

def steerd (s : State) : State := (((s.set ENG_CHMAP.PROG 2 3).wr .PARAM (512*3+4) 0x80).set CH_CFG.EN 1 3)

def pst : Preset := ⟨3, 100*2^40, 5, 7, 9, 0, false, true, false, true, true⟩

def hr (m : Nat) : State := (((run m).set CH_CFG.EN 1 3).set CH_HOP.HOP_EN 1 3).setChan 3 { Chan.reset with armed := some pst, running := true }

def hrp (m : Nat) : State := (((hr m).set HOP_PIN_CFG.EN 1 2).set HOP_PIN_CFG.TGT 1 2).set HOP_PIN_CFG.CH 3 2

def hwd : Word := HOP_CMD.CH.put (HOP_CMD.TGT.put 0 1) 3

def retCrc (body : BitVec 152) : Word := crc32 (octetsBe body.toNat 19)

def hopPay : BitVec 128 := 0x00008003000000000000000000000000#128

def hrec : HopRec := { sseq := 9, exec := 0, ofs := 48, chTarget := true, ch := 3, gmask := 0, sources := 1, preset := 3 }

def hte : State := (hr 5).setChan 3 { Chan.reset with running := true, state := .lock, inflight := some ⟨pst, 40, 1⟩ }

def rq (m st : Nat) : State := (((run m).set REF_STS.STATE st 3).set REF_CFG.EN 1 3).set DEV_GATE.GATE 0x1fff

def og (m : Nat) : State := let s := ((run m).set DEV_GATE.GATE 0x1fff).set ENG_SPARE_FREE.BITS 0xffff; { s with dev := { s.dev with spi := { s.dev.spi with keyAge := 2 } } }

def itr : State := (((run 4).set CH_CFG.EN 1 3).set ENG_CHMAP.PROG 2 3 |>.set ENG_CHMAP.SEL_VALID 1 3 |>.set ENG_CHMAP.SEL 7 3).setChan 3 {Chan.reset with state := .acq, t0 := some 0, running := true} |> fun s => {s with msyn := {s.msyn with lockTick := true}}

def rrr : EngResult := ⟨Chan.resetP, 5, none, none, 300, true, 100, [], 0⟩

def rx : State := ((run 5).set TWL_STS.RX_LOCK 1).set TWL_CTL.RX_EN 1

def fl : State := ((((run 5).set FLOW_CFG.EN 1 3).set FLOW_CFG.CHANNEL 9 3).set ENG_CHMAP.PROG 1 9).set MIR_CTL.TX_EN 15

def dq : OutMsg := ⟨.delayReq 3, 7,0,0,9,0,0,1,false,0,[],[(1,44)]⟩

def flr : State := let s := (fl.set TWL_STS.RX_LOCK 1).set TWL_CTL.RX_EN 1; let s := { s with twl := { s.twl with tags := Tab.set none [] 7 (some ⟨dq, 0⟩) } }; s.setFlow 3 { Flow.reset with exch := { Exchange.empty with reqSeq := 44, reqOut := true } }

def ackCrc (tag st : BitVec 16) (stamp : BitVec 96) : Word := retCrc (2#8 ++ 5#16 ++ tag ++ st ++ stamp)

def og' : State := ((((run 5).set ORIG_CFG.EN 1 3).set ORIG_CFG.CHANNEL 9 3).set ORIG_CFG.PGROUP 5 3 |>.set MIR_PGRP.EN 1 5 |>.set MIR_PGRP.LANE 2 5 |>.set MIR_PGRP.TPL 6 5).set MIR_CTL.TX_EN 15

def emm : State := (((run 5).set ESMC_TX.EN 1 3).set ESMC_TX.CHANNEL 9 3).set ESMC_TX.PGROUP 5 3 |>.set MIR_PGRP.EN 1 5 |>.set MIR_PGRP.LANE 2 5 |>.set MIR_PGRP.TPL 6 5 |>.set MIR_CTL.TX_EN 15

def ac : State := (((run 5).set PARSE_CTL.EN 1).set MIR_CTL.RX_EN 15).set MIR_STS.BLOCK_LOCK 15

def fr0 : Frame := ⟨2, ⟨0, 0, 0, 7, 1, false, true, false, false, false, 0, 9⟩, []⟩

def pa0 : Pass := ⟨fr0, false, 0, 0, [true]⟩

def lo (e : Nat) (h r : List Decided) : LaneOrder := { LaneOrder.reset with expect := some e, held := h, ready := r }

def pd (f : Frame) : State := { ac with intake := { b0.intake with passes := [(3, some ⟨f, false, 0, 0, [true]⟩)], lanes := [(2, lo f.stamp.seq [] [])] } }

def ethf : Frame := ⟨2, {fr0.stamp with fcsErr := false, trunc := false}, [1,2,3,4,5,6,7,8,9,10,11,12,0x12,0x34] ++ List.replicate 50 0⟩

def pd3 : State := (pd ethf).set PARSE_CTL.DEFAULT 3

def rel (f : Fate) : State := { ac with intake := { b0.intake with lanes := [(2, lo 5 [] [⟨fr0, f, []⟩, ⟨fr0, .drop, []⟩])] } }

def pr (m : Nat) (role : Nat) : State := ((run m).set PAIR_CFG.EN 1).set PAIR_STS.ROLE role

def es : State := let s := pr 7 2; { s with pair := { s.pair with rxSseq := some 5 } }

def dg : DigestRec := ⟨1000, 5, 0, [1,2,3]⟩

def gp (s : State) : State := let s := s.set DEV_GATE.GATE 0x1fff; { s with dev := { s.dev with spi := { s.dev.spi with keyAge := 2 } } }

def dgs (m : Nat) (f : Nat) : State := let s := pr m 2; { s with pair := { s.pair with digests := [{dg with flags := f}] } }

def dgp (f g : Nat) : State := let s := dgs 7 f; { s with pair := { s.pair with peerDigest := some (1000, 6, g) } }

def ep (m ph : Nat) (f : Pair → Pair := id) : State := let s := (((pr m 2).set PAIR_EPOCH_STS.EPOCH 9).set PAIR_EPOCH_STS.PHASE ph).set PAIR_STS.LINK_UP 1 |>.set PAIR_STS.PEER_ALIVE 1; { s with pair := f { s.pair with peerRole := 1, joined := [1,2] } }

def cc : ChanCopy := { state := 4, held := 2, p := 6, resAcc := 7, patK := 8, long := false, time := 9, anchor := 10, thetaLive := 11, thetaTarget := 12, adjPend := 1, lockRun := 5, unlRun := 6, arming := none, armed := none, inflight := none, zero := 5, rezero := true, t0 := 500, words := [(0x80000, 5), (0x80004, 7)], checkpoint := [(33, 8), (3, 3)] }

def acP (m ph : Nat) (f : Pair → Pair := id) : State := let s := (((pr m 1).set PAIR_EPOCH_STS.EPOCH 9).set PAIR_EPOCH_STS.PHASE ph).set PAIR_STS.LINK_UP 1 |>.set PAIR_STS.PEER_ALIVE 1; { s with pair := f { s.pair with peerRole := 2, copied := [1,2], repair := [(2,3)] } }

def gt (s : State) : State := s.set DEV_GATE.GATE 0x1fff

def cal0 (k : Nat) (f : Cal → Cal := id) : State := let s := (run 4).set CAL_STS.ITEM k; { s with cal := f s.cal }

def tdcM (f : Nat → Nat) : CalMeasure := ⟨0, (List.range 256).map f, (List.range 256).map f, 0, 5⟩

def good := tdcM fun _ => 156

def bad3t := tdcM fun _ => 165

def pp (m : Nat) : State := gp (run m)

def rr (m : Nat) (f : Rst → Rst := id) : State := let s := (run m).set CLK_STS.INTOSC_OK 1; { s with rst := f s.rst }

def bt (k : Nat) (f : Rst → Rst := id) (g : Mgmt → Mgmt := id) : State := let s := (run 1).set RST_BOOT_STS.KIND k; { s with rst := f s.rst, mgmt := g s.mgmt }

def su (n m w : Nat) : State := let s := (run 4).set MGMT_STS.SUP_WARN w; { s with mgmt := {s.mgmt with supBad := Tab.set 0 [] 3 n, supGood := Tab.set 0 [] 3 m} }

def jr (g : Mgmt → Mgmt := id) : State := let s := (((run 4).set MGMT_STS.FW_RUN 1).set MGMT_CTL.JRN_EN 1).set MGMT_JRN_STS.STATE 1; { s with mgmt := g s.mgmt, dev := {s.dev with ticking := true} }

def pol : JournalPolicy := ⟨90, 9131, 20, 6, 10⟩

def hl (st : Nat) : State := let s := gp (((run 10).set RST_HLOAD_CTL.WORDS 5).set RST_HLOAD_STS.STATE st); {s with dev := {s.dev with svcNoImage := true}}

def up (st : Nat) (g : Mgmt → Mgmt := id) : State := let s := gp (((run 10).set MGMT_UPD_CTL.WORDS 5).set MGMT_UPD_STS.STATE st |>.set CLK_STS.INTOSC_OK 1); {s with mgmt := g s.mgmt}

def ib (m : Nat) (k : Bool) (f : InbRequest → InbRequest := id) : State × InbRequest :=
  let s := (((run m).set MGMT_STS.FW_RUN 1).set MGMT_CTL.INB_EN (if k then 1 else 0)).set MIR_CTL.TX_EN 15
  let s := { s with fuse := { s.fuse with keyZero := false } }
  (s, f ⟨0, s.fuse.dieId, 3, [], true, 5, 2, [1,2,3,4,5,6,7,8,9,10,11,12,8,0]⟩)

def cold (b : Bool) (s : State) : State := { s with rst := {s.rst with cold := b}, msyn := {s.msyn with counting := true, mcc := 9, sample := some 9} }

def mb (q : Port) (s : State) : State := ((((s.set MBX_STAT.OPEN 1).set MBX_STAT.OWNER (portCode q)).set MBX_STAT.VALID 1).wr .MBX_D 0 11).wr .MBX_D 3 14

def df (p : Port) (w : Word) (s : State) : State := { s with dev := { s.dev with mbxDefer := some (p, w) } }

def selw (src i go : Nat) : Word := MBX_SEL.GO.put (MBX_SEL.INDEX.put (MBX_SEL.SRC.put 0 src) i) go

def cs (m pol : Nat) : State := let s := (((pp m).set CFG_CRC_CTL.EN 1).set CFG_CRC_CTL.ARMED 1).set CFG_CRC_CTL.POLICY pol; let s := s.set CLK_STS.INTOSC_OK 1; { s with dev := { s.dev with scan := true }, rst := {s.rst with asserted := [], waiting := [], level := 0} }

/-! ### Ill-formed commands are refused -/

theorem test_unit_out_of_range : Instr.wf (.tset .spi 512) = false ∧ Instr.wf (.tset .spi 511) = true := by decide

theorem test_unit_pin : Instr.wf (.outputStart (.pps 16)) = false ∧ Instr.wf (.outputStart (.pps 15)) = true := by decide

theorem test_port_not_a_host : Instr.wf (.mailboxOpenRead .preload) = false ∧ Instr.wf (.mailboxOpenRead .inb) = true := by decide

theorem test_address_too_wide : Instr.wf (.registerWrite .spi (2 ^ 24) 0) = false ∧ Instr.wf (.registerWrite .spi (2 ^ 24 - 1) 0) = true := by
  decide

theorem test_opcode_too_wide : Instr.wf (.spiBadOpcode 256) = false ∧ Instr.wf (.spiBadOpcode 255) = true := by decide

/-- A unit the device does not have: nothing changes. -/
theorem test_no_such_unit : exec (.softResetComplete 8) (run 4) = .next (run 4).settle := rfl

/-! ### One step on a small state

The expected values are worked out from the rules named. -/

/-- What a word of a register holds after a command. -/
def after (i : Instr) (s : State) (f : State → Nat) : Option Nat :=
  match exec i s with
  | .next t => some (f t)
  | _ => none

/-- R144: the CRC-32 of IEEE 802.3 on its usual check string. -/
theorem test_crc32 : crc32 [0x31, 0x32, 0x33, 0x34, 0x35, 0x36, 0x37, 0x38, 0x39] = 0xCBF43926#32 := by decide +kernel

/-- R327: the mode register answers at its address. -/
theorem test_reset_registers : (State.reset.get DEV_MODE.MODE, State.reset.rd .CAL_CTL, State.reset.get DEV_MODE_REQ.REQ)
    = (0, Rg.resetWord .CAL_CTL 0, 0xF) := by decide +kernel

/-- R60: S = 100 moves a pending adjustment by 10 ns/s × 1 µs = 10 fs in a tick, in units of the channel time. -/
theorem test_drizzle_step : (drizzle { Chan.reset with adj := 10 ^ 12 * 2 ^ 20 } 100).adj = 10 ^ 12 * 2 ^ 20 - 100 * 2 ^ 48
    := by decide +kernel

/-- R6: a counter at its maximum stays there. -/
theorem test_counter_saturates : ((State.reset.wr .DEV_REJECT_CNT 0 0xFFFFFFFF).inc .DEV_REJECT_CNT).rd .DEV_REJECT_CNT = 0xFFFFFFFF#32 := by
  decide +kernel

/-- R322: TSEQ counts transactions modulo 16 and stands in bits [3:0] of the header. -/
theorem test_spi_status : after .spiStatus { run 4 with dev := { b0.dev with tseq := 15 } } (fun t => t.dev.tseq + t.dev.header % 16)
    = some 0 := by decide +kernel

/-- R325: a misaligned read is counted once and reads the aligned word. -/
theorem test_spi_misaligned : after (.spiRead 0x10003 1) (run 4) (fun t => (t.rd .DEV_SPI_ERR_CNT).toNat) = some 1 := by decide +kernel

/-- R331: a gated block answers a bus error. -/
theorem test_gated_block : after (.registerWrite .spi 0x40000 5) (run 4) (fun t => (t.rd .DEV_BUSERR_CNT).toNat) = some 1 := by decide +kernel

/-- R332, R24: an unknown mode request is rejected with reason range. -/
theorem test_mode_invalid : after (.modeReqInvalid .spi 5) (pp 4) (fun t => t.get DEV_CMD_STATUS.REASON) = some 4 := by decide +kernel

/-- R8: a masked write of zeros changes nothing. -/
theorem test_gate_zero_mask : after (.devGateWrite .spi 0x0000FFFF) (run 4) (fun t => t.get DEV_GATE.GATE) = some 0 := by decide +kernel

/-- R330: bit 6 under its mask opens the gate of ENG. -/
theorem test_gate_open : after (.devGateWrite .spi 0x00400040) (run 4) (fun t => t.get DEV_GATE.GATE) = some 0x40 := by decide +kernel

/-- R113: LOCKOUT shows state 6. -/
theorem test_lockout : after (.refinLockout .spi 7) (pp 4) (fun t => t.get REF_STS.STATE 7) = some 6 := by decide +kernel

/-- R110: an offset beyond the window moves a qualified input to FREQ (2). -/
theorem test_gate_beyond_window : after (.refinFreqGateClose 3 9200001) (rq 5 4) (fun t => t.get REF_STS.STATE 3) = some 2 := by decide +kernel

/-- R110: an offset at the window leaves it qualified. -/
theorem test_gate_at_window : after (.refinFreqGateClose 3 9200000) (rq 5 4) (fun t => t.get REF_STS.STATE 3) = some 4 := by decide +kernel

/-- R129: a retirement counts, and one of the first 16 leaves the mode (4) alone. -/
theorem test_retirement_4 : after (.engineParityError 3) ((run 4).set ENG_POOL.RETIRED 3) (fun t => t.mode * 16 + t.get ENG_POOL.RETIRED)
    = some 68 := by decide +kernel

/-- R47: a missing reference shows STATE 7. -/
theorem test_reference_missing : after .xoReferenceMissing (run 5) (fun t => t.get MSYN_STS.STATE) = some 7 := by decide +kernel

/-- R202: both heartbeat outputs move together in a running device. -/
theorem test_heartbeat : after .heartbeatToggle (run 4) (fun t => flag t.pair.hbOut.1 + 2 * flag t.pair.hbOut.2) = some 3 := by decide +kernel

/-- R361: an opcode that the table does not list acts as BYPASS (0x3F). -/
theorem test_tap_bypass : after (.tapUpdateIr ⟨0x21, 0⟩) (run 4) (fun t => t.rst.tap) = some 0x3F := by decide +kernel

/-- R362: HIGHZ takes the pins: MODE 11. -/
theorem test_tap_highz : after (.tapUpdateIr ⟨3, 0⟩) (run 4) (fun t => t.mode) = some 11 := by decide +kernel

/-- R299: a reading above the threshold warns. -/
theorem test_temperature_warning : after (.sensorConversion 2 ⟨32000, 0⟩) (run 4) (fun t => t.get MGMT_STS.TEMP_WARN) = some 1 := by decide +kernel

/-- R207: the start block of Gnoavo lane 2 in the tick of a frame: LANE 2, FORMAT 2, ACT, the tick number and the epoch. -/
theorem test_pair_lane_start : ({ run 5 with pair := { b0.pair with frameTick := some 0, sentAct := true, sentEpoch := 9 } } : State).plSlot 2 0
    = .start [0x8A, 0, 0, 0, 0, 0, 9] := by decide +kernel

/-- R158: a Delay_Req is messageType 1 of PTP version 2, 44 octets long. -/
theorem test_delay_req : (OutMsg.ptp ⟨.delayReq 3, 7, 0, 0, 9, 0, 0, 1, false, 0, [], [(1, 44)]⟩).take 4 = [1, 2, 0, 44] := by decide +kernel

/-- R191, R167: loss of block lock is counted on its lane. -/
theorem test_block_lock_loss : after (.mirBlockLockLoss 3) ac (fun t => (t.rd .MIR_BLK_CNT 3).toNat + 16 * t.get MIR_STS.BLOCK_LOCK) = some 113 := by
  decide +kernel

/-- R343: INC = 3 advances the index by 4, modulo 2^24. -/
theorem test_index_wraps : after (.indDataRead .spi) (((pp 4).set IND_CTL.INC 3).set IND_ADDR.INDEX 0xFFFFFE) (fun t => t.get IND_ADDR.INDEX)
    = some 2 := by decide +kernel

/-- Zeros through the CRC register. -/
def zeros (n : Nat) (c : BitVec 32) : BitVec 32 := (List.replicate n (0 : Octet)).foldl crcOctet c

theorem zeros_add (m n : Nat) (c : BitVec 32) : zeros (m + n) c = zeros n (zeros m c) := by
  simp [zeros, ← List.replicate_append_replicate]

/-- 76 octets of zeros and their FCS. -/
def goodFrame : List Octet := List.replicate 76 0 ++ [0x99, 0xA1, 0x38, 0xE0]

theorem goodFrame_crc : crc32 (List.replicate 76 (0 : Octet)) = 0xE038A199#32 := by
  have h1 : zeros 16 0xFFFFFFFF#32 = 323269802#32 := by decide +kernel
  have h2 : zeros 16 323269802#32 = 3874859602#32 := by decide +kernel
  have h3 : zeros 16 3874859602#32 = 225922154#32 := by decide +kernel
  have h4 : zeros 16 225922154#32 = 2322767049#32 := by decide +kernel
  have h5 : zeros 12 2322767049#32 = 533159526#32 := by decide +kernel
  have h : zeros 76 0xFFFFFFFF#32 = 533159526#32 := by
    rw [show 76 = 16 + (16 + (16 + (16 + 12))) from rfl, zeros_add, h1, zeros_add, h2, zeros_add, h3, zeros_add, h4, h5]
  rw [crc32, show (List.replicate 76 (0 : Octet)).foldl crcOctet 0xFFFFFFFF#32 = zeros 76 0xFFFFFFFF#32 from rfl, h]
  decide

theorem goodFrame_ok : fcsOk goodFrame = true := by
  show ([0x99#8, 0xA1#8, 0x38#8, 0xE0#8] == octetsLe (crc32 (List.replicate 76 (0 : Octet))).toNat 4) = true
  rw [goodFrame_crc]
  decide

/-- A state at the end of a scan, whose comparison is armed under `pol`, with a reference that is not the configuration's CRC. -/
def crcDiff (m pol : Nat) : State := (cs m pol).wr .CFG_CRC_REF 0 ((cs m pol).cfgCrc + 1)

theorem crcDiff_ne (m pol : Nat) : (crcDiff m pol).rd .CFG_CRC_REF ≠ (crcDiff m pol).cfgCrc := by
  rw [crcDiff, State.rd_wr_same, State.cfgCrc_wr_low _ _ _ _ (by decide)]
  intro h
  have := congrArg (· - (cs m pol).cfgCrc) h
  simp at this

theorem crcDiff_get (m pol : Nat) (f : Fld) (h : Rg.CFG_CRC_REF.key 0 ≠ f.r.key 0) : (crcDiff m pol).get f = (cs m pol).get f := by
  rw [State.get, State.get, crcDiff, State.rd_wr_ne _ _ h]

theorem crcDiff_on (m pol : Nat) (f : Fld) (h : Rg.CFG_CRC_REF.key 0 ≠ f.r.key 0) : (crcDiff m pol).on f = (cs m pol).on f := by
  rw [State.on, State.on, crcDiff_get m pol f h]

theorem crcDiff_mode (m pol : Nat) : (crcDiff m pol).mode = (cs m pol).mode := crcDiff_get m pol _ (by decide)

/-! ### An image and a calibration slot that pass -/

theorem crc_step (l : List Octet) (c d : BitVec 32) (h : (l.take 16).foldl crcOctet c = d) :
    l.foldl crcOctet c = (l.drop 16).foldl crcOctet d := by rw [← h, ← List.foldl_append, List.take_append_drop]

/-- An Onion image with an empty preload (R282, R283). -/
def img0 : Image :=
  ⟨⟨true, 0x100000, true, true⟩,
    ⟨0x4F4E494F, 1, 2048, 0x95120A01, 3, 7, [], [⟨1, 0x100, 16, 3971697493⟩, ⟨2, 0x110, 0, 0⟩], 594373920⟩,
    0, 0, [], [], [], [], none, none, none, [], none⟩

theorem img0_crc : headerCrc img0.header = 594373920 := by
  rw [headerCrc, crc32, crc_step _ _ 4202059828#32 (by decide +kernel), crc_step _ _ 1226882199#32 (by decide +kernel),
    crc_step _ _ 2005544970#32 (by decide +kernel), crc_step _ _ 2933347416#32 (by decide +kernel),
    crc_step _ _ 2548578967#32 (by decide +kernel), crc_step _ _ 3110210736#32 (by decide +kernel),
    crc_step _ _ 2770700455#32 (by decide +kernel), crc_step _ _ 1892260228#32 (by decide +kernel),
    crc_step _ _ 536836564#32 (by decide +kernel), crc_step _ _ 3597805621#32 (by decide +kernel),
    crc_step _ _ 3456749759#32 (by decide +kernel), crc_step _ _ 2856754408#32 (by decide +kernel),
    crc_step _ _ 3381628335#32 (by decide +kernel), crc_step _ _ 942970436#32 (by decide +kernel),
    crc_step _ _ 1028715670#32 (by decide +kernel)]
  decide +kernel

theorem img0_header (n : Option Nat) (h : n = none ∨ n = some 0x100000) : onionHeaderOk img0.header n = true := by
  rw [onionHeaderOk, img0_crc]
  rcases h with rfl | rfl <;> decide +kernel

/-- R285: the image passes from a flash slot, and as a host load of its 2,048 octets. -/
theorem img0_slot : ((bt 1 fun r => { r with toTry := [.slotA, .slotB] }).checkImage img0 none).1 = 0 := by
  have v : (bt 1 fun r => { r with toTry := [.slotA, .slotB] }).imageVerdict img0 none = 0 := by
    have := img0_header (some 0x100000) (.inr rfl)
    simp only [State.imageVerdict, Option.isNone_none, if_true, show img0.verdict.slotSize = 0x100000 from rfl, this]
    decide +kernel
  simp only [State.checkImage, v]
  decide +kernel

/-- A device in SERVICE whose host load of 2,048 octets is under check. -/
def hl0 : State := let s := hl 2; { s with mgmt := { s.mgmt with hostLen := 2048 } }

theorem img0_host : ((hl0.set RST_HLOAD_CTL.END 0).checkImage img0 (some hl0.mgmt.hostLen)).1 = 0 := by
  have v : (hl0.set RST_HLOAD_CTL.END 0).imageVerdict img0 (some hl0.mgmt.hostLen) = 0 := by
    have := img0_header none (.inl rfl)
    simp only [State.imageVerdict, Option.isNone_some, Bool.false_eq_true, if_false, this]
    decide +kernel
  simp only [State.checkImage, v]
  decide +kernel

theorem slotCrc_crc (c : CalSlot) (x : Nat) : slotCrc { c with crc := x } = slotCrc c := rfl

/-- A calibration slot of this device without its CRC. -/
def slotBare : CalSlot := ⟨0x43414C54, 5, State.reset.fuse.dieId, 1, [(5, 77), (0xA003, 5)], 0, 0xC3A55A3C⟩

def slot0 : CalSlot := { slotBare with crc := slotCrc slotBare }

/-- R251, R254: a slot with the CRC-32 of its octets is valid. -/
theorem slot0_valid : slotValid State.reset.fuse.dieId slot0 = true := by
  have h : (slot0.crc == slotCrc slot0) = true := by
    have : slotCrc slot0 = slot0.crc := slotCrc_crc slotBare _
    rw [this, beq_self_eq_true]
  rw [slotValid, h]
  decide +kernel

/-- A firmware slot with a header of another image. -/
def fw0 : FwSlot := ⟨img0.verdict, { img0.header with magic := 0x564C4D52, sects := [] }⟩

/-! ### Witnesses: the hypotheses of each clause of each statement can be met -/

theorem witness_StepRunsFrontCommand : ∃ s : State, s.pending = [] := ⟨b0, rfl⟩

theorem witness_PinsShowKept : ∃ s t : State, s.pinsShow ∧ step s = .next t :=
  ⟨b0.push .powerOnResetRelease, _, by unfold State.pinsShow; decide +kernel, rfl⟩

theorem witness_TickBoundaries :
    (∃ (s : State) (_m : MasterSample), s.rst.cold = true)
    ∧ (∃ (s : State) (_m : MasterSample), s.rst.cold = false ∧ s.chans = [] ∧ s.dev.snapDue = false ∧ s.mode = 11 ∧ s.dev.groups = [])
    ∧ ∃ (s : State) (_m : MasterSample), s.rst.cold = false ∧ s.chans = [] ∧ s.dev.snapDue = false ∧ s.mode = 0 :=
  ⟨⟨cold true (run 4), ⟨12800, 5, 7, 9⟩, by decide +kernel⟩, ⟨cold false (run 11), ⟨12900, 5, 7, 9⟩, by decide +kernel⟩,
    ⟨cold false ((run 0).set CH_CFG.EN 1 3), ⟨12801, 5, 7, 9⟩, by decide +kernel⟩⟩

theorem witness_AcquisitionAndHold :
    (∃ (s : State), s.on MSYN_STS.ACQ = true ∧ s.get MSYN_STS.STATE = 1)
    ∧ (∃ (s : State), s.on MSYN_STS.ACQ = true ∧ s.get MSYN_STS.STATE = 7 ∧ s.msyn.heldStage = 1)
    ∧ (∃ (s : State) (_vco : Nat) (_band : Nat) (_tune : Nat), s.get MSYN_STS.STATE = 2)
    ∧ (∃ (s : State), s.on MSYN_STS.ACQ = true ∧ s.get MSYN_STS.ATTEMPT < 3 ∧ s.on MSYN_STS.HELD = false)
    ∧ (∃ (s : State), s.on MSYN_STS.ACQ = true ∧ s.get MSYN_STS.ATTEMPT < 3 ∧ s.on MSYN_STS.HELD = true)
    ∧ (∃ (s : State), s.get MSYN_STS.STATE ≠ 0 ∧ s.on MSYN_STS.HELD = false ∧ s.mode ≠ 11)
    ∧ (∃ (s : State), s.on MSYN_STS.REFMISS = true ∧ s.on CLK_STS.FORCED = false ∧ s.mode ≠ 11) :=
  ⟨⟨(((run 1).set MSYN_STS.STATE 1).set MSYN_STS.ACQ 1), by decide +kernel⟩,
    ⟨((let s := ((run 1).set MSYN_STS.STATE 7).set MSYN_STS.ACQ 1; {s with msyn := {s.msyn with heldStage := 1}})), by decide +kernel⟩,
    ⟨((run 1).set MSYN_STS.STATE 2), 3, 100, 5000, by decide +kernel⟩,
    ⟨(((run 1).set MSYN_STS.STATE 1).set MSYN_STS.ACQ 1), by decide +kernel⟩,
    ⟨((((run 1).set MSYN_STS.ACQ 1).set MSYN_STS.ATTEMPT 2).set MSYN_STS.HELD 1), by decide +kernel⟩,
    ⟨(run 5), by decide +kernel⟩,
    ⟨((run 5).set MSYN_STS.REFMISS 1), by decide +kernel⟩⟩

theorem witness_MasterLockCourse :
    (∃ (s : State) (_durationUs : Nat) (_tune : Nat), s.get MSYN_STS.STATE = 3 ∧ s.on MSYN_STS.ACQ = true ∧ s.on MSYN_STS.HELD = false)
    ∧ (∃ (s : State), s.on MSYN_STS.LOCK = true ∧ (3 ≤ s.mode ∧ s.mode ≤ 8 ∨ s.mode = 10) ∧ s.on CAL_STS.ROTATING = false)
    ∧ (∃ (s : State), s.on MSYN_STS.LOCK = false ∧ s.on MSYN_STS.ACQ = false ∧ s.on MSYN_STS.HELD = false ∧ s.msyn.everLocked = true ∧ s.mode ≠ 11)
    ∧ (∃ (s : State), s.get MSYN_STS.STATE = 5 ∧ s.isActive = false)
    ∧ (∃ (s : State), s.get MSYN_STS.STATE = 7 ∧ s.msyn.heldStage = 5 ∧ s.isActive = false) :=
  ⟨⟨(((run 1).set MSYN_STS.ACQ 1).set MSYN_STS.STATE 3), 100, 30, by decide +kernel⟩,
    ⟨(run 5), by decide +kernel⟩,
    ⟨({ (run 5).set MSYN_STS.LOCK 0 with msyn := { b0.msyn with everLocked := true } }), by decide +kernel⟩,
    ⟨((run 5).set MSYN_STS.STATE 5), by decide +kernel⟩,
    ⟨((let s := ((run 5).set MSYN_STS.STATE 7).set MSYN_STS.HELD 1; {s with msyn := {s.msyn with heldStage := 5}})), by decide +kernel⟩⟩

theorem witness_BasicEntries :
    (∃ (s : State), s.msyn.unlocked = true ∧ s.on MSYN_STS.LOCK = false ∧ s.mode ≠ 0 ∧ s.mode ≠ 9 ∧ s.mode ≠ 11)
    ∧ (∃ (s : State), s.mgmtRuns = true ∧ s.mode ≠ 9)
    ∧ (∃ (s : State) (_n : Nat), s.on ENG_CTL.SCRUB_EN = true ∧ s.mode ≠ 0 ∧ s.mode ≠ 9 ∧ s.mode ≠ 11)
    ∧ (∃ (s : State) (_n : Nat), s.on ENG_CTL.SCRUB_EN = true ∧ s.mode ≠ 0 ∧ s.mode ≠ 11) :=
  ⟨⟨({ (run 5).set MSYN_STS.LOCK 0 with msyn := { b0.msyn with unlocked := true } }), by decide +kernel⟩,
    ⟨(run 5), by decide +kernel⟩,
    ⟨((run 5).set ENG_CTL.SCRUB_EN 1), 5, by decide +kernel⟩,
    ⟨((run 5).set ENG_CTL.SCRUB_EN 1), 5, by decide +kernel⟩⟩

theorem witness_ClockWindowAndXoFailure :
    (∃ (s : State) (count : Nat), s.monitorRuns = true ∧ 1 ≤ s.rst.goodWin ∧ 5 * ((count * 100000000 : Nat) - ((s.get MSYN_XOF.XOF * 1024 : Nat) : Int)).natAbs ≤ s.get MSYN_XOF.XOF * 1024)
    ∧ (∃ (s : State) (count : Nat), s.monitorRuns = true ∧ s.rst.badWin = 0 ∧ s.get MSYN_XOF.XOF * 1024 < 5 * ((count * 100000000 : Nat) - ((s.get MSYN_XOF.XOF * 1024 : Nat) : Int)).natAbs)
    ∧ (∃ (s : State), s.monitorRuns = true ∧ s.rst.xoFailed = false)
    ∧ (∃ (s : State) (count : Nat), s.monitorRuns = true ∧ s.rst.xoFailed = false ∧ 1 ≤ s.rst.badWin ∧ s.get MSYN_XOF.XOF * 1024 < 5 * ((count * 100000000 : Nat) - ((s.get MSYN_XOF.XOF * 1024 : Nat) : Int)).natAbs) :=
  ⟨⟨(mon 5), 410, by decide +kernel⟩,
    ⟨(mon 5), 300, by decide +kernel⟩,
    ⟨(mon 5), by decide +kernel⟩,
    ⟨(monB 4), 200, by decide +kernel⟩⟩

theorem witness_RootSwitchesAndCompletions :
    (∃ (s : State), s.on CLK_STS.XO_OK = true ∧ s.mode ≠ 0 ∧ s.mode ≠ 11 ∧ s.internalStart = false)
    ∧ (∃ (s : State) (toSpll : Bool), (s.mode = 1 ∨ s.mode = 10 ∨ s.mode = 11) ∧ s.internalStart = false ∧ s.rst.mux = .idle ∧ s.on CLK_STS.ROOT_INT = toSpll ∧ (toSpll = true → s.on CLK_STS.FORCED = false))
    ∧ (∃ (s : State) (toSpll : Bool), s.rst.mux = .switching toSpll ∧ s.mode ≠ 1)
    ∧ (∃ (s : State), s.mode = 1 ∧ s.internalStart = false ∧ (s.on CLK_STS.XO_OK = false ∨ s.on CLK_STS.ROOT_INT = true))
    ∧ (∃ (s : State) (_count : Nat), s.on CLK_STS.FC_BUSY = true)
    ∧ (∃ (s : State) (_vco : Nat) (_band : Nat) (_tune : Nat), s.mode = 9 ∧ s.dev.basicNoXo = true ∧ s.on OUT_CTL.INTREF_OK = true ∧ s.msyn.everLocked = false) :=
  ⟨⟨((run 5).set CLK_STS.XO_OK 1), by decide +kernel⟩,
    ⟨(run 1), true, by decide +kernel⟩,
    ⟨({ run 10 with rst := { (run 10).rst with mux := .switching true } }), true, by decide +kernel⟩,
    ⟨((run 1)), by decide +kernel⟩,
    ⟨((run 1).set CLK_STS.FC_BUSY 1), 12345, by decide +kernel⟩,
    ⟨({ (run 9).set OUT_CTL.INTREF_OK 1 with dev := { b0.dev with basicNoXo := true } }), 1, 5, 700, by decide +kernel⟩⟩

theorem witness_TapInstructions : ∃ (s : State) (_op : Nat) (_scan : BitVec 502), s.rst.level < 4 := ⟨(run 5), 1, 5#502, by decide +kernel⟩

theorem witness_OutputChanges :
    (∃ (s : State) (n : Nat), n < 128 ∧ s.get OUT_STS.STATE n = 1 ∧ s.outMayRun n = true)
    ∧ (∃ (s : State) (m : Nat), m < 16 ∧ s.ppsRuns m = false ∧ s.ppsMayRun m = true ∧ (s.ppsPin m).stopping = false)
    ∧ (∃ (s : State) (n : Nat), n < 128 ∧ s.get OUT_STS.STATE n = 2 ∧ (s.out n).stopping = true ∧ (s.out n).divPend = none)
    ∧ (∃ (s : State) (n : Nat) (d : Nat) (k : Int), n < 128 ∧ s.get OUT_STS.STATE n = 2 ∧ (s.out n).stopping = true ∧ (s.out n).divPend = some (d, k))
    ∧ (∃ (s : State) (m : Nat), m < 16 ∧ s.ppsRuns m = true ∧ (s.ppsPin m).stopping = true)
    ∧ (∃ (s : State) (n : Nat), n < 128 ∧ (s.out n).muteWait = true ∧ (s.out n).stopping = false ∧ s.get OUT_STS.STATE n = 0 ∧ s.outMayRun n = true)
    ∧ (∃ (s : State) (n : Nat), n < 128 ∧ (s.out n).muteWait = true ∧ (s.out n).stopping = false ∧ s.get OUT_STS.STATE n = 0 ∧ s.outMayRun n = false)
    ∧ (∃ (s : State) (n : Nat) (_miss : Bool), n < 128 ∧ s.lbActive (.out n) = true)
    ∧ (∃ (s : State) (m : Nat) (_miss : Bool), m < 16 ∧ s.lbActive (.pps m) = true)
    ∧ (∃ (s : State) (n : Nat), n < 128 ∧ s.lbActive (.out n) = true)
    ∧ (∃ (s : State) (m : Nat), m < 16 ∧ s.lbActive (.pps m) = true) :=
  ⟨⟨((okOut (run 5)).set OUT_STS.STATE 1 3), 3, by decide +kernel⟩,
    ⟨((okPps (run 5))), 3, by decide +kernel⟩,
    ⟨((((run 5)).set OUT_STS.STATE 2 3).setOut 3 {Pin.reset with stopping := true}), 3, by decide +kernel⟩,
    ⟨((((run 5)).set OUT_STS.STATE 2 3).setOut 3 {Pin.reset with stopping := true, divPend := some (5, 17)}), 3, 5, 17, by decide +kernel⟩,
    ⟨((((run 5)).set OUT_PPS_STS.RUN 8).setPps 3 {Pin.reset with stopping := true}), 3, by decide +kernel⟩,
    ⟨((okOut (run 5)).setOut 3 {Pin.reset with muteWait := true}), 3, by decide +kernel⟩,
    ⟨(((run 5)).setOut 3 {Pin.reset with muteWait := true}), 3, by decide +kernel⟩,
    ⟨lb, 3, true, by decide +kernel⟩,
    ⟨lb, 3, true, by decide +kernel⟩,
    ⟨lb, 3, by decide +kernel⟩,
    ⟨lb, 3, by decide +kernel⟩⟩

theorem witness_ChannelLockMoves :
    (∃ (s : State) (c : Nat), c < 512 ∧ (s.chan c).state = .acq ∧ 64 ≤ (s.chan c).lockRun)
    ∧ (∃ (s : State) (c : Nat), c < 512 ∧ (s.chan c).state = .lock ∧ 4 ≤ (s.chan c).unlRun)
    ∧ (∃ (_s : State) (c : Nat) (k : Nat), c < 512 ∧ k < 8) :=
  ⟨⟨((steerd (run 4)).setChan 3 {Chan.reset with state := .acq, lockRun := 64}), 3, by decide +kernel⟩,
    ⟨((steerd (run 5)).setChan 3 {Chan.reset with state := .lock, unlRun := 4}), 3, by decide +kernel⟩,
    ⟨((steerd (run 5)).setChan 3 {Chan.reset with state := .lock, unlRun := 4}), 3, 2, by decide +kernel⟩⟩

theorem witness_HopTriggersCommit :
    (∃ (s : State) (p : Nat) (_cyc : Nat) (x : Preset), p < 8 ∧ s.on HOP_PIN_CFG.EN p = true ∧ s.on HOP_PIN_CFG.TGT p = true ∧ p ∉ s.holdoff ∧ s.hopReady .pin (s.get HOP_PIN_CFG.CH p) x)
    ∧ (∃ (s : State) (p : Port) (w : Word) (_cyc : Nat) (x : Preset), s.portsClosed = false ∧ (isHost p = true → s.blockShut 3 = false) ∧ s.liveOnly = none ∧ HOP_CMD.TGT.of w ≠ 0 ∧ s.hopReady .host (HOP_CMD.CH.of w) x)
    ∧ (∃ (s : State) (ty : Octet) (q : BitVec 16) (pay : BitVec 128) (crc : Word) (c : Nat) (gmask : Nat) (_cyc : Nat) (x : Preset), s.rxReads = true ∧ returnCrcOk (hopOctets ty q pay crc) = true ∧ returnMsg (hopOctets ty q pay crc) = .hop ⟨true, c, gmask⟩ ∧ s.hopReady .twl c x)
    ∧ (∃ (s : State) (cyc : Nat) (exec_ : Nat) (r : HopRec) (x : Preset), s.pair.stream = [⟨exec_, .hop r⟩] ∧ r.chTarget = true ∧ r.ch < 512 ∧ ((exec_ : Int) - s.dev.tick) * 12800 + r.ofs = (cyc / 8 * 8 + 40 : Nat) ∧ s.hopReady .peer r.ch x) :=
  ⟨⟨((hrp 5).set HOP_PIN_CFG.HOLDOFF 3 2), 2, 700, pst, by unfold State.hopReady; decide +kernel⟩,
    ⟨(((hr 5).set CH_HOP.GRP_EN 1 3).set DEV_GATE.GATE 0x1fff), .spi, hwd, 700, pst, by unfold State.hopReady; decide +kernel⟩,
    ⟨(((hr 5).set TWL_STS.RX_LOCK 1).set TWL_CTL.RX_EN 1), 1, 65, hopPay, retCrc (1#8 ++ 65#16 ++ hopPay), 3, 0, 700, pst, by unfold State.hopReady; decide +kernel⟩,
    ⟨({ hr 7 with pair := { b0.pair with stream := [⟨0, .hop hrec⟩] } }), 8, 0, hrec, pst, by unfold State.hopReady; decide +kernel⟩⟩

theorem witness_HopEdgesAndArming :
    (∃ (s : State) (p : Nat) (_cyc : Nat), p < 8 ∧ s.mode ≠ 0 ∧ s.on HOP_PIN_CFG.EN p = true ∧ p ∈ s.holdoff)
    ∧ (∃ (_s : State) (p : Nat), p < 8)
    ∧ (∃ (s : State) (c : Nat) (p : Preset), c < 512 ∧ (s.chan c).arming = some p ∧ s.armOk c p = true)
    ∧ (∃ (s : State) (c : Nat) (p : Preset), c < 512 ∧ (s.chan c).arming = some p ∧ s.armOk c p = false)
    ∧ (∃ (s : State) (c : Nat) (f : InFlight), c < 512 ∧ (s.chan c).inflight = some f ∧ ((s.chan c).running = true ∧ s.chEn c = true ∧ (s.chan c).state = .frozen ∧ (edgeAfter (s.chan c) (s.p0 c) s.msyn.mcc f.h).isSome = true ∨ s.chEn c = false ∧ f.h < s.msyn.mcc + 12800)) :=
  ⟨⟨({ (hrp 5) with holdoff := [2] }), 2, 700, by decide +kernel⟩,
    ⟨({ (hrp 5) with holdoff := [2] }), 2, by decide +kernel⟩,
    ⟨((hr 5).setChan 3 { Chan.reset with arming := some pst }), 3, pst, by decide +kernel⟩,
    ⟨((hr 5).setChan 3 { Chan.reset with arming := some { pst with valid := false } }), 3, ({ pst with valid := false }), by decide +kernel⟩,
    ⟨((hr 5).setChan 3 { Chan.reset with running := true, state := .frozen, inflight := some ⟨pst, 40, 1⟩ }), 3, (⟨pst, 40, 1⟩), by decide +kernel⟩⟩

theorem witness_HopTakesEffectAtEdge : ∃ (s : State) (c : Nat) (f : InFlight) (e : EdgeE), c < 512 ∧ (s.chan c).inflight = some f ∧ (s.chan c).state ≠ .frozen ∧ (s.chan c).running = true ∧ s.chEn c = true ∧ edgeAfter (s.chan c) (s.p0 c) s.msyn.mcc f.h = some e ∧ f.preset.ldDiv = false ∧ s.dev.groups = [] ∧ s.dev.spi.open_ = [] ∧ s.dev.inb.open_ = [] ∧ s.dev.shadow = [] ∧ s.pair.cfgOpen = [] ∧ s.pair.stream = [] ∧ s.pair.out = [] := ⟨hte, 3, (⟨pst, 40, 1⟩), ((edgeAfter (hte.chan 3) (hte.p0 3) hte.msyn.mcc 40).getD ⟨0,0,0,0⟩), by decide +kernel⟩

theorem witness_ReferenceChecks :
    (∃ (s : State) (i : Nat), i < 36 ∧ s.mode ≠ 0 ∧ s.get REF_STS.STATE i ≠ 0 ∧ s.get REF_STS.STATE i ≠ 1 ∧ s.get REF_STS.STATE i ≠ 6)
    ∧ (∃ (s : State) (i : Nat), i < 36 ∧ s.mode ≠ 0 ∧ s.get REF_STS.STATE i = 1)
    ∧ (∃ (s : State) (i : Nat), i < 36 ∧ s.mode ≠ 0 ∧ s.get REF_STS.STATE i = 3)
    ∧ (∃ (s : State) (i : Nat), i < 36 ∧ s.mode ≠ 0 ∧ s.get REF_STS.STATE i = 5)
    ∧ (∃ (s : State) (i : Nat), i < 36 ∧ s.mode ≠ 0 ∧ s.on REF_CFG.EN i = true)
    ∧ (∃ (s : State) (i : Nat) (_ofs : Int), i < 36 ∧ s.mode ≠ 0 ∧ 2 ≤ s.get REF_STS.STATE i ∧ s.get REF_STS.STATE i ≤ 5) :=
  ⟨⟨(rq 5 5), 3, by decide +kernel⟩,
    ⟨(rq 5 1), 3, by decide +kernel⟩,
    ⟨(rq 5 3), 3, by decide +kernel⟩,
    ⟨(rq 5 5), 3, by decide +kernel⟩,
    ⟨(rq 5 1), 3, by decide +kernel⟩,
    ⟨(rq 5 4), 3, 7, by decide +kernel⟩⟩

theorem witness_ReferenceCommands :
    (∃ (s : State) (p : Port) (i : Nat), i < 36 ∧ s.reaches p .REFIN_CMD 0 ∧ s.mode ≠ 7 ∧ s.mode ≠ 11 ∧ s.get REF_STS.STATE i = 6)
    ∧ (∃ (s : State) (p : Port) (w : Word), s.reaches p .REFIN_CMD 0 ∧ REFIN_CMD.LOCKOUT.of w = 1 ∧ REFIN_CMD.RELEASE.of w = 1)
    ∧ (∃ (s : State) (p : Port) (i : Nat) (word : Nat) (w : Word), i < 36 ∧ word ≤ 3 ∧ s.reaches p (refWord word) i ∧ refWordOk word w = true ∧ s.mode ≠ 7 ∧ s.mode ≠ 11)
    ∧ (∃ (s : State) (p : Port) (i : Nat) (word : Nat) (w : Word), i < 36 ∧ word ≤ 3 ∧ s.reaches p (refWord word) i ∧ refWordOk word w = true ∧ (s.mode = 7 ∨ s.mode = 11)) :=
  ⟨⟨(rq 5 6), .inb, 3, by unfold State.reaches; decide +kernel⟩,
    ⟨(rq 7 4), .inb, 0xC0000003, by unfold State.reaches; decide +kernel⟩,
    ⟨(rq 5 6), .inb, 3, 2, 0x00050005, by unfold State.reaches; decide +kernel⟩,
    ⟨(rq 7 4), .spi, 3, 0, 0x00050005, by unfold State.reaches; decide +kernel⟩⟩

theorem witness_EngineRetirements :
    (∃ (s : State) (e : Nat), e < 528 ∧ s.mode ≠ 0 ∧ s.mode ≠ 11 ∧ s.engRetired e = false ∧ s.get ENG_POOL.RETIRED < 16 ∧ (s.channelOf e).any (fun c => progPosts (s.prog c)) = true)
    ∧ (∃ (s : State) (e : Nat), e < 528 ∧ s.mode ≠ 0 ∧ s.mode ≠ 9 ∧ s.mode ≠ 11 ∧ s.engRetired e = false ∧ s.get ENG_POOL.RETIRED = 16) :=
  ⟨⟨(((run 5).set ENG_SPARE_FREE.BITS 0xffff).set ENG_CHMAP.PROG 2 3), 3, by decide +kernel⟩,
    ⟨(((run 5).set ENG_POOL.RETIRED 16)), 52, by decide +kernel⟩⟩

theorem witness_EngineSparesAndCommands :
    (∃ (s : State) (c : Nat) (k : Takeover), c < 512 ∧ (s.chan c).takeover = some k ∧ k.loaded = false)
    ∧ (∃ (s : State) (p : Port) (e : Nat), e < 528 ∧ s.reaches p .ENG_CMD 0 ∧ s.mode = 10 ∧ s.engRetired e = false ∧ s.on ENG_SPARE_FREE.BITS = true ∧ s.get ENG_POOL.RETIRED < 16)
    ∧ (∃ (s : State) (p : Port) (e : Nat), e < 528 ∧ s.reaches p .ENG_CMD 0 ∧ s.mode ≠ 10)
    ∧ (∃ (s : State) (p : Port) (c : Nat), c < 512 ∧ s.reaches p .ENG_CMD 0 ∧ s.liveOnly = none ∧ (isHost p && s.pair.streaming) = false)
    ∧ (∃ (s : State) (p : Port) (c : Nat), c < 512 ∧ s.reaches p .ENG_CMD 0 ∧ s.liveOnly = none ∧ (isHost p && s.pair.streaming) = true) :=
  ⟨⟨((run 5).setChan 5 {Chan.reset with takeover := some ⟨512, false, false⟩}), 5, (⟨512, false, false⟩), by decide +kernel⟩,
    ⟨(og 10), .spi, 52, by unfold State.reaches; decide +kernel⟩,
    ⟨(og 8), .spi, 52, by unfold State.reaches; decide +kernel⟩,
    ⟨(og 8), .spi, 52, by unfold State.reaches; decide +kernel⟩,
    ⟨({ og 5 with pair := { b0.pair with streaming := true } }), .spi, 52, by unfold State.reaches; decide +kernel⟩⟩

theorem witness_EngineIterations :
    (∃ (s : State) (c : Nat) (rd : Reading) (r : EngResult), c < 512 ∧ s.iterationDue c = true ∧ r.offset ≤ 380 ∧ (r.checkOk && clampOk (s.p0 c) ((s.chan c).baseP (s.p0 c)) (s.iterResult c r (s.phaseError c (if ((s.chan c).rezero && s.freqProg c) then (s.measured c r.phase) else (s.chan c).zero) (s.measured c r.phase)) ((if s.fromStream c then s else (s.inputOf c).elim s fun i => s.readInput i rd).iterFresh c rd) ((s.chan c).rezero && s.freqProg c)).p (bitsOf (s.param c 2) 31 16) (s.param c 7)) = true)
    ∧ (∃ (s : State) (c : Nat) (_rd : Reading) (r : EngResult), c < 512 ∧ s.iterationDue c = true ∧ s.engineOf c < 528 ∧ s.get ENG_POOL.RETIRED < 16 ∧ 380 < r.offset)
    ∧ (∃ (s : State) (c : Nat) (rd : Reading) (r : EngResult), c < 512 ∧ s.iterationDue c = true ∧ s.engineOf c < 528 ∧ s.get ENG_POOL.RETIRED < 16 ∧ r.offset ≤ 380 ∧ (r.checkOk && clampOk (s.p0 c) ((s.chan c).baseP (s.p0 c)) (s.iterResult c r (s.phaseError c (if ((s.chan c).rezero && s.freqProg c) then (s.measured c r.phase) else (s.chan c).zero) (s.measured c r.phase)) ((if s.fromStream c then s else (s.inputOf c).elim s fun i => s.readInput i rd).iterFresh c rd) ((s.chan c).rezero && s.freqProg c)).p (bitsOf (s.param c 2) 31 16) (s.param c 7)) = false) :=
  ⟨⟨itr, 3, (⟨1, 500, true⟩), rrr, by decide +kernel⟩,
    ⟨itr, 3, (⟨1, 500, true⟩), ({ rrr with offset := 390 }), by decide +kernel⟩,
    ⟨itr, 3, (⟨1, 500, true⟩), ({ rrr with p := 5 }), by decide +kernel⟩⟩

theorem witness_ReturnLaneAndAcks :
    (∃ (s : State) (body : BitVec 152) (crc : Word), s.rxReads = true ∧ returnCrcOk (returnOctets body crc) = true ∧ returnMsg (returnOctets body crc) = .unknown)
    ∧ (∃ (s : State) (body : BitVec 152) (crc : Word), s.rxReads = true ∧ returnCrcOk (returnOctets body crc) = false)
    ∧ (∃ (s : State), s.rst.level < 4 ∧ s.rst.settled = true ∧ bitOf (s.get RST_STS.SOFT) 0 = false)
    ∧ (∃ (s : State), s.on TWL_STS.RX_LOCK = true)
    ∧ (∃ (s : State) (ty : Octet) (q w1 w2 : BitVec 16) (st : BitVec 96) (crc : Word) (tag : Nat) (status : Nat) (port : Nat) (ch : Nat) (ts : Timestamp), s.rxReads = true ∧ returnCrcOk (ackOctets ty q w1 w2 st crc) = true ∧ returnMsg (ackOctets ty q w1 w2 st crc) = .ack tag status port ch ts ∧ Tab.get none s.twl.tags tag = none)
    ∧ (∃ (s : State) (ty : Octet) (q w1 w2 : BitVec 16) (st : BitVec 96) (crc : Word) (tag : Nat) (status : Nat) (port : Nat) (ch : Nat) (ts : Timestamp) (f : Nat) (e : TagEntry), s.rxReads = true ∧ returnCrcOk (ackOctets ty q w1 w2 st crc) = true ∧ returnMsg (ackOctets ty q w1 w2 st crc) = .ack tag status port ch ts ∧ Tab.get none s.twl.tags tag = some e ∧ (e.msg.kind = .delayReq f ∨ e.msg.kind = .pdelayReq f) ∧ s.mode ≠ 11 ∧ s.requestOut f e.msg.seqId = true ∧ status ≠ 0 ∧ (s.flow f).exch.t3 = [])
    ∧ (∃ (s : State) (ty : Octet) (q w1 w2 : BitVec 16) (st : BitVec 96) (crc : Word) (tag : Nat) (status : Nat) (port : Nat) (ch : Nat) (ts : Timestamp) (f : Nat) (e : TagEntry), s.rxReads = true ∧ returnCrcOk (ackOctets ty q w1 w2 st crc) = true ∧ returnMsg (ackOctets ty q w1 w2 st crc) = .ack tag status port ch ts ∧ Tab.get none s.twl.tags tag = some e ∧ (e.msg.kind = .delayReq f ∨ e.msg.kind = .pdelayReq f) ∧ s.mode ≠ 11 ∧ s.requestOut f e.msg.seqId = true ∧ status = 0 ∧ s.isStep = false ∧ s.fromStream (s.flowHome f) = false ∧ s.pair.streaming = false)
    ∧ (∃ (s : State) (tag : Nat), (∀ (f : Nat) (e : TagEntry), Tab.get none s.twl.tags tag = some e → e.msg.kind ≠ .delayReq f ∧ e.msg.kind ≠ .pdelayReq f))
    ∧ (∃ (s : State) (tag : Nat) (f : Nat) (e : TagEntry), Tab.get none s.twl.tags tag = some e ∧ (e.msg.kind = .delayReq f ∨ e.msg.kind = .pdelayReq f) ∧ s.requestOut f e.msg.seqId = true ∧ (s.flow f).exch.t3 = []) :=
  ⟨⟨({ rx with twl := { b0.twl with rxSeq := some 5 } }), (0x090007#152 <<< 128), retCrc (0x090007#152 <<< 128), by decide +kernel⟩,
    ⟨({ rx with twl := { b0.twl with rxSeq := some 5 } }), (0x090007#152 <<< 128), retCrc (0x090007#152 <<< 128) + 1, by decide +kernel⟩,
    ⟨({ rx with rst := {rx.rst with settled := true}}), by decide +kernel⟩,
    ⟨rx, by decide +kernel⟩,
    ⟨flr, 2, 5, 8, 1, (1#96 <<< 80), ackCrc 8 1 (1#96 <<< 80), 8, 0, 1, 1, ⟨0,0,0⟩, by decide +kernel⟩,
    ⟨flr, 2, 5, 7, 32769, (1#96 <<< 80), ackCrc 7 32769 (1#96 <<< 80), 7, 2, 1, 1, ⟨0,0,0⟩, 3, ((⟨dq, 0⟩ : TagEntry)), by decide +kernel⟩,
    ⟨flr, 2, 5, 7, 1, (3#96 <<< 80), ackCrc 7 1 (3#96 <<< 80), 7, 0, 1, 3, ⟨0,0,0⟩, 3, ((⟨dq, 0⟩ : TagEntry)), by decide +kernel⟩,
    ⟨flr, 8, by exact fun _ _ h => absurd ((by decide +kernel : Tab.get none flr.twl.tags 8 = none).symm.trans h) (by simp)⟩,
    ⟨flr, 7, 3, ((⟨dq, 0⟩ : TagEntry)), by decide +kernel⟩⟩

theorem witness_FlowTimeoutsAndRequests :
    (∃ (s : State) (f : Nat), f < 64 ∧ s.flowActive f = true ∧ s.mode ≠ 0 ∧ s.mode ≠ 11 ∧ (s.flow f).annTick ≠ some s.dev.tick)
    ∧ (∃ (s : State) (f : Nat), f < 64 ∧ s.flowActive f = true ∧ s.mode ≠ 0 ∧ s.mode ≠ 11 ∧ (s.flow f).syncTick ≠ some s.dev.tick)
    ∧ (∃ (s : State) (f : Nat), f < 64 ∧ s.flowActive f = true ∧ s.mode ≠ 0 ∧ s.mode ≠ 11 ∧ (s.flow f).exch.followDue = true)
    ∧ (∃ (s : State) (f : Nat), f < 64 ∧ s.flowActive f = true ∧ s.mode ≠ 0 ∧ s.mode ≠ 11 ∧ (s.flow f).exch.followDue = false ∧ (s.flow f).exch.waitsResponse = true)
    ∧ (∃ (s : State) (f : Nat) (pd : Bool), f < 64 ∧ s.flowActive f = true ∧ s.mirTransmits = true ∧ s.flowPeerDelay f = pd ∧ (s.flow f).hdr ≠ [] ∧ s.canSend (s.flow f).lane = true)
    ∧ (∃ (s : State) (f : Nat) (pd : Bool), f < 64 ∧ s.flowActive f = true ∧ s.mirTransmits = true ∧ s.flowPeerDelay f = pd ∧ (s.flow f).hdr ≠ [] ∧ s.canSend (s.flow f).lane = false) :=
  ⟨⟨(fl.setFlow 3 { Flow.reset with exch := {Exchange.empty with reqOut := true} }), 3, by decide +kernel⟩,
    ⟨(fl.setFlow 3 { Flow.reset with exch := {Exchange.empty with reqOut := true} }), 3, by decide +kernel⟩,
    ⟨(fl.setFlow 3 { Flow.reset with annSeen := 2, syncOk := true, exch := {Exchange.empty with followDue := true} }), 3, by decide +kernel⟩,
    ⟨(fl.setFlow 3 { Flow.reset with exch := {Exchange.empty with reqOut := true} }), 3, by decide +kernel⟩,
    ⟨(fl.setFlow 3 { Flow.reset with hdr := [5], exch := {Exchange.empty with reqOut := true} }), 3, false, by decide +kernel⟩,
    ⟨((fl.setFlow 3 { Flow.reset with hdr := [5], lane := 2, exch := {Exchange.empty with reqOut := true} }).set MIR_CTL.TX_EN 0), 3, false, by decide +kernel⟩⟩

theorem witness_OriginStreams :
    (∃ (s : State) (k : Nat), k < 64 ∧ s.on ORIG_CFG.EN k = true ∧ s.mirTransmits = true ∧ s.groupUsed (s.get ORIG_CFG.PGROUP k) = true ∧ s.canSend (s.get MIR_PGRP.LANE (s.get ORIG_CFG.PGROUP k)) = true)
    ∧ (∃ (s : State) (k : Nat), k < 64 ∧ s.on ORIG_CFG.EN k = true ∧ s.mirTransmits = true ∧ (s.groupUsed (s.get ORIG_CFG.PGROUP k) && s.canSend (s.get MIR_PGRP.LANE (s.get ORIG_CFG.PGROUP k))) = false) :=
  ⟨⟨og', 3, by decide +kernel⟩,
    ⟨(og'.set MIR_CTL.TX_EN 0), 3, by decide +kernel⟩⟩

theorem witness_QualityMessages :
    (∃ (s : State) (i : Nat), i < 32 ∧ s.on ESMC_MAP.EN i = true ∧ s.mode ≠ 0 ∧ s.isStep = false ∧ s.mode ≠ 11 ∧ s.pair.streaming = false ∧ Tab.get 0 s.twl.qlTick i ≠ s.dev.tick + 1)
    ∧ (∃ (s : State) (k : Nat) (event : Bool), k < 8 ∧ s.on ESMC_TX.EN k = true ∧ s.mirTransmits = true ∧ s.groupUsed (s.get ESMC_TX.PGROUP k) = true ∧ s.canSend (s.get MIR_PGRP.LANE (s.get ESMC_TX.PGROUP k)) = true ∧ (event = true → (streamOf s.twl.esmc k).lastQl ≠ some (s.txQl k))) :=
  ⟨⟨((run 5).set ESMC_MAP.EN 1 3), 3, by decide +kernel⟩,
    ⟨emm, 3, true, by decide +kernel⟩⟩

theorem witness_FramesAndBlockLock :
    (∃ (s : State) (l : Nat), l < 4 ∧ s.mode ≠ 0 ∧ s.mode ≠ 11 ∧ bitOf (s.get MIR_STS.BLOCK_LOCK) l = true)
    ∧ (∃ (s : State) (l : Nat), l < 4 ∧ s.mode ≠ 0 ∧ s.mode ≠ 11 ∧ bitOf (s.get RST_STS.SOFT) 1 = false)
    ∧ (∃ (s : State) (l : Nat) (_corr : Nat) (_unc : Nat) (os : List Octet), l < 4 ∧ s.accepts l = true ∧ 2048 < os.length)
    ∧ (∃ (s : State) (l : Nat) (_corr : Nat) (_unc : Nat) (os : List Octet), l < 4 ∧ s.accepts l = true ∧ os.length ≤ 2048 ∧ fcsOk os = false)
    ∧ (∃ (s : State) (l : Nat) (_corr : Nat) (_unc : Nat) (os : List Octet), l < 4 ∧ s.accepts l = true ∧ fcsOk os = true ∧ os.length < 80)
    ∧ (∃ (s : State) (l : Nat) (_corr : Nat) (_unc : Nat) (os : List Octet), l < 4 ∧ s.accepts l = true ∧ os.length ≤ 2048 ∧ fcsOk os = true ∧ 80 ≤ os.length ∧ 256 ≤ s.intake.fifo.length)
    ∧ (∃ (s : State) (l : Nat) (_corr : Nat) (_unc : Nat) (os : List Octet), l < 4 ∧ s.accepts l = true ∧ os.length ≤ 2048 ∧ fcsOk os = true ∧ 80 ≤ os.length ∧ s.intake.fifo.length < 256 ∧ (s.lane l).held = []) :=
  ⟨⟨ac, 2, by decide +kernel⟩,
    ⟨ac, 2, by decide +kernel⟩,
    ⟨ac, 2, 0, 0, (List.replicate 2049 0), by decide +kernel⟩,
    ⟨ac, 2, 4, 2, ([] : List Octet), by decide +kernel⟩,
    ⟨ac, 2, 0, 1, ([0, 0, 0, 0] : List Octet), by decide +kernel⟩,
    ⟨({ ac with intake := { b0.intake with fifo := List.replicate 256 ⟨1, stampOf [], []⟩ } }), 2, 0, 1, goodFrame, by exact ⟨by decide, by decide +kernel, by decide, goodFrame_ok, by decide, by decide +kernel⟩⟩,
    ⟨ac, 2, 0, 1, goodFrame, by exact ⟨by decide, by decide +kernel, by decide, goodFrame_ok, by decide, by decide +kernel⟩⟩⟩

theorem witness_ParsePassStarts :
    (∃ (s : State) (p : Pass) (ps : List Pass), s.intakeRuns = true ∧ s.passAt s.intake.nextLane = none ∧ s.intake.recirc = p :: ps)
    ∧ (∃ (s : State) (f : Frame) (fs : List Frame), s.intakeRuns = true ∧ s.passAt s.intake.nextLane = none ∧ s.intake.recirc = [] ∧ s.intake.fifo = f :: fs) :=
  ⟨⟨({ ac with intake := { b0.intake with recirc := [pa0, pa0], nextLane := 15 } }), pa0, [pa0], by decide +kernel⟩,
    ⟨({ ac with intake := { b0.intake with fifo := [fr0, fr0] } }), fr0, [fr0], by decide +kernel⟩⟩

theorem witness_ParsePassDecisions : ∃ (s : State) (k : Nat) (p : Pass), k < 16 ∧ s.passAt k = some p ∧ (s.lane p.frame.lane).held = [] ∧ (s.lane p.frame.lane).expect = some p.frame.stamp.seq ∧ p.frame.stamp.seq < 65536 := ⟨pd3, 3, (⟨ethf, false, 0, 0, [true]⟩), by decide +kernel⟩

theorem witness_FrameReleases :
    (∃ (s : State) (l : Nat) (d : Decided) (ds : List Decided), l < 4 ∧ (s.lane l).ready = d :: ds ∧ d.copies = [] ∧ d.fate = .drop)
    ∧ (∃ (s : State) (l : Nat) (d : Decided) (ds : List Decided) (cause : Nat), l < 4 ∧ (s.lane l).ready = d :: ds ∧ d.copies = [] ∧ d.fate = .slow cause false ∧ s.intake.slow.length < 960 ∧ (s.token 1026 (s.get PARSE_SLOW_POL0.RATE) (s.get PARSE_SLOW_POL0.BURST)).1 = true)
    ∧ (∃ (s : State) (l : Nat) (d : Decided) (ds : List Decided) (flow : Nat) (kind : Nat) (body : Nat) (ip : Nat), l < 4 ∧ (s.lane l).ready = d :: ds ∧ d.copies = [] ∧ d.fate = .deliver 0 flow kind body ip) :=
  ⟨⟨(rel .drop), 2, (⟨fr0, .drop, []⟩), ([⟨fr0, .drop, []⟩]), by decide +kernel⟩,
    ⟨(rel (.slow 0 false)), 2, (⟨fr0, .slow 0 false, []⟩), ([⟨fr0, .drop, []⟩]), ((0 : Nat)), by decide +kernel⟩,
    ⟨(rel (.deliver 0 3 1 14 0)), 2, (⟨fr0, .deliver 0 3 1 14 0, []⟩), ([⟨fr0, .drop, []⟩]), ((3 : Nat)), ((1: Nat)), ((14 : Nat)), ((0 : Nat)), by decide +kernel⟩⟩

theorem witness_IntakeHousekeeping :
    (∃ (s : State) (l : Nat) (e : Nat) (d : Decided), l < 4 ∧ s.intakeRuns = true ∧ (s.lane l).held = [d] ∧ (s.lane l).expect = some e ∧ e < 65536 ∧ d.frame.stamp.seq < 65536 ∧ d.frame.stamp.seq ≠ e)
    ∧ (∃ (s : State) (e : Nat) (x : FragEntry), e < 256 ∧ s.frag e = some x ∧ x.at_ + 2000 ≤ s.dev.tick)
    ∧ (∃ (s : State) (e : Nat) (x : FragEntry), e < 256 ∧ s.frag e = some x ∧ s.dev.tick < x.at_ + 2000)
    ∧ (∃ (s : State) (p : Port), s.reaches p .PARSE_BANK_CMD 0 ∧ s.mode ≠ 7 ∧ s.mode ≠ 11 ∧ s.on PARSE_BANK_CMD.SWAP = false ∧ s.on PARSE_BANK_STS.RETIRING = false)
    ∧ (∃ (s : State) (p : Port), s.reaches p .PARSE_BANK_CMD 0 ∧ s.mode ≠ 7 ∧ s.mode ≠ 11 ∧ s.on PARSE_BANK_CMD.SWAP = false ∧ s.on PARSE_BANK_STS.RETIRING = true)
    ∧ (∃ (s : State) (e : SlowEntry) (es : List SlowEntry), s.on MGMT_STS.FW_RUN = true ∧ s.intake.slow = e :: es) :=
  ⟨⟨({ ac with intake := { b0.intake with lanes := [(2, lo 65530 [⟨{ fr0 with stamp := { fr0.stamp with seq := 5 } }, .drop, []⟩] [])] } }), 2, 65530, (⟨{ fr0 with stamp := { fr0.stamp with seq := 5 } }, .drop, []⟩), by decide +kernel⟩,
    ⟨({ ac with intake := { b0.intake with frags := [(5, some ⟨⟨1, 2, 3, 4⟩, true, false, 7⟩)] }, dev := { b0.dev with tick := 2007 } }), 5, (⟨⟨1, 2, 3, 4⟩, true, false, 7⟩), by decide +kernel⟩,
    ⟨({ ac with intake := { b0.intake with frags := [(5, some ⟨⟨1, 2, 3, 4⟩, true, false, 7⟩)] }, dev := { b0.dev with tick := 2006 } }), 5, (⟨⟨1, 2, 3, 4⟩, true, false, 7⟩), by decide +kernel⟩,
    ⟨(ac.set DEV_GATE.GATE 0x1fff), .spi, by unfold State.reaches; decide +kernel⟩,
    ⟨((ac.set DEV_GATE.GATE 0x1fff).set PARSE_BANK_STS.RETIRING 1), .inb, by unfold State.reaches; decide +kernel⟩,
    ⟨({ ac.set MGMT_STS.FW_RUN 1 with intake := { b0.intake with slow := [⟨1, fr0⟩, ⟨2, fr0⟩] } }), (⟨1, fr0⟩), ([⟨2, fr0⟩]), by decide +kernel⟩⟩

theorem witness_PairHeartbeats :
    (∃ (s : State), (3 ≤ s.mode ∧ s.mode ≤ 8 ∨ s.mode = 10))
    ∧ (∃ (s : State), (¬ (3 ≤ s.mode ∧ s.mode ≤ 8 ∨ s.mode = 10)))
    ∧ (∃ (s : State) (k : Nat), k < 2 ∧ s.pairRuns = true ∧ s.pair.holdStep = false)
    ∧ (∃ (s : State) (k : Nat), k < 2 ∧ s.pairRuns = true ∧ s.dev.ticking = true ∧ k ∈ s.pair.hbEdge)
    ∧ (∃ (s : State) (k : Nat), k < 2 ∧ s.pairRuns = true ∧ k ∉ s.pair.hbEdge ∧ s.on (hbOk k) = true ∧ s.on (hbOk (1 - k)) = true)
    ∧ (∃ (s : State) (k : Nat), k < 2 ∧ s.pairRuns = true ∧ k ∉ s.pair.hbEdge ∧ s.on (hbOk k) = true ∧ s.on (hbOk (1 - k)) = false ∧ s.on PAIR_STS.LINK_UP = false ∧ s.on PAIR_STS.PEER_ALIVE = true ∧ s.isStandby = false) :=
  ⟨⟨(run 3), by decide +kernel⟩,
    ⟨b0, by decide +kernel⟩,
    ⟨(pr 3 1), 1, by decide +kernel⟩,
    ⟨((let s := ((pr 3 1).set PAIR_STS.HB1_OK 1).set PAIR_STS.HB0_OK 1; {s with pair := {s.pair with hbEdge := [1]}, dev := {s.dev with ticking := true}})), 1, by decide +kernel⟩,
    ⟨(((pr 3 1).set PAIR_STS.HB0_OK 1).set PAIR_STS.HB1_OK 1), 0, by decide +kernel⟩,
    ⟨(((pr 3 1).set PAIR_STS.HB1_OK 1).set PAIR_STS.PEER_ALIVE 1), 1, by decide +kernel⟩⟩

theorem witness_PairClaims :
    (∃ (s : State), s.pairRuns = true ∧ s.pair.peerLow = false ∧ s.pair.claimWant = true ∧ s.get PAIR_STS.ROLE = 0 ∧ s.isRun = true)
    ∧ (∃ (s : State), s.pairRuns = true ∧ s.pair.peerLow = true)
    ∧ (∃ (s : State), s.pairRuns = true ∧ s.pair.forming = true ∧ s.isRun = true ∧ s.get PAIR_STS.ROLE = 0 ∧ s.on PAIR_STS.LINK_UP = false ∧ s.on PAIR_STS.PEER_ALIVE = false ∧ s.pair.peerLow = true)
    ∧ (∃ (s : State), s.pairRuns = true ∧ s.pair.forming = true ∧ s.isRun = true ∧ s.get PAIR_STS.ROLE = 0 ∧ s.on PAIR_STS.LINK_UP = false ∧ s.on PAIR_STS.PEER_ALIVE = false ∧ s.pair.peerLow = false ∧ s.pair.waitDone = false) :=
  ⟨⟨(let s := pr 3 0; { s with pair := { s.pair with claimWant := true } }), by decide +kernel⟩,
    ⟨(let s := pr 3 0; { s with pair := { s.pair with peerLow := true } }), by decide +kernel⟩,
    ⟨(let s := pr 3 0; { s with pair := { s.pair with peerLow := true, forming := true } }), by decide +kernel⟩,
    ⟨(let s := pr 3 0; { s with pair := { s.pair with forming := true } }), by decide +kernel⟩⟩

theorem witness_PairLink :
    (∃ (s : State), s.pairRuns = true ∧ s.on PAIR_STS.LINK_UP = false ∧ s.pair.forming = false)
    ∧ (∃ (s : State) (_b : Bool), s.pairRuns = true ∧ s.on PAIR_STS.LINK_UP = true ∧ (s.on PAIR_STS.HB0_OK = true ∨ s.on PAIR_STS.HB1_OK = true) ∧ s.isActive = true)
    ∧ (∃ (s : State) (_b : Bool), s.pairRuns = true ∧ s.on PAIR_STS.LINK_UP = true ∧ (s.on PAIR_STS.HB0_OK = true ∨ s.on PAIR_STS.HB1_OK = true) ∧ s.isStandby = true ∧ s.isStep = true ∧ s.epochRuns = false)
    ∧ (∃ (s : State) (l : Nat) (_tick : Nat) (_epoch : Nat) (_n : Nat) (_crc : Bool) (_same : Bool) (_act : Bool), s.pairRuns = true ∧ l < 4) :=
  ⟨⟨((pr 8 2)), by decide +kernel⟩,
    ⟨(((pr 5 1).set PAIR_STS.LINK_UP 1).set PAIR_STS.HB0_OK 1), true, by decide +kernel⟩,
    ⟨(((pr 7 2).set PAIR_STS.LINK_UP 1).set PAIR_STS.HB0_OK 1), true, by decide +kernel⟩,
    ⟨((pr 8 2)), 1, 2, 3, 4, true, true, false, by decide +kernel⟩⟩

theorem witness_PeerRecords :
    (∃ (s : State) (_pos : Bool) (_revert : Bool) (_pairId : Nat) (_pref : Nat) (_hash : Word), s.pairRuns = true ∧ s.pair.forming = false ∧ s.pair.waitDone = false)
    ∧ (∃ (s : State) (_code : Nat) (_mode : Nat) (_phase : Nat) (_b : Int) (_claim : Bool), s.pairRuns = true ∧ s.pair.helloBad = false ∧ s.isActive = false ∧ s.on PAIR_STS.PACED = false ∧ s.pair.roleTick ≤ s.recordTick ∧ s.epochRuns = false ∧ s.pair.forming = false ∧ s.pair.epochDue = false)
    ∧ (∃ (s : State) (_code : Nat) (_mode : Nat) (_phase : Nat) (_b : Int), s.pairRuns = true ∧ s.pair.helloBad = false ∧ s.isActive = true ∧ s.pair.streaming = false ∧ s.pair.roleTick ≤ s.recordTick)
    ∧ (∃ (s : State) (_cause : Nat) (_tick : Nat), s.pairRuns = true ∧ s.pair.helloBad = false ∧ s.isStandby = true ∧ (s.mode = 7 ∨ s.mode = 8) ∧ s.epochRuns = false)
    ∧ (∃ (s : State) (c : Nat) (_tick : Nat), s.pairRuns = true ∧ s.pair.helloBad = false ∧ c < 512 ∧ s.on PAIR_STS.FORMED = true ∧ s.on PAIR_STS.IN_STEP = true)
    ∧ (∃ (s : State) (_pos : Bool) (_die : Nat), s.pairRuns = true ∧ 3 ≤ s.mode ∧ s.mode ≤ 10 ∧ s.on PAIR_STS.LINK_UP = true)
    ∧ (∃ (s : State) (_n : Nat), s.pairRuns = true ∧ s.cloneSeeks = true) :=
  ⟨⟨(pr 8 2), true, false, 0, 0, ((0 : Word)), by decide +kernel⟩,
    ⟨(pr 8 2), 3, 7, 2, 4, false, by decide +kernel⟩,
    ⟨(pr 5 1), 2, 7, 3, ((5 : Int)), by decide +kernel⟩,
    ⟨(pr 7 2), 2, 7, by decide +kernel⟩,
    ⟨(((pr 8 2).set PAIR_STS.FORMED 1).set PAIR_STS.IN_STEP 1), 5, 7, by decide +kernel⟩,
    ⟨(((pr 8 2).set PAIR_STS.LINK_UP 1)), true, 7, by decide +kernel⟩,
    ⟨(let s := (pr 1 0); { s with rst := { s.rst with cloneOpen := true } }), 7, by decide +kernel⟩⟩

theorem witness_EventStream :
    (∃ (s : State) (n : Nat) (e : Nat) (_ps : List (Nat × Word)) (_b : Bool), s.pairRuns = true ∧ s.pair.helloBad = false ∧ s.isStandby = true ∧ s.isStep = true ∧ s.dev.tick < s.ownTick e ∧ s.pair.rxSseq = some n)
    ∧ (∃ (s : State) (n : Nat) (e : Nat) (_m : Nat) (_is : List InputReading), s.pairRuns = true ∧ s.pair.helloBad = false ∧ s.isStandby = true ∧ s.isStep = true ∧ s.dev.tick < s.ownTick e ∧ s.pair.rxSseq = some n)
    ∧ (∃ (s : State) (n : Nat) (e : Nat) (_f : Nat) (_st : Stamp) (_os : List Octet), s.pairRuns = true ∧ s.pair.helloBad = false ∧ s.isStandby = true ∧ s.isStep = true ∧ s.dev.tick < s.ownTick e ∧ s.pair.rxSseq = some n)
    ∧ (∃ (s : State) (n : Nat) (e : Nat) (_i : Nat) (_ssm : Nat) (_essm : Nat), s.pairRuns = true ∧ s.pair.helloBad = false ∧ s.isStandby = true ∧ s.isStep = true ∧ s.dev.tick < s.ownTick e ∧ s.pair.rxSseq = some n)
    ∧ (∃ (s : State) (n : Nat) (e : Nat) (r : HopRec), s.pairRuns = true ∧ s.pair.helloBad = false ∧ s.isStandby = true ∧ s.isStep = true ∧ s.dev.tick < s.ownTick e ∧ s.pair.rxSseq = some n ∧ r.sseq = n ∧ r.exec = e)
    ∧ (∃ (s : State) (_n : Nat) (e : Nat) (_i : Nat) (_ssm : Nat) (_essm : Nat), s.pairRuns = true ∧ s.pair.helloBad = false ∧ s.isStandby = true ∧ s.isStep = true ∧ s.ownTick e ≤ s.dev.tick)
    ∧ (∃ (s : State) (n : Nat) (_e : Nat) (r : HopRec), s.pairRuns = true ∧ s.pair.helloBad = false ∧ s.isStandby = true ∧ s.mode = 8 ∧ r.sseq = n) :=
  ⟨⟨es, 5, 300, ([(5,(6 : Word))]), true, by decide +kernel⟩,
    ⟨es, 5, 300, 5, (([] : List InputReading)), by decide +kernel⟩,
    ⟨es, 5, 300, 5, ((⟨5,0,0,0,0,true,true,false,false,false,0,0⟩ : Stamp)), (([] : List Octet)), by decide +kernel⟩,
    ⟨es, 5, 300, 5, 6, 7, by decide +kernel⟩,
    ⟨es, 5, 300, (({sseq := 5, exec := 300, ofs := 3, chTarget := true, ch := 4, gmask := 5, sources := 0, preset := 0} : HopRec)), by decide +kernel⟩,
    ⟨es, 5, 0, 5, 6, 7, by decide +kernel⟩,
    ⟨(let s := ((pr 8 2).set CH_CFG.EN 1 4).set CH_HOP.HOP_EN 1 4; { s with pair := { s.pair with joined := [4] } }), 5, 300, (({sseq := 5, exec := 300, ofs := 3, chTarget := true, ch := 4, gmask := 5, sources := 0, preset := 0} : HopRec)), by decide +kernel⟩⟩

theorem witness_DigestStepsAndComparison :
    (∃ (s : State), s.pairRuns = true ∧ s.on PAIR_STS.FORMED = true ∧ 0 ≤ s.activeTick ∧ s.activeTick % 1000 = 0)
    ∧ (∃ (s : State), s.pairRuns = true ∧ s.on PAIR_STS.FORMED = true ∧ 0 ≤ s.activeTick ∧ s.activeTick % 1000 ≠ 0)
    ∧ (∃ (s : State) (k : Nat) (d : DigestRec) (_flags : Nat), s.pairRuns = true ∧ s.pair.helloBad = false ∧ s.digestsCount = true ∧ s.pair.digests.find? (·.tick == k) = some d ∧ s.isStandby = true ∧ s.get PAIR_EPOCH_STS.PHASE = 5)
    ∧ (∃ (s : State) (k : Nat) (d : DigestRec) (_flags : Nat) (crc : Word), s.pairRuns = true ∧ s.pair.helloBad = false ∧ s.digestsCount = true ∧ s.pair.digests.find? (·.tick == k) = some d ∧ d.crc ≠ crc)
    ∧ (∃ (s : State) (k : Nat) (d : DigestRec) (c : Nat) (crcs : List Nat) (p : Nat × Word × Nat), s.pairRuns = true ∧ s.pair.helloBad = false ∧ s.digestsCount = true ∧ s.pair.digests.find? (·.tick == k) = some d ∧ s.pair.peerDigest = some p ∧ p.1 = k ∧ s.isStep = true ∧ s.isStandby = true ∧ s.epochRuns = false ∧ ((List.range 512).find? fun c => d.chs.getD c 0 != crcs.getD c 0 && !(s.pair.repair.any fun r => r.1 == c && decide (r.2 ≤ k))) = some c ∧ d.flags % 16 = 0)
    ∧ (∃ (s : State) (k : Nat) (d : DigestRec) (c : Nat) (crcs : List Nat) (p : Nat × Word × Nat), s.pairRuns = true ∧ s.pair.helloBad = false ∧ s.digestsCount = true ∧ s.pair.digests.find? (·.tick == k) = some d ∧ s.pair.peerDigest = some p ∧ p.1 = k ∧ s.isStep = true ∧ s.isStandby = true ∧ s.epochRuns = false ∧ ((List.range 512).find? fun c => d.chs.getD c 0 != crcs.getD c 0 && !(s.pair.repair.any fun r => r.1 == c && decide (r.2 ≤ k))) = some c ∧ d.flags % 16 ≠ 0)
    ∧ (∃ (s : State) (k : Nat) (d : DigestRec), s.pairRuns = true ∧ s.pair.helloBad = false ∧ s.digestsCount = true ∧ s.pair.digests.find? (·.tick == k) = some d ∧ s.pair.digests.head? = some d ∧ s.pair.holdStep = false ∧ s.ownTick d.tick + 8 ≤ s.dev.tick ∧ s.pair.peerDigest = none ∧ s.isStep = true ∧ s.isStandby = true ∧ s.epochRuns = false ∧ d.flags % 16 = 0) :=
  ⟨⟨((pr 8 2).set PAIR_STS.FORMED 1), by decide +kernel⟩,
    ⟨(let s := (pr 8 2).set PAIR_STS.FORMED 1; { s with pair := { s.pair with rel := 5 } }), by decide +kernel⟩,
    ⟨((dgs 8 0).set PAIR_EPOCH_STS.PHASE 5), 1000, dg, 3, by decide +kernel⟩,
    ⟨((dgs 8 0).set PAIR_EPOCH_STS.PHASE 5), 1000, dg, 3, ((9 : Word)), by decide +kernel⟩,
    ⟨(dgp 0 1), 1000, dg, 2, [1,2,4], (((1000, 6, 1) : Nat × Word × Nat)), by decide +kernel⟩,
    ⟨(dgp 1 1), 1000, ({dg with flags := 1}), 2, [1,2,4], (((1000, 6, 1) : Nat × Word × Nat)), by decide +kernel⟩,
    ⟨((let s := dgs 7 0; { s with dev := { s.dev with tick := 2000 } })), 1000, dg, by decide +kernel⟩⟩

theorem witness_StandbyEpochs :
    (∃ (s : State) (n : Nat), s.pairRuns = true ∧ s.pair.helloBad = false ∧ s.isStandby = true ∧ s.get PAIR_EPOCH_STS.EPOCH = n ∧ s.mode = 8 ∧ s.on PAIR_STS.LINK_UP = true ∧ s.on PAIR_STS.PEER_ALIVE = true ∧ s.pair.peerRole = 1 ∧ s.get PAIR_STS.PEER_MODE ≠ 10 ∧ s.epochRuns = false ∧ s.pair.detachPend = false ∧ s.pair.takeoverPend = false)
    ∧ (∃ (s : State) (n : Nat) (_k : Nat), s.pairRuns = true ∧ s.pair.helloBad = false ∧ s.isStandby = true ∧ s.get PAIR_EPOCH_STS.EPOCH = n ∧ s.get PAIR_EPOCH_STS.PHASE = 1)
    ∧ (∃ (s : State) (n : Nat) (g : Int) (_d : Nat), s.pairRuns = true ∧ s.pair.helloBad = false ∧ s.isStandby = true ∧ s.get PAIR_EPOCH_STS.EPOCH = n ∧ s.get PAIR_EPOCH_STS.PHASE = 2 ∧ g.natAbs ≤ 12)
    ∧ (∃ (s : State) (n : Nat) (c : Nat) (_k : Nat) (_d : ChanCopy), s.pairRuns = true ∧ s.pair.helloBad = false ∧ s.isStandby = true ∧ s.get PAIR_EPOCH_STS.EPOCH = n ∧ c < 512 ∧ s.get PAIR_EPOCH_STS.PHASE = 3)
    ∧ (∃ (s : State) (n : Nat), s.pairRuns = true ∧ s.pair.helloBad = false ∧ s.isStandby = true ∧ s.get PAIR_EPOCH_STS.EPOCH = n ∧ s.get PAIR_EPOCH_STS.PHASE = 3)
    ∧ (∃ (s : State) (n : Nat) (c : Nat) (_k : Nat) (_d : ChanCopy), s.pairRuns = true ∧ s.pair.helloBad = false ∧ s.isStandby = true ∧ s.get PAIR_EPOCH_STS.EPOCH = n ∧ c < 512 ∧ 4 ≤ s.get PAIR_EPOCH_STS.PHASE)
    ∧ (∃ (s : State) (n : Nat) (c : Nat) (_d : ChanCopy), s.pairRuns = true ∧ s.pair.helloBad = false ∧ s.isStandby = true ∧ s.get PAIR_EPOCH_STS.EPOCH = n ∧ c < 512 ∧ s.isActive = false ∧ c ∈ s.pair.copyPend ∧ s.epochRuns = true)
    ∧ (∃ (s : State) (n : Nat) (_k : Nat), s.pairRuns = true ∧ s.pair.helloBad = false ∧ s.isStandby = true ∧ s.get PAIR_EPOCH_STS.EPOCH = n ∧ s.get PAIR_EPOCH_STS.PHASE = 6 ∧ s.pair.commitAt = none)
    ∧ (∃ (s : State) (n : Nat), s.pairRuns = true ∧ s.pair.helloBad = false ∧ s.isStandby = true ∧ s.get PAIR_EPOCH_STS.EPOCH = n ∧ s.epochRuns = true ∧ s.pair.commitAt = none ∧ s.pair.joined.all (· < 512) = true ∧ s.get PAIR_EPOCH_STS.PHASE = 3)
    ∧ (∃ (s : State) (n : Nat) (_k : Nat), s.pairRuns = true ∧ s.pair.helloBad = false ∧ s.isStandby = true ∧ s.get PAIR_EPOCH_STS.EPOCH = n ∧ s.isStep = true)
    ∧ (∃ (s : State) (n : Nat), s.pairRuns = true ∧ s.pair.helloBad = false ∧ s.isStandby = true ∧ s.get PAIR_EPOCH_STS.EPOCH = n ∧ s.isStep = true ∧ s.on PAIR_CFG.REVERT = true ∧ s.preferred = true ∧ s.pair.helloMismatch = false ∧ s.pair.holdStep = false) :=
  ⟨⟨(ep 8 0), 9, by decide +kernel⟩,
    ⟨(ep 8 1), 9, 5, by decide +kernel⟩,
    ⟨(ep 8 2), 9, ((-5 : Int)), 5, by decide +kernel⟩,
    ⟨(ep 8 3), 9, 5, 6, cc, by decide +kernel⟩,
    ⟨(ep 8 3), 9, by decide +kernel⟩,
    ⟨(ep 8 4), 9, 5, 6, cc, by decide +kernel⟩,
    ⟨(ep 8 4 (fun p => { p with copyPend := [5, 6] })), 9, 5, cc, by decide +kernel⟩,
    ⟨(ep 8 6), 9, 5, by decide +kernel⟩,
    ⟨(ep 8 3), 9, by decide +kernel⟩,
    ⟨(ep 7 0), 9, 5, by decide +kernel⟩,
    ⟨(((ep 7 0 (fun p => { p with prefAgreed := true })).set PAIR_CFG.REVERT 1).set PAIR_CFG.PREF 1), 9, by decide +kernel⟩⟩

theorem witness_ActiveEpochs :
    (∃ (s : State) (n : Nat), s.pairRuns = true ∧ s.pair.helloBad = false ∧ s.isActive = true ∧ n < 65536 ∧ s.isRun = true ∧ s.on PAIR_STS.LINK_UP = true)
    ∧ (∃ (s : State) (n : Nat), s.pairRuns = true ∧ s.pair.helloBad = false ∧ s.isActive = true ∧ s.get PAIR_EPOCH_STS.EPOCH = n ∧ s.pair.streaming = true)
    ∧ (∃ (s : State) (n : Nat), s.pairRuns = true ∧ s.pair.helloBad = false ∧ s.isActive = true ∧ s.get PAIR_EPOCH_STS.EPOCH = n ∧ s.epochRuns = true)
    ∧ (∃ (s : State) (n : Nat) (p : Port), s.pairRuns = true ∧ s.pair.helloBad = false ∧ s.isActive = true ∧ s.get PAIR_EPOCH_STS.EPOCH = n ∧ s.reaches p .PAIR_CMD 0 ∧ s.isRun = true ∧ s.peerInStep = true ∧ s.pair.handoverAt = none)
    ∧ (∃ (s : State) (_n : Nat) (c : Nat) (_d : ChanCopy), s.pairRuns = true ∧ s.pair.helloBad = false ∧ s.isActive = true ∧ c < 512 ∧ c ∈ s.pair.copied ∧ (s.pair.repair.any (·.1 == c)) = true) :=
  ⟨⟨(acP 5 5), 9, by decide +kernel⟩,
    ⟨(acP 5 5 (fun p => { p with streaming := true })), 9, by decide +kernel⟩,
    ⟨(acP 5 5), 9, by decide +kernel⟩,
    ⟨(gp ((acP 5 5).set PAIR_STS.IN_STEP 1)), 9, Port.spi, by unfold State.reaches; decide +kernel⟩,
    ⟨(acP 5 5), 9, 2, cc, by decide +kernel⟩⟩

theorem witness_PairCommands :
    (∃ (s : State) (p : Port), isHost p = true ∧ s.reaches p .PAIR_CMD 0 ∧ s.isRun = true ∧ s.isActive = true ∧ s.on PAIR_STS.LINK_UP = true)
    ∧ (∃ (s : State) (p : Port), isHost p = true ∧ s.reaches p .PAIR_CMD 0 ∧ s.mode = 8 ∧ s.isStandby = false)
    ∧ (∃ (s : State) (p : Port), isHost p = true ∧ s.reaches p .PAIR_CMD 0 ∧ s.mode = 8 ∧ s.isStandby = true ∧ s.on PAIR_STS.LINK_UP = true ∧ s.on PAIR_STS.PEER_ALIVE = true ∧ s.pair.peerRole = 1 ∧ s.get PAIR_STS.PEER_MODE ≠ 10 ∧ s.epochRuns = false ∧ s.pair.detachPend = false ∧ s.pair.takeoverPend = false)
    ∧ (∃ (s : State) (p : Port), isHost p = true ∧ s.reaches p .PAIR_CMD 0 ∧ s.mode = 8 ∧ s.isStandby = true ∧ s.epochRuns = true ∧ s.pair.commitAt = none ∧ s.pair.joined.all (· < 512) = true)
    ∧ (∃ (s : State) (p : Port) (i : Instr), isHost p = true ∧ s.reaches p .PAIR_CMD 0 ∧ s.mode = 7 ∧ i ∈ [Instr.resync p, Instr.abort p]) :=
  ⟨⟨(gp ((acP 5 5))), Port.spi, by unfold State.reaches; decide +kernel⟩,
    ⟨(gp (pr 8 0)), Port.spi, by unfold State.reaches; decide +kernel⟩,
    ⟨(gp ((ep 8 0))), Port.spi, by unfold State.reaches; decide +kernel⟩,
    ⟨(gp ((ep 8 5))), Port.spi, by unfold State.reaches; decide +kernel⟩,
    ⟨(gp ((ep 7 0))), Port.spi, (Instr.abort .spi), by unfold State.reaches; decide +kernel⟩⟩

theorem witness_CalibrationRotation :
    (∃ (s : State) (i : Instr), s.calModes = true ∧ i ∈ [Instr.calPeriodExpired, Instr.calTemperatureCheck] ∧ s.on CAL_CTL.AUTO = true ∧ (i = .calPeriodExpired → s.on CAL_CTL.PERIOD = true) ∧ (i = .calTemperatureCheck → s.dev.tick % 100000 = 0 ∧ (List.range 8).any (fun k => s.tempApart (s.temp k) (s.cal.tempRef.getD k 0) 1) = true))
    ∧ (∃ (s : State) (p : Port), s.calModes = true ∧ isHost p = true ∧ s.reaches p .CAL_CMD 0 ∧ s.on CAL_STS.ROTATING = false)
    ∧ (∃ (s : State) (p : Port), s.calModes = true ∧ isHost p = true ∧ s.reaches p .CAL_CMD 0 ∧ s.on CAL_STS.ROTATING = true)
    ∧ (∃ (s : State), s.calModes = true ∧ (s.cal.startDue = true ∨ s.on CAL_STS.PENDING = true) ∧ s.on CAL_STS.ROTATING = false)
    ∧ (∃ (s : State) (k : Nat), s.calModes = true ∧ k < 165 ∧ s.on CAL_STS.ROTATING = true ∧ s.get CAL_STS.ITEM = 0xFF ∧ s.on MSYN_STS.LOCK = true ∧ s.cal.nextItem = some k ∧ (s.cal.swapPend.any (·.1 == k - 37)) = false)
    ∧ (∃ (s : State), s.calModes = true ∧ s.get CAL_STS.ITEM = 0 ∧ s.cal.outcome = 0)
    ∧ (∃ (s : State) (k : Nat), s.calModes = true ∧ k < 164 ∧ s.get CAL_STS.ITEM = k ∧ (k = 0 → s.cal.outcome ≠ 0))
    ∧ (∃ (s : State), s.calModes = true ∧ s.get CAL_STS.ITEM = 164 ∧ s.cal.intervalDue = false) :=
  ⟨⟨((run 4).set CAL_CTL.PERIOD 60), Instr.calPeriodExpired, by decide +kernel⟩,
    ⟨(gt (run 4)), Port.spi, by unfold State.reaches; decide +kernel⟩,
    ⟨((gt (run 4)).set CAL_STS.ROTATING 1), Port.inb, by unfold State.reaches; decide +kernel⟩,
    ⟨(cal0 255 (fun c => {c with startDue := true})), by decide +kernel⟩,
    ⟨((cal0 255 (fun c => {c with nextItem := some 7})).set CAL_STS.ROTATING 1), 7, by decide +kernel⟩,
    ⟨(cal0 0), by decide +kernel⟩,
    ⟨(cal0 37), 37, by decide +kernel⟩,
    ⟨(cal0 164), by decide +kernel⟩⟩

theorem witness_CalibrationTables :
    (∃ (s : State) (_m : CalMeasure), s.get CAL_STS.ITEM = 0 ∧ s.cal.outcome = 0 ∧ s.cal.measured = none)
    ∧ (∃ (s : State) (_m : CalMeasure) (k : Nat), s.get CAL_STS.ITEM = k ∧ 1 ≤ k ∧ k ≤ 164 ∧ s.cal.outcome = 0 ∧ s.cal.measured = none ∧ s.cal.hopDiscard = false)
    ∧ (∃ (s : State) (m : CalMeasure) (k : Nat), s.get CAL_STS.ITEM = k ∧ 1 ≤ k ∧ k ≤ 164 ∧ s.cal.measured = some m ∧ (failedLimit (decide (k ≤ 36)) m) = 0)
    ∧ (∃ (s : State) (m : CalMeasure) (k : Nat), s.get CAL_STS.ITEM = k ∧ 1 ≤ k ∧ k ≤ 164 ∧ s.cal.measured = some m ∧ (failedLimit (decide (k ≤ 36)) m) ≠ 0)
    ∧ (∃ (s : State) (n : Nat) (d : Int), n < 128 ∧ s.cal.swapPend.find? (·.1 == n) = some (n, d))
    ∧ (∃ (s : State), s.mode ≠ 0 ∧ s.mode ≠ 11) :=
  ⟨⟨(cal0 0), ({ good with tune := 5 }), by decide +kernel⟩,
    ⟨(cal0 5), good, 5, by decide +kernel⟩,
    ⟨(cal0 5 (fun c => {c with measured := some good})), good, 5, by decide +kernel⟩,
    ⟨(cal0 3 (fun c => {c with measured := some bad3t})), bad3t, 3, by decide +kernel⟩,
    ⟨((cal0 3 (fun c => {c with swapPend := [(7, 9)]}))), 7, ((9 : Int)), by decide +kernel⟩,
    ⟨(cal0 5), by decide +kernel⟩⟩

theorem witness_CalibrationStores :
    (∃ (s : State) (p : Port), s.on MGMT_STS.PFW = false ∧ s.on CAL_STS.STORING = false ∧ s.updateWrites = false ∧ s.on RST_STS.L1M = false ∧ isHost p = true ∧ s.reaches p .CAL_CMD 0 ∧ s.calModes = true)
    ∧ (∃ (s : State), s.on MGMT_STS.PFW = false ∧ s.on CAL_STS.STORING = false ∧ s.updateWrites = false ∧ s.on RST_STS.L1M = false ∧ s.on CAL_STS.ROTATING = false ∧ s.cal.acceptedSince = true ∧ s.mode ≠ 0 ∧ s.mode ≠ 11)
    ∧ (∃ (s : State), s.on MGMT_STS.PFW = false ∧ s.on CAL_STS.STORING = false ∧ s.updateWrites = false ∧ s.on RST_STS.L1M = false ∧ s.cal.abandoned = true)
    ∧ (∃ (s : State), s.on CAL_STS.STORING = true ∧ s.on MGMT_STS.PFW = false ∧ s.cal.abandonDue = false ∧ s.cal.storeOp ≠ 5)
    ∧ (∃ (s : State), s.on CAL_STS.STORING = true ∧ s.mgmt.updWait = false ∧ s.on CAL_STS.STORE_PEND = false ∧ s.cal.storeOp = 5)
    ∧ (∃ (s : State), s.on CAL_STS.STORING = true ∧ s.mgmt.updWait = false ∧ s.on CAL_STS.STORE_PEND = false ∧ s.on MGMT_STS.PFW = false ∧ s.cal.abandonDue = false)
    ∧ (∃ (s : State) (_ok : Bool), s.on CAL_STS.STORING = true ∧ s.mgmt.updWait = false ∧ (s.on MGMT_STS.PFW = true ∨ s.cal.abandonDue = true) ∧ s.cal.storeOp ≠ 5) :=
  ⟨⟨(gt (cal0 255 (fun c => {c with acceptedSince := true, abandoned := true}))), Port.spi, by unfold State.reaches; decide +kernel⟩,
    ⟨(gt (cal0 255 (fun c => {c with acceptedSince := true, abandoned := true}))), by decide +kernel⟩,
    ⟨(gt (cal0 255 (fun c => {c with acceptedSince := true, abandoned := true}))), by decide +kernel⟩,
    ⟨((cal0 255 (fun c => {c with storeOp := 2})).set CAL_STS.STORING 1), by decide +kernel⟩,
    ⟨((cal0 255 (fun c => {c with storeOp := 5})).set CAL_STS.STORING 1), by decide +kernel⟩,
    ⟨((cal0 255 (fun c => {c with storeOp := 2})).set CAL_STS.STORING 1), by decide +kernel⟩,
    ⟨((cal0 255 (fun c => {c with storeOp := 3, abandonDue := true})).set CAL_STS.STORING 1), true, by decide +kernel⟩⟩

theorem witness_ResetSources :
    (∃ (s : State) (p : Port), s.on CLK_STS.INTOSC_OK = true ∧ s.on DEV_STRAP.SYS = false ∧ s.rst.level = 0 ∧ s.rst.asserted = [] ∧ s.rst.waiting = [] ∧ s.on RST_STS.SOFT = false ∧ s.mode ≠ 0 ∧ s.mode ≠ 11 ∧ isHost p = true ∧ s.reaches p .RST_CMD 0)
    ∧ (∃ (s : State) (p : Port) (q : Instr × Nat), s.on CLK_STS.INTOSC_OK = true ∧ s.on DEV_STRAP.SYS = false ∧ s.rst.level = 0 ∧ s.rst.asserted = [] ∧ s.rst.waiting = [] ∧ s.on RST_STS.SOFT = false ∧ s.mode ≠ 0 ∧ s.mode ≠ 11 ∧ isHost p = true ∧ s.reaches p .RST_SOFT 0 ∧ s.mode ≠ 1 ∧ s.on RST_STS.L1M = false ∧ q ∈ [(Instr.softResetTwlReceiver p, 0), (.softResetMirPcs p, 1), (.softResetPlPcs p, 2), (.softResetCalSequencer p, 3), (.softResetFlash p, 4), (.softResetEmmc p, 5), (.softResetSensor p, 6), (.softResetFreqCounter p, 7)] ∧ bitOf (s.get RST_SOFT.SOFT) q.2 = false)
    ∧ (∃ (s : State) (p : Port) (q : Instr × Nat), s.on CLK_STS.INTOSC_OK = true ∧ s.on DEV_STRAP.SYS = false ∧ s.rst.level = 0 ∧ s.rst.asserted = [] ∧ s.rst.waiting = [] ∧ s.on RST_STS.SOFT = false ∧ s.mode ≠ 0 ∧ s.mode ≠ 11 ∧ isHost p = true ∧ s.reaches p .RST_SOFT 0 ∧ s.mode ≠ 1 ∧ s.on RST_STS.L1M = false ∧ q ∈ [(Instr.softResetTwlReceiver p, 0), (.softResetMirPcs p, 1), (.softResetPlPcs p, 2), (.softResetCalSequencer p, 3), (.softResetFlash p, 4), (.softResetEmmc p, 5), (.softResetSensor p, 6), (.softResetFreqCounter p, 7)] ∧ bitOf (s.get RST_SOFT.SOFT) q.2 = true)
    ∧ (∃ (s : State), s.on CLK_STS.INTOSC_OK = true ∧ s.on DEV_STRAP.SYS = false ∧ s.rst.level = 0 ∧ s.rst.asserted = [] ∧ s.rst.waiting = [] ∧ s.on RST_STS.SOFT = false ∧ s.mode ≠ 0 ∧ s.mode ≠ 11 ∧ s.on RST_STS.L1M = false)
    ∧ (∃ (s : State) (_n : Nat), s.on CLK_STS.INTOSC_OK = true ∧ s.on DEV_STRAP.SYS = false ∧ s.rst.level = 0 ∧ s.rst.asserted = [] ∧ s.rst.waiting = [] ∧ s.on RST_STS.SOFT = false ∧ s.mode ≠ 0 ∧ s.mode ≠ 11 ∧ s.rst.wrstBall = false ∧ s.rst.wrstTaken = true)
    ∧ (∃ (s : State) (_n : Nat), s.on CLK_STS.INTOSC_OK = true ∧ s.on DEV_STRAP.SYS = false ∧ s.rst.level = 0 ∧ s.rst.asserted = [] ∧ s.rst.waiting = [] ∧ s.on RST_STS.SOFT = false ∧ s.mode ≠ 0 ∧ s.mode ≠ 11 ∧ s.rst.porstBall = false ∧ s.rst.porstTaken = true)
    ∧ (∃ (s : State), s.on CLK_STS.INTOSC_OK = true ∧ s.on DEV_STRAP.SYS = false ∧ s.rst.level = 0 ∧ s.rst.asserted = [] ∧ s.rst.waiting = [] ∧ s.on RST_STS.SOFT = false ∧ s.mode ≠ 0 ∧ s.mode ≠ 11 ∧ s.pairRuns = true ∧ s.pair.peerRole = 1 ∧ s.pair.helloBad = false ∧ s.on PAIR_CFG.RST_ACCEPT = true)
    ∧ (∃ (s : State), s.on CLK_STS.INTOSC_OK = true ∧ s.on DEV_STRAP.SYS = false ∧ s.rst.level = 0 ∧ s.rst.asserted = [] ∧ s.rst.waiting = [] ∧ s.on RST_STS.SOFT = false ∧ s.mode ≠ 0 ∧ s.mode ≠ 11 ∧ s.pairRuns = true ∧ s.pair.peerRole = 1 ∧ s.pair.helloBad = false ∧ s.on PAIR_CFG.RST_ACCEPT = false) :=
  ⟨⟨(gp (rr 4)), Port.spi, by unfold State.reaches; decide +kernel⟩,
    ⟨(gp (rr 4)), Port.spi, ((Instr.softResetFreqCounter .spi, 7)), by unfold State.reaches; decide +kernel⟩,
    ⟨((gp (rr 4)).set RST_SOFT.SOFT 255), Port.spi, ((Instr.softResetSensor .spi, 6)), by unfold State.reaches; decide +kernel⟩,
    ⟨(gp (rr 4)), by decide +kernel⟩,
    ⟨((rr 4 fun r => { r with wrstBall := false, wrstTaken := true })), 5, by decide +kernel⟩,
    ⟨((rr 4 fun r => { r with porstBall := false, porstTaken := true })), 5, by decide +kernel⟩,
    ⟨(let s := ((rr 4).set PAIR_CFG.EN 1).set PAIR_CFG.RST_ACCEPT 1; {s with pair := {s.pair with peerRole := 1}}), by decide +kernel⟩,
    ⟨(let s := (rr 4).set PAIR_CFG.EN 1; {s with pair := {s.pair with peerRole := 1}}), by decide +kernel⟩⟩

theorem witness_ResetHandshakes :
    (∃ (s : State) (b : Nat) (_forced : Bool), b < 8 ∧ s.on CLK_STS.INTOSC_OK = true ∧ s.rst.waiting = [(11, b)] ∧ (b = 2 → s.on PAIR_STS.LINK_UP = false) ∧ (b = 3 → s.get CAL_STS.ITEM = 0xFF))
    ∧ (∃ (s : State), s.on CLK_STS.INTOSC_OK = true ∧ s.rst.level = 0 ∧ s.mode ≠ 11 ∧ s.rst.waiting = [(5, 9)] ∧ s.rst.asserted = [])
    ∧ (∃ (s : State), s.on CLK_STS.INTOSC_OK = true ∧ s.rst.level = 0 ∧ s.mode ≠ 11 ∧ s.rst.waiting = [(3, 8)] ∧ s.rst.asserted = [])
    ∧ (∃ (s : State) (b : Nat), b < 8 ∧ s.on CLK_STS.INTOSC_OK = true ∧ bitOf (s.get RST_STS.SOFT) b = true)
    ∧ (∃ (s : State), s.on CLK_STS.INTOSC_OK = false ∧ s.rst.settled = true ∧ s.rst.heldPend = []) :=
  ⟨⟨((rr 4 fun r => {r with waiting := [(11, 6)]})), 6, true, by decide +kernel⟩,
    ⟨((rr 4 fun r => {r with waiting := [(5, 9)]})), by decide +kernel⟩,
    ⟨((rr 4 fun r => {r with waiting := [(3, 8)]})), by decide +kernel⟩,
    ⟨((rr 4).set RST_STS.SOFT 32), 5, by decide +kernel⟩,
    ⟨((rr 4 fun r => {r with settled := true}).set CLK_STS.INTOSC_OK 0), by decide +kernel⟩⟩

theorem witness_ResetReleases :
    (∃ (s : State) (_straps : Nat), s.rst.supplies = true ∧ s.rst.settled = false ∧ s.rst.asserted = [(0, 5)] ∧ s.rst.level = 5 ∧ s.mode = 0)
    ∧ (∃ (s : State) (_straps : Nat) (src : Nat), 3 ≤ src ∧ src < 11 ∧ s.mode = 0 ∧ s.on CLK_STS.INTOSC_OK = true ∧ s.rst.level = 3 ∧ s.rst.asserted = [(src, 3)] ∧ s.rst.cold = false ∧ s.on CLK_STS.FORCED = false ∧ s.on MSYN_STS.LOCK = true ∧ s.on MSYN_STS.HELD = false)
    ∧ (∃ (s : State) (_straps : Nat) (src : Nat), 3 ≤ src ∧ src < 11 ∧ s.mode = 0 ∧ s.on CLK_STS.INTOSC_OK = true ∧ s.rst.level = 4 ∧ s.rst.asserted = [(src, 4)]) :=
  ⟨⟨b0, 7, by decide +kernel⟩,
    ⟨((rr 0 fun r => { r with level := 3, asserted := [(6, 3)], cold := false }).set MSYN_STS.LOCK 1), 7, 6, by decide +kernel⟩,
    ⟨((let s := ((rr 0 fun r => { r with level := 4, asserted := [(6,4)]}).set MSYN_STS.LOCK 1); s)), 7, 6, by decide +kernel⟩⟩

theorem witness_BootSources :
    (∃ (s : State) (_f : CalSlot) (_a : CalSlot) (_b : CalSlot), s.mode = 1 ∧ s.get RST_BOOT_STS.KIND = 1)
    ∧ (∃ (s : State) (b : Bool) (rest : List Bool) (_x : FwSlot), s.mgmtRuns = true ∧ s.mgmt.fwTry = b :: rest)
    ∧ (∃ (s : State) (src : BootSrc) (rest : List BootSrc) (img : Image), s.mode = 1 ∧ s.rst.toTry = src :: rest ∧ (s.checkImage img none).1 ≠ 0)
    ∧ (∃ (s : State) (src : BootSrc) (rest : List BootSrc) (img : Image), s.mode = 1 ∧ s.rst.toTry = src :: rest ∧ (s.checkImage img none).1 = 0)
    ∧ (∃ (s : State) (src : BootSrc) (rest : List BootSrc) (_img : Image), s.mode = 1 ∧ s.rst.toTry = src :: rest ∧ src = .clone ∧ s.rst.cloneSeen = false) :=
  ⟨⟨(bt 1), slot0, slot0, slot0, by decide +kernel⟩,
    ⟨(bt 1 id fun m => { m with fwTry := [true, false] }), true, [false], fw0, by decide +kernel⟩,
    ⟨(bt 1 fun r => { r with toTry := [.slotA, .slotB] }), .slotA, [.slotB], ({ img0 with header := fw0.header }), by decide +kernel⟩,
    ⟨(bt 1 fun r => { r with toTry := [.slotA, .slotB] }), .slotA, [.slotB], img0, by exact ⟨by decide +kernel, rfl, img0_slot⟩⟩,
    ⟨(bt 1 fun r => { r with toTry := [.clone, .slotB] }), .clone, [.slotB], img0, by decide +kernel⟩⟩

theorem witness_SensorsAndSupplies :
    (∃ (s : State) (k : Nat) (_corr : Nat) (_temp : Int), k < 8 ∧ s.mode ≠ 0 ∧ bitOf (s.get RST_STS.SOFT) 6 = false)
    ∧ (∃ (s : State) (k : Nat) (mv : Nat), k < 5 ∧ mv < supReset k ∧ s.rst.supplies = true)
    ∧ (∃ (s : State) (k : Nat) (mv : Nat), k < 5 ∧ s.mode ≠ 0 ∧ supReset k ≤ mv)
    ∧ (∃ (s : State) (r : Nat), (r = 3 ∧ s.on MGMT_PFW_CTL.EN18 = true ∨ r = 4 ∧ s.on MGMT_PFW_CTL.EN33 = true) ∧ s.mgmt.pfwRails = [])
    ∧ (∃ (s : State), s.mgmt.pfwRails ≠ []) :=
  ⟨⟨(run 4), 5, 0, ((200 : Int)), by decide +kernel⟩,
    ⟨((let s := run 0; {s with rst := {s.rst with supplies := true}})), 0, 0, by decide +kernel⟩,
    ⟨(su 0 9 8), 3, 1800, by decide +kernel⟩,
    ⟨(run 4), 3, by decide +kernel⟩,
    ⟨((let s := run 4; {s with mgmt := {s.mgmt with pfwRails := [3,4]}})), by decide +kernel⟩⟩

theorem witness_JournalDuties :
    (∃ (s : State) (sectors : Nat) (_held : List Nat), s.mgmtRuns = true ∧ s.on MGMT_STS.FW_RUN = true ∧ s.get MGMT_JRN_STS.STATE = 0 ∧ bitOf (s.get RST_STS.SOFT) 5 = false ∧ sectors < 2 ^ 32 ∧ fitDays s.mgmt.policy (sectors * 512) = none)
    ∧ (∃ (s : State) (sectors : Nat) (_held : List Nat) (d : Nat) (short : Bool), s.mgmtRuns = true ∧ s.on MGMT_STS.FW_RUN = true ∧ s.get MGMT_JRN_STS.STATE = 0 ∧ bitOf (s.get RST_STS.SOFT) 5 = false ∧ sectors < 2 ^ 32 ∧ fitDays s.mgmt.policy (sectors * 512) = some (d, short))
    ∧ (∃ (s : State), s.journalWrites = true ∧ s.dev.ticking = true ∧ s.dev.tick % 1000000 = 0)
    ∧ (∃ (s : State), s.journalWrites = true ∧ s.on MGMT_STS.PFW = false ∧ 600 ≤ s.mgmt.capCount)
    ∧ (∃ (s : State) (n : Nat), s.journalWrites = true ∧ s.on MGMT_STS.PFW = false ∧ s.mgmt.logCopied < s.mgmt.logSeq ∧ 0 < n)
    ∧ (∃ (s : State) (c : Nat × List JournalRec) (cs : List (Nat × List JournalRec)), s.mgmt.captures = c :: cs ∧ c.1 + 2000000 ≤ s.dev.tick)
    ∧ (∃ (s : State) (c : Nat × List JournalRec) (cs : List (Nat × List JournalRec)) (_w : Word), s.mgmt.captures = c :: cs ∧ s.mgmtRuns = true ∧ s.get MGMT_JRN_STS.STATE = 1)
    ∧ (∃ (s : State) (_i : Nat) (_w : Word), s.mgmtRuns = true ∧ s.get MGMT_JRN_STS.STATE = 1)
    ∧ (∃ (s : State) (p : Port), isHost p = true ∧ s.reaches p .MGMT_JRN_CTL 0 ∧ s.mode ≠ 1 ∧ s.mode ≠ 11 ∧ s.get MGMT_JRN_RDIDX.INDEX < (s.mgmt.tier (s.get MGMT_JRN_RDIDX.TIER)).held ∧ s.get MGMT_JRN_RDIDX.TIER ≠ 3)
    ∧ (∃ (s : State), s.mgmtRuns = true ∧ s.mgmt.readPend = true) :=
  ⟨⟨((jr fun m => {m with policy := pol}).set MGMT_JRN_STS.STATE 0), 100, [1,2,3], by decide +kernel⟩,
    ⟨((jr fun m => {m with policy := pol}).set MGMT_JRN_STS.STATE 0), 100000000, [1,2,3], 90, false, by decide +kernel⟩,
    ⟨((jr fun m => {m with policy := pol, capCount := 601, t2 := {m.t2 with cap := 100}})), by decide +kernel⟩,
    ⟨((jr fun m => {m with policy := pol, capCount := 601, t2 := {m.t2 with cap := 100}})), by decide +kernel⟩,
    ⟨(jr fun m => { m with policy := pol, logSeq := 7, t3 := { m.t3 with cap := 100 } }), 5, by decide +kernel⟩,
    ⟨((let s := (jr fun m => {m with policy := pol, captures := [(5, [[1],[2]])]}); {s with dev := {s.dev with tick := 2000005}})), (((5, [[1],[2]]) : Nat × List JournalRec)), (([] : List (Nat × List JournalRec))), by decide +kernel⟩,
    ⟨(jr fun m => { m with policy := pol, captures := [(5, [[1], [2]])] }), (5, [[1], [2]]), [], 5, by decide +kernel⟩,
    ⟨(jr fun m => { m with emmcFails := 2 }), 24, 5, by decide +kernel⟩,
    ⟨(gp (jr fun m => { m with t1 := { m.t1 with cap := 2, old := 2 } })), .spi, by unfold State.reaches; decide +kernel⟩,
    ⟨(jr fun m => { m with readPend := true }), by decide +kernel⟩⟩

theorem witness_HostLoad :
    (∃ (s : State) (p : Port) (n : Nat), s.mode = 10 ∧ s.dev.svcNoImage = true ∧ isHost p = true ∧ s.reaches p .RST_HLOAD_CTL 0 ∧ 1 ≤ n ∧ n ≤ 512 ∧ 1 ≤ s.get RST_HLOAD_CTL.WORDS ∧ s.get RST_HLOAD_CTL.WORDS ≤ 512 ∧ s.get RST_HLOAD_STS.STATE ≠ 3 ∧ s.get RST_HLOAD_STS.STATE ≠ 2)
    ∧ (∃ (s : State), s.mode = 10 ∧ s.dev.svcNoImage = true ∧ s.on RST_HLOAD_CTL.CHUNK = true ∧ s.get RST_HLOAD_STS.STATE ≠ 2)
    ∧ (∃ (s : State) (img : Image), s.mode = 10 ∧ s.dev.svcNoImage = true ∧ s.get RST_HLOAD_STS.STATE = 2 ∧ ((s.set RST_HLOAD_CTL.END 0).checkImage img (some s.mgmt.hostLen)).1 = 0)
    ∧ (∃ (s : State) (img : Image), s.mode = 10 ∧ s.dev.svcNoImage = true ∧ s.get RST_HLOAD_STS.STATE = 2 ∧ ((s.set RST_HLOAD_CTL.END 0).checkImage img (some s.mgmt.hostLen)).1 ≠ 0) :=
  ⟨⟨(hl 0), Port.spi, 7, by unfold State.reaches; decide +kernel⟩,
    ⟨((hl 1).set RST_HLOAD_CTL.CHUNK 1), by decide +kernel⟩,
    ⟨hl0, img0, by exact ⟨by decide +kernel, by decide +kernel, by decide +kernel, img0_host⟩⟩,
    ⟨hl0, ({ img0 with header := fw0.header }), by decide +kernel⟩⟩

theorem witness_Updates :
    (∃ (s : State) (p : Port) (x : Nat), s.mgmtRuns = true ∧ s.on CAL_STS.STORING = false ∧ s.on CAL_STS.STORE_PEND = false ∧ isHost p = true ∧ s.reaches p .MGMT_UPD_CTL 0 ∧ s.updateActs = true ∧ 1 ≤ s.get MGMT_UPD_CTL.WORDS ∧ s.get MGMT_UPD_CTL.WORDS ≤ 512 ∧ x < 4)
    ∧ (∃ (s : State) (p : Port) (n : Nat), s.mgmtRuns = true ∧ s.on CAL_STS.STORING = false ∧ s.on CAL_STS.STORE_PEND = false ∧ isHost p = true ∧ s.reaches p .MGMT_UPD_CTL 0 ∧ s.updateActs = true ∧ 1 ≤ s.get MGMT_UPD_CTL.WORDS ∧ s.get MGMT_UPD_CTL.WORDS ≤ 512 ∧ s.get MGMT_UPD_STS.STATE = 1 ∧ 1 ≤ n ∧ n ≤ 512)
    ∧ (∃ (s : State) (p : Port), s.mgmtRuns = true ∧ s.on CAL_STS.STORING = false ∧ s.on CAL_STS.STORE_PEND = false ∧ isHost p = true ∧ s.reaches p .MGMT_UPD_CTL 0 ∧ s.updateActs = true ∧ 1 ≤ s.get MGMT_UPD_CTL.WORDS ∧ s.get MGMT_UPD_CTL.WORDS ≤ 512 ∧ s.get MGMT_UPD_STS.STATE = 3 ∧ s.on DEV_STRAP.SYS = false ∧ s.rst.level = 0 ∧ s.rst.asserted = [] ∧ s.rst.waiting = [] ∧ s.on RST_STS.SOFT = false ∧ s.on CLK_STS.INTOSC_OK = true)
    ∧ (∃ (s : State) (p : Port) (v : Nat), s.mgmtRuns = true ∧ s.on CAL_STS.STORING = false ∧ s.on CAL_STS.STORE_PEND = false ∧ isHost p = true ∧ s.reaches p .MGMT_UPD_CTL 0 ∧ s.updateActs = true ∧ 1 ≤ s.get MGMT_UPD_CTL.WORDS ∧ s.get MGMT_UPD_CTL.WORDS ≤ 512 ∧ leastVer s.mgmt.secVers = some v ∧ (s.mgmt.secVers.take 2).any (·.isSome) = true ∧ (s.mgmt.secVers.drop 2).any (·.isSome) = true ∧ s.fuse.arb < v)
    ∧ (∃ (s : State), s.mgmtRuns = true ∧ s.on CAL_STS.STORING = false ∧ s.on CAL_STS.STORE_PEND = false ∧ s.get MGMT_UPD_STS.STATE = 1 ∧ s.on MGMT_UPD_CTL.CHUNK = true)
    ∧ (∃ (s : State) (_programmed : Bool) (_x : UpdSlot), s.mgmtRuns = true ∧ s.on CAL_STS.STORING = false ∧ s.on CAL_STS.STORE_PEND = false ∧ s.get MGMT_UPD_STS.STATE = 2)
    ∧ (∃ (s : State), s.mgmtRuns = true ∧ s.on CAL_STS.STORING = false ∧ s.on CAL_STS.STORE_PEND = false ∧ s.get MGMT_UPD_STS.STATE = 5 ∧ s.on MGMT_STS.PFW = false)
    ∧ (∃ (s : State) (v : Nat), s.mgmtRuns = true ∧ s.on CAL_STS.STORING = false ∧ s.on CAL_STS.STORE_PEND = false ∧ s.mgmt.fuseAdv = some v) :=
  ⟨⟨(up 0), Port.spi, 3, by unfold State.reaches; decide +kernel⟩,
    ⟨(up 1), Port.spi, 512, by unfold State.reaches; decide +kernel⟩,
    ⟨(up 3), Port.spi, by unfold State.reaches; decide +kernel⟩,
    ⟨(up 3 (fun m => {m with secVers := [some 5, none, none, some 4]})), Port.spi, 4, by unfold State.reaches; decide +kernel⟩,
    ⟨((up 1).set MGMT_UPD_CTL.CHUNK 1), by decide +kernel⟩,
    ⟨(up 2), true, (.firmware fw0), by decide +kernel⟩,
    ⟨((up 5)), by decide +kernel⟩,
    ⟨((up 5 fun m => {m with fuseAdv := some 70})), 70, by decide +kernel⟩⟩

theorem witness_PortAccess :
    (∃ (s : State) (p : Port) (_a : Nat) (_w : Word), isHost p = true ∧ s.portsClosed = true)
    ∧ (∃ (s : State) (p : Port) (a : Nat) (_w : Word), isHost p = true ∧ s.portsClosed = false ∧ s.busError (a / 4 * 4 % 2 ^ 24) = true)
    ∧ (∃ (s : State) (p : Port) (a : Nat) (_w : Word) (r : Rg) (i : Nat), isHost p = true ∧ s.portsClosed = false ∧ s.busError (a / 4 * 4 % 2 ^ 24) = false ∧ addrKey (a / 4 * 4 % 2 ^ 24) ≠ 0x304 ∧ regAt (a / 4 * 4 % 2 ^ 24) = some (r, i) ∧ r ≠ .DEV_KEY ∧ r.info.guard = true ∧ (s.port p).keyAge = 0)
    ∧ (∃ (s : State) (p : Port) (a : Nat) (_w : Word) (r : Rg) (i : Nat), isHost p = true ∧ s.portsClosed = false ∧ s.busError (a / 4 * 4 % 2 ^ 24) = false ∧ addrKey (a / 4 * 4 % 2 ^ 24) ≠ 0x304 ∧ regAt (a / 4 * 4 % 2 ^ 24) = some (r, i) ∧ r ≠ .DEV_KEY ∧ r.info.guard = false ∧ r.info.cnt ≠ 0 ∧ s.mode ≠ 11 ∧ p = .spi ∧ a % 4 = 0 ∧ r ≠ .DEV_SPI_ERR_CNT)
    ∧ (∃ (s : State) (p : Port) (_w : Word), isHost p = true ∧ s.portsClosed = false ∧ s.mode ≠ 11)
    ∧ (∃ (s : State) (_a : Nat) (op : Nat), s.portsClosed = false ∧ spiKnown op = false)
    ∧ (∃ (s : State) (a : Nat) (r : Rg) (i : Nat), s.portsClosed = false ∧ a % 4 = 0 ∧ s.busError (a / 4 * 4 % 2 ^ 24) = false ∧ addrKey (a / 4 * 4 % 2 ^ 24) ≠ 0x304 ∧ regAt (a / 4 * 4 % 2 ^ 24) = some (r, i) ∧ r ≠ .MBX_D ∧ r ≠ .SNAP_HOLD)
    ∧ (∃ (s : State) (_short : Bool) (_part : Bool), s.portsClosed = false ∧ s.on MBX_STAT.OPEN = false ∧ s.pair.streaming = false) :=
  ⟨⟨b0, Port.spi, 0x100, ((5 : Word)), by decide +kernel⟩,
    ⟨(run 4), Port.spi, 0x40000, ((5 : Word)), by decide +kernel⟩,
    ⟨((pp 4)), Port.inb, (Rg.key .RST_CMD 0), ((5 : Word)), Rg.RST_CMD, 0, by decide +kernel⟩,
    ⟨(((pp 4).wr .CH_LOCK_CNT 5 77)), Port.spi, (Rg.key .CH_LOCK_CNT 5), ((0 : Word)), Rg.CH_LOCK_CNT, 5, by decide +kernel⟩,
    ⟨((pp 4)), Port.inb, 0, by decide +kernel⟩,
    ⟨(pp 4), 5, 0x22, by decide +kernel⟩,
    ⟨(pp 4), (Rg.key .CH_CFG 3), Rg.CH_CFG, 3, by decide +kernel⟩,
    ⟨(pp 4), 5, 0x22, by decide +kernel⟩⟩

theorem witness_InBandFrames :
    (∃ (s : State) (r : InbRequest) (i : Instr), s.inbRuns = true ∧ i ∈ [Instr.inBandRequest r, .inBandSessionRequest r.dieId r.macOk r.swPort ⟨r.lane, r.eth⟩] ∧ r.dieId ≠ s.fuse.dieId)
    ∧ (∃ (s : State) (r : InbRequest) (i : Instr), s.inbRuns = true ∧ i ∈ [Instr.inBandRequest r, .inBandSessionRequest r.dieId r.macOk r.swPort ⟨r.lane, r.eth⟩] ∧ r.dieId = s.fuse.dieId ∧ (s.on MGMT_CTL.INB_EN = false ∨ s.fuse.keyZero = true ∨ r.macOk = false))
    ∧ (∃ (s : State) (r : InbRequest), s.inbRuns = true ∧ r.dieId = s.fuse.dieId ∧ s.on MGMT_CTL.INB_EN = true ∧ s.fuse.keyZero = false ∧ r.macOk = true ∧ s.laneSends r.lane = true)
    ∧ (∃ (s : State) (r : InbRequest), s.inbRuns = true ∧ r.dieId = s.fuse.dieId ∧ s.on MGMT_CTL.INB_EN = true ∧ s.fuse.keyZero = false ∧ r.macOk = true ∧ (r.session ≠ s.rd .MGMT_INB_STS ∨ r.seq ≤ s.mgmt.lastSeq))
    ∧ (∃ (s : State) (r : InbRequest), s.inbRuns = true ∧ r.dieId = s.fuse.dieId ∧ s.on MGMT_CTL.INB_EN = true ∧ s.fuse.keyZero = false ∧ r.macOk = true ∧ r.session = s.rd .MGMT_INB_STS ∧ s.mgmt.lastSeq < r.seq ∧ s.mode = 11 ∧ s.laneSends r.lane = true)
    ∧ (∃ (s : State) (r : InbRequest), s.inbRuns = true ∧ r.dieId = s.fuse.dieId ∧ s.on MGMT_CTL.INB_EN = true ∧ s.fuse.keyZero = false ∧ r.macOk = true ∧ r.session = s.rd .MGMT_INB_STS ∧ s.mgmt.lastSeq < r.seq ∧ s.mode ≠ 11 ∧ (r.ops.any fun o => decide (o.width < 2)) = true ∧ s.laneSends r.lane = true)
    ∧ (∃ (s : State) (r : InbRequest), s.inbRuns = true ∧ r.dieId = s.fuse.dieId ∧ s.on MGMT_CTL.INB_EN = true ∧ s.fuse.keyZero = false ∧ r.macOk = true ∧ r.session = s.rd .MGMT_INB_STS ∧ s.mgmt.lastSeq < r.seq ∧ s.mode ≠ 11 ∧ r.ops = [] ∧ s.laneSends r.lane = true ∧ s.on MBX_STAT.OPEN = false ∧ s.dev.inb.open_ = []) :=
  ⟨⟨((ib 4 true).1), ({ (ib 4 true).2 with dieId := (ib 4 true).1.fuse.dieId + 1 }), (Instr.inBandSessionRequest ((ib 4 true).1.fuse.dieId + 1) (ib 4 true).2.macOk (ib 4 true).2.swPort ⟨(ib 4 true).2.lane, (ib 4 true).2.eth⟩), by decide +kernel⟩,
    ⟨((ib 4 false).1), ((ib 4 false).2), (Instr.inBandRequest (ib 4 false).2), by decide +kernel⟩,
    ⟨((ib 4 true).1), ((ib 4 true).2), by decide +kernel⟩,
    ⟨((ib 4 true).1), ({ (ib 4 true).2 with session := 7 }), by decide +kernel⟩,
    ⟨((ib 11 true).1), ({ (ib 11 true).2 with ops := [⟨true, 2, 0, 5, 6⟩] }), by decide +kernel⟩,
    ⟨((ib 4 true).1), ({ (ib 4 true).2 with ops := [⟨true, 2, 0, 5, 6⟩, ⟨true, 1, 0, 5, 6⟩] }), by decide +kernel⟩,
    ⟨((ib 4 true).1), ((ib 4 true).2), by decide +kernel⟩⟩

theorem witness_RegisterCommands :
    (∃ (s : State) (p : Port) (i : Instr) (v : Nat), isHost p = true ∧ (i, v) ∈ [(Instr.modeReqAutomatic p, 15), (.modeReqHoldFreerun p, 3), (.modeReqForceHoldover p, 6), (.modeReqService p, 10)] ∧ s.reaches p .DEV_MODE_REQ 0 ∧ s.pair.streaming = false ∧ s.isRun = true)
    ∧ (∃ (s : State) (p : Port) (i : Instr) (v : Nat), isHost p = true ∧ (i, v) ∈ [(Instr.modeReqAutomatic p, 15), (.modeReqHoldFreerun p, 3), (.modeReqForceHoldover p, 6), (.modeReqService p, 10)] ∧ s.reaches p .DEV_MODE_REQ 0 ∧ s.pair.streaming = false ∧ s.mode = 7 ∧ v ≠ 10)
    ∧ (∃ (s : State) (p : Port) (v : Nat), isHost p = true ∧ v < 16 ∧ modeReqKnown v = false ∧ s.reaches p .DEV_MODE_REQ 0 ∧ s.mode ≠ 11)
    ∧ (∃ (s : State) (p : Port) (i : Instr) (b : Nat), isHost p = true ∧ (i, b) ∈ [(Instr.retune p, 1), (.relock p, 2), (.bandsel p, 4)] ∧ s.reaches p .MSYN_CMD 0 ∧ s.mode = 10 ∧ s.rd .MSYN_CMD = 0 ∧ s.storedWords.ok = true)
    ∧ (∃ (s : State) (p : Port) (c : Nat) (b : Nat), isHost p = true ∧ c < 512 ∧ s.reaches p .CH_CMD c ∧ s.pair.streaming = false ∧ (b = 1 ∨ b = 2))
    ∧ (∃ (s : State) (p : Port) (_w : Word), isHost p = true ∧ s.reaches p .OUT_CTL 0 ∧ s.mode ≠ 11)
    ∧ (∃ (s : State) (p : Port) (w : Word), isHost p = true ∧ s.reaches p .CLK_FC_CTL 0 ∧ s.mode ≠ 11 ∧ 10 ≤ CLK_FC_CTL.GATE.of w ∧ CLK_FC_CTL.GATE.of w ≤ 30 ∧ CLK_FC_CTL.TGT.of w < 56 ∧ CLK_FC_CTL.REF.of w < 56)
    ∧ (∃ (s : State) (p : Port) (b : Nat) (on : Bool), isHost p = true ∧ b < 13 ∧ s.reaches p .DEV_GATE 0 ∧ 3 ≤ s.mode ∧ s.mode ≤ 10 ∧ bitOf (s.get DEV_GATE.GATE) b = !on)
    ∧ (∃ (s : State) (p : Port) (b : Nat) (n : Nat), isHost p = true ∧ b < 13 ∧ s.dev.ramping = [(b, n)]) :=
  ⟨⟨(pp 4), Port.spi, (Instr.modeReqService Port.spi), 10, by unfold State.reaches; decide +kernel⟩,
    ⟨(pp 7), Port.spi, (Instr.modeReqForceHoldover Port.spi), 6, by unfold State.reaches; decide +kernel⟩,
    ⟨(pp 7), Port.spi, 5, by unfold State.reaches; decide +kernel⟩,
    ⟨(pp 10), Port.spi, (Instr.retune Port.spi), 1, by unfold State.reaches; decide +kernel⟩,
    ⟨(pp 4), Port.inb, 5, 2, by unfold State.reaches; decide +kernel⟩,
    ⟨(pp 7), Port.spi, 5, by unfold State.reaches; decide +kernel⟩,
    ⟨(pp 4), Port.inb, ((0x01402524 : Word)), by unfold State.reaches; decide +kernel⟩,
    ⟨(pp 4), Port.inb, 5, 2, by unfold State.reaches; decide +kernel⟩,
    ⟨((let s := pp 4; {s with dev := {s.dev with ramping := [(5,1)]}})), Port.spi, 5, 1, by decide +kernel⟩⟩

theorem witness_RegisterWindows :
    (∃ (s : State) (p : Port) (w : Word), isHost p = true ∧ s.reaches p .MBX_SEL 0 ∧ s.on MBX_STAT.OPEN = false ∧ MBX_SEL.SRC.of w = 1 ∧ MBX_SEL.INDEX.of w < 512 ∧ s.mode ≠ 11)
    ∧ (∃ (s : State) (p : Port), isHost p = true ∧ s.reaches p .MBX_D 0 ∧ s.on MBX_STAT.OPEN = false ∧ s.on MBX_STAT.VALID = true)
    ∧ (∃ (s : State) (p : Port), isHost p = true ∧ s.reaches p .MBX_D 3 ∧ s.on MBX_STAT.OPEN = true ∧ s.get MBX_STAT.OWNER = portCode p ∧ s.on MBX_STAT.PEND = false ∧ s.dev.mbxDefer = none)
    ∧ (∃ (s : State) (p : Port) (w : Word) (_ofs : Nat), isHost p = true ∧ s.portsClosed = false ∧ s.mode ≠ 11 ∧ s.on SNAP_STAT.BUSY = false ∧ SNAP_CMD.TICK.of w = 0)
    ∧ (∃ (s : State) (p : Port) (w : Word) (_ofs : Nat), isHost p = true ∧ s.portsClosed = false ∧ s.mode ≠ 11 ∧ s.on SNAP_STAT.BUSY = false ∧ SNAP_CMD.TICK.of w = 1)
    ∧ (∃ (s : State) (p : Port), isHost p = true ∧ s.dev.snapDue = true)
    ∧ (∃ (s : State) (p : Port) (_w : Word), isHost p = true ∧ s.reaches p .IND_ADDR 0 ∧ s.mode ≠ 11)
    ∧ (∃ (s : State) (p : Port) (_w : Word) (r : Rg) (i : Nat), isHost p = true ∧ s.reaches p .IND_DATA 0 ∧ (r = .RULE_A ∧ s.get PARSE_BANK_STS.ACTIVE = 1 ∨ r = .RULE_B ∧ s.get PARSE_BANK_STS.ACTIVE = 0) ∧ s.on PARSE_BANK_STS.RETIRING = false ∧ s.isRun = true ∧ s.indPlace (s.get IND_ADDR.SPACE) (s.get IND_ADDR.INDEX) = .reg r i)
    ∧ (∃ (s : State) (p : Port) (w : Word), isHost p = true ∧ s.reaches p .CFG_CRC_CTL 0 ∧ s.mode ≠ 1 ∧ s.mode ≠ 11 ∧ CFG_CRC_CTL.POLICY.of w ≠ 3)
    ∧ (∃ (s : State) (p : Port) (_w : Word), isHost p = true ∧ s.reaches p .CFG_CRC_REF 0 ∧ s.mode ≠ 11)
    ∧ (∃ (s : State) (p : Port), isHost p = true ∧ s.mode ≠ 0 ∧ s.dev.ticking = true ∧ s.dev.tick % 1000 = 0 ∧ s.dev.scan = false)
    ∧ (∃ (s : State) (p : Port), isHost p = true ∧ s.dev.scan = true ∧ s.dev.refWritten = false ∧ (s.on CFG_CRC_CTL.EN = false ∨ s.on CFG_CRC_CTL.ARMED = false ∨ s.rd .CFG_CRC_REF = s.cfgCrc)) :=
  ⟨⟨(pp 4), Port.spi, ((MBX_SEL.INDEX.put (MBX_SEL.SRC.put 0 1) 9)), by unfold State.reaches; decide +kernel⟩,
    ⟨((pp 4).set MBX_STAT.VALID 1), Port.inb, by unfold State.reaches; decide +kernel⟩,
    ⟨(((pp 4).set MBX_STAT.VALID 1).set MBX_STAT.OPEN 1), Port.spi, by unfold State.reaches; decide +kernel⟩,
    ⟨(pp 4), Port.spi, ((SNAP_CMD.TICK.put 0 0)), 7, by decide +kernel⟩,
    ⟨(pp 4), Port.spi, ((SNAP_CMD.TICK.put 0 1)), 7, by decide +kernel⟩,
    ⟨((let s := pp 4; {s with dev := {s.dev with snapDue := true}})), Port.spi, by decide +kernel⟩,
    ⟨(pp 4), Port.spi, 7, by unfold State.reaches; decide +kernel⟩,
    ⟨((((pp 4).set IND_ADDR.SPACE 4).set IND_ADDR.INDEX 33).set IND_CTL.INC 2), Port.spi, ((0x02000006 : Word)), Rg.RULE_B, 33, by unfold State.reaches; decide +kernel⟩,
    ⟨(pp 4), Port.spi, 7, by unfold State.reaches; decide +kernel⟩,
    ⟨(pp 4), Port.spi, 7, by unfold State.reaches; decide +kernel⟩,
    ⟨((let s := pp 4; {s with dev := {s.dev with ticking := true, tick := 3000, refWritten := true}})), Port.spi, by decide +kernel⟩,
    ⟨{ run 4 with dev := { b0.dev with scan := true } }, Port.spi, by decide +kernel⟩⟩

theorem witness_LiveBoundariesCount : ∃ (s : State) (_m : MasterSample), s.rst.cold = false ∧ 1 ≤ s.mode ∧ s.mode ≤ 10 ∧ s.dev.groups = [] ∧ s.pair.stream = [] := ⟨(cold false (run 4)), ((⟨12800, 5, 7, 9⟩ : MasterSample)), by decide +kernel⟩

theorem witness_TickArithmetic :
    (∃ (s : State) (c : Nat), s.chEn c = true ∧ (s.chan c).running = true ∧ (s.chan c).restNum = 1 ∧ (s.chan c).restDen = 1 ∧ 0 < (s.chan c).p ∧ (s.chan c).p = s.p0 c)
    ∧ (∃ (s : State) (c : Nat), s.chEn c = true ∧ (s.chan c).running = true ∧ (s.chan c).restNum = 1 ∧ (s.chan c).restDen = 1 ∧ 0 < (s.chan c).p ∧ 2 ≤ s.get CH_PRES.RDEN c)
    ∧ (∃ (s : State) (c : Nat), s.chEn c = false)
    ∧ (∃ (x : Chan) (rate : Nat), 0 < rate ∧ x.time < tuWrap ∧ (x.adj ≠ 0 ∨ x.thetaTarget ≠ x.thetaLive)) :=
  ⟨⟨((((run 4).set CH_CFG.EN 1 3).setChan 3 { Chan.reset with running := true, time := 5 })), 3, by decide +kernel⟩,
    ⟨((((run 4).set CH_CFG.EN 1 3).setChan 3 { Chan.reset with running := true, time := tuWrap - 1, p := 77 * 2^40, resAcc := 5 }).set CH_PRES.RDEN 7 3 |>.set CH_PRES.RNUM 6 3), 3, by decide +kernel⟩,
    ⟨((run 4).wr .CH_LOCK_CNT 5 0xfffffffe), 5, by decide +kernel⟩,
    ⟨({Chan.reset with adj := 5*2^48, thetaTarget := -7 * 2^48}), 6, by decide +kernel⟩⟩

theorem witness_BusErrors :
    (∃ (s : State) (a : Nat) (w : Word) (i : Instr), s.portsClosed = false ∧ s.busError (a / 4 * 4 % 2 ^ 24) = true ∧ i ∈ [Instr.spiRead a 1, .spiReadFixed a 1, .spiWrite a [w], .spiWriteFixed a [w]])
    ∧ (∃ (s : State) (a : Nat) (_w : Word) (p : Port), s.portsClosed = false ∧ s.busError (a / 4 * 4 % 2 ^ 24) = true ∧ isHost p = true)
    ∧ (∃ (s : State) (a : Nat) (_w : Word) (r : InbRequest) (o : InbOp), s.portsClosed = false ∧ s.busError (a / 4 * 4 % 2 ^ 24) = true ∧ s.inbRuns = true ∧ s.inbCheck r.dieId r.macOk = none ∧ r.session = s.rd .MGMT_INB_STS ∧ s.mgmt.lastSeq < r.seq ∧ s.mode ≠ 11 ∧ s.laneSends r.lane = true ∧ s.on MBX_STAT.OPEN = false ∧ s.dev.inb.open_ = [] ∧ r.ops = [o] ∧ o.addr = a ∧ o.width = 2) :=
  ⟨⟨(run 4), 0x40002, ((5 : Word)), (Instr.spiRead 0x40002 1), by decide +kernel⟩,
    ⟨(run 4), 0x40000, ((5 : Word)), Port.inb, by decide +kernel⟩,
    ⟨((ib 4 true).1), 0x40002, ((5 : Word)), ({(ib 4 true).2 with ops := [⟨true, 2, 0x40002, 5, 6⟩]}), ((⟨true, 2, 0x40002, 5, 6⟩ : InbOp)), by decide +kernel⟩⟩

theorem witness_MailboxOtherPort :
    (∃ (s : State) (p : Port) (q : Port) (k : Nat) (i : Instr), isHost p = true ∧ isHost q = true ∧ p ≠ q ∧ s.portsClosed = false ∧ s.on MBX_STAT.OPEN = true ∧ s.get MBX_STAT.OWNER = portCode q ∧ k < 4 ∧ p = .spi ∧ i ∈ [Instr.spiRead (Rg.MBX_D.key k) 1, .spiReadFixed (Rg.MBX_D.key k) 1])
    ∧ (∃ (s : State) (p : Port) (q : Port) (i : Instr), isHost p = true ∧ isHost q = true ∧ p ≠ q ∧ s.portsClosed = false ∧ s.on MBX_STAT.OPEN = true ∧ s.get MBX_STAT.OWNER = portCode q ∧ i ∈ [Instr.mailboxOpenRead p, .mailboxCloseRead p])
    ∧ (∃ (s : State) (p : Port) (q : Port) (r : InbRequest) (o : InbOp) (k : Nat), isHost p = true ∧ isHost q = true ∧ p ≠ q ∧ s.portsClosed = false ∧ s.on MBX_STAT.OPEN = true ∧ s.get MBX_STAT.OWNER = portCode q ∧ p = .inb ∧ k < 4 ∧ s.inbRuns = true ∧ s.inbCheck r.dieId r.macOk = none ∧ r.session = s.rd .MGMT_INB_STS ∧ s.mgmt.lastSeq < r.seq ∧ s.mode ≠ 11 ∧ s.laneSends r.lane = true ∧ s.dev.inb.open_ = [] ∧ r.ops = [o] ∧ o.addr = Rg.MBX_D.key k ∧ o.width = 2 ∧ o.write = false)
    ∧ (∃ (s : State) (p : Port) (q : Port) (w : Word) (i : Instr), isHost p = true ∧ isHost q = true ∧ p ≠ q ∧ s.portsClosed = false ∧ s.on MBX_STAT.OPEN = true ∧ s.get MBX_STAT.OWNER = portCode q ∧ s.mode ≠ 11 ∧ s.dev.mbxDefer = none ∧ i ∈ [Instr.registerWrite p (Rg.MBX_SEL.key 0) w, .mailboxGo p w])
    ∧ (∃ (s : State) (p : Port) (q : Port) (w : Word), isHost p = true ∧ isHost q = true ∧ p ≠ q ∧ s.portsClosed = false ∧ s.on MBX_STAT.OPEN = true ∧ s.get MBX_STAT.OWNER = portCode q ∧ s.dev.mbxDefer = some (p, w) ∧ s.on MBX_STAT.PEND = false ∧ MBX_SEL.GO.of w = 0)
    ∧ (∃ (s : State) (p : Port) (q : Port) (w : Word), isHost p = true ∧ isHost q = true ∧ p ≠ q ∧ s.portsClosed = false ∧ s.on MBX_STAT.OPEN = true ∧ s.get MBX_STAT.OWNER = portCode q ∧ s.dev.mbxDefer = some (p, w) ∧ s.on MBX_STAT.PEND = false ∧ MBX_SEL.GO.of w = 1 ∧ 1 ≤ MBX_SEL.SRC.of w ∧ MBX_SEL.SRC.of w ≤ 4) :=
  ⟨⟨(mb .inb (pp 4)), Port.spi, Port.inb, 0, (Instr.spiRead (Rg.MBX_D.key 0) 1), by decide +kernel⟩,
    ⟨(mb .inb (run 4)), Port.spi, Port.inb, (Instr.mailboxOpenRead .spi), by decide +kernel⟩,
    ⟨(mb .spi (ib 4 true).1), Port.inb, Port.spi, ({(ib 4 true).2 with ops := [⟨false, 2, Rg.MBX_D.key 3, 5, 6⟩]}), ((⟨false, 2, Rg.MBX_D.key 3, 5, 6⟩ : InbOp)), 3, by decide +kernel⟩,
    ⟨(mb .spi (run 4)), Port.inb, Port.spi, ((0x80012345 : Word)), (Instr.mailboxGo .inb 0x80012345), by decide +kernel⟩,
    ⟨(df .inb (selw 2 9 0) (mb .spi (run 4))), Port.inb, Port.spi, (selw 2 9 0), by decide +kernel⟩,
    ⟨(df .inb (selw 2 9 1) (mb .spi (run 4))), Port.inb, Port.spi, (selw 2 9 1), by decide +kernel⟩⟩

theorem witness_CommandEffects :
    (∃ (s : State) (p : Port) (r : Rg) (_w : Word), isHost p = true ∧ s.mode ≠ 11 ∧ r ∈ [Rg.DEV_ALERT_EN, .IND_CTL, .OUT_CTL, .MIR_CTL, .MGMT_TEMP_WARN] ∧ s.reaches p r 0 ∧ p = .spi)
    ∧ (∃ (s : State) (op : Nat), s.portsClosed = false ∧ spiKnown op = false)
    ∧ (∃ (s : State), s.portsClosed = false ∧ s.on MBX_STAT.OPEN = false ∧ s.pair.streaming = false)
    ∧ (∃ (s : State) (p : Port), s.portsClosed = false ∧ isHost p = true ∧ s.mode ≠ 11)
    ∧ (∃ (s : State) (p : Port), isHost p = true ∧ s.reaches p .DEV_MODE_REQ 0 ∧ s.pair.streaming = false ∧ s.isRun = true)
    ∧ (∃ (s : State) (p : Port), isHost p = true ∧ s.reaches p .MSYN_CMD 0 ∧ s.mode = 10 ∧ s.rd .MSYN_CMD = 0 ∧ s.storedWords.ok = true)
    ∧ (∃ (s : State) (p : Port) (c : Nat), isHost p = true ∧ c < 512 ∧ s.reaches p .CH_CMD c)
    ∧ (∃ (s : State) (p : Port), isHost p = true ∧ s.reaches p .RST_SOFT 0 ∧ s.on CLK_STS.INTOSC_OK = true ∧ s.on DEV_STRAP.SYS = false ∧ s.on RST_STS.L1M = false ∧ s.get RST_SOFT.SOFT = 0 ∧ s.mode ≠ 1 ∧ s.mode ≠ 11)
    ∧ (∃ (s : State) (n : Nat), n < 128 ∧ s.lbActive (.out n) = true)
    ∧ (∃ (s : State) (f : Nat), f < 64 ∧ s.flowActive f = true ∧ s.mirTransmits = true ∧ (s.flow f).hdr ≠ [] ∧ s.canSend (s.flow f).lane = true ∧ s.flowPeerDelay f = false)
    ∧ (∃ (s : State) (f : Nat), f < 64 ∧ s.flowActive f = true ∧ s.mirTransmits = true ∧ (s.flow f).hdr ≠ [] ∧ s.canSend (s.flow f).lane = true ∧ s.flowPeerDelay f = true)
    ∧ (∃ (s : State) (k : Nat), k < 8 ∧ s.on ESMC_TX.EN k = true ∧ s.mirTransmits = true ∧ s.groupUsed (s.get ESMC_TX.PGROUP k) = true ∧ s.canSend (s.get MIR_PGRP.LANE (s.get ESMC_TX.PGROUP k)) = true ∧ s.qlInput (s.get ESMC_TX.CHANNEL k) = none ∧ (streamOf s.twl.esmc k).lastQl ≠ some (s.txQl k))
    ∧ (∃ (s : State), s.calModes = true ∧ s.on CAL_CTL.AUTO = true ∧ s.on CAL_STS.ROTATING = false ∧ s.on CAL_STS.PENDING = false ∧ s.on CAL_CTL.PERIOD = true)
    ∧ (∃ (s : State), s.calModes = true ∧ s.on CAL_CTL.AUTO = true ∧ s.on CAL_STS.ROTATING = false ∧ s.on CAL_STS.PENDING = false ∧ s.dev.tick % 100000 = 0 ∧ (List.range 8).any (fun k => s.tempApart (s.temp k) (s.cal.tempRef.getD k 0) 1) = true) :=
  ⟨⟨(pp 3), Port.spi, Rg.MIR_CTL, ((0xffff : Word)), by unfold State.reaches; decide +kernel⟩,
    ⟨(pp 3), 0x22, by decide +kernel⟩,
    ⟨lb, by decide +kernel⟩,
    ⟨(pp 7), Port.inb, by decide +kernel⟩,
    ⟨(pp 3), Port.spi, by unfold State.reaches; decide +kernel⟩,
    ⟨(pp 10), Port.spi, by unfold State.reaches; decide +kernel⟩,
    ⟨(pp 4), Port.inb, 5, by unfold State.reaches; decide +kernel⟩,
    ⟨(gp (rr 4)), .spi, by unfold State.reaches; decide +kernel⟩,
    ⟨lb, 3, by decide +kernel⟩,
    ⟨(fl.setFlow 3 { Flow.reset with hdr := [5], exch := {Exchange.empty with reqOut := true} }), 3, by decide +kernel⟩,
    ⟨(((fl.wr .PARAM (9*512+16) 4).setFlow 3 { Flow.reset with hdr := [5] })), 3, by decide +kernel⟩,
    ⟨emm, 3, by decide +kernel⟩,
    ⟨lb, by decide +kernel⟩,
    ⟨((run 4).set MGMT_TEMP.TEMP 600 2), by decide +kernel⟩⟩

theorem witness_RegisterWindows_mismatch : ∃ (s : State) (p : Port), isHost p = true ∧ s.dev.scan = true ∧ s.dev.refWritten = false
    ∧ s.on CFG_CRC_CTL.EN = true ∧ s.on CFG_CRC_CTL.ARMED = true ∧ s.rd .CFG_CRC_REF ≠ s.cfgCrc ∧ s.dev.scanCommit = false
    ∧ s.get CFG_CRC_CTL.POLICY = 0 :=
  ⟨crcDiff 4 0, .spi, rfl, rfl, rfl, by rw [crcDiff_on _ _ _ (by decide)]; decide +kernel, by rw [crcDiff_on _ _ _ (by decide)]; decide +kernel,
    crcDiff_ne 4 0, rfl, by rw [crcDiff_get _ _ _ (by decide)]; decide +kernel⟩

theorem witness_CrcPolicies :
    (∀ pol ∈ [0, 1, 2], ∃ s : State, s.dev.scan = true ∧ s.dev.refWritten = false ∧ s.dev.scanCommit = false ∧ s.on CFG_CRC_CTL.EN = true
      ∧ s.on CFG_CRC_CTL.ARMED = true ∧ s.rd .CFG_CRC_REF ≠ s.cfgCrc ∧ s.get CFG_CRC_CTL.POLICY = pol ∧ s.on CLK_STS.INTOSC_OK = true
      ∧ s.on DEV_STRAP.SYS = false ∧ s.rst.asserted = [] ∧ s.rst.waiting = [] ∧ s.rst.level = 0 ∧ s.on RST_STS.SOFT = false
      ∧ s.mode ≠ 0 ∧ s.mode ≠ 9 ∧ s.mode ≠ 11)
    ∧ ∃ (s : State) (p : Port) (w : Word) (i : Instr), isHost p = true ∧ s.reaches p .CFG_CRC_CTL 0 ∧ s.mode ≠ 11
      ∧ CFG_CRC_CTL.POLICY.of w = 3 ∧ i ∈ [Instr.registerWrite p (Rg.CFG_CRC_CTL.key 0) w, .cfgCrcCommit p w] := by
  refine ⟨fun pol h => ⟨crcDiff 4 pol, rfl, rfl, rfl, ?_, ?_, crcDiff_ne 4 pol, ?_, ?_, ?_, rfl, rfl, rfl, ?_, ?_, ?_, ?_⟩,
    pp 4, .spi, CFG_CRC_CTL.POLICY.put 0 3, .cfgCrcCommit .spi (CFG_CRC_CTL.POLICY.put 0 3), by unfold State.reaches; decide +kernel⟩
  all_goals fin_cases h
  all_goals
    first
    | rw [crcDiff_mode]
    | rw [crcDiff_get _ _ _ (by decide)]
    | rw [crcDiff_on _ _ _ (by decide)]
    decide +kernel

end Sys2Proof.Tests
end

namespace Sys2Proof.Machine

/-! ### What changes before the pins settle -/

/-- Between `s` and `t` nothing has changed but the parts and words listed. Of the pins nothing is said: a command settles them last. -/
def State.changesOnly (s t : State) (parts : List Part) (words : List (Rg × Nat)) : Prop :=
  t.pending = s.pending ∧ (∀ p, p ∉ parts → p.same s t) ∧ s.keepsWords t words

/-- What a command has changed before the pins settle frames what it answers. -/
theorem State.changesOnly.frame {s t : State} {parts : List Part} {words : List (Rg × Nat)} (h : s.changesOnly t parts words) :
    s.frame t.settle parts words :=
  have ⟨hq, hp, hw⟩ := h
  State.frame_settle hq hp hw

theorem State.changesOnly_refl (s : State) (parts : List Part) (words : List (Rg × Nat)) : s.changesOnly s parts words :=
  ⟨rfl, fun p _ => p.same_refl s, s.keepsWords_refl words⟩

theorem State.changesOnly.trans {s t u : State} {parts : List Part} {words : List (Rg × Nat)} (h : s.changesOnly t parts words)
    (h' : t.changesOnly u parts words) : s.changesOnly u parts words :=
  have ⟨hq, hp, hw⟩ := h
  have ⟨hq', hp', hw'⟩ := h'
  ⟨hq'.trans hq, fun p hn => p.same_trans (hp p hn) (hp' p hn), State.keepsWords_trans hw hw'⟩

theorem State.changesOnly_wr (s : State) (r : Rg) (i : Nat) (w : Word) (parts : List Part) {words : List (Rg × Nat)} (h : (r, i) ∈ words) :
    s.changesOnly (s.wr r i w) parts words :=
  ⟨s.wr_pending r i w, fun p _ => p.same_wr s r i w, s.keepsWords_wr r i w h⟩

theorem State.changesOnly_set (s : State) (f : Fld) (v i : Nat) (parts : List Part) {words : List (Rg × Nat)} (h : (f.r, i) ∈ words) :
    s.changesOnly (s.set f v i) parts words := s.changesOnly_wr f.r i _ parts h

theorem State.changesOnly_setBit (s : State) (f : Fld) (k : Nat) (b : Bool) (i : Nat) (parts : List Part) {words : List (Rg × Nat)}
    (h : (f.r, i) ∈ words) : s.changesOnly (s.setBit f k b i) parts words := s.changesOnly_set f _ i parts h

theorem State.changesOnly_inc (s : State) (r : Rg) (i : Nat) (parts : List Part) {words : List (Rg × Nat)} (h : (r, i) ∈ words) :
    s.changesOnly (s.inc r i) parts words := s.changesOnly_wr r i _ parts h

/-- A state that differs in part `q` only. -/
theorem State.changesOnly_part {s t : State} {parts : List Part} (q : Part) (words : List (Rg × Nat)) (h : q ∈ parts) (hq : t.pending = s.pending)
    (hr : t.regs = s.regs) (hp : ∀ p, p ≠ q → p.same s t) : s.changesOnly t parts words :=
  ⟨hq, fun p hn => hp p fun e => hn (e ▸ h), fun r i _ => by unfold State.rd; rw [hr]⟩

theorem State.changesOnly_dev (s : State) (d : Dev) {parts : List Part} (words : List (Rg × Nat)) (h : Part.dev ∈ parts) :
    s.changesOnly { s with dev := d } parts words :=
  State.changesOnly_part .dev words h rfl rfl fun p hp => by cases p <;> simp_all [Part.same]

theorem State.changesOnly_pair (s : State) (x : Pair) {parts : List Part} (words : List (Rg × Nat)) (h : Part.pair ∈ parts) :
    s.changesOnly { s with pair := x } parts words :=
  State.changesOnly_part .pair words h rfl rfl fun p hp => by cases p <;> simp_all [Part.same]

theorem State.changesOnly_msyn (s : State) (x : Msyn) {parts : List Part} (words : List (Rg × Nat)) (h : Part.msyn ∈ parts) :
    s.changesOnly { s with msyn := x } parts words :=
  State.changesOnly_part .msyn words h rfl rfl fun p hp => by cases p <;> simp_all [Part.same]

theorem State.changesOnly_rst (s : State) (x : Rst) {parts : List Part} (words : List (Rg × Nat)) (h : Part.rst ∈ parts) :
    s.changesOnly { s with rst := x } parts words :=
  State.changesOnly_part .rst words h rfl rfl fun p hp => by cases p <;> simp_all [Part.same]

theorem State.changesOnly_cal (s : State) (x : Cal) {parts : List Part} (words : List (Rg × Nat)) (h : Part.cal ∈ parts) :
    s.changesOnly { s with cal := x } parts words :=
  State.changesOnly_part .cal words h rfl rfl fun p hp => by cases p <;> simp_all [Part.same]

theorem State.changesOnly_twl (s : State) (x : Twl) {parts : List Part} (words : List (Rg × Nat)) (h : Part.twl ∈ parts) :
    s.changesOnly { s with twl := x } parts words :=
  State.changesOnly_part .twl words h rfl rfl fun p hp => by cases p <;> simp_all [Part.same]

theorem State.changesOnly_free (s : State) (n : Nat) {parts : List Part} (words : List (Rg × Nat)) (h : Part.free ∈ parts) :
    s.changesOnly { s with free := n } parts words :=
  State.changesOnly_part .free words h rfl rfl fun p hp => by cases p <;> simp_all [Part.same]

theorem State.changesOnly_cond {s : State} {b : Bool} {f : State → State} {parts : List Part} {words : List (Rg × Nat)}
    (h : s.changesOnly (f s) parts words) : s.changesOnly (s.cond b f) parts words := by
  unfold State.cond
  split
  · exact h
  · exact s.changesOnly_refl parts words

/-! ### A write that a port carries to its register (R324 to R333) -/

/-- R325, R328: the byte address of word `i` of `r` names that word, and it is not the window of the indirect spaces. -/
abbrev Rg.ownsAddress (r : Rg) (i : Nat) : Prop :=
  r.key i / 4 * 4 % 2 ^ 24 = r.key i ∧ addrKey (r.key i) ≠ 0x304 ∧ regAt (r.key i) = some (r, i)

/-- R324, R327, R331: a write that reaches its register is a written word of it. -/
theorem State.hostReg_eq_writeWord {s : State} {p : Port} {r : Rg} {i : Nat} (w : Word) (ha : r.ownsAddress i) (hs : s.reaches p r i) :
    s.hostReg p r i w = s.writeWord p (r.key i) r i w := by
  obtain ⟨hkey, hind, hreg⟩ := ha
  obtain ⟨hopen, hbus, -⟩ := hs
  have hb : (isHost p && s.busError (r.key i)) = false := by
    cases hp : isHost p with
    | false => rfl
    | true => exact hbus hp
  simp only [State.hostReg, State.hostWrite, hkey, hopen, hb, hind, hreg, if_false, Bool.false_eq_true]

/-- R329: a write of a guarded register through a host port consumes the key. -/
def State.spendKey (s : State) (p : Port) (r : Rg) : State := s.cond (r.info.guard && isHost p) (·.closeKey p)

/-- R329: past an open guard the word is written once the key is spent. -/
theorem State.writeWord_open {s : State} {p : Port} {a : Nat} {r : Rg} {i : Nat} (w : Word) (hr : r ≠ .DEV_KEY) (hs : s.reaches p r i) :
    s.writeWord p a r i w = (s.spendKey p r).writeReg p a r i w := by
  obtain ⟨-, -, hkey⟩ := hs
  unfold State.writeWord State.spendKey State.cond
  rw [if_neg hr]
  by_cases hg : (r.info.guard && isHost p) = true
  · have hg' := hg
    rw [Bool.and_eq_true] at hg'
    rw [if_pos hg, if_pos hg, if_neg (hkey hg'.2 hg'.1)]
  · rw [if_neg hg, if_neg hg]

/-- The state of a port is no other part's. -/
theorem State.setPort_eq (s : State) (p : Port) (x : PortSt) : ∃ d, s.setPort p x = { s with dev := d } := by
  cases p
  case spi => exact ⟨_, rfl⟩
  case inb => exact ⟨_, rfl⟩
  case preload => exact ⟨s.dev, rfl⟩
  case stream => exact ⟨s.dev, rfl⟩

theorem State.spendKey_eq (s : State) (p : Port) (r : Rg) : ∃ d, s.spendKey p r = { s with dev := d } := by
  unfold State.spendKey State.cond
  split
  · exact s.setPort_eq p _
  · exact ⟨s.dev, rfl⟩

theorem State.spendKey_unguarded (s : State) (p : Port) {r : Rg} (h : r.info.guard = false) : s.spendKey p r = s := by
  simp [State.spendKey, State.cond, h]

/-- R5, R17: word `i` of `r` is an item: no counter, no word of a write group, and something in it can be written. -/
abbrev Rg.isItem (r : Rg) (i : Nat) : Prop :=
  r.info.cnt = 0 ∧ r.grouped = false ∧ ¬ (r.maskAt i = 0 ∧ r.info.par = 0 ∧ r.info.cmd = 0)

/-- R332, R333: an item that its legality table executes. -/
theorem State.writeReg_executed {s : State} {p : Port} {a : Nat} {r : Rg} {i : Nat} {w : Word} (hr : r.isItem i) (hj : s.judge r w = none) :
    s.writeReg p a r i w = (s.effect p a r i w).touched r := by
  obtain ⟨hcnt, hgrp, hmask⟩ := hr
  simp only [State.writeReg, hcnt, hgrp, hj, if_neg hmask, ne_eq, not_true_eq_false, if_false, Bool.false_eq_true]

theorem State.touched_uncovered (s : State) {r : Rg} (h : r.covered = false) : s.touched r = s := by
  simp [State.touched, h]

/-- An item that its port carries to its register and that its legality table executes. -/
theorem State.hostReg_executed {s : State} {p : Port} {r : Rg} {i : Nat} {w : Word} (ha : r.ownsAddress i) (hr : r.isItem i)
    (hk : r ≠ .DEV_KEY) (hs : s.reaches p r i) (hj : (s.spendKey p r).judge r w = none) :
    s.hostReg p r i w = ((s.spendKey p r).effect p (r.key i) r i w).touched r := by
  rw [State.hostReg_eq_writeWord w ha hs, State.writeWord_open w hk hs, State.writeReg_executed hr hj]

/-- A command bit that the word does not hold. -/
theorem State.bitCmd_off {s : State} {p : Port} {a : Nat} {w : Word} {bit : Nat} {v : Option Nat} {f : State → State}
    (h : bitOf w.toNat bit = false) : s.bitCmd p a w bit v f = s := by
  simp [State.bitCmd, h]

/-- A command bit that the word holds and its legality table executes. -/
theorem State.bitCmd_executed {s : State} {p : Port} {a : Nat} {w : Word} {bit : Nat} {f : State → State}
    (h : bitOf w.toNat bit = true) : s.bitCmd p a w bit none f = f s := by
  simp [State.bitCmd, h]

end Sys2Proof.Machine

namespace Sys2Proof.Machine

/-! ### A step and the state after reset -/

/-- Settles O1: the front of the queue is what `step` matches on. -/
theorem stepRunsFrontCommand : Obligations.StepRunsFrontCommand :=
  ⟨fun _ _ _ => rfl, fun s hq => by unfold step; rw [hq]⟩

/-- Settles O3: every pin of the state after reset is what `pinsOf` derives from its registers. -/
theorem pinsShowAtReset : Obligations.PinsShowAtReset := by
  unfold Obligations.PinsShowAtReset State.pinsShow
  decide +kernel

/-! ### The residue accumulator (R55) -/

/-- R55: no pattern multiple has passed, so the accumulator stands, whatever it holds. -/
theorem State.runResidue_of_le (s : State) (c : Nat) (h : patternIndex (s.chan c) (s.p0 c) ≤ (s.chan c).patK) : s.runResidue c = s := by
  have h0 : (patternIndex (s.chan c) (s.p0 c) - (s.chan c).patK).toNat = 0 := by omega
  unfold State.runResidue
  rw [if_pos h0]

/-- R57: channel `c` after its time has gone on by one tick, before its accumulator runs. -/
def State.ticked (s : State) (c : Nat) : State :=
  let x := s.chan c
  s.setChan c { x with time := addTime x.time (tickAdvance x (s.p0 c)), restNum := 1, restDen := 1, shown := none }

theorem State.advance_running (s : State) (c : Nat) (he : s.chEn c = true) (hr : (s.chan c).running = true) :
    s.advance c = (s.ticked c).runResidue c := by
  unfold State.advance State.ticked
  simp [he, hr]

/-- A tick that passes no pattern multiple keeps the residue, be it below the denominator or not. -/
theorem State.advance_resAcc_of_le (s : State) (c : Nat) (he : s.chEn c = true) (hr : (s.chan c).running = true)
    (h : patternIndex ((s.ticked c).chan c) ((s.ticked c).p0 c) ≤ (s.chan c).patK) : ((s.advance c).chan c).resAcc = (s.chan c).resAcc := by
  have hk : ((s.ticked c).chan c).patK = (s.chan c).patK := by simp [State.ticked]
  rw [s.advance_running c he hr, State.runResidue_of_le _ c (hk ▸ h)]
  simp [State.ticked]

/-- Channel 0 runs with RDEN = 2. Its accumulator holds 2, and stands at a pattern multiple that time has yet to reach, as after a
phase movement back. -/
def residueAtDenominator : State :=
  ((State.reset.set CH_CFG.EN 1).set CH_PRES.RDEN 2).setChan 0 { Chan.reset with running := true, resAcc := 2, patK := 1000 }

/-- Refutes O56: nothing in it bounds the residue before the tick, and a tick that passes no pattern multiple leaves it as it was:
channel 0 of `residueAtDenominator` keeps residue 2 with denominator 2. -/
theorem not_tickArithmetic : ¬ Obligations.TickArithmetic := by
  unfold Obligations.TickArithmetic
  rintro ⟨hadv, -, -⟩
  obtain ⟨-, -, hres, -⟩ := (hadv residueAtDenominator 0).1 (by decide +kernel) (by decide +kernel) (by decide +kernel)
    (by decide +kernel) (by decide +kernel)
  have hlt := hres (by decide +kernel)
  rw [State.advance_resAcc_of_le _ 0 (by decide +kernel) (by decide +kernel) (by decide +kernel)] at hlt
  exact absurd hlt (by decide +kernel)

end Sys2Proof.Machine

namespace Sys2Proof.Machine

/-! ### RESYNC while the peer's identity fails (R200, R229) -/

/-- R234: the word of RESYNC runs RESYNC where its verdict allows it. -/
theorem State.effect_resync {s : State} (p : Port) (a : Nat) (hj : s.judgePairCmd 30 = none) :
    s.effect p a .PAIR_CMD 0 (BitVec.ofNat 32 (2 ^ 30)) = s.pairCmd 30 := by
  have hw : (BitVec.ofNat 32 (2 ^ 30)).toNat = 2 ^ 30 := by decide
  show [31, 30, 29, 28].foldl (fun s b => s.bitCmd p a (BitVec.ofNat 32 (2 ^ 30)) b (s.judgePairCmd b) fun s => s.pairCmd b) s = _
  rw [List.foldl_cons, State.bitCmd_off (by rw [hw]; decide), List.foldl_cons, hj, State.bitCmd_executed (by rw [hw]; decide),
    List.foldl_cons, State.bitCmd_off (by rw [hw]; decide), List.foldl_cons, State.bitCmd_off (by rw [hw]; decide), List.foldl_nil]

/-- R229: RESYNC makes an epoch due, and starts it where its conditions hold. -/
theorem State.pairCmd_resync (s : State) : s.pairCmd 30 = ({ s.set PAIR_CMD.RESYNC 1 with
    pair := { (s.set PAIR_CMD.RESYNC 1).pair with epochDue := true } } : State).tryEpoch := by
  unfold State.pairCmd
  split
  case h_1 h => cases h
  case h_2 => rfl
  case h_3 h => cases h
  case h_4 h _ => exact absurd rfl h

/-- R200, R229: no epoch starts towards a peer whose identity fails. -/
theorem State.tryEpoch_of_helloBad {s : State} (h : s.pair.helloBad = true) : s.tryEpoch = s := by
  simp [State.tryEpoch, State.peerLinked, h]

/-- RESYNC in STANDBY_DETACHED, while the peer's identity fails, leaves the epoch's phase. -/
theorem exec_resync_of_helloBad {s : State} {p : Port} (hs : s.reaches p .PAIR_CMD 0) (hm : s.mode = 8) (hb : s.pair.helloBad = true) :
    ∃ t, exec (.resync p) s = .next t ∧ t.get PAIR_EPOCH_STS.PHASE = s.get PAIR_EPOCH_STS.PHASE := by
  refine ⟨(s.hostReg p .PAIR_CMD 0 (BitVec.ofNat 32 (2 ^ 30))).settle, rfl, ?_⟩
  obtain ⟨d, hd⟩ := s.spendKey_eq p .PAIR_CMD
  have hj : State.judgePairCmd { s with dev := d } 30 = none := by simp [State.judgePairCmd, State.isRun, unless_, hm]
  rw [State.hostReg_executed (by decide) (by decide) (by decide) hs (by rfl), State.touched_uncovered _ (by decide), hd,
    State.effect_resync p _ hj, State.pairCmd_resync, State.tryEpoch_of_helloBad (by rw [State.set_pair]; exact hb),
    State.settle_get_of, State.mk_get, State.get_set_ne _ PAIR_CMD.RESYNC PAIR_EPOCH_STS.PHASE 1 0 0 (by decide), State.mk_get]

/-- A standby in STANDBY_DETACHED with link and peer up, no epoch running, whose peer's HELLO named another pair. -/
def strangerOnLink : State :=
  let s := (((State.reset.set DEV_MODE.MODE 8).set DEV_GATE.GATE 0x1fff).set PAIR_STS.ROLE 2).set PAIR_STS.LINK_UP 1
  let s := s.set PAIR_STS.PEER_ALIVE 1
  { s with
    rst := { s.rst with level := 0 }
    dev := { s.dev with spi := { s.dev.spi with keyAge := 2 } }
    pair := { s.pair with peerRole := 1, helloBad := true } }

/-- Refutes O38: its clause of the standby's epoch does not ask that the peer's identity hold (R200). In `strangerOnLink` every
hypothesis is met and RESYNC starts no epoch. -/
theorem not_pairCommands : ¬ Obligations.PairCommands := by
  unfold Obligations.PairCommands
  intro h
  have hs : strangerOnLink.reaches .spi .PAIR_CMD 0 := by unfold State.reaches; decide +kernel
  have hm : strangerOnLink.mode = 8 := by decide +kernel
  obtain ⟨-, hdetached, -⟩ := h strangerOnLink .spi rfl hs
  obtain ⟨-, hstart, -⟩ := hdetached hm
  obtain ⟨t, ht, -, hphase, -⟩ := hstart (by decide +kernel) (by decide +kernel) (by decide +kernel) (by decide +kernel)
    (by decide +kernel) (by decide +kernel) (by decide +kernel) (by decide +kernel)
  obtain ⟨u, hu, hkept⟩ := exec_resync_of_helloBad hs hm (by decide +kernel)
  rw [ht] at hu
  cases hu
  rw [hphase] at hkept
  exact absurd hkept (by decide +kernel)

end Sys2Proof.Machine

namespace Sys2Proof.Machine

/-! ### The effect of the last write of a port -/

theorem State.touched_changesOnly (s : State) (r : Rg) {parts : List Part} {words : List (Rg × Nat)} (hd : Part.dev ∈ parts)
    (hw : (Rg.CFG_CRC_CTL, 0) ∈ words) : s.changesOnly (s.touched r) parts words := by
  unfold State.touched
  split
  · exact (s.changesOnly_set CFG_CRC_CTL.ARMED 0 0 parts hw).trans (State.changesOnly_dev _ _ words hd)
  · exact s.changesOnly_refl parts words

theorem State.touched_rd_ne (s : State) (r : Rg) {q : Rg} {j : Nat} (h : Rg.CFG_CRC_CTL.key 0 ≠ q.key j) : (s.touched r).rd q j = s.rd q j := by
  unfold State.touched
  split
  · exact s.rd_set_ne CFG_CRC_CTL.ARMED 0 0 h
  · rfl

theorem State.touched_tseq (s : State) (r : Rg) : (s.touched r).dev.tseq = s.dev.tseq := by
  unfold State.touched
  split <;> rfl

/-! ### Registers that a write only stores (R5) -/

/-- Unguarded configuration registers without an effect of their own. -/
abbrev storedRegs : List Rg := [.DEV_ALERT_EN, .IND_CTL, .OUT_CTL, .MIR_CTL, .MGMT_TEMP_WARN]

theorem storedRegs_plain : ∀ r ∈ storedRegs, r.ownsAddress 0 ∧ r.isItem 0 ∧ r ≠ .DEV_KEY ∧ r.info.guard = false
    ∧ r.key 0 % 4 = 0 ∧ Rg.CFG_CRC_CTL.key 0 ≠ r.key 0 := by decide

theorem State.judge_stored {s : State} {r : Rg} (w : Word) (hr : r ∈ storedRegs) (hm : s.mode ≠ 11) : s.judge r w = none := by
  have ht : s.notTest = none := by simp [State.notTest, unless_, hm]
  have hj : s.judge r w = orElse s.notTest (unless_ true 4) := by
    simp only [List.mem_cons, List.not_mem_nil, or_false] at hr
    rcases hr with rfl | rfl | rfl | rfl | rfl <;> rfl
  rw [hj, ht]
  rfl

theorem State.effect_stored (s : State) (p : Port) (a : Nat) {r : Rg} (w : Word) (hr : r ∈ storedRegs) :
    s.effect p a r 0 w = s.wr r 0 (mergeMask (s.rd r 0) w (r.maskAt 0)) := by
  simp only [List.mem_cons, List.not_mem_nil, or_false] at hr
  rcases hr with rfl | rfl | rfl | rfl | rfl <;> rfl

/-- R5: the register takes the written bits, and a write to a covered word disarms the comparison (R341). -/
theorem State.hostReg_stored {s : State} {p : Port} {r : Rg} (w : Word) (hr : r ∈ storedRegs) (hm : s.mode ≠ 11) (hs : s.reaches p r 0) :
    s.hostReg p r 0 w = (s.wr r 0 (mergeMask (s.rd r 0) w (r.maskAt 0))).touched r := by
  obtain ⟨haddr, hitem, hkey, hguard, -⟩ := storedRegs_plain r hr
  have hspend := s.spendKey_unguarded p hguard
  rw [State.hostReg_executed haddr hitem hkey hs (by rw [hspend]; exact State.judge_stored w hr hm), hspend, State.effect_stored _ _ _ _ hr]

theorem State.hostReg_stored_effect {s : State} {p : Port} {r : Rg} (w : Word) (hr : r ∈ storedRegs) (hm : s.mode ≠ 11)
    (hs : s.reaches p r 0) :
    (s.hostReg p r 0 w).rd r 0 = mergeMask (s.rd r 0) w (r.maskAt 0) ∧ (s.hostReg p r 0 w).dev.tseq = s.dev.tseq
      ∧ s.changesOnly (s.hostReg p r 0 w) [.dev] [(r, 0), (.CFG_CRC_CTL, 0)] := by
  obtain ⟨-, -, -, -, -, hcrc⟩ := storedRegs_plain r hr
  rw [State.hostReg_stored w hr hm hs, State.touched_rd_ne _ _ hcrc, State.touched_tseq]
  exact ⟨s.rd_wr_same r 0 _, by rw [State.wr_dev],
    (s.changesOnly_wr r 0 _ _ (by simp)).trans (State.touched_changesOnly _ _ (by simp) (by simp))⟩

/-! ### SPI transactions (R321, R322) -/

/-- R322: an aligned transaction begins: it changes the part of the ports only. -/
theorem State.spiBegin_eq (s : State) (busErr badOp status : Bool) :
    s.spiBegin false busErr badOp status = { s with dev := { s.dev with
      tseq := (s.dev.tseq + 1) % 16
      header := State.spiHeader { s with dev := { s.dev with tseq := (s.dev.tseq + 1) % 16 } } false busErr badOp
      readWords := [], spi := { s.dev.spi with busErr := false, reject := false, status := status } } } := rfl

theorem State.spiBegin_changesOnly (s : State) (busErr badOp status : Bool) {parts : List Part} (words : List (Rg × Nat))
    (h : Part.dev ∈ parts) : s.changesOnly (s.spiBegin false busErr badOp status) parts words := by
  rw [State.spiBegin_eq]
  exact s.changesOnly_dev _ words h

theorem State.mode_lt (s : State) : s.mode < 16 := DEV_MODE.MODE.of_lt (s.rd .DEV_MODE)

theorem flag_le (b : Bool) : flag b ≤ 1 := by cases b <;> decide

/-- R322: TSEQ and BADOP as the header holds them. -/
theorem State.spiHeader_fields {s : State} (misalign busErr badOp : Bool) (ht : s.dev.tseq < 16) :
    s.spiHeader misalign busErr badOp % 16 = s.dev.tseq ∧ s.spiHeader misalign busErr badOp / 2 ^ 10 % 2 = flag badOp := by
  have hm := s.mode_lt
  have hb := flag_le badOp
  have hk := flag_le (s.dev.spi.keyAge != 0)
  have ha := flag_le s.pinsOf.alertLow
  simp only [State.spiHeader]
  generalize flag (s.dev.spi.keyAge != 0) = key at *
  generalize flag s.pinsOf.alertLow = alert at *
  generalize flag badOp = bad at *
  omega

theorem State.spiBegin_header (s : State) (busErr badOp status : Bool) :
    let t := s.spiBegin false busErr badOp status
    t.dev.header % 16 = (s.dev.tseq + 1) % 16 ∧ t.dev.header / 2 ^ 10 % 2 = flag badOp :=
  State.spiHeader_fields (s := { s with dev := { s.dev with tseq := (s.dev.tseq + 1) % 16 } }) false busErr badOp
    (Nat.mod_lt _ (by decide))

/-- The start of a transaction neither closes a register nor opens one. -/
theorem State.spiBegin_reaches {s : State} (busErr badOp status : Bool) {r : Rg} {i : Nat} (hs : s.reaches .spi r i) :
    (s.spiBegin false busErr badOp status).reaches .spi r i := hs

/-- A transaction at the address of a register that the port reaches. -/
theorem State.spiAccess_own {s : State} {r : Rg} {i : Nat} (f : Nat → State → State) (ha : r.ownsAddress i) (h4 : r.key i % 4 = 0)
    (hs : s.reaches .spi r i) : s.spiAccess (r.key i) f = f (r.key i) (s.spiBegin false false false false) := by
  obtain ⟨hkey, -, -⟩ := ha
  obtain ⟨hopen, hbus, -⟩ := hs
  simp only [State.spiAccess, hopen, hkey, hbus rfl, h4, bne_self_eq_false, if_false, Bool.false_eq_true]

theorem State.hostRead_stored {s : State} {r : Rg} (hr : r ∈ storedRegs) (hs : s.reaches .spi r 0) :
    s.hostRead .spi (r.key 0) = (s.placeWord .spi (.reg r 0), s) := by
  obtain ⟨⟨hkey, hind, hreg⟩, -⟩ := storedRegs_plain r hr
  obtain ⟨hopen, hbus, -⟩ := hs
  simp only [State.hostRead, hopen, hkey, hbus rfl, hind, hreg, if_false, Bool.false_eq_true]
  simp only [List.mem_cons, List.not_mem_nil, or_false] at hr
  rcases hr with rfl | rfl | rfl | rfl | rfl <;> rfl

/-- A stored register reads the same once a transaction has begun. -/
theorem State.spiBegin_placeWord (s : State) (busErr badOp status : Bool) {r : Rg} (hr : r ∈ storedRegs) :
    (s.spiBegin false busErr badOp status).placeWord .spi (.reg r 0) = s.placeWord .spi (.reg r 0) := by
  simp only [List.mem_cons, List.not_mem_nil, or_false] at hr
  rcases hr with rfl | rfl | rfl | rfl | rfl <;> rfl

/-- R321: one word written by WRITE or WRITE_FIXED. -/
theorem spiWrite_stored {s : State} {r : Rg} (w : Word) (step : Nat) (hr : r ∈ storedRegs) (hm : s.mode ≠ 11) (hs : s.reaches .spi r 0) :
    ∃ t, done (s.spiAccess (r.key 0) fun a s => State.spiWords step a [w] s) = .next t
      ∧ t.rd r 0 = mergeMask (s.rd r 0) w (r.maskAt 0) ∧ t.dev.tseq = (s.dev.tseq + 1) % 16
      ∧ s.frame t [.dev] [(r, 0), (.CFG_CRC_CTL, 0)] := by
  obtain ⟨haddr, -, -, -, h4, -⟩ := storedRegs_plain r hr
  obtain ⟨hrd, htseq, hch⟩ := State.hostReg_stored_effect (s := s.spiBegin false false false false) w hr hm
    (State.spiBegin_reaches _ _ _ hs)
  rw [State.spiAccess_own _ haddr h4 hs]
  exact ⟨_, rfl, hrd, htseq, ((s.spiBegin_changesOnly _ _ _ _ (by simp)).trans hch).frame⟩

/-- R321, R323: one word read by READ or READ_FIXED. -/
theorem spiRead_stored {s : State} {r : Rg} (step : Nat) (hr : r ∈ storedRegs) (hs : s.reaches .spi r 0) :
    ∃ t, done (s.spiAccess (r.key 0) fun a s => State.spiReads step 1 a [] s) = .next t
      ∧ t.dev.readWords = [s.placeWord .spi (.reg r 0)] ∧ t.dev.tseq = (s.dev.tseq + 1) % 16 ∧ s.frame t [.dev] [] := by
  obtain ⟨haddr, -, -, -, h4, -⟩ := storedRegs_plain r hr
  have hread := State.hostRead_stored hr (State.spiBegin_reaches false false false hs)
  rw [State.spiBegin_placeWord _ _ _ _ hr] at hread
  rw [State.spiAccess_own _ haddr h4 hs]
  simp only [State.spiReads, hread]
  exact ⟨_, rfl, rfl, rfl, ((s.spiBegin_changesOnly _ _ _ _ (by simp)).trans (State.changesOnly_dev _ _ _ (by simp))).frame⟩

/-- R5, R321: a stored register through either port, and through each operation of the SPI port. -/
theorem storedRegister_accesses (s : State) (p : Port) (r : Rg) (w : Word) (hm : s.mode ≠ 11) (hr : r ∈ storedRegs) (hs : s.reaches p r 0) :
    (∃ t, exec (.registerWrite p (r.key 0) w) s = .next t
      ∧ t.rd r 0 = mergeMask (s.rd r 0) w (r.maskAt 0) ∧ s.frame t [.dev] [(r, 0), (.CFG_CRC_CTL, 0)])
    ∧ (p = .spi → ∃ t, exec (.spiWrite (r.key 0) [w]) s = .next t
      ∧ t.rd r 0 = mergeMask (s.rd r 0) w (r.maskAt 0) ∧ t.dev.tseq = (s.dev.tseq + 1) % 16
      ∧ s.frame t [.dev] [(r, 0), (.CFG_CRC_CTL, 0)])
    ∧ (p = .spi → ∃ t, exec (.spiWriteFixed (r.key 0) [w]) s = .next t
      ∧ t.rd r 0 = mergeMask (s.rd r 0) w (r.maskAt 0) ∧ t.dev.tseq = (s.dev.tseq + 1) % 16
      ∧ s.frame t [.dev] [(r, 0), (.CFG_CRC_CTL, 0)])
    ∧ (p = .spi → ∃ t, exec (.spiRead (r.key 0) 1) s = .next t
      ∧ t.dev.readWords = [s.placeWord .spi (.reg r 0)] ∧ t.dev.tseq = (s.dev.tseq + 1) % 16 ∧ s.frame t [.dev] [])
    ∧ (p = .spi → ∃ t, exec (.spiReadFixed (r.key 0) 1) s = .next t
      ∧ t.dev.readWords = [s.placeWord .spi (.reg r 0)] ∧ t.dev.tseq = (s.dev.tseq + 1) % 16 ∧ s.frame t [.dev] []) := by
  refine ⟨?_, ?_, ?_, ?_, ?_⟩
  · obtain ⟨hrd, -, hch⟩ := State.hostReg_stored_effect w hr hm hs
    exact ⟨_, rfl, hrd, hch.frame⟩
  · rintro rfl
    exact spiWrite_stored w 4 hr hm hs
  · rintro rfl
    exact spiWrite_stored w 0 hr hm hs
  · rintro rfl
    exact spiRead_stored 4 hr hs
  · rintro rfl
    exact spiRead_stored 0 hr hs

end Sys2Proof.Machine

namespace Sys2Proof.Machine

/-! ### STATUS, unknown opcodes, the end of a transaction (R17, R321, R322) -/

/-- R321: STATUS begins a transaction. -/
theorem exec_spiStatus_effect {s : State} (hopen : s.portsClosed = false) : ∃ t, exec .spiStatus s = .next t
    ∧ t.dev.tseq = (s.dev.tseq + 1) % 16 ∧ t.dev.header % 16 = (s.dev.tseq + 1) % 16 ∧ t.dev.header / 2 ^ 10 % 2 = 0
    ∧ t.dev.spi.status = true ∧ t.dev.readWords = [] ∧ s.frame t [.dev] [] := by
  have he : exec .spiStatus s = .next (s.spiBegin false false false true).settle := by
    show done (if s.portsClosed then s else _) = _
    rw [hopen]
    rfl
  obtain ⟨htseq, hbad⟩ := s.spiBegin_header false false true
  exact ⟨_, he, rfl, htseq, hbad, rfl, rfl, (s.spiBegin_changesOnly _ _ _ _ (by simp)).frame⟩

/-- R322: an opcode of no operation begins a transaction with BADOP. -/
theorem exec_spiBadOpcode_effect {s : State} {op : Nat} (hopen : s.portsClosed = false) (hop : spiKnown op = false) :
    ∃ t, exec (.spiBadOpcode op) s = .next t
      ∧ t.dev.tseq = (s.dev.tseq + 1) % 16 ∧ t.dev.header % 16 = (s.dev.tseq + 1) % 16 ∧ t.dev.header / 2 ^ 10 % 2 = 1
      ∧ t.dev.spi.status = false ∧ t.dev.readWords = [] ∧ s.frame t [.dev] [] := by
  have he : exec (.spiBadOpcode op) s = .next (s.spiBegin false false true false).settle := by
    show done (if s.portsClosed ∨ spiKnown op then s else _) = _
    rw [hopen, hop]
    rfl
  obtain ⟨htseq, hbad⟩ := s.spiBegin_header false true false
  exact ⟨_, he, rfl, htseq, hbad, rfl, rfl, (s.spiBegin_changesOnly _ _ _ _ (by simp)).frame⟩

/-- R17: while nothing is streamed, the words of the open group become a group that waits for its boundary. -/
theorem State.endGroup_spi {s : State} (hs : s.pair.streaming = false) :
    s.endGroup .spi = { s with dev := { s.dev with
      spi := { s.dev.spi with open_ := [] }
      groups := s.dev.groups ++ (if s.dev.spi.open_ = [] then [] else [⟨.spi, s.dev.spi.open_⟩]) } } := by
  unfold State.endGroup
  simp only [State.port, State.setPort, reduceCtorEq, if_false, hs, Bool.false_and, Bool.false_eq_true]
  cases s.dev.spi.open_ with
  | nil => simp
  | cons g ws => simp

/-- R335: while the mailbox is closed, the end of a transaction closes none. -/
theorem State.endMbx_closed {s : State} (p : Port) (h : s.on MBX_STAT.OPEN = false) : s.endMbx p = s := by
  simp [State.endMbx, State.cond, h]

/-- R17, R324, R329: the end of a transaction keeps its faults for the next header and ages the key. -/
theorem exec_spiTransactionEnd_effect {s : State} (hopen : s.portsClosed = false) (hmbx : s.on MBX_STAT.OPEN = false)
    (hstr : s.pair.streaming = false) : ∃ t, exec (.spiTransactionEnd false false) s = .next t
      ∧ t.dev.groups = s.dev.groups ++ (if s.dev.spi.open_ = [] then [] else [⟨.spi, s.dev.spi.open_⟩])
      ∧ t.dev.spi.open_ = [] ∧ t.dev.spi.keyAge = s.dev.spi.keyAge - 1 ∧ t.dev.spi.prevBusErr = s.dev.spi.busErr
      ∧ t.dev.spi.prevReject = s.dev.spi.reject ∧ s.frame t [.dev] [] := by
  have hend : (s.endGroup .spi).endMbx .spi = s.endGroup .spi :=
    State.endMbx_closed _ (by rw [State.endGroup_spi hstr, State.mk_on]; exact hmbx)
  have he : exec (.spiTransactionEnd false false) s = .next (State.settle
      (let s := (s.endGroup .spi).endMbx .spi
       s.setPort .spi { s.dev.spi with
         keyAge := ageKey s.dev.spi.keyAge, prevPartial := false, prevBusErr := s.dev.spi.busErr, prevReject := s.dev.spi.reject
         busErr := false, reject := false, status := false })) := by
    show done (if s.portsClosed then s else _) = _
    rw [hopen]
    rfl
  rw [hend, State.endGroup_spi hstr] at he
  exact ⟨_, he, rfl, rfl, rfl, rfl, rfl, (s.changesOnly_dev _ _ (by simp)).frame⟩

/-! ### The key (R329) -/

/-- R331: DEV answers no bus error of its own, and DEV_KEY is not the window of the indirect spaces. -/
theorem State.busError_devKey (s : State) : s.busError (Rg.DEV_KEY.key 0) = false := rfl

/-- R329: the key word opens the guard of its port. -/
theorem exec_devKeyWrite_effect {s : State} {p : Port} (hopen : s.portsClosed = false) (hp : isHost p = true) (hm : s.mode ≠ 11) :
    ∃ t, exec (.devKeyWrite p 0x5A3C#32) s = .next t ∧ (t.port p).keyAge = 2 ∧ s.frame t [.dev] [] := by
  have hs : s.reaches p .DEV_KEY 0 := ⟨hopen, fun _ => s.busError_devKey, fun _ hg => by cases hg⟩
  have hw : s.hostReg p .DEV_KEY 0 0x5A3C#32 = s.setPort p { s.port p with keyAge := 2 } := by
    rw [State.hostReg_eq_writeWord _ (by decide) hs]
    simp [State.writeWord, State.writeKey, hp, hm]
  refine ⟨_, congrArg done hw, ?_, ?_⟩
  · cases p <;> simp_all [State.setPort, State.port, isHost]
  · obtain ⟨d, hd⟩ := s.setPort_eq p { s.port p with keyAge := 2 }
    rw [hd]
    exact (s.changesOnly_dev d _ (by simp)).frame

end Sys2Proof.Machine

namespace Sys2Proof.Machine

/-! ### Mode requests (R24, R333) -/

/-- R333: every request that R24 names is executed in modes 3 to 6. -/
theorem State.judgeMode_run {s : State} {v : Nat} (hr : s.isRun = true) (hv : v ∈ [3, 6, 10, 15]) : s.judgeMode v = none := by
  simp only [State.isRun, Bool.and_eq_true, decide_eq_true_eq] at hr
  have he : s.svcEmpty = false := by
    have h10 : (s.mode == 10) = false := by rw [beq_eq_false_iff_ne]; omega
    simp [State.svcEmpty, h10]
  have hm : s.mode ≠ 11 ∧ s.mode ≠ 7 ∧ s.mode ≠ 9 ∧ s.mode ≠ 10 ∧ s.mode ≠ 1 ∧ s.mode ≠ 2 := by omega
  simp only [List.mem_cons, List.not_mem_nil, or_false] at hv
  rcases hv with rfl | rfl | rfl | rfl <;> simp [State.judgeMode, unless_, he, hm]

/-- R24: a running device that does not stream stores the request at once. -/
theorem State.hostReg_modeReq {s : State} {p : Port} {w : Word} {v : Nat} (hw : w.toNat % 16 = v) (hv : v ∈ [3, 6, 10, 15])
    (hs : s.reaches p .DEV_MODE_REQ 0) (hstr : s.pair.streaming = false) (hr : s.isRun = true) :
    s.hostReg p .DEV_MODE_REQ 0 w = s.set DEV_MODE_REQ.REQ v := by
  have hspend := s.spendKey_unguarded p (r := .DEV_MODE_REQ) rfl
  have hj : s.judge .DEV_MODE_REQ w = none := by
    show orElse (s.judgeMode (w.toNat % 16)) (unless_ true 4) = none
    rw [hw, State.judgeMode_run hr hv]
    rfl
  have h10 : (s.mode == 10) = false := by
    simp only [State.isRun, Bool.and_eq_true, decide_eq_true_eq] at hr
    rw [beq_eq_false_iff_ne]
    omega
  rw [State.hostReg_executed (by decide) (by decide) (by decide) hs (by rw [hspend]; exact hj), hspend,
    State.touched_uncovered _ (by decide)]
  show s.modeReq p (w.toNat % 16) = _
  have hmode : (s.set DEV_MODE_REQ.REQ v).mode = s.mode := s.get_set_ne DEV_MODE_REQ.REQ DEV_MODE.MODE v 0 0 (by decide)
  simp [State.modeReq, State.takeModeReq, State.cond, hw, hstr, hmode, h10]

/-- R24: a mode request through a port. -/
theorem done_modeReq_effect {s : State} {p : Port} {w : Word} {v : Nat} (hw : w.toNat % 16 = v) (hv : v ∈ [3, 6, 10, 15])
    (hs : s.reaches p .DEV_MODE_REQ 0) (hstr : s.pair.streaming = false) (hr : s.isRun = true) :
    ∃ t, done (s.hostReg p .DEV_MODE_REQ 0 w) = .next t ∧ t.get DEV_MODE_REQ.REQ = v ∧ s.frame t [] [(.DEV_MODE_REQ, 0)] := by
  rw [State.hostReg_modeReq hw hv hs hstr hr]
  refine ⟨_, rfl, ?_, (s.changesOnly_set DEV_MODE_REQ.REQ v 0 _ (by simp)).frame⟩
  rw [State.settle_get_of, s.get_set_same DEV_MODE_REQ.REQ v 0 (by decide), ← hw]
  exact Nat.mod_mod _ _

/-! ### Commands of the master (R50) -/

/-- R50: in SERVICE, while none runs, each command is executed. -/
theorem State.judgeMaster_service {s : State} {b : Nat} (hb : b ∈ [1, 2, 4]) (hm : s.mode = 10) (h0 : s.rd .MSYN_CMD = 0)
    (hok : s.storedWords.ok = true) : s.judgeMaster b = none := by
  have hp : popCount b 3 = 1 := by
    simp only [List.mem_cons, List.not_mem_nil, or_false] at hb
    rcases hb with rfl | rfl | rfl <;> rfl
  simp [State.judgeMaster, unless_, hm, h0, hok, hp]

/-- R50: an executed command of SERVICE waits for the next boundary. -/
theorem State.masterCmd_service {s : State} {p : Port} {a b : Nat} (hb : b ∈ [1, 2, 4]) (hm : s.mode = 10) (h0 : s.rd .MSYN_CMD = 0)
    (hok : s.storedWords.ok = true) :
    s.masterCmd p a (BitVec.ofNat 32 b) = { s.wr .MSYN_CMD 0 (BitVec.ofNat 32 b) with msyn := { s.msyn with svcStart := some p } } := by
  have hj := State.judgeMaster_service hb hm h0 hok
  have hoff (f : Fld) (hf : f.r = .MSYN_CMD) : s.on f = false := by
    rw [State.on, State.get, hf, h0]
    simp [Fld.of, bitsOf]
  have hmode : (s.wr .MSYN_CMD 0 (BitVec.ofNat 32 b)).mode = 10 := (congrArg _ (s.rd_wr_ne _ (by decide))).trans hm
  have hbits : (BitVec.ofNat 32 b).toNat % 8 = b ∧ b ≠ 0 := by
    simp only [List.mem_cons, List.not_mem_nil, or_false] at hb
    rcases hb with rfl | rfl | rfl <;> decide
  unfold State.masterCmd
  simp only [hbits.1, if_neg hbits.2, hj, hoff MSYN_CMD.RETUNE rfl, hoff MSYN_CMD.RELOCK rfl, hoff MSYN_CMD.BANDSEL rfl, hmode,
    Bool.or_self, Bool.false_eq_true, if_false, OfNat.ofNat_ne_one, State.wr_msyn]

/-- R50: a command of the master through a port, in SERVICE. -/
theorem done_masterCmd_effect {s : State} {p : Port} {b : Nat} (hb : b ∈ [1, 2, 4]) (hs : s.reaches p .MSYN_CMD 0) (hm : s.mode = 10)
    (h0 : s.rd .MSYN_CMD = 0) (hok : s.storedWords.ok = true) :
    ∃ t, done (s.hostReg p .MSYN_CMD 0 (BitVec.ofNat 32 b)) = .next t
      ∧ t.rd .MSYN_CMD = BitVec.ofNat 32 b ∧ t.msyn = { s.msyn with svcStart := some p } ∧ s.frame t [.dev, .msyn] [(.MSYN_CMD, 0)] := by
  obtain ⟨d, hd⟩ := s.spendKey_eq p .MSYN_CMD
  have hw : s.hostReg p .MSYN_CMD 0 (BitVec.ofNat 32 b) = State.masterCmd { s with dev := d } p (Rg.MSYN_CMD.key 0) (BitVec.ofNat 32 b) := by
    rw [State.hostReg_executed (by decide) (by decide) (by decide) hs (by rfl), State.touched_uncovered _ (by decide), hd]
    rfl
  rw [hw, State.masterCmd_service (s := { s with dev := d }) hb hm h0 hok]
  refine ⟨_, rfl, ?_, rfl, ?_⟩
  · rw [State.settle_rd_of, State.mk_rd, State.rd_wr_same]
  · exact (((s.changesOnly_dev d _ (by simp)).trans (State.changesOnly_wr _ .MSYN_CMD 0 _ _ (by simp))).trans
      (State.changesOnly_msyn _ _ _ (by simp))).frame

/-! ### Commands of a channel (R61, R66) -/

/-- R327: a channel's window starts 1 KB after the one before, in block 3. -/
theorem addrBlock_channel {c o : Nat} (hc : c < 512) (ho : o < 0x400) : addrBlock (0x80000 + 0x400 * c + o) = 3 := by
  have hw : (0x80000 + 0x400 * c + o) / 0x10000 % 32 = 8 + c / 64 := by omega
  have hlt : ¬ 8 + c / 64 < 8 ∧ 8 + c / 64 < 16 := by omega
  simp only [addrBlock, windowBlock, hw, hlt, if_false, if_true]

/-- R79, R328: an offset of a channel's window below its status words names its own word. -/
theorem addrKey_channel {c o : Nat} (hc : c < 512) (ho : o < 0x40) (h4 : o % 4 = 0) :
    addrKey (0x80000 + 0x400 * c + o) = 0x80000 + 0x400 * c + o := by
  have hoff : (0x80000 + 0x400 * c + o) % 0x80000 / 4 * 4 = 0x400 * c + o := by omega
  have hslot : (0x400 * c + o) / 0x400 * 0x400 = 0x400 * c ∧ (0x400 * c + o) % 0x100 = o := by omega
  have hlow : ¬ (0x40 ≤ o ∧ o < 0x80) ∧ ¬ (0x80 ≤ o ∧ o < 0xC0) := by omega
  simp only [addrKey, addrBlock_channel hc (show o < 0x400 by omega), if_true, hoff, foldOffset, hslot, aliasGroups, foldGroup, hlow,
    if_false, blockBase]
  omega

/-- The registers of a list before the one that decodes a key. -/
theorem Rg.find_append {k : Nat} {pre : List Rg} (rs : List Rg) (h : ∀ r ∈ pre, r.indexOf k = none) : Rg.find k (pre ++ rs) = Rg.find k rs := by
  induction pre with
  | nil => rfl
  | cons r pre ih =>
    rw [List.cons_append, Rg.find, h r (by simp)]
    exact ih fun q hq => h q (by simp [hq])

/-- A register of the channels' windows decodes its own offset only. -/
theorem Rg.indexOf_channel {r : Rg} {b o c : Nat} (hr : r.info.stride = 0x400 ∧ r.info.count = 0x200 ∧ r.info.base = 0x80000 + b)
    (hb : b < 0x400) (ho : o < 0x400) (hc : c < 512) : r.indexOf (0x80000 + 0x400 * c + o) = if b = o then some c else none := by
  obtain ⟨hstride, hcount, hbase⟩ := hr
  simp only [Rg.indexOf, hstride, hcount, hbase]
  by_cases hbo : b = o
  · subst hbo
    rw [if_neg (by omega), if_neg (by decide), if_pos (by omega), if_pos rfl]
    congr 1
    omega
  · rw [if_neg hbo]
    split
    · rfl
    · rw [if_neg (by decide), if_neg (by omega)]

/-- R328: CH_CMD of every channel stands at its own address. -/
theorem Rg.ownsAddress_CH_CMD {c : Nat} (hc : c < 512) : Rg.CH_CMD.ownsAddress c := by
  have hkey : Rg.CH_CMD.key c = 0x80000 + 0x400 * c + 0x30 := by
    show 0x80030 + 0x400 * c = _
    omega
  have hbefore : ∀ r ∈ Rg.chRegs.take 12, r.info.stride = 0x400 ∧ r.info.count = 0x200
      ∧ r.info.base = 0x80000 + (r.info.base - 0x80000) ∧ r.info.base - 0x80000 < 0x30 := by decide
  have hnone : ∀ r ∈ Rg.chRegs.take 12, r.indexOf (0x80000 + 0x400 * c + 0x30) = none := by
    intro r hr
    obtain ⟨hstride, hcount, hbase, hlow⟩ := hbefore r hr
    rw [Rg.indexOf_channel ⟨hstride, hcount, hbase⟩ (by omega) (by decide) hc, if_neg (by omega)]
  refine ⟨by omega, ?_, ?_⟩
  · rw [hkey, addrKey_channel hc (by decide) (by decide)]
    omega
  · rw [regAt, hkey, addrKey_channel hc (by decide) (by decide), addrBlock_channel hc (by decide)]
    show Rg.find _ (Rg.chRegs.take 12 ++ Rg.chRegs.drop 12) = _
    rw [Rg.find_append _ hnone]
    show Rg.find _ (.CH_CMD :: _) = _
    rw [Rg.find, Rg.indexOf_channel (b := 0x30) (by decide) (by decide) (by decide) hc]
    rfl

/-- R17: a word joins the open group of the host port that wrote it, and of its port only the shadow changes beside that. -/
theorem State.joinGroup_host (s : State) {p : Port} (r : Rg) (i : Nat) (w : Word) (hp : isHost p = true) :
    ((s.joinGroup p r i w).port p).open_ = (s.port p).open_ ++ [⟨r, i, w⟩] ∧ s.changesOnly (s.joinGroup p r i w) [.dev] [] := by
  unfold State.joinGroup
  rw [if_pos hp]
  generalize (if r = .CH_CMD then s.shadowWord r i ||| w else w) = new
  cases p with
  | spi => dsimp only; split <;> exact ⟨rfl, s.changesOnly_dev _ _ (by simp)⟩
  | inb => dsimp only; split <;> exact ⟨rfl, s.changesOnly_dev _ _ (by simp)⟩
  | preload => cases hp
  | stream => cases hp

/-- R61, R66: a command of a channel through a port. -/
theorem onUnit_chCmd_effect {s : State} {p : Port} {c : Nat} (w : Word) (hp : isHost p = true) (hc : c < 512) (hs : s.reaches p .CH_CMD c) :
    ∃ t, onUnit c 512 s (s.hostReg p .CH_CMD c w) = .next t
      ∧ (t.port p).open_ = (s.port p).open_ ++ [⟨.CH_CMD, c, w⟩] ∧ s.frame t [.dev] [] := by
  have hjoin : s.hostReg p .CH_CMD c w = s.joinGroup p .CH_CMD c w := by
    rw [State.hostReg_eq_writeWord w (Rg.ownsAddress_CH_CMD hc) hs, State.writeWord_open w (by decide) hs, s.spendKey_unguarded p rfl]
    rfl
  obtain ⟨hopen, hch⟩ := s.joinGroup_host .CH_CMD c w hp
  rw [onUnit_next _ _ _ _ hc, hjoin]
  exact ⟨_, rfl, hopen, hch.frame⟩

end Sys2Proof.Machine

namespace Sys2Proof.Machine

/-! ### Soft resets (R276, R277) -/

theorem State.upto_succ (n : Nat) (f : Nat → State → State) (s : State) : State.upto (n + 1) f s = f n (State.upto n f s) := by
  simp [State.upto, List.range_succ]

/-- An action over the units below `n` that acts on unit `b` only. -/
theorem State.upto_single {n b : Nat} {f : Nat → State → State} (hb : b < n) (h : ∀ k, k < n → k ≠ b → ∀ s, f k s = s) (s : State) :
    State.upto n f s = f b s := by
  induction n with
  | zero => cases hb
  | succ n ih =>
    rw [State.upto_succ]
    by_cases hn : b = n
    · subst hn
      have hsame : ∀ m ≤ b, State.upto m f s = s := by
        intro m
        induction m with
        | zero => exact fun _ => rfl
        | succ m ihm => exact fun hm => by rw [State.upto_succ, ihm (by omega), h m (by omega) (by omega)]
      rw [hsame b le_rfl]
    · rw [ih (by omega) (fun k hk => h k (by omega)), h n (by omega) (Ne.symm hn)]

/-- R8: the word of one block asks for that block under its mask, and for no other. -/
theorem bitOf_softWord : ∀ b < 8, ∀ k < 8, (bitOf (softWord b).toNat k && bitOf (softWord b).toNat (k + 16)) = decide (k = b) := by decide

theorem State.writeSoft_softWord {s : State} (p : Port) (a : Nat) {b : Nat} (hb : b < 8) (h1 : s.mode ≠ 1) (h11 : s.mode ≠ 11) :
    s.writeSoft p a (softWord b) = s.requestSoft b := by
  unfold State.writeSoft
  rw [if_neg (not_or.mpr ⟨h1, h11⟩), State.upto_single hb]
  · simp [State.cond, bitOf_softWord b hb b hb]
  · intro k hk hkb u
    simp [State.cond, bitOf_softWord b hb k hk, hkb]

/-- R272: without the strap, no fuse gives source 11 a level. -/
theorem State.reachOf_soft {s : State} (h : s.on DEV_STRAP.SYS = false) : s.reachOf 11 = 0 := by
  simp [State.reachOf, defaultReach, h]

/-- R276, R277: a request outside every level starts the idle handshake of its block. -/
theorem State.requestSoft_handshake {s : State} {b : Nat} (hosc : s.on CLK_STS.INTOSC_OK = true) (hsys : s.on DEV_STRAP.SYS = false)
    (hl1 : s.on RST_STS.L1M = false) (h0 : s.get RST_SOFT.SOFT = 0) :
    s.requestSoft b = (s.setBit RST_SOFT.SOFT b true).startHandshake 11 b := by
  have hother (f : Fld) (hf : Rg.RST_SOFT.key 0 ≠ f.r.key 0) : (s.setBit RST_SOFT.SOFT b true).on f = s.on f :=
    congrArg (· != 0) (s.get_set_ne RST_SOFT.SOFT f _ 0 0 hf)
  have hreach : (s.setBit RST_SOFT.SOFT b true).reachOf 11 = 0 := State.reachOf_soft ((hother _ (by decide)).trans hsys)
  have hbit : bitOf (s.get RST_SOFT.SOFT) b = false := by simp [bitOf, h0]
  simp only [State.requestSoft, hbit, hreach, hother _ (show _ ≠ RST_STS.L1M.r.key 0 by decide), hl1,
    hother _ (show _ ≠ CLK_STS.INTOSC_OK.r.key 0 by decide), hosc]
  simp

/-- A bit set in a field of eight bits. -/
theorem withBit_true_lt {n k : Nat} (hn : n < 256) (hk : k < 8) : withBit n k true < 256 := by
  by_cases hbit : n / 2 ^ k % 2 = 1
  · simpa [withBit, bitOf, hbit] using hn
  · simp only [withBit, bitOf, beq_iff_eq, hbit, beq_true, if_false, if_true]
    interval_cases k <;> omega

/-- R8, R277: a soft reset through a port. -/
theorem done_softReset_effect {s : State} {p : Port} {b : Nat} (hb : b < 8) (hs : s.reaches p .RST_SOFT 0)
    (hosc : s.on CLK_STS.INTOSC_OK = true) (hsys : s.on DEV_STRAP.SYS = false) (hl1 : s.on RST_STS.L1M = false)
    (h0 : s.get RST_SOFT.SOFT = 0) (h1 : s.mode ≠ 1) (h11 : s.mode ≠ 11) :
    ∃ t, done (s.hostReg p .RST_SOFT 0 (softWord b)) = .next t
      ∧ t.get RST_SOFT.SOFT = 2 ^ b ∧ s.handshakeBegun t 11 b [.dev] [(.RST_SOFT, 0)] := by
  obtain ⟨d, hd⟩ := s.spendKey_eq p .RST_SOFT
  have hw : s.hostReg p .RST_SOFT 0 (softWord b) = (State.setBit { s with dev := d } RST_SOFT.SOFT b true).startHandshake 11 b := by
    rw [State.hostReg_executed (by decide) (by decide) (by decide) hs (by rfl), State.touched_uncovered _ (by decide), hd]
    exact (State.writeSoft_softWord (s := { s with dev := d }) p _ hb h1 h11).trans (State.requestSoft_handshake hosc hsys hl1 h0)
  rw [hw]
  unfold State.startHandshake
  rw [if_pos hb]
  have hwait : s.get RST_IDLE_STS.WAIT < 256 := RST_IDLE_STS.WAIT.of_lt _
  refine ⟨_, rfl, ?_, rfl, ?_, ?_, ?_⟩
  · rw [State.settle_get_of, State.setBit, State.get_set_ne _ _ RST_SOFT.SOFT _ 0 0 (by decide), State.mk_get, State.setBit,
      State.get_set_same _ _ _ _ (by decide), State.mk_get, h0]
    interval_cases b <;> rfl
  · rw [State.settle_get_of, State.setBit, State.get_set_same _ _ _ _ (by decide), if_pos hb, State.mk_get, State.setBit,
      State.get_set_ne _ _ RST_IDLE_STS.WAIT _ 0 0 (by decide), State.mk_get]
    exact Nat.mod_eq_of_lt (withBit_true_lt hwait hb)
  · rw [State.settle_get_of, State.setBit, State.get_set_apart _ RST_IDLE_STS.WAIT RST_IDLE_STS.WAIT_L1 _ 0 (by decide) (by decide) rfl (by decide),
      if_pos hb, State.mk_get, State.setBit, State.get_set_ne _ _ RST_IDLE_STS.WAIT_L1 _ 0 0 (by decide), State.mk_get]
  · exact ((((s.changesOnly_dev d _ (by simp)).trans (State.changesOnly_setBit _ RST_SOFT.SOFT b true 0 _ (by simp))).trans
      (State.changesOnly_rst _ _ _ (by simp))).trans (State.changesOnly_setBit _ RST_IDLE_STS.WAIT b true 0 _ (by simp))).frame

end Sys2Proof.Machine

namespace Sys2Proof.Machine

/-! ### Loop-back faults (R78) -/

theorem State.lbYield_changesOnly (s : State) {parts : List Part} (words : List (Rg × Nat)) (h : Part.pair ∈ parts) :
    s.changesOnly s.lbYield parts words :=
  State.changesOnly_cond (s.changesOnly_pair _ words h)

/-- A yield that a fault causes writes no register. -/
theorem State.lbYield_rd (s : State) (r : Rg) (i : Nat) : s.lbYield.rd r i = s.rd r i := by
  unfold State.lbYield State.cond
  split <;> rfl

/-- R78: a declaration sets the fault bit of its output and counts in `cnt`. -/
theorem onPin_lbDeclare_effect {s : State} {n : Nat} (cnt : Rg) (hk : Rg.OUT_STS.key n ≠ cnt.key n) (hn : n < 128)
    (ha : s.lbActive (.out n) = true) :
    ∃ t, onPin (.out n) s (s.lbDeclare (.out n) cnt) = .next t
      ∧ t.rd .OUT_STS n = OUT_STS.LB_FAULT.put (s.rd .OUT_STS n) 1 ∧ s.counted t cnt n 1
      ∧ s.frame t [.pair] [(.OUT_STS, n), (cnt, n)] := by
  have hd : s.lbDeclare (.out n) cnt = ((s.set OUT_STS.LB_FAULT 1 n).inc cnt n).lbYield := by
    unfold State.lbDeclare
    rw [if_pos ha]
  refine ⟨_, onUnit_next n 128 s _ hn, ?_, ?_, ?_⟩ <;> rw [hd]
  · rw [State.settle_rd_of, State.lbYield_rd, State.rd_inc_ne _ _ _ hk.symm, State.rd_set_same _ _ _ _ rfl]
  · rw [State.counted, State.settle_rd_of, State.lbYield_rd, State.rd_inc_same, State.rd_set_ne _ _ _ _ hk]
  · exact (((s.changesOnly_set OUT_STS.LB_FAULT 1 n _ (by simp)).trans (State.changesOnly_inc _ cnt n _ (by simp))).trans
      (State.lbYield_changesOnly _ _ (by simp))).frame

/-! ### Messages that leave (R150, R190) -/

theorem State.send_sent_length (s : State) (m : OutMsg) : (s.send m).twl.sent.length = s.twl.sent.length + 1 := by
  simp [State.send]

/-- A message that leaves changes no flow. -/
theorem State.send_flow (s : State) (m : OutMsg) (f : Nat) : (s.send m).flow f = s.flow f := rfl

/-- Of the registers a message that leaves writes the counter of its lane only. -/
theorem State.send_rd_ne (s : State) (m : OutMsg) {q : Rg} {j : Nat} (h : Rg.MIR_TX_FRAMES_CNT.key m.lane ≠ q.key j) :
    (s.send m).rd q j = s.rd q j := s.rd_inc_ne _ _ h

theorem State.send_changesOnly (s : State) (m : OutMsg) {parts : List Part} {words : List (Rg × Nat)} (hp : Part.twl ∈ parts)
    (hw : (Rg.MIR_TX_FRAMES_CNT, m.lane) ∈ words) : s.changesOnly (s.send m) parts words :=
  (s.changesOnly_inc .MIR_TX_FRAMES_CNT m.lane parts hw).trans (State.changesOnly_twl _ _ words hp)

/-- The counters of the transmit lanes stand above every word of the blocks before MIR. -/
theorem Rg.txFrames_key_ne (l : Nat) {q : Rg} {j : Nat} (h : q.key j < 0x140124) : Rg.MIR_TX_FRAMES_CNT.key l ≠ q.key j :=
  Nat.ne_of_gt (Nat.lt_of_lt_of_le h (Nat.le_add_right _ _))

/-! ### Requests of a flow (R156, R159) -/

@[simp] theorem State.flow_setFlow_same (s : State) (f : Nat) (x : Flow) : (s.setFlow f x).flow f = x := by
  simp [State.flow, State.setFlow]

theorem State.flow_setFlow_ne (s : State) {f k : Nat} (x : Flow) (h : f ≠ k) : (s.setFlow f x).flow k = s.flow k := by
  simp [State.flow, State.setFlow, Tab.get_set_ne _ _ _ h]

theorem State.settle_flow (s : State) (k : Nat) : s.settle.flow k = s.flow k := by rw [State.flow, State.settle_twl, State.flow]

theorem State.set_flow (s : State) (g : Fld) (v i k : Nat) : (s.set g v i).flow k = s.flow k := by rw [State.flow, State.set_twl, State.flow]

theorem State.setFlow_sent (s : State) (f : Nat) (x : Flow) : (s.setFlow f x).twl.sent = s.twl.sent := rfl

theorem State.setFlow_changesOnly (s : State) (f : Nat) (x : Flow) {parts : List Part} (words : List (Rg × Nat)) (h : Part.twl ∈ parts) :
    s.changesOnly (s.setFlow f x) parts words := s.changesOnly_twl _ words h

/-- A flow stays active while its word and the program of its home channel stand. -/
theorem State.flowActive_congr {s t : State} {f : Nat} (hcfg : t.rd .FLOW_CFG f = s.rd .FLOW_CFG f)
    (hprog : t.rd .ENG_CHMAP (s.flowHome f) = s.rd .ENG_CHMAP (s.flowHome f)) : t.flowActive f = s.flowActive f := by
  have hhome : t.flowHome f = s.flowHome f := congrArg FLOW_CFG.CHANNEL.of hcfg
  have hen : t.on FLOW_CFG.EN f = s.on FLOW_CFG.EN f := congrArg (FLOW_CFG.EN.of · != 0) hcfg
  have hp : t.prog (s.flowHome f) = s.prog (s.flowHome f) := congrArg ENG_CHMAP.PROG.of hprog
  rw [State.flowActive, State.flowActive, hhome, hen, hp]

/-- R154: the shown state of an active flow is one word. -/
theorem State.showFlow_active {s : State} {f : Nat} (h : s.flowActive f = true) : s.showFlow f = s.set FLOW_STS.STATE (s.flowState f) f := by
  unfold State.showFlow
  rw [if_pos h]

/-- R159: a flow whose next request has left and waits for its response. -/
def Flow.requested (x : Flow) : Flow :=
  { x with nextSeq := (x.nextSeq + 1) % 65536, exch := { x.exch.dropRequest with reqSeq := x.nextSeq, reqOut := true } }

/-- R159: a request that still waits for its response is counted as missed before the next one leaves. -/
def State.missWaiting (s : State) (f : Nat) : State := s.cond (s.flow f).exch.waitsResponse (·.missExchange f)

theorem State.missWaiting_changesOnly (s : State) (f : Nat) (parts : List Part) {words : List (Rg × Nat)} (h : (Rg.FLOW_MISS_CNT, f) ∈ words) :
    s.changesOnly (s.missWaiting f) parts words :=
  State.changesOnly_cond (s.changesOnly_inc .FLOW_MISS_CNT f parts h)

theorem State.missWaiting_twl (s : State) (f : Nat) : (s.missWaiting f).twl = s.twl := by
  unfold State.missWaiting State.cond
  split <;> rfl

/-- R156, R159: a request that can leave. -/
theorem State.sendRequest_sent {s : State} {f : Nat} (kind : MsgKind) (hh : (s.flow f).hdr ≠ []) (hc : s.canSend (s.flow f).lane = true) :
    ∃ m : OutMsg, m.lane = (s.flow f).lane ∧ s.sendRequest f kind = ((s.missWaiting f).send m).setFlow f (s.flow f).requested := by
  have hne : (s.flow f).hdr.isEmpty = false := by simpa using hh
  unfold State.sendRequest
  simp only [hne, hc, Bool.not_true, Bool.false_eq_true, if_false]
  exact ⟨_, rfl, rfl⟩

/-- R154: the flow that sends a request stays active. -/
theorem State.request_flowActive {s : State} {f : Nat} (m : OutMsg) (x : Flow) (hf : f < 64) (ha : s.flowActive f = true) :
    (((s.missWaiting f).send m).setFlow f x).flowActive f = true := by
  have hkept {q : Rg} {j : Nat} (hlow : q.key j < 0x140124) (hmiss : Rg.FLOW_MISS_CNT.key f ≠ q.key j) :
      (((s.missWaiting f).send m).setFlow f x).rd q j = s.rd q j := by
    obtain ⟨-, -, hw⟩ := s.missWaiting_changesOnly f [] (words := [(.FLOW_MISS_CNT, f)]) (by simp)
    exact ((s.missWaiting f).send_rd_ne m (Rg.txFrames_key_ne _ hlow)).trans (hw q j (by simpa using hmiss))
  have hhome : s.flowHome f < 512 := FLOW_CFG.CHANNEL.of_lt _
  have kmiss : Rg.FLOW_MISS_CNT.key f = 0x13040c + 0x10 * f := rfl
  have kcfg : Rg.FLOW_CFG.key f = 0x130400 + 0x10 * f := rfl
  have kmap : Rg.ENG_CHMAP.key (s.flowHome f) = 0x120000 + 4 * s.flowHome f := rfl
  rw [State.flowActive_congr (s := s) (hkept (by omega) (by omega)) (hkept (by omega) (by omega)), ha]

theorem State.mode_of_mirTransmits {s : State} (h : s.mirTransmits = true) : s.mode ≠ 0 ∧ s.mode ≠ 11 := by
  simp only [State.mirTransmits, Bool.and_eq_true, Bool.or_eq_true, decide_eq_true_eq, beq_iff_eq] at h
  omega

/-- An event of an active flow while frames are sent. -/
theorem onFlow_next {s : State} {f : Nat} (g : State → State) (hf : f < 64) (ha : s.flowActive f = true) (hm : s.mirTransmits = true) :
    onFlow f s g = .next ((g s).showFlow f).settle := by
  obtain ⟨h0, h11⟩ := State.mode_of_mirTransmits hm
  simp [onFlow, onUnit_next _ _ _ _ hf, ha, h0, h11]

/-- R159: an event of a flow that sends its request. -/
theorem onFlow_sendRequest_effect {s : State} {f : Nat} {g : State → State} (kind : MsgKind) (hg : g s = s.sendRequest f kind) (hf : f < 64)
    (ha : s.flowActive f = true) (hm : s.mirTransmits = true) (hh : (s.flow f).hdr ≠ []) (hc : s.canSend (s.flow f).lane = true) :
    ∃ t, onFlow f s g = .next t
      ∧ t.twl.sent.length = s.twl.sent.length + 1 ∧ (t.flow f).nextSeq = ((s.flow f).nextSeq + 1) % 65536
      ∧ (t.flow f).exch.reqOut = true ∧ (t.flow f).exch.reqSeq = (s.flow f).nextSeq ∧ s.onlyFlow t f
      ∧ s.frame t [.twl] [(.MIR_TX_FRAMES_CNT, (s.flow f).lane), (.FLOW_MISS_CNT, f), (.FLOW_STS, f)] := by
  obtain ⟨m, hlane, hsend⟩ := State.sendRequest_sent kind hh hc
  refine ⟨_, onFlow_next g hf ha hm, ?_⟩
  rw [hg, hsend, State.showFlow_active (State.request_flowActive m _ hf ha)]
  refine ⟨?_, ?_, ?_, ?_, ?_, ?_⟩
  · rw [State.settle_twl, State.set_twl, State.setFlow_sent, State.send_sent_length, s.missWaiting_twl f]
  · rw [State.settle_flow, State.set_flow, State.flow_setFlow_same, Flow.requested]
  · rw [State.settle_flow, State.set_flow, State.flow_setFlow_same, Flow.requested]
  · rw [State.settle_flow, State.set_flow, State.flow_setFlow_same, Flow.requested]
  · intro k hk
    rw [State.settle_flow, State.set_flow, State.flow_setFlow_ne _ _ (Ne.symm hk), State.send_flow, State.flow, s.missWaiting_twl f, State.flow]
  · exact ((((s.missWaiting_changesOnly f _ (by simp)).trans (State.send_changesOnly _ m (by simp) (by simp [hlane]))).trans
      (State.setFlow_changesOnly _ f _ _ (by simp))).trans (State.changesOnly_set _ FLOW_STS.STATE _ f _ (by simp))).frame

/-! ### ESMC (R161) -/

/-- R161: of the channel's selection, what the quality level of a group follows. -/
theorem State.qlInput_congr {s t : State} {c : Nat} (hchan : t.chan c = s.chan c) (hmap : t.rd .ENG_CHMAP c = s.rd .ENG_CHMAP c) :
    t.qlInput c = s.qlInput c := by
  have hvalid : t.on ENG_CHMAP.SEL_VALID c = s.on ENG_CHMAP.SEL_VALID c := congrArg (ENG_CHMAP.SEL_VALID.of · != 0) hmap
  have hsel : t.get ENG_CHMAP.SEL c = s.get ENG_CHMAP.SEL c := congrArg ENG_CHMAP.SEL.of hmap
  simp only [State.qlInput, hchan, hvalid, hsel]

/-- R161: transmit group `k` notes the quality level it has sent. -/
def State.noteSentQl (s : State) (k : Nat) (q : Nat × Nat) : State :=
  { s with twl := { s.twl with esmc := Tab.set .reset s.twl.esmc k { streamOf s.twl.esmc k with lastQl := some q } } }

/-- R161: what a group sends does not move its channel's selection. -/
theorem State.sentEsmc_qlInput (s : State) (m : OutMsg) (k : Nat) (q : Nat × Nat) {c : Nat} (hc : c < 512) :
    (((s.send m).inc .ESMC_TX_CNT).noteSentQl k q).qlInput c = s.qlInput c := by
  have kmap : Rg.ENG_CHMAP.key c = 0x120000 + 4 * c := rfl
  have kcnt : Rg.ESMC_TX_CNT.key 0 = 0x130ccc := rfl
  refine State.qlInput_congr rfl ?_
  rw [State.noteSentQl, State.mk_rd, State.rd_inc_ne _ _ _ (by omega), State.send_rd_ne _ _ (Rg.txFrames_key_ne _ (by omega))]

/-- R161: the state that a PDU leaves from: one with an enhanced QL TLV draws its free fields. -/
def State.esmcDrawn (s : State) (k : Nat) : State := if (s.txQl k).2 = 0 then s else (s.drawNat (2 ^ 24)).2

theorem State.esmcDrawn_eq (s : State) (k : Nat) : ∃ n, s.esmcDrawn k = { s with free := n } := by
  unfold State.esmcDrawn
  split
  · exact ⟨s.free, rfl⟩
  · exact ⟨s.free + 1, rfl⟩

/-- R161: the PDU that transmit group `k` sends. -/
def State.esmcPdu (s : State) (k : Nat) (kind : MsgKind) : OutMsg :=
  let g := s.get ESMC_TX.PGROUP k
  let q := s.txQl k
  let r := (s.drawNat (2 ^ 24)).1
  let extra : List (Nat × Int) := if q.2 = 0 then [] else [(9, s.clockId), (33, r % 256), (34, r / 256 % 256), (35, r / 65536)]
  ⟨kind, 0, s.get MIR_PGRP.LANE g, 0, s.get ESMC_TX.CHANNEL k, 0, g, 0, false, 2, s.esmcHeader g, [(11, (q.1 : Int)), (12, q.2)] ++ extra⟩

/-- R161: a group whose channel has selected no input sends its one PDU. -/
theorem State.sendEsmc_sent {s : State} {k : Nat} (kind : MsgKind) (hg : s.groupUsed (s.get ESMC_TX.PGROUP k) = true)
    (hc : s.canSend (s.get MIR_PGRP.LANE (s.get ESMC_TX.PGROUP k)) = true) (hq : s.qlInput (s.get ESMC_TX.CHANNEL k) = none) :
    s.sendEsmc k kind = (((s.esmcDrawn k).send (s.esmcPdu k kind)).inc .ESMC_TX_CNT).noteSentQl k (s.txQl k) := by
  have hnone : ((((s.esmcDrawn k).send (s.esmcPdu k kind)).inc .ESMC_TX_CNT).noteSentQl k (s.txQl k)).qlInput (s.get ESMC_TX.CHANNEL k)
      = none := by
    obtain ⟨n, hn⟩ := s.esmcDrawn_eq k
    have hlt : s.get ESMC_TX.CHANNEL k < 512 := ESMC_TX.CHANNEL.of_lt _
    rw [State.sentEsmc_qlInput _ _ k _ hlt, hn]
    exact hq
  have hsend : (s.groupUsed (s.get ESMC_TX.PGROUP k) && s.canSend (s.get MIR_PGRP.LANE (s.get ESMC_TX.PGROUP k))) = true := by rw [hg, hc]; rfl
  unfold State.sendEsmc
  dsimp only
  rw [if_pos hsend]
  split
  · rename_i i hi
    exact absurd (hnone.symm.trans hi) (by simp)
  · rfl

/-- R161: an event of a transmit group that sends its PDU. -/
theorem onUnit_sendEsmc_effect {s : State} {k : Nat} (kind : MsgKind) (hk : k < 8) (hg : s.groupUsed (s.get ESMC_TX.PGROUP k) = true)
    (hc : s.canSend (s.get MIR_PGRP.LANE (s.get ESMC_TX.PGROUP k)) = true) (hq : s.qlInput (s.get ESMC_TX.CHANNEL k) = none) :
    ∃ t, onUnit k 8 s (s.sendEsmc k kind) = .next t
      ∧ t.twl.sent.length = s.twl.sent.length + 1 ∧ s.counted t .ESMC_TX_CNT 0 1 ∧ (streamOf t.twl.esmc k).lastQl = some (s.txQl k)
      ∧ s.frame t [.twl, .free] [(.MIR_TX_FRAMES_CNT, s.get MIR_PGRP.LANE (s.get ESMC_TX.PGROUP k)), (.ESMC_TX_CNT, 0)] := by
  obtain ⟨n, hn⟩ := s.esmcDrawn_eq k
  refine ⟨_, onUnit_next k 8 s _ hk, ?_⟩
  rw [State.sendEsmc_sent kind hg hc hq, hn]
  generalize hm : s.esmcPdu k kind = m
  have hlane : m.lane = s.get MIR_PGRP.LANE (s.get ESMC_TX.PGROUP k) := by rw [← hm]; rfl
  have kcnt : Rg.ESMC_TX_CNT.key 0 < 0x140124 := by decide
  refine ⟨?_, ?_, ?_, ?_⟩
  · rw [State.settle_twl]
    exact State.send_sent_length _ m
  · rw [State.counted, State.settle_rd_of, State.noteSentQl, State.mk_rd, State.rd_inc_same, State.send_rd_ne _ m (Rg.txFrames_key_ne _ kcnt),
      State.mk_rd]
  · rw [State.settle_twl]
    simp [State.noteSentQl, streamOf]
  · exact ((((s.changesOnly_free n _ (by simp)).trans (State.send_changesOnly _ m (by simp) (by simp [hlane]))).trans
      (State.changesOnly_inc _ .ESMC_TX_CNT 0 _ (by simp))).trans (State.changesOnly_twl _ _ _ (by simp))).frame

/-! ### Triggers of a rotation (R244, R245) -/

/-- R245: while no rotation runs or is pending, a trigger makes one due. -/
theorem State.calTrigger_due {s : State} (hr : s.on CAL_STS.ROTATING = false) (hp : s.on CAL_STS.PENDING = false) :
    s.calTrigger = { s with cal := { s.cal with startDue := true } } := by
  simp [State.calTrigger, State.cond, hr, hp]

theorem exec_calPeriodExpired_effect {s : State} (hm : s.calModes = true) (ha : s.on CAL_CTL.AUTO = true)
    (hr : s.on CAL_STS.ROTATING = false) (hp : s.on CAL_STS.PENDING = false) (hperiod : s.on CAL_CTL.PERIOD = true) :
    ∃ t, exec .calPeriodExpired s = .next t ∧ t.cal = { s.cal with startDue := true } ∧ s.frame t [.cal] [] := by
  have he : exec .calPeriodExpired s = done s.calTrigger := by
    show done (if _ then _ else _) = _
    rw [if_pos ⟨hm, ha, hperiod⟩]
  rw [he, State.calTrigger_due hr hp]
  exact ⟨_, rfl, rfl, (s.changesOnly_cal _ _ (by simp)).frame⟩

theorem exec_calTemperatureCheck_effect {s : State} (hm : s.calModes = true) (ha : s.on CAL_CTL.AUTO = true)
    (hr : s.on CAL_STS.ROTATING = false) (hp : s.on CAL_STS.PENDING = false) (htick : s.dev.tick % 100000 = 0)
    (htemp : (List.range 8).any (fun k => s.tempApart (s.temp k) (s.cal.tempRef.getD k 0) 1) = true) :
    ∃ t, exec .calTemperatureCheck s = .next t ∧ t.cal = { s.cal with startDue := true } ∧ s.counted t .CAL_TRIG_TEMP_CNT 0 1
      ∧ s.frame t [.cal] [(.CAL_TRIG_TEMP_CNT, 0)] := by
  have he : exec .calTemperatureCheck s = done (s.inc .CAL_TRIG_TEMP_CNT).calTrigger := by
    show done (if _ then _ else _) = _
    rw [if_pos ⟨hm, ha, htick, htemp⟩]
  have hoff (f : Fld) (hf : Rg.CAL_TRIG_TEMP_CNT.key 0 ≠ f.r.key 0) : (s.inc .CAL_TRIG_TEMP_CNT).on f = s.on f :=
    congrArg (· != 0) (s.get_inc_ne .CAL_TRIG_TEMP_CNT 0 f 0 hf)
  rw [he, State.calTrigger_due ((hoff CAL_STS.ROTATING (by decide)).trans hr) ((hoff CAL_STS.PENDING (by decide)).trans hp)]
  refine ⟨_, rfl, rfl, ?_, ?_⟩
  · rw [State.counted, State.settle_rd_of, State.mk_rd, State.rd_inc_same]
  · exact ((s.changesOnly_inc .CAL_TRIG_TEMP_CNT 0 _ (by simp)).trans (State.changesOnly_cal _ _ _ (by simp))).frame

end Sys2Proof.Machine

namespace Sys2Proof.Machine

/-- Settles O60, clause by clause: the accesses of a port, the commands of a port, loop-back faults, messages that leave, and triggers. -/
theorem commandEffects : Obligations.CommandEffects := by
  unfold Obligations.CommandEffects
  refine ⟨?_, ?_, ?_, ?_, ?_, ?_, ?_⟩
  · exact fun s p r w _ hm hr hs => storedRegister_accesses s p r w hm hr hs
  · exact fun s hopen => ⟨exec_spiStatus_effect hopen, fun _ hop => exec_spiBadOpcode_effect hopen hop,
      fun hmbx hstr => exec_spiTransactionEnd_effect hopen hmbx hstr, fun _ hp hm => exec_devKeyWrite_effect hopen hp hm⟩
  · intro s p hp
    refine ⟨fun hs hstr hr => ?_, fun hs hm h0 hok => ?_, fun c hc hs => ?_, fun hs hosc hsys hl1 h0 h1 h11 => ?_⟩
    · have req {v : Nat} {w : Word} (hw : w.toNat % 16 = v) (hv : v ∈ [3, 6, 10, 15]) := done_modeReq_effect hw hv hs hstr hr
      exact ⟨req rfl (by decide), req rfl (by decide), req rfl (by decide), req rfl (by decide)⟩
    · have cmd {b : Nat} (hb : b ∈ [1, 2, 4]) := done_masterCmd_effect hb hs hm h0 hok
      exact ⟨cmd (b := 1) (by decide), cmd (b := 2) (by decide), cmd (b := 4) (by decide)⟩
    · exact ⟨onUnit_chCmd_effect 1#32 hp hc hs, onUnit_chCmd_effect 2#32 hp hc hs⟩
    · have soft {b : Nat} (hb : b < 8) := done_softReset_effect hb hs hosc hsys hl1 h0 h1 h11
      exact ⟨soft (b := 0) (by decide), soft (b := 1) (by decide), soft (b := 2) (by decide), soft (b := 3) (by decide),
        soft (b := 4) (by decide), soft (b := 5) (by decide), soft (b := 6) (by decide), soft (b := 7) (by decide)⟩
  · intro s n hn ha
    have ksts : Rg.OUT_STS.key n = 0x10000c + 0x10 * n := rfl
    have kmiss : Rg.OUT_LB_MISS_CNT.key n = 0x100800 + 8 * n := rfl
    have kextra : Rg.OUT_LB_EXTRA_CNT.key n = 0x100804 + 8 * n := rfl
    exact ⟨onPin_lbDeclare_effect .OUT_LB_MISS_CNT (by omega) hn ha, onPin_lbDeclare_effect .OUT_LB_EXTRA_CNT (by omega) hn ha⟩
  · intro s f hf ha hm hh hc
    refine ⟨fun hd => ?_, fun hd => ?_⟩
    · have he : exec (.delayReqDue f) s
          = onFlow f s fun s => if s.flowPeerDelay f || !s.mirTransmits then s else s.sendRequest f (.delayReq f) := rfl
      rw [he]
      exact onFlow_sendRequest_effect (.delayReq f) (by simp [hd, hm]) hf ha hm hh hc
    · have he : exec (.pdelayReqDue f) s
          = onFlow f s fun s => if s.flowPeerDelay f && s.mirTransmits then s.sendRequest f (.pdelayReq f) else s := rfl
      rw [he]
      exact onFlow_sendRequest_effect (.pdelayReq f) (by simp [hd, hm]) hf ha hm hh hc
  · intro s k hk hen hm hg hc hq
    refine ⟨?_, fun hql => ?_⟩
    · have he : exec (.esmcInfoPduDue k) s = onUnit k 8 s (s.sendEsmc k (.esmcInfo k)) := by
        show execEsmcInfoPduDue k s = _
        simp [execEsmcInfoPduDue, hen, hm]
      rw [he]
      exact onUnit_sendEsmc_effect _ hk hg hc hq
    · have he : exec (.esmcEventPduSend k) s = onUnit k 8 s (s.sendEsmc k (.esmcEvent k)) := by
        show execEsmcEventPduSend k s = _
        simp [execEsmcEventPduSend, hen, hm, hql]
      rw [he]
      exact onUnit_sendEsmc_effect _ hk hg hc hq
  · exact fun s hm ha hr hp => ⟨fun hperiod => exec_calPeriodExpired_effect hm ha hr hp hperiod,
      fun htick htemp => exec_calTemperatureCheck_effect hm ha hr hp htick htemp⟩

end Sys2Proof.Machine

namespace Sys2Proof.Machine

/-! ### Frames of the shared operations -/

theorem State.changesOnly_setB (s : State) (f : Fld) (b : Bool) (i : Nat) (parts : List Part) {words : List (Rg × Nat)}
    (h : (f.r, i) ∈ words) : s.changesOnly (s.setB f b i) parts words := s.changesOnly_set f (flag b) i parts h

theorem State.changesOnly_add (s : State) (r : Rg) (n i : Nat) (parts : List Part) {words : List (Rg × Nat)} (h : (r, i) ∈ words) :
    s.changesOnly (s.add r n i) parts words := s.changesOnly_wr r i _ parts h

theorem State.changesOnly_setChan (s : State) (c : Nat) (x : Chan) {parts : List Part} (words : List (Rg × Nat)) (h : Part.chans ∈ parts) :
    s.changesOnly (s.setChan c x) parts words :=
  State.changesOnly_part .chans words h rfl rfl fun p hp => by cases p <;> simp_all [Part.same]

theorem State.changesOnly_posts (s : State) (x : List (Nat × Nat)) {parts : List Part} (words : List (Rg × Nat)) (h : Part.posts ∈ parts) :
    s.changesOnly { s with posts := x } parts words :=
  State.changesOnly_part .posts words h rfl rfl fun p hp => by cases p <;> simp_all [Part.same]

theorem State.changesOnly_intake (s : State) (x : Intake) {parts : List Part} (words : List (Rg × Nat)) (h : Part.intake ∈ parts) :
    s.changesOnly { s with intake := x } parts words :=
  State.changesOnly_part .intake words h rfl rfl fun p hp => by cases p <;> simp_all [Part.same]

theorem State.changesOnly_mgmt (s : State) (x : Mgmt) {parts : List Part} (words : List (Rg × Nat)) (h : Part.mgmt ∈ parts) :
    s.changesOnly { s with mgmt := x } parts words :=
  State.changesOnly_part .mgmt words h rfl rfl fun p hp => by cases p <;> simp_all [Part.same]

/-- A frame may list more. -/
theorem State.changesOnly.mono {s t : State} {parts parts' : List Part} {words words' : List (Rg × Nat)} (h : s.changesOnly t parts words)
    (hp : parts ⊆ parts') (hw : words ⊆ words') : s.changesOnly t parts' words' :=
  have ⟨hq, hparts, hwords⟩ := h
  ⟨hq, fun p hn => hparts p fun hin => hn (hp hin), fun r i hk => hwords r i fun q hq => hk q (hw hq)⟩

/-- A word that a frame does not list reads as before. -/
theorem State.changesOnly.rd_eq {s t : State} {parts : List Part} {words : List (Rg × Nat)} (h : s.changesOnly t parts words) {r : Rg}
    {i : Nat} (hk : ∀ q ∈ words, q.1.key q.2 ≠ r.key i) : t.rd r i = s.rd r i :=
  have ⟨_, _, hw⟩ := h
  hw r i hk

theorem State.changesOnly.get_eq {s t : State} {parts : List Part} {words : List (Rg × Nat)} (h : s.changesOnly t parts words) (f : Fld)
    {i : Nat} (hk : ∀ q ∈ words, q.1.key q.2 ≠ f.r.key i) : t.get f i = s.get f i := congrArg f.of (h.rd_eq hk)

theorem State.changesOnly.on_eq {s t : State} {parts : List Part} {words : List (Rg × Nat)} (h : s.changesOnly t parts words) (f : Fld)
    {i : Nat} (hk : ∀ q ∈ words, q.1.key q.2 ≠ f.r.key i) : t.on f i = s.on f i := congrArg (· != 0) (h.get_eq f hk)

theorem State.changesOnly.part {s t : State} {parts : List Part} {words : List (Rg × Nat)} (h : s.changesOnly t parts words) (p : Part)
    (hn : p ∉ parts) : p.same s t :=
  have ⟨_, hp, _⟩ := h
  hp p hn

theorem State.changesOnly.chan_eq {s t : State} {parts : List Part} {words : List (Rg × Nat)} (h : s.changesOnly t parts words)
    (hn : Part.chans ∉ parts) (c : Nat) : t.chan c = s.chan c := by
  rw [State.chan, State.chan, h.part .chans hn]

/-- Words below the first of a register are none of its words. -/
theorem Rg.key_ne_below {words : List (Rg × Nat)} {r : Rg} {i : Nat} (h : ∀ q ∈ words, q.1.key q.2 < r.info.base) :
    ∀ q ∈ words, q.1.key q.2 ≠ r.key i :=
  fun q hq => Nat.ne_of_lt (Nat.lt_of_lt_of_le (h q hq) (Nat.le_add_right _ _))

/-- Words outside the window that a register's indices span are none of its words. -/
theorem Rg.key_ne_window {words : List (Rg × Nat)} {r : Rg} {i : Nat}
    (h : ∀ q ∈ words, q.1.key q.2 < r.info.base ∨ r.info.base + r.info.stride * r.info.count ≤ q.1.key q.2)
    (hs : 0 < r.info.stride) (hi : i < r.info.count) : ∀ q ∈ words, q.1.key q.2 ≠ r.key i := by
  intro q hq
  have hlt : r.info.stride * i < r.info.stride * r.info.count := Nat.mul_lt_mul_of_pos_left hi hs
  have hkey : r.key i = r.info.base + r.info.stride * i := rfl
  have hq' := h q hq
  omega

/-! ### The event log and the mode, framed -/

/-- R302: the words that an entry of the log may write. -/
def logWords : List (Rg × Nat) := [(.MGMT_LOG_OVW_CNT, 0), (.MGMT_LOG_LOST_CNT, 0)]

theorem State.log_changesOnly (s : State) (code block sev : Nat) (d0 d1 d2 : Word) :
    s.changesOnly (s.log code block sev d0 d1 d2) [.mgmt, .free] logWords :=
  ⟨(s.log_parts code block sev d0 d1 d2).1,
    fun p hp => p.same_log s code block sev d0 d1 d2 (by rintro rfl; simp at hp) (by rintro rfl; simp at hp),
    s.keepsWords_log code block sev d0 d1 d2 (by simp [logWords]) (by simp [logWords])⟩

theorem State.modeLog_changesOnly (s : State) (old m : Nat) : s.changesOnly (s.modeLog old m) [.mgmt, .free] logWords := by
  unfold State.modeLog
  split
  · exact s.changesOnly_refl _ _
  · exact s.log_changesOnly ..

/-- R25: the words that a change of mode may write. -/
def modeWords : List (Rg × Nat) := (.DEV_MODE, 0) :: logWords

theorem State.setMode_changesOnly (s : State) (m : Nat) : s.changesOnly (s.setMode m) [.mgmt, .free] modeWords := by
  unfold State.setMode
  split
  · exact s.changesOnly_refl _ _
  · exact (s.changesOnly_set DEV_MODE.MODE m 0 _ (by simp [modeWords])).trans
      ((State.modeLog_changesOnly _ _ _).mono (by simp) (by simp [modeWords]))

/-- An entry of the log leaves the mode. -/
theorem State.log_mode (s : State) (code block sev : Nat) (d0 d1 d2 : Word) : (s.log code block sev d0 d1 d2).mode = s.mode :=
  (s.log_changesOnly code block sev d0 d1 d2).get_eq DEV_MODE.MODE (by decide)

theorem State.modeLog_mode (s : State) (old m : Nat) : (s.modeLog old m).mode = s.mode :=
  (s.modeLog_changesOnly old m).get_eq DEV_MODE.MODE (by decide)

/-- R25: the mode that a change of mode leads to. -/
theorem State.setMode_mode (s : State) {m : Nat} (h : m < 16) : (s.setMode m).mode = m := by
  unfold State.setMode
  split
  · assumption
  · rw [State.modeLog_mode]
    exact (s.get_set_same DEV_MODE.MODE m 0 (by decide)).trans (Nat.mod_eq_of_lt h)

end Sys2Proof.Machine

namespace Sys2Proof.Machine

/-! ### The lock of a channel (R63, R114, R23) -/

/-- R23: the mode of a running device follows from the request, the channels, and the program and the list of each channel. -/
theorem State.runMode_congr {s t : State} (hch : t.chans = s.chans) (hreq : t.dev.reqInForce = s.dev.reqInForce)
    (hmap : ∀ c < 512, t.rd .ENG_CHMAP c = s.rd .ENG_CHMAP c) (hparam : ∀ k < 512 * 512, t.rd .PARAM k = s.rd .PARAM k) :
    t.runMode = s.runMode := by
  have hchan : ∀ c, t.chan c = s.chan c := fun c => by rw [State.chan, State.chan, hch]
  have hsteered : ∀ c < 512, t.steered c = s.steered c := by
    intro c hc
    have hprog : t.prog c = s.prog c := congrArg ENG_CHMAP.PROG.of (hmap c hc)
    have hentry : ∀ k < 8, t.entry c k = s.entry c k := fun k hk => by
      rw [State.entry, State.entry, State.param, State.param, hparam _ (by omega)]
    have hentries : t.entries c = s.entries c := by
      unfold State.entries
      rw [List.map_congr_left fun k hk => by rw [hentry k (List.mem_range.mp hk)]]
    rw [State.steered, State.steered, hprog, hentries]
  have hcs : (List.range 512).filter t.steered = (List.range 512).filter s.steered :=
    List.filter_congr fun c hc => hsteered c (List.mem_range.mp hc)
  simp only [State.runMode, State.derivedMode, hreq, hcs, hchan]

theorem State.runMode_le (s : State) : s.runMode ≤ 6 := by
  simp only [State.runMode, State.derivedMode]
  split_ifs <;> decide

/-- The mode that is derived stands once it has been entered. -/
theorem State.setMode_runMode (s : State) (m : Nat) : (s.setMode m).runMode = s.runMode := by
  have hch := s.setMode_changesOnly m
  exact State.runMode_congr (hch.part .chans (by simp)) (congrArg Dev.reqInForce (hch.part .dev (by simp)))
    (fun c hc => hch.rd_eq (Rg.key_ne_window (by decide) (by decide) hc))
    (fun k hk => hch.rd_eq (Rg.key_ne_window (by decide) (by decide) hk))

/-- R23: a running device takes the mode that its channels give. -/
theorem State.deriveMode_mode (s : State) : s.deriveMode.mode = if s.isRun then s.deriveMode.runMode else s.mode := by
  unfold State.deriveMode
  split
  · rw [s.setMode_runMode, s.setMode_mode (by have := s.runMode_le; omega)]
  · rfl

theorem State.deriveMode_changesOnly (s : State) : s.changesOnly s.deriveMode [.mgmt, .free] modeWords := by
  unfold State.deriveMode
  split
  · exact s.setMode_changesOnly _
  · exact s.changesOnly_refl _ _

/-- A channel that has taken the state `x` and counted in `cnt`, and the mode that follows. -/
theorem onUnit_channel_effect {s : State} {c : Nat} {x : Chan} {cnt : Rg} (hc : c < 512)
    (hcnt : ∀ q ∈ modeWords, q.1.key q.2 ≠ cnt.key c) :
    ∃ t, onUnit c 512 s ((s.setChan c x).inc cnt c).deriveMode = .next t
      ∧ t.chan c = x ∧ s.counted t cnt c 1 ∧ t.mode = (if s.isRun then t.runMode else s.mode) ∧ s.onlyChan t c
      ∧ s.frame t [.chans, .mgmt, .free] [(cnt, c), (.DEV_MODE, 0), (.MGMT_LOG_OVW_CNT, 0), (.MGMT_LOG_LOST_CNT, 0)] := by
  generalize hu : (s.setChan c x).inc cnt c = u
  have hd := u.deriveMode_changesOnly
  have hchan : ∀ k, u.deriveMode.chan k = u.chan k := hd.chan_eq (by simp)
  have hmode : u.mode = s.mode := by
    rw [← hu]
    exact State.get_inc_ne _ cnt c DEV_MODE.MODE 0 (hcnt (.DEV_MODE, 0) (by simp [modeWords])).symm
  have hrun : u.isRun = s.isRun := by rw [State.isRun, State.isRun, hmode]
  refine ⟨_, onUnit_next c 512 s _ hc, ?_, ?_, ?_, ?_, ?_⟩
  · rw [State.settle_chan_of, hchan, ← hu, State.inc_chan_of, State.chan_setChan_same]
  · rw [State.counted, State.settle_rd_of, hd.rd_eq hcnt, ← hu, State.rd_inc_same, State.setChan_rd_of]
  · rw [← hrun, ← hmode]
    exact u.deriveMode_mode
  · intro k hk
    rw [State.settle_chan_of, hchan, ← hu, State.inc_chan_of, State.chan_setChan_ne _ _ (Ne.symm hk)]
  · rw [← hu] at hd ⊢
    exact (((s.changesOnly_setChan c x _ (by simp)).trans (State.changesOnly_inc _ cnt c _ (by simp))).trans
      (hd.mono (by simp) (by simp [modeWords, logWords]))).frame

/-- Settles O12: each transition of R63 is one change of the channel and one count, and the mode is derived after it. -/
theorem channelLockMoves : Obligations.ChannelLockMoves := by
  unfold Obligations.ChannelLockMoves
  refine ⟨fun s c hc hst hrun => ?_, fun s c hc hst hrun => ?_, fun s c k hc hk => ?_⟩
  · have he : s.declareLock c = (s.setChan c ((s.chan c).to .lock)).inc .CH_LOCK_CNT c := if_pos ⟨hst, hrun⟩
    have hx := onUnit_channel_effect (s := s) (x := (s.chan c).to .lock) hc
      (Rg.key_ne_window (r := .CH_LOCK_CNT) (words := modeWords) (by decide) (by decide) hc)
    rw [← he] at hx
    exact hx
  · have he : s.loseLock c = (s.setChan c ((s.chan c).to .acq)).inc .CH_UNLOCK_CNT c := if_pos ⟨hst, hrun⟩
    have hx := onUnit_channel_effect (s := s) (x := (s.chan c).to .acq) hc
      (Rg.key_ne_window (r := .CH_UNLOCK_CNT) (words := modeWords) (by decide) (by decide) hc)
    rw [← he] at hx
    exact hx
  · have he : exec (.waitToRestoreExpired ⟨c, k⟩) s = onUnit c 512 s (s.setChan c { s.chan c with
        wtrDone := k :: (s.chan c).wtrDone.filter (· != k) }) := by
      show onUnit c 512 s (if k < 8 then _ else _) = _
      rw [if_pos hk]
    rw [he]
    refine ⟨_, onUnit_next c 512 s _ hc, ?_, fun j hj => ?_, (s.changesOnly_setChan c _ _ (by simp)).frame⟩
    · rw [State.settle_chan_of, State.chan_setChan_same]
    · rw [State.settle_chan_of, State.chan_setChan_ne _ _ (Ne.symm hj)]

end Sys2Proof.Machine

namespace Sys2Proof.Machine

/-! ### The last entry of the log (R302) -/

theorem State.logTake_last (s : State) (code block sev : Nat) (d0 d1 d2 : Word) :
    let t := s.logTake code block sev d0 d1 d2
    Tab.get .none t.mgmt.log ((t.mgmt.logSeq + 2047) % 2048) = ⟨s.dev.tick, code, block, sev, s.mgmt.logSeq, d0, d1, d2⟩ := by
  obtain ⟨hget, hseq⟩ := s.logTake_wrote code block sev d0 d1 d2
  have hlast : ((s.mgmt.logSeq + 1) % 2 ^ 32 + 2047) % 2048 = s.mgmt.logSeq % 2048 := by omega
  dsimp only
  rw [hseq, hlast, hget]

/-- R302: outside TEST an entry is the last one of the log, or it is lost and counted. -/
theorem State.log_last {s : State} (code block sev : Nat) (d0 d1 d2 : Word) (hm : s.mode ≠ 11) :
    let t := s.log code block sev d0 d1 d2
    (∃ k q, Tab.get .none t.mgmt.log ((t.mgmt.logSeq + 2047) % 2048) = ⟨k, code, block, sev, q, d0, d1, d2⟩)
      ∨ t.rd .MGMT_LOG_LOST_CNT ≠ 0 := by
  obtain ⟨h11, -⟩ | ⟨-, -, he⟩ | ⟨-, -, he | he⟩ := s.log_cases code block sev d0 d1 d2
  · exact absurd h11 hm
  · simp only [he]
    exact .inl ⟨_, _, s.logTake_last ..⟩
  · simp only [he]
    refine .inr fun h0 => ?_
    have hinc := (s.drawNat 2).2.rd_inc_same .MGMT_LOG_LOST_CNT 0
    rw [h0] at hinc
    change 0 = _ at hinc
    omega
  · simp only [he]
    exact .inl ⟨_, _, State.logTake_last ..⟩

/-! ### What entry to BASIC ends (R26, R222, R250) -/

/-- The words of the pair that a yield and the entry to BASIC may write. -/
def pairWords : List (Rg × Nat) := [(.PAIR_CMD, 0), (.PAIR_STS, 0), (.PAIR_EPOCH_STS, 0)]

theorem State.endPairCmd_changesOnly (s : State) (parts : List Part) {words : List (Rg × Nat)} (h : (Rg.PAIR_CMD, 0) ∈ words) :
    s.changesOnly s.endPairCmd parts words :=
  (s.changesOnly_set PAIR_CMD.HANDOVER 0 0 parts h).trans (State.changesOnly_set _ PAIR_CMD.RESYNC 0 0 parts h)

theorem State.yieldNow_changesOnly (s : State) (cause : Nat) :
    s.changesOnly (s.yieldNow cause) [.pair, .mgmt, .free] (pairWords ++ logWords) := by
  unfold State.yieldNow
  split
  · exact (((((s.changesOnly_pair _ _ (by simp)).trans (State.endPairCmd_changesOnly _ _ (by simp [pairWords]))).trans
      (State.changesOnly_pair _ _ _ (by simp))).trans
      ((State.changesOnly_set _ PAIR_STS.IN_STEP 0 0 _ (by simp [pairWords])).trans
        (State.changesOnly_set _ PAIR_EPOCH_STS.PHASE 0 0 _ (by simp [pairWords])))).trans
      (State.changesOnly_set _ PAIR_STS.ROLE _ 0 _ (by simp [pairWords]))).trans
      ((State.log_changesOnly ..).mono (by simp) (by simp))
  · exact s.changesOnly_refl _ _

/-- R237: the table that an item measures follows from the slices of the outputs. -/
theorem State.changesOnly.itemTable_eq {s t : State} {parts : List Part} (h : s.changesOnly t parts [(.CAL_STS, 0), (.CAL_ABORT_RESET_CNT, 0)])
    (k : Nat) : t.itemTable k = s.itemTable k := by
  have hslice : t.get OUT_STS.SLICE (k - 37) = s.get OUT_STS.SLICE (k - 37) :=
    h.get_eq OUT_STS.SLICE (Rg.key_ne_below (by decide))
  rw [State.itemTable, State.itemTable, hslice]

/-- The words of calibration that the end of the item in progress writes: the record of its table and its input. -/
def State.itemWords (s : State) : List (Rg × Nat) :=
  let k := s.get CAL_STS.ITEM
  if k = 0xFF then []
  else (.CAL_ABORT_RESET_CNT, 0)
    :: ((if 1 ≤ k then [(.CALREC, s.itemTable k * 4 + 3)] else []) ++ (if 1 ≤ k ∧ k ≤ 36 then [(.REF_STS, k - 1)] else []))

/-- A key of a word that the end of an item may write: in the windows of calibration and of the inputs. -/
abbrev itemKey (k : Nat) : Prop := k = 0x40064 ∨ (0x110000 ≤ k ∧ k < 0x112000) ∨ 0x900a000 ≤ k

theorem State.itemWords_key (s : State) : ∀ q ∈ s.itemWords, itemKey (q.1.key q.2) := by
  have krec (i : Nat) : Rg.CALREC.key i = 0x900a000 + 1 * i := rfl
  have ksts (i : Nat) : Rg.REF_STS.key i = 0x110010 + 0x20 * i := rfl
  intro q hq
  unfold State.itemWords at hq
  dsimp only at hq
  split at hq
  · cases hq
  · rw [List.mem_cons, List.mem_append] at hq
    obtain rfl | hq | hq := hq
    · exact .inl rfl
    · split at hq
      · rw [List.mem_singleton] at hq
        subst hq
        have := krec (s.itemTable (s.get CAL_STS.ITEM) * 4 + 3)
        exact .inr (.inr (by dsimp only; omega))
      · cases hq
    · split at hq
      · rw [List.mem_singleton] at hq
        subst hq
        have := ksts (s.get CAL_STS.ITEM - 1)
        exact .inr (.inl (by dsimp only; omega))
      · cases hq

/-- R250: what the end of an item may write. -/
theorem State.calAbort_changesOnly (s : State) : s.changesOnly (s.calAbort .CAL_ABORT_RESET_CNT) [.cal] ((.CAL_STS, 0) :: s.itemWords) := by
  unfold State.calAbort
  dsimp only
  split
  · exact s.changesOnly_cal _ _ (by simp)
  · rename_i hk
    rw [State.mk_get] at hk
    have hopen {words : List (Rg × Nat)} (x : Cal) (h1 : (Rg.CAL_STS, 0) ∈ words) (h2 : (Rg.CAL_ABORT_RESET_CNT, 0) ∈ words) :
        s.changesOnly ((State.inc { s with cal := x } .CAL_ABORT_RESET_CNT).set CAL_STS.ITEM 0xFF) [.cal] words :=
      ((s.changesOnly_cal x _ (by simp)).trans (State.changesOnly_inc _ .CAL_ABORT_RESET_CNT 0 _ h2)).trans
        (State.changesOnly_set _ CAL_STS.ITEM 0xFF 0 _ h1)
    have hbase := hopen (words := (.CAL_STS, 0) :: s.itemWords) { s.cal with measured := none, hopDiscard := false, outcome := 0 }
      (by simp) (by simp [State.itemWords, hk])
    have htable := (hopen (words := [(.CAL_STS, 0), (.CAL_ABORT_RESET_CNT, 0)])
      { s.cal with measured := none, hopDiscard := false, outcome := 0 } (by simp) (by simp)).itemTable_eq (s.get CAL_STS.ITEM)
    refine hbase.trans ?_
    by_cases h1 : 1 ≤ s.get CAL_STS.ITEM
    · by_cases h36 : s.get CAL_STS.ITEM ≤ 36
      · simp only [State.cond, h1, h36, decide_true, Bool.and_self, if_true, htable]
        exact (State.changesOnly_wr _ .CALREC _ _ _ (by simp [State.itemWords, hk, h1, h36])).trans
          (State.changesOnly_setB _ REF_STS.STALE _ _ _ (by simp [State.itemWords, hk, h1, h36]))
      · simp only [State.cond, h1, h36, decide_true, decide_false, Bool.and_false, Bool.false_eq_true, if_true, if_false, htable]
        exact State.changesOnly_wr _ .CALREC _ _ _ (by simp [State.itemWords, hk, h1])
    · simp only [State.cond, h1, decide_false, Bool.false_and, Bool.false_eq_true, if_false]
      exact State.changesOnly_refl _ _ _

theorem State.calEndRotation_changesOnly (s : State) : s.changesOnly s.calEndRotation [.cal] ((.CAL_STS, 0) :: s.itemWords) :=
  (((s.calAbort_changesOnly.trans (State.changesOnly_set _ CAL_STS.ROTATING 0 0 _ (by simp))).trans
    (State.changesOnly_set _ CAL_STS.PAUSED 0 0 _ (by simp))).trans (State.changesOnly_set _ CAL_STS.PENDING 0 0 _ (by simp))).trans
    (State.changesOnly_cal _ _ _ (by simp))

theorem State.holdMaster_changesOnly (s : State) : s.changesOnly s.holdMaster [.msyn] [(.MSYN_STS, 0)] :=
  ((((s.changesOnly_set MSYN_STS.HELD 1 0 _ (by simp)).trans (State.changesOnly_set _ MSYN_STS.STATE 7 0 _ (by simp))).trans
    (State.changesOnly_set _ MSYN_STS.ACQ 0 0 _ (by simp))).trans (State.changesOnly_set _ MSYN_STS.ATTEMPT 0 0 _ (by simp))).trans
    (State.changesOnly_msyn _ _ _ (by simp))

theorem State.holdMaster_held (s : State) : s.holdMaster.on MSYN_STS.HELD = true := by
  have hapart (f : Fld) (v : Nat) (u : State) (hr : f.r = .MSYN_STS) (hok : f.ok = true) (ha : f.apart MSYN_STS.HELD = true) :
      (u.set f v).get MSYN_STS.HELD = u.get MSYN_STS.HELD := u.get_set_apart f MSYN_STS.HELD v 0 hok (by decide) hr ha
  have hget : s.holdMaster.get MSYN_STS.HELD = 1 := by
    unfold State.holdMaster
    rw [State.mk_get, hapart _ _ _ rfl (by decide) (by decide), hapart _ _ _ rfl (by decide) (by decide),
      hapart _ _ _ rfl (by decide) (by decide), s.get_set_same _ _ _ (by decide)]
    rfl
  rw [State.on, hget]
  rfl

theorem State.leavePair_changesOnly (s : State) : s.changesOnly s.leavePair [.pair] pairWords := by
  unfold State.leavePair
  exact ((((s.changesOnly_pair _ _ (by simp)).trans (State.endPairCmd_changesOnly _ _ (by simp [pairWords]))).trans
    (State.changesOnly_set _ PAIR_STS.IN_STEP 0 0 _ (by simp [pairWords]))).trans
    (State.changesOnly_set _ PAIR_EPOCH_STS.PHASE 0 0 _ (by simp [pairWords]))).trans
    (State.changesOnly_cond (State.changesOnly_set _ PAIR_STS.ROLE 0 0 _ (by simp [pairWords])))

end Sys2Proof.Machine

namespace Sys2Proof.Machine

/-! ### Entry to BASIC (R26) -/

/-- R26: what a unit in BASIC for `cause` shows, the pins apart. -/
def State.showsBasic (t : State) (cause : Nat) : Prop :=
  t.mode = 9 ∧ t.get RST_BASIC.CAUSE = cause ∧ t.dev.freezePend = true ∧ t.posts = []
    ∧ (let e := Tab.get .none t.mgmt.log ((t.mgmt.logSeq + 2047) % 2048)
       (e.code = 3 ∧ e.block = 14 ∧ e.sev = 2 ∧ e.d0 = BitVec.ofNat 32 cause) ∨ t.rd .MGMT_LOG_LOST_CNT ≠ 0)

/-- The parts that every entry to BASIC may change. -/
def basicParts : List Part := [.posts, .pair, .cal, .mgmt, .dev, .free]

/-- A cause for which the tuning word is held (R26, R47). -/
def holdsMaster (cause : Nat) : Bool := cause == 2 || cause == 3 || cause == 8 || cause == 9

/-- R26: what the entry ends: the role is given up, the rotation over, the master held where the cause asks for it, and after a lockstep
mismatch an update is dropped. -/
def State.basicEnds (s : State) (cause : Nat) : State :=
  let s := ((s.yieldNow 1).calEndRotation).cond (holdsMaster cause) State.holdMaster
  s.cond (cause == 5 && (s.get MGMT_UPD_STS.STATE == 1 || s.get MGMT_UPD_STS.STATE == 5)) (·.set MGMT_UPD_STS.STATE 0)

/-- R26: entry to BASIC from a mode that has it: after what it ends, the unit leaves the pair and changes its mode, and logs the entry. -/
theorem State.enterBasic_eq {s : State} {cause : Nat} (h0 : s.mode ≠ 0) (h9 : s.mode ≠ 9) (h11 : s.mode ≠ 11) :
    ∃ (d : Dev) (v : State), d.freezePend = true ∧ v.mode = 9
      ∧ State.changesOnly { (s.set RST_BASIC.CAUSE cause).basicEnds cause with dev := d, posts := [] } v [.pair, .mgmt, .free]
          (pairWords ++ modeWords)
      ∧ s.enterBasic cause = v.log 3 14 2 (BitVec.ofNat 32 cause) 0 0 := by
  have heq : ∃ d : Dev, d.freezePend = true
      ∧ s.enterBasic cause = (State.setMode (State.leavePair { (s.set RST_BASIC.CAUSE cause).basicEnds cause with dev := d, posts := [] })
          9).log 3 14 2 (BitVec.ofNat 32 cause) 0 0 := by
    unfold State.enterBasic
    rw [if_neg (not_or.mpr ⟨h0, not_or.mpr ⟨h9, h11⟩⟩)]
    exact ⟨_, rfl, rfl⟩
  obtain ⟨d, hd, heq⟩ := heq
  exact ⟨d, _, hd, State.setMode_mode _ (by decide),
    ((State.leavePair_changesOnly _).mono (by simp) (by simp)).trans ((State.setMode_changesOnly _ 9).mono (by simp) (by simp)), heq⟩

/-- The words that what the entry ends may write, those of an item in progress apart. -/
def endedWords : List (Rg × Nat) := pairWords ++ logWords ++ [(.CAL_STS, 0), (.MGMT_UPD_STS, 0), (.MSYN_STS, 0)]

/-- R26, R222, R250: what ends before the mode changes; `ws` are the words of the item in progress. -/
theorem State.basicEnds_changesOnly (s : State) (cause : Nat) {parts : List Part} (hm : holdsMaster cause = true → Part.msyn ∈ parts) :
    ∃ ws, (s.get CAL_STS.ITEM = 0xFF → ws = []) ∧ (∀ q ∈ ws, itemKey (q.1.key q.2))
      ∧ s.changesOnly (s.basicEnds cause) (parts ++ basicParts) (endedWords ++ ws) := by
  have hyield := s.yieldNow_changesOnly 1
  refine ⟨(s.yieldNow 1).itemWords, fun h => ?_, (s.yieldNow 1).itemWords_key, ?_⟩
  · have hitem : (s.yieldNow 1).get CAL_STS.ITEM = 0xFF := (hyield.get_eq CAL_STS.ITEM (by decide)).trans h
    simp [State.itemWords, hitem]
  · unfold State.basicEnds
    refine ((hyield.mono (by simp [basicParts]) (by simp [endedWords])).trans
      ((State.calEndRotation_changesOnly _).mono (by simp [basicParts]) (List.cons_subset.mpr ⟨by simp [endedWords], by simp⟩))).trans
      (State.changesOnly.trans (t := State.cond _ _ _) ?_
        (State.changesOnly_cond (State.changesOnly_set _ MGMT_UPD_STS.STATE 0 0 _ (by simp [endedWords]))))
    cases hh : holdsMaster cause with
    | false => exact State.changesOnly_refl _ _ _
    | true => exact State.changesOnly_cond ((State.holdMaster_changesOnly _).mono (by simp [hm hh]) (by simp [endedWords]))

/-- A word outside calibration and the inputs is none of those of an item. -/
theorem itemWords_key_ne {words ws : List (Rg × Nat)} {r : Rg} {i : Nat} (hb : ∀ q ∈ words, q.1.key q.2 ≠ r.key i)
    (hw : ∀ q ∈ ws, itemKey (q.1.key q.2)) (hr : ¬ itemKey (r.key i)) : ∀ q ∈ words ++ ws, q.1.key q.2 ≠ r.key i := by
  intro q hq
  obtain hq | hq := List.mem_append.mp hq
  · exact hb q hq
  · exact fun he => hr (he ▸ hw q hq)

/-- R26: the entry, and what it may change. -/
theorem State.enterBasic_effect {s : State} {cause : Nat} {parts : List Part} (hm : holdsMaster cause = true → Part.msyn ∈ parts)
    (hcause : cause < 16) (h0 : s.mode ≠ 0) (h9 : s.mode ≠ 9) (h11 : s.mode ≠ 11) :
    (s.enterBasic cause).showsBasic cause
      ∧ ∃ ws, (s.get CAL_STS.ITEM = 0xFF → ws = []) ∧ (∀ q ∈ ws, itemKey (q.1.key q.2))
        ∧ s.changesOnly (s.enterBasic cause) (parts ++ basicParts) (basicWords ++ ws) := by
  obtain ⟨d, v, hfreeze, hmode, hv, heq⟩ := State.enterBasic_eq (cause := cause) h0 h9 h11
  obtain ⟨ws, hnone, hkeys, hends⟩ := (s.set RST_BASIC.CAUSE cause).basicEnds_changesOnly cause hm
  rw [heq]
  have hlog := v.log_changesOnly 3 14 2 (BitVec.ofNat 32 cause) 0 0
  have hcause' : v.get RST_BASIC.CAUSE = cause :=
    (hv.get_eq RST_BASIC.CAUSE (by decide)).trans
      ((hends.get_eq RST_BASIC.CAUSE (itemWords_key_ne (by decide) hkeys (by decide))).trans
        ((s.get_set_same RST_BASIC.CAUSE cause 0 (by decide)).trans (Nat.mod_eq_of_lt hcause)))
  refine ⟨⟨?_, ?_, ?_, ?_, ?_⟩, ws, fun hi => ?_, hkeys, ?_⟩
  · rw [State.log_mode, hmode]
  · rw [hlog.get_eq RST_BASIC.CAUSE (by decide), hcause']
  · rw [hlog.part .dev (by simp), hv.part .dev (by simp)]
    exact hfreeze
  · rw [hlog.part .posts (by simp), hv.part .posts (by simp)]
  · obtain ⟨k, q, he⟩ | hlost := State.log_last (s := v) 3 14 2 (BitVec.ofNat 32 cause) 0 0 (by rw [hmode]; decide)
    · exact .inl (by rw [he]; simp)
    · exact .inr hlost
  · exact hnone ((s.get_set_ne RST_BASIC.CAUSE CAL_STS.ITEM cause 0 0 (by decide)).trans hi)
  · have hpre := (((s.changesOnly_set RST_BASIC.CAUSE cause 0 (parts ++ basicParts) (words := basicWords ++ ws) (by simp [basicWords])).trans
        (hends.mono (List.Subset.refl _) (List.append_subset.mpr ⟨by simp [endedWords, basicWords, pairWords, logWords], by simp⟩))).trans
        (State.changesOnly_dev _ d _ (by simp [basicParts]))).trans (State.changesOnly_posts _ [] _ (by simp [basicParts]))
    exact (hpre.trans (hv.mono (by simp [basicParts]) (by simp [basicWords, pairWords, modeWords, logWords]))).trans
      (hlog.mono (by simp [basicParts]) (by simp [basicWords, logWords]))

/-- R26: the lifeline shows BASIC. -/
theorem State.pinsOf_basic {s : State} (h : s.mode = 9) : s.pinsOf.lifeline = true := by
  have hd : s.pinDrive = .device := by simp [State.pinDrive, h]
  simp [State.pinsOf, hd, State.ownPins, h]

/-- R26: a unit that shows BASIC once a command has changed the listed parts and words has entered it. -/
theorem State.fellToBasic_of_showsBasic {s t : State} {cause : Nat} {parts : List Part} {words ws : List (Rg × Nat)}
    (ht : t.showsBasic cause) (hnone : s.get CAL_STS.ITEM = 0xFF → ws = [])
    (hch : s.changesOnly t (parts ++ basicParts) (words ++ (basicWords ++ ws))) : s.fellToBasic t.settle cause parts words := by
  obtain ⟨hmode, hcause, hfreeze, hposts, hlog⟩ := ht
  obtain ⟨hkeeps, hwords⟩ := hch.frame
  refine ⟨?_, ?_, hfreeze, ?_, hposts, hlog, hkeeps, fun hi => ?_⟩
  · rw [State.settle_mode, hmode]
  · rw [State.settle_get_of, hcause]
  · rw [State.settle_pins, State.pinsOf_basic hmode]
  · rw [hnone hi, List.append_nil] at hwords
    exact hwords

/-- R26: a command that changes the listed parts and words and then enters BASIC. -/
theorem State.fellToBasic_enterBasic {s u : State} {cause : Nat} {parts : List Part} {words : List (Rg × Nat)}
    (hm : holdsMaster cause = true → Part.msyn ∈ parts) (hcause : cause < 16) (hu : s.changesOnly u (parts ++ basicParts) (words ++ basicWords))
    (hi : u.get CAL_STS.ITEM = s.get CAL_STS.ITEM) (h0 : u.mode ≠ 0) (h9 : u.mode ≠ 9) (h11 : u.mode ≠ 11) :
    s.fellToBasic (u.enterBasic cause).settle cause parts words := by
  obtain ⟨hshow, ws, hnone, -, hch⟩ := State.enterBasic_effect hm hcause h0 h9 h11
  exact State.fellToBasic_of_showsBasic hshow (fun h => hnone (hi.trans h))
    ((hu.mono (List.Subset.refl _) (by rw [← List.append_assoc]; simp)).trans (hch.mono (List.Subset.refl _) (by simp)))

/-! ### The events that lead to BASIC (R48, R116, R296) -/

theorem State.holdMaster_msyn (s : State) : s.holdMaster.msyn = { s.msyn with heldBasic := true } := by
  simp only [State.holdMaster, State.set_msyn]

/-- R26, R47: after the entry for a loss of master lock the tuning word is held. -/
theorem State.enterBasic_master {s : State} (h0 : s.mode ≠ 0) (h9 : s.mode ≠ 9) (h11 : s.mode ≠ 11) :
    (s.enterBasic 3).on MSYN_STS.HELD = true ∧ (s.enterBasic 3).msyn = { s.msyn with heldBasic := true } := by
  obtain ⟨d, v, -, -, hv, heq⟩ := State.enterBasic_eq (cause := 3) h0 h9 h11
  have hends : ∃ r : State, r.msyn = s.msyn ∧ (s.set RST_BASIC.CAUSE 3).basicEnds 3 = r.holdMaster := by
    refine ⟨((s.set RST_BASIC.CAUSE 3).yieldNow 1).calEndRotation, ?_, by simp [State.basicEnds, holdsMaster, State.cond]⟩
    rw [(State.calEndRotation_changesOnly _).part .msyn (by simp), (State.yieldNow_changesOnly _ 1).part .msyn (by simp), State.set_msyn]
  obtain ⟨r, hr, hends⟩ := hends
  rw [hends] at hv
  have hlog := v.log_changesOnly 3 14 2 (BitVec.ofNat 32 3) 0 0
  rw [heq]
  constructor
  · rw [hlog.on_eq MSYN_STS.HELD (by decide), hv.on_eq MSYN_STS.HELD (by decide)]
    rw [State.mk_on]
    exact r.holdMaster_held
  · rw [hlog.part .msyn (by simp), hv.part .msyn (by simp), r.holdMaster_msyn, hr]

theorem exec_masterUnlockTimeout_effect {s : State} (hu : s.msyn.unlocked = true) (hl : s.on MSYN_STS.LOCK = false) (h0 : s.mode ≠ 0)
    (h9 : s.mode ≠ 9) (h11 : s.mode ≠ 11) :
    ∃ t, exec .masterUnlockTimeout s = .next t
      ∧ s.fellToBasic t 3 [.msyn] [] ∧ t.on MSYN_STS.HELD = true ∧ t.msyn = { s.msyn with unlocked := false, heldBasic := true } := by
  have he : exec .masterUnlockTimeout s = done { s.enterBasic 3 with msyn := { (s.enterBasic 3).msyn with unlocked := false } } :=
    congrArg done (if_pos ⟨hu, by rw [hl]; decide⟩)
  obtain ⟨hshow, ws, hnone, -, hch⟩ := State.enterBasic_effect (cause := 3) (parts := [.msyn]) (by simp) (by decide) h0 h9 h11
  obtain ⟨hheld, hmsyn⟩ := State.enterBasic_master h0 h9 h11
  refine ⟨_, he, State.fellToBasic_of_showsBasic hshow hnone (hch.trans (State.changesOnly_msyn _ _ _ (by simp))), hheld, ?_⟩
  rw [State.settle_msyn, hmsyn]

theorem exec_lockstepMismatch_effect {s : State} (hr : s.mgmtRuns = true) (h9 : s.mode ≠ 9) :
    ∃ t, exec .lockstepMismatch s = .next t ∧ s.fellToBasic t 5 [] [] := by
  have he : exec .lockstepMismatch s
      = done (State.enterBasic { s with pair := { s.pair with evidence := s.pair.evidence.lor 2 } } 5) := congrArg done (if_pos hr)
  simp only [State.mgmtRuns, Bool.and_eq_true, bne_iff_ne] at hr
  exact ⟨_, he, State.fellToBasic_enterBasic (by decide) (by decide) (s.changesOnly_pair _ _ (by simp [basicParts])) rfl hr.1.1 h9 hr.1.2⟩

/-- R116: the scrub runs and counts the words that it has corrected. -/
theorem exec_pstoreScrub {s : State} (n : Nat) (bad : Bool) (hen : s.on ENG_CTL.SCRUB_EN = true) (h0 : s.mode ≠ 0) (h11 : s.mode ≠ 11) :
    exec (.pstoreScrub n bad) s = done (if bad then (((s.add .ENG_PSTORE_CORR_CNT n).evidence 1).set ENG_POOL.PSTORE_OK 0).enterBasic 4
      else s.add .ENG_PSTORE_CORR_CNT n) := congrArg done (if_pos ⟨hen, h0, h11⟩)

theorem exec_pstoreScrub_uncorrectable {s : State} (n : Nat) (hen : s.on ENG_CTL.SCRUB_EN = true) (h0 : s.mode ≠ 0) (h9 : s.mode ≠ 9)
    (h11 : s.mode ≠ 11) :
    ∃ t, exec (.pstoreScrub n true) s = .next t
      ∧ t.on ENG_POOL.PSTORE_OK = false ∧ s.counted t .ENG_PSTORE_CORR_CNT 0 n
      ∧ s.fellToBasic t 4 [] [(.ENG_PSTORE_CORR_CNT, 0), (.ENG_POOL, 0)] := by
  rw [exec_pstoreScrub n true hen h0 h11, if_pos rfl]
  generalize hu : ((s.add .ENG_PSTORE_CORR_CNT n).evidence 1).set ENG_POOL.PSTORE_OK 0 = u
  have hch : s.changesOnly u ([] ++ basicParts) [(.ENG_PSTORE_CORR_CNT, 0), (.ENG_POOL, 0)] := by
    rw [← hu]
    exact ((s.changesOnly_add .ENG_PSTORE_CORR_CNT n 0 _ (by simp)).trans (State.changesOnly_pair _ _ _ (by simp [basicParts]))).trans
      (State.changesOnly_set _ ENG_POOL.PSTORE_OK 0 0 _ (by simp))
  have hmode : u.mode = s.mode := hch.get_eq DEV_MODE.MODE (by decide)
  rw [← hmode] at h0 h9 h11
  obtain ⟨-, ws, -, hkeys, hbasic⟩ := State.enterBasic_effect (cause := 4) (parts := []) (by decide) (by decide) h0 h9 h11
  refine ⟨_, rfl, ?_, ?_, State.fellToBasic_enterBasic (by decide) (by decide) (hch.mono (by simp) (by simp)) (hch.get_eq CAL_STS.ITEM (by decide)) h0 h9 h11⟩
  · rw [State.settle_on_of, hbasic.on_eq ENG_POOL.PSTORE_OK (itemWords_key_ne (by decide) hkeys (by decide)), ← hu, State.on,
      State.get_set_same _ _ _ _ (by decide)]
    rfl
  · rw [State.counted, State.settle_rd_of, hbasic.rd_eq (itemWords_key_ne (by decide) hkeys (by decide)), ← hu,
      State.rd_set_ne _ _ _ _ (by decide)]
    exact s.rd_add_same .ENG_PSTORE_CORR_CNT n 0

/-- Settles O7: each event ends in `enterBasic`, whose effect is said once; a scrub without an uncorrectable word only counts. -/
theorem basicEntries : Obligations.BasicEntries := by
  unfold Obligations.BasicEntries
  refine ⟨fun s => exec_masterUnlockTimeout_effect, fun s => exec_lockstepMismatch_effect, fun s n => exec_pstoreScrub_uncorrectable n,
    fun s n hen h0 h11 => ?_⟩
  rw [exec_pstoreScrub n false hen h0 h11, if_neg (by decide)]
  exact ⟨_, rfl, s.rd_add_same .ENG_PSTORE_CORR_CNT n 0, (s.changesOnly_add .ENG_PSTORE_CORR_CNT n 0 _ (by simp)).frame⟩

end Sys2Proof.Machine

namespace Sys2Proof.Machine

/-! ### Single bits -/

theorem bitOf_eq_testBit (n k : Nat) : bitOf n k = n.testBit k := by
  rw [Nat.testBit_eq_decide_div_mod_eq]
  rfl

theorem bitOf_withBit_true (n k : Nat) : bitOf (withBit n k true) k = true := by
  unfold withBit
  split
  · simp_all
  · rename_i hbit
    have hpos : 0 < 2 ^ k := by positivity
    simp only [bitOf, beq_true, beq_iff_eq] at hbit
    simp only [bitOf, if_true, beq_iff_eq, Nat.add_div_right _ hpos]
    omega

theorem bitOf_mod_two_pow {n w k : Nat} (h : k < w) : bitOf (n % 2 ^ w) k = bitOf n k := by
  simp [bitOf_eq_testBit, Nat.testBit_mod_two_pow, h]

theorem withBit_false_le (n k : Nat) : withBit n k false ≤ n := by
  unfold withBit
  split
  · exact Nat.le_refl n
  · exact Nat.sub_le n _

/-! ### A retirement (R129, R130) -/

/-- The words that mark an engine as retired. -/
def markWords (e : Nat) : List (Rg × Nat) := [(.ENG_RETIRED, e / 32), (.ENG_RETIRED16, 0), (.ENG_SPARE_FREE, 0)]

theorem markWords_key {e : Nat} (he : e < 528) : ∀ q ∈ markWords e, 0x120840 ≤ q.1.key q.2 ∧ q.1.key q.2 ≤ 0x120884 := by
  have hkey : Rg.ENG_RETIRED.key (e / 32) = 0x120840 + 4 * (e / 32) := rfl
  simp only [markWords, List.forall_mem_cons, hkey]
  exact ⟨by omega, by decide, by decide, by simp⟩

/-- A word outside those of the marks is none of them. -/
theorem markWords_key_ne {e : Nat} (he : e < 528) {k : Nat} (hk : k < 0x120840 ∨ 0x120884 < k) : ∀ q ∈ markWords e, q.1.key q.2 ≠ k :=
  fun q hq h => by
    have := markWords_key he q hq
    omega

theorem State.markRetired_changesOnly (s : State) (e : Nat) : s.changesOnly (s.markRetired e) [] (markWords e) := by
  unfold State.markRetired
  split
  · exact s.changesOnly_wr _ _ _ _ (by simp [markWords])
  · exact (s.changesOnly_setBit _ _ _ _ _ (by simp [markWords])).trans (State.changesOnly_setBit _ _ _ _ _ _ (by simp [markWords]))

theorem State.markRetired_engRetired (s : State) {e : Nat} (he : e < 528) : (s.markRetired e).engRetired e = true := by
  unfold State.engRetired State.markRetired
  split
  · rw [State.rd_wr_same, BitVec.toNat_ofNat, bitOf_mod_two_pow (Nat.mod_lt _ (by decide)), bitOf_withBit_true]
  · have hw : ENG_RETIRED16.BITS.hi - ENG_RETIRED16.BITS.lo + 1 = 16 := rfl
    have hget : ((s.setBit ENG_RETIRED16.BITS (e - 512) true).setBit ENG_SPARE_FREE.BITS (e - 512) false).get ENG_RETIRED16.BITS
        = withBit (s.get ENG_RETIRED16.BITS) (e - 512) true % 2 ^ 16 :=
      (State.get_set_ne _ _ _ _ _ _ (by decide)).trans (s.get_set_same _ _ _ (by decide))
    rw [hget, bitOf_mod_two_pow (by omega), bitOf_withBit_true]

/-- R130: the spares that are free once engine `e` is marked. -/
theorem State.markRetired_spares (s : State) (e : Nat) :
    lowestBit ((s.markRetired e).get ENG_SPARE_FREE.BITS) 16 0 = s.spareFor e := by
  unfold State.markRetired State.spareFor
  split
  · have hne : Rg.ENG_RETIRED.key (e / 32) ≠ ENG_SPARE_FREE.BITS.r.key 0 := by
      have hkey : Rg.ENG_RETIRED.key (e / 32) = 0x120840 + 4 * (e / 32) := rfl
      have hfree : ENG_SPARE_FREE.BITS.r.key 0 = 0x120884 := rfl
      omega
    rw [State.get, s.rd_wr_ne _ hne, State.get]
  · have hlt : s.get ENG_SPARE_FREE.BITS < 2 ^ 16 := ENG_SPARE_FREE.BITS.of_lt _
    have hget : ((s.setBit ENG_RETIRED16.BITS (e - 512) true).setBit ENG_SPARE_FREE.BITS (e - 512) false).get ENG_SPARE_FREE.BITS
        = withBit (s.get ENG_SPARE_FREE.BITS) (e - 512) false % 2 ^ 16 := by
      rw [State.setBit, State.get_set_same _ _ _ _ (by decide), State.setBit, s.get_set_ne _ _ _ _ _ (by decide)]
      rfl
    rw [hget, Nat.mod_eq_of_lt (Nat.lt_of_le_of_lt (withBit_false_le _ _) hlt)]

/-- The counter of a cause stands between those of all retirements and of the scrub. -/
theorem retireCounter_key {cause : Nat} {r : Rg} (h : retireCounter cause = some r) : 0x1208c4 ≤ r.key 0 ∧ r.key 0 ≤ 0x1208d4 := by
  unfold retireCounter at h
  split at h <;> cases h <;> decide

/-- The words that count a retirement. -/
def countWords (cause : Nat) : List (Rg × Nat) := [(.ENG_RETIRE_CNT, 0), (.ENG_POOL, 0), ((retireCounter cause).getD .ENG_RETIRE_CNT, 0)]

theorem countWords_key (cause : Nat) :
    ∀ q ∈ countWords cause, q.1.key q.2 = 0x120808 ∨ (0x1208c0 ≤ q.1.key q.2 ∧ q.1.key q.2 ≤ 0x1208d4) := by
  simp only [countWords, List.forall_mem_cons]
  refine ⟨.inr (by decide), .inl rfl, .inr ?_, by simp⟩
  cases hc : retireCounter cause with
  | none => decide
  | some r =>
    have hr := retireCounter_key hc
    exact ⟨Nat.le_trans (by decide) hr.1, hr.2⟩

/-- R129: the mark and the counters of a retirement. -/
def State.retireCounted (s : State) (e cause : Nat) : State :=
  (retireCounter cause).elim ((s.markRetired e).inc .ENG_RETIRE_CNT) fun r => ((s.markRetired e).inc .ENG_RETIRE_CNT).inc r

/-- R129, R219: a memory error and a suspect result leave their evidence, and a bad data word is noted. -/
def State.retireNoted (s : State) (e cause : Nat) : State :=
  (s.cond (cause == 1 || cause == 3) (·.evidence 8)).cond (cause == 4)
    fun s => { s.evidence 1 with dev := { (s.evidence 1).dev with badDmem := e :: s.dev.badDmem } }

/-- R130: a channel that freezes at the next boundary and waits for the spare, if there is one. -/
def Chan.served (x : Chan) (spare : Option Nat) : Chan :=
  { x with posted := none, freezePend := true, takeover := spare.map fun sp => ⟨512 + sp, false, false⟩ }

/-- R130: the channel of a retired engine waits for its spare, and the retirement is recorded. -/
def State.retireServed (s : State) (owner : Option Nat) (e cause : Nat) : State :=
  match owner with
  | none => s.retireRecord cause e true false 0 0
  | some c =>
    match lowestBit (s.get ENG_SPARE_FREE.BITS) 16 0 with
    | some sp => (((s.setBit ENG_SPARE_FREE.BITS sp false).setChan c ((s.chan c).served (some sp))).retireRecord
        cause e false false sp c).repairNotice c
    | none => ((s.setChan c ((s.chan c).served none)).retireRecord cause e false true 0 c).repairNotice c

theorem State.retireCounted_changesOnly (s : State) (e cause : Nat) :
    (s.markRetired e).changesOnly (s.retireCounted e cause) [] (countWords cause) := by
  have hall := (s.markRetired e).changesOnly_inc .ENG_RETIRE_CNT 0 [] (words := countWords cause) (by simp [countWords])
  unfold State.retireCounted
  cases hc : retireCounter cause with
  | none => exact hall
  | some r => exact hall.trans (State.changesOnly_inc _ r 0 _ (by simp [countWords, hc]))

theorem State.retireCounted_counts (s : State) {e : Nat} (cause : Nat) (he : e < 528) :
    s.counted (s.retireCounted e cause) .ENG_RETIRE_CNT 0 1
      ∧ ∀ r, retireCounter cause = some r → s.counted (s.retireCounted e cause) r 0 1 := by
  have hmark {r : Rg} (hr : 0x120884 < r.key 0) : (s.markRetired e).rd r 0 = s.rd r 0 :=
    (s.markRetired_changesOnly e).rd_eq (markWords_key_ne he (.inr hr))
  have hall : s.counted ((s.markRetired e).inc .ENG_RETIRE_CNT) .ENG_RETIRE_CNT 0 1 := by
    rw [State.counted, State.rd_inc_same, hmark (by decide)]
  have hkey : Rg.ENG_RETIRE_CNT.key 0 = 0x1208c0 := rfl
  unfold State.retireCounted
  cases hc : retireCounter cause with
  | none => exact ⟨hall, by simp⟩
  | some r =>
    have hr := retireCounter_key hc
    refine ⟨?_, fun r' h => ?_⟩
    · simp only [Option.elim, State.counted, State.rd_inc_ne _ r 0 (q := .ENG_RETIRE_CNT) (j := 0) (by omega)]
      exact hall
    · cases h
      simp only [Option.elim, State.counted, State.rd_inc_same, State.rd_inc_ne _ .ENG_RETIRE_CNT 0 (q := r) (j := 0) (by omega),
        hmark (r := r) (by omega)]

theorem State.retireCounted_get_retired (s : State) {e : Nat} (cause : Nat) (he : e < 528) :
    (s.retireCounted e cause).get ENG_POOL.RETIRED = s.get ENG_POOL.RETIRED := by
  have hkey : ENG_POOL.RETIRED.r.key 0 = 0x120808 := rfl
  have hmark : (s.markRetired e).get ENG_POOL.RETIRED = s.get ENG_POOL.RETIRED :=
    (s.markRetired_changesOnly e).get_eq _ (markWords_key_ne he (.inl (by decide)))
  unfold State.retireCounted
  cases hc : retireCounter cause with
  | none => exact (State.get_inc_ne _ _ _ _ _ (by decide)).trans hmark
  | some r =>
    have hr := retireCounter_key hc
    exact (State.get_inc_ne _ _ _ _ _ (by omega)).trans ((State.get_inc_ne _ _ _ _ _ (by decide)).trans hmark)

/-- The parts that what a retirement notes may change. -/
def notedParts (cause : Nat) : List Part := .pair :: (if cause = 4 then [.dev] else [])

theorem State.retireNoted_changesOnly (s : State) (e cause : Nat) : s.changesOnly (s.retireNoted e cause) (notedParts cause) [] := by
  have hevidence (t : State) (b : Nat) : t.changesOnly (t.evidence b) (notedParts cause) [] := t.changesOnly_pair _ _ (by simp [notedParts])
  unfold State.retireNoted
  refine (State.changesOnly_cond (b := cause == 1 || cause == 3) (f := (State.evidence · 8)) (hevidence s 8)).trans ?_
  generalize s.cond _ _ = u
  unfold State.cond
  split
  · rename_i h4
    exact (hevidence _ 1).trans (State.changesOnly_dev _ _ _ (by simp [notedParts, eq_of_beq h4]))
  · exact State.changesOnly_refl _ _ _

theorem State.retireNoted_dev (s : State) (e : Nat) : (s.retireNoted e 4).dev = { s.dev with badDmem := e :: s.dev.badDmem } := rfl

theorem State.retireRecord_changesOnly (s : State) (cause e : Nat) (idle nospare : Bool) (spare ch : Nat) :
    s.changesOnly (s.retireRecord cause e idle nospare spare ch) [.mgmt, .free] ((.ENG_LAST_RETIRE, 0) :: logWords) :=
  (s.changesOnly_wr .ENG_LAST_RETIRE 0 _ _ (by simp)).trans ((State.log_changesOnly ..).mono (by simp) (by simp))

theorem State.repairNotice_changesOnly (s : State) (c : Nat) : s.changesOnly (s.repairNotice c) [.pair] [] := by
  unfold State.repairNotice
  split
  · exact s.changesOnly_pair _ _ (by simp)
  · exact s.changesOnly_refl _ _

/-- The words of what a retirement records. -/
def servedWords : List (Rg × Nat) := (.ENG_SPARE_FREE, 0) :: (.ENG_LAST_RETIRE, 0) :: logWords

/-- R130: the channel freezes and takes the lowest free spare; only records follow. -/
theorem State.retireServed_some (s : State) (c e cause : Nat) :
    ∃ u : State, s.changesOnly u [] servedWords
      ∧ (u.setChan c ((s.chan c).served (lowestBit (s.get ENG_SPARE_FREE.BITS) 16 0))).changesOnly
          (s.retireServed (some c) e cause) [.pair, .mgmt, .free] servedWords := by
  have hrest (u : State) (idle nospare : Bool) (sp : Nat) :
      u.changesOnly ((u.retireRecord cause e idle nospare sp c).repairNotice c) [.pair, .mgmt, .free] servedWords :=
    ((u.retireRecord_changesOnly cause e idle nospare sp c).mono (by simp) (by simp [servedWords])).trans
      ((State.repairNotice_changesOnly _ c).mono (by simp) (by simp))
  unfold State.retireServed
  cases hsp : lowestBit (s.get ENG_SPARE_FREE.BITS) 16 0 with
  | none => exact ⟨s, s.changesOnly_refl _ _, by simpa only [hsp] using hrest _ ..⟩
  | some sp =>
    exact ⟨s.setBit ENG_SPARE_FREE.BITS sp false, s.changesOnly_setBit _ _ _ _ _ (by simp [servedWords]),
      by simpa only [hsp] using hrest _ ..⟩

theorem State.retireServed_changesOnly (s : State) (owner : Option Nat) (e cause : Nat) :
    s.changesOnly (s.retireServed owner e cause) [.chans, .pair, .mgmt, .free] servedWords := by
  cases owner with
  | none => exact (s.retireRecord_changesOnly ..).mono (by simp) (by simp [servedWords])
  | some c =>
    obtain ⟨u, hu, ht⟩ := s.retireServed_some c e cause
    exact ((hu.mono (by simp) (by simp)).trans (State.changesOnly_setChan _ c _ _ (by simp))).trans (ht.mono (by simp) (by simp))

/-- R130: what a retirement leaves of the channels. -/
def State.chansServed (s t : State) (owner : Option Nat) (spare : Option Nat) : Prop :=
  (owner = none → t.chans = s.chans) ∧ ∀ c, owner = some c → s.onlyChan t c ∧ t.chan c = (s.chan c).served spare

theorem State.retireServed_chans (s : State) (owner : Option Nat) (e cause : Nat) :
    s.chansServed (s.retireServed owner e cause) owner (lowestBit (s.get ENG_SPARE_FREE.BITS) 16 0) := by
  refine ⟨?_, ?_⟩
  · rintro rfl
    exact (s.retireRecord_changesOnly ..).part .chans (by simp)
  · rintro c rfl
    obtain ⟨u, hu, ht⟩ := s.retireServed_some c e cause
    refine ⟨fun k hk => ?_, ?_⟩
    · rw [ht.chan_eq (by simp), State.chan_setChan_ne _ _ hk.symm, hu.chan_eq (by simp)]
    · rw [ht.chan_eq (by simp), State.chan_setChan_same]

/-- R129: the marks, the counts and the notes of a retirement, and the engine's posts gone. -/
def State.retireMarked (s : State) (e cause : Nat) : State :=
  let t := s.retireCounted e cause
  let u := t.set ENG_POOL.RETIRED (min 17 (t.get ENG_POOL.RETIRED + 1))
  State.retireNoted { u with posts := u.posts.filter (·.2 != e) } e cause

/-- R129, R130: engine `e` retired, before the 17th retirement leads to BASIC. -/
def State.retired (s : State) (e cause : Nat) : State :=
  let t := (s.retireMarked e cause).retireServed (s.channelOf e) e cause
  t.set ENG_POOL.SPARES_FREE (popCount (t.get ENG_SPARE_FREE.BITS) 16)

theorem State.retire_eq {s : State} {e : Nat} (cause : Nat) (he : e < 528) (hr : s.engRetired e = false) :
    s.retire e cause = (s.retired e cause).cond (min 17 (s.get ENG_POOL.RETIRED + 1) == 17) (·.enterBasic 1) := by
  unfold State.retire
  rw [hr, if_neg (by decide), ← s.retireCounted_get_retired cause he]
  extract_lets owner u1 u2 n u3 u4 u5 u6 u7 u8
  have h2 : u2 = s.retireCounted e cause := rfl
  have h6 : u6 = s.retireMarked e cause := by
    unfold State.retireMarked
    rw [← h2]
    rfl
  have h7 : u7 = u6.retireServed owner e cause := by
    clear_value u6 owner
    rfl
  have h8 : u8 = s.retired e cause := by
    unfold State.retired
    rw [← h6, ← h7]
  rw [h8, ← h2]

theorem State.retireMarked_changesOnly_mark (s : State) (e cause : Nat) :
    (s.markRetired e).changesOnly (s.retireMarked e cause) (.posts :: notedParts cause) (countWords cause) :=
  ((((s.retireCounted_changesOnly e cause).mono (by simp) (by simp)).trans
    (State.changesOnly_set _ ENG_POOL.RETIRED _ 0 _ (by simp [countWords]))).trans (State.changesOnly_posts _ _ _ (by simp))).trans
    ((State.retireNoted_changesOnly _ e cause).mono (by simp) (by simp))

theorem State.retireMarked_posts (s : State) (e cause : Nat) : (s.retireMarked e cause).posts = s.posts.filter (·.2 != e) := by
  have hcounted : (s.retireCounted e cause).posts = s.posts :=
    ((s.retireCounted_changesOnly e cause).part .posts (by simp)).trans ((s.markRetired_changesOnly e).part .posts (by simp))
  unfold State.retireMarked
  rw [(State.retireNoted_changesOnly _ e cause).part .posts (by unfold notedParts; split <;> simp), State.set_posts, hcounted]

theorem State.retireMarked_counts (s : State) {e : Nat} (cause : Nat) (he : e < 528) :
    s.counted (s.retireMarked e cause) .ENG_RETIRE_CNT 0 1
      ∧ (∀ r, retireCounter cause = some r → s.counted (s.retireMarked e cause) r 0 1)
      ∧ (s.retireMarked e cause).get ENG_POOL.RETIRED = min 17 (s.get ENG_POOL.RETIRED + 1) := by
  obtain ⟨hall, hone⟩ := s.retireCounted_counts cause he
  have hpool : Rg.ENG_POOL.key 0 = 0x120808 := rfl
  have hrd (r : Rg) (h : 0x120808 < r.key 0) : (s.retireMarked e cause).rd r 0 = (s.retireCounted e cause).rd r 0 := by
    unfold State.retireMarked
    rw [(State.retireNoted_changesOnly _ e cause).rd_eq (by simp), State.mk_rd, State.rd_set_ne _ _ _ _ (by dsimp only; omega)]
  refine ⟨?_, fun r hc => ?_, ?_⟩
  · rw [State.counted, hrd _ (by decide)]
    exact hall
  · have hr := retireCounter_key hc
    rw [State.counted, hrd r (by omega)]
    exact hone r hc
  · unfold State.retireMarked
    rw [(State.retireNoted_changesOnly _ e cause).get_eq _ (by simp), State.mk_get, State.get_set_same _ _ _ _ (by decide),
      s.retireCounted_get_retired cause he]
    exact Nat.mod_eq_of_lt (Nat.lt_of_le_of_lt (Nat.min_le_left _ _) (by decide))

/-- The words that mark an engine say whether it is retired. -/
theorem State.changesOnly.engRetired_eq {s t : State} {parts : List Part} {words : List (Rg × Nat)} (h : s.changesOnly t parts words)
    {e : Nat} (he : e < 528) (hk : ∀ q ∈ words, q.1.key q.2 < 0x120840 ∨ 0x120880 < q.1.key q.2) :
    t.engRetired e = s.engRetired e := by
  have hkey : Rg.ENG_RETIRED.key (e / 32) = 0x120840 + 4 * (e / 32) := rfl
  have hbits : ENG_RETIRED16.BITS.r.key 0 = 0x120880 := rfl
  rw [State.engRetired, State.engRetired, h.rd_eq (r := .ENG_RETIRED) fun q hq => ?_, h.get_eq ENG_RETIRED16.BITS fun q hq => ?_] <;>
  · have := hk q hq
    omega

/-- R129, R130: what the retirement of `e` may write. -/
def retireWords (e cause : Nat) : List (Rg × Nat) := markWords e ++ countWords cause ++ servedWords

/-- The parts of a retirement. -/
def retireParts (cause : Nat) : List Part := .posts :: notedParts cause ++ [.chans, .mgmt, .free]

theorem State.retireMarked_changesOnly (s : State) (e cause : Nat) :
    s.changesOnly (s.retireMarked e cause) (.posts :: notedParts cause) (markWords e ++ countWords cause) :=
  ((s.markRetired_changesOnly e).mono (by simp) (by simp)).trans ((s.retireMarked_changesOnly_mark e cause).mono (by simp) (by simp))

theorem State.retired_changesOnly_marked (s : State) (e cause : Nat) :
    (s.retireMarked e cause).changesOnly (s.retired e cause) [.chans, .pair, .mgmt, .free] ((.ENG_POOL, 0) :: servedWords) :=
  ((State.retireServed_changesOnly _ _ e cause).mono (by simp) (by simp)).trans
    (State.changesOnly_set _ ENG_POOL.SPARES_FREE _ 0 _ (by simp))

theorem State.retired_changesOnly (s : State) (e cause : Nat) : s.changesOnly (s.retired e cause) (retireParts cause) (retireWords e cause) :=
  ((s.retireMarked_changesOnly e cause).mono (by simp [retireParts]) (by simp [retireWords])).trans
    ((s.retired_changesOnly_marked e cause).mono (by simp [retireParts, notedParts])
      (List.cons_subset.mpr ⟨by simp [retireWords, countWords], List.subset_append_right _ _⟩))

theorem State.retired_engRetired (s : State) {e : Nat} (cause : Nat) (he : e < 528) : (s.retired e cause).engRetired e = true := by
  rw [(s.retired_changesOnly_marked e cause).engRetired_eq he (by decide),
    (s.retireMarked_changesOnly_mark e cause).engRetired_eq he fun q hq => ?_, s.markRetired_engRetired he]
  have := countWords_key cause q hq
  omega

theorem State.retired_counts (s : State) {e : Nat} (cause : Nat) (he : e < 528) :
    s.counted (s.retired e cause) .ENG_RETIRE_CNT 0 1
      ∧ (∀ r, retireCounter cause = some r → s.counted (s.retired e cause) r 0 1)
      ∧ (s.retired e cause).get ENG_POOL.RETIRED = min 17 (s.get ENG_POOL.RETIRED + 1) := by
  obtain ⟨hall, hone, hpool⟩ := s.retireMarked_counts cause he
  have hmarked := s.retired_changesOnly_marked e cause
  refine ⟨?_, fun r hc => ?_, ?_⟩
  · rw [State.counted, hmarked.rd_eq (by decide)]
    exact hall
  · have hr := retireCounter_key hc
    have hout : ∀ q ∈ (Rg.ENG_POOL, 0) :: servedWords, q.1.key q.2 < 0x1208c4 ∨ 0x1208d4 < q.1.key q.2 := by decide
    rw [State.counted, hmarked.rd_eq fun q hq => by have := hout q hq; omega]
    exact hone r hc
  · unfold State.retired
    dsimp only
    rw [State.get_set_apart _ ENG_POOL.SPARES_FREE ENG_POOL.RETIRED _ _ (by decide) (by decide) rfl (by decide),
      (State.retireServed_changesOnly _ _ e cause).get_eq _ (by decide), hpool]

theorem State.retired_chans (s : State) (e cause : Nat) : s.chansServed (s.retired e cause) (s.channelOf e) (s.spareFor e) := by
  have hmark := s.retireMarked_changesOnly e cause
  have hno : Part.chans ∉ .posts :: notedParts cause := by
    unfold notedParts
    split <;> simp
  have hspare : lowestBit ((s.retireMarked e cause).get ENG_SPARE_FREE.BITS) 16 0 = s.spareFor e := by
    have hk : ENG_SPARE_FREE.BITS.r.key 0 = 0x120884 := rfl
    rw [← s.markRetired_spares e, (s.retireMarked_changesOnly_mark e cause).get_eq _ fun q hq => ?_]
    have := countWords_key cause q hq
    omega
  obtain ⟨hnone, hsome⟩ := (s.retireMarked e cause).retireServed_chans (s.channelOf e) e cause
  rw [hspare] at hsome
  unfold State.retired
  refine ⟨fun h => ?_, fun c h => ⟨fun k hk => ?_, ?_⟩⟩
  · rw [State.set_chans, hnone h, hmark.part .chans hno]
  · rw [State.set_chan_of, (hsome c h).1 k hk, hmark.chan_eq hno]
  · rw [State.set_chan_of, (hsome c h).2, hmark.chan_eq hno]

theorem State.settle_engRetired (s : State) (e : Nat) : s.settle.engRetired e = s.engRetired e := by
  rw [State.engRetired, State.engRetired, State.settle_rd_of, State.settle_get_of]

/-- R129, R130: a retirement before the 17th, whatever else the command may change. -/
theorem State.engineRetired_retired {s : State} {e cause : Nat} {parts : List Part} (words : List (Rg × Nat)) (he : e < 528)
    (hn : s.get ENG_POOL.RETIRED < 16) (hparts : cause = 4 → Part.dev ∈ parts) :
    s.engineRetired (s.retired e cause).settle e cause parts words := by
  obtain ⟨hall, hone, hpool⟩ := s.retired_counts cause he
  obtain ⟨hnone, hsome⟩ := s.retired_chans e cause
  have hsub : retireParts cause ⊆ parts ++ [.chans, .posts, .pair, .mgmt, .free] := by
    unfold retireParts notedParts
    split
    · rename_i h4
      simp [hparts h4]
    · simp
  refine ⟨?_, ?_, ?_, ?_, ?_, ?_, ((s.retired_changesOnly e cause).mono hsub ?_).frame⟩
  · rw [State.settle_engRetired, s.retired_engRetired cause he]
  · rw [State.counted, State.settle_rd_of]
    exact hall
  · split
    · rename_i r hc
      rw [State.counted, State.settle_rd_of]
      exact hone r hc
    · trivial
  · rw [State.settle_get_of, hpool]
    omega
  · rw [State.settle_posts, (s.retired_changesOnly_marked e cause).part .posts (by simp), s.retireMarked_posts]
  · split
    · rename_i h
      rw [State.settle_chans, hnone h]
    · rename_i c h
      obtain ⟨honly, hchan⟩ := hsome c h
      exact ⟨fun k hk => (State.settle_chan_of _ k).trans (honly k hk), (State.settle_chan_of _ _).trans hchan⟩
  · simp [retireWords, markWords, countWords, servedWords, logWords]

/-- R130: an event that retires its engine, fewer than 17 being retired then. -/
theorem onEngine_retire {s : State} {e cause : Nat} {parts : List Part} {f : State → State} (he : e < 528) (h0 : s.mode ≠ 0)
    (h11 : s.mode ≠ 11) (hr : s.engRetired e = false) (hn : s.get ENG_POOL.RETIRED < 16) (hf : f s = s.retire e cause)
    (hparts : cause = 4 → Part.dev ∈ parts) :
    onEngine e s f = .next (s.retired e cause).settle ∧ s.engineRetired (s.retired e cause).settle e cause parts [] := by
  have hmin : min 17 (s.get ENG_POOL.RETIRED + 1) ≠ 17 := by omega
  refine ⟨?_, State.engineRetired_retired [] he hn hparts⟩
  rw [onEngine, if_neg (not_or.mpr ⟨h0, h11⟩), hf, State.retire_eq cause he hr, State.cond, if_neg (by simpa using hmin),
    onUnit_next _ _ _ _ he]

/-- R26, R130: the 17th retirement leads to BASIC. -/
theorem exec_engineParityError_last {s : State} {e : Nat} (he : e < 528) (h0 : s.mode ≠ 0) (h9 : s.mode ≠ 9) (h11 : s.mode ≠ 11)
    (hr : s.engRetired e = false) (hn : s.get ENG_POOL.RETIRED = 16) :
    ∃ t, exec (.engineParityError e) s = .next t
      ∧ t.engRetired e = true ∧ t.get ENG_POOL.RETIRED = 17
      ∧ s.fellToBasic t 1 [.chans]
          [(.ENG_RETIRED, e / 32), (.ENG_RETIRED16, 0), (.ENG_SPARE_FREE, 0), (.ENG_RETIRE_CNT, 0), (.ENG_POOL, 0),
           (.ENG_PARITY_CNT, 0), (.ENG_LAST_RETIRE, 0)] := by
  have hexec : exec (.engineParityError e) s = .next ((s.retired e 1).enterBasic 1).settle := by
    change onEngine e s (·.retire e 1) = _
    rw [onEngine, if_neg (not_or.mpr ⟨h0, h11⟩), State.retire_eq 1 he hr, hn, State.cond, if_pos (by decide),
      onUnit_next _ _ _ _ he]
  have hkey : Rg.ENG_RETIRED.key (e / 32) = 0x120840 + 4 * (e / 32) := rfl
  have hch := s.retired_changesOnly e 1
  have hlow : ∀ q ∈ retireWords e 1, q.1.key q.2 ≠ DEV_MODE.MODE.r.key 0 ∧ q.1.key q.2 ≠ CAL_STS.ITEM.r.key 0 := by
    simp only [retireWords, markWords, List.cons_append, List.forall_mem_cons, hkey]
    refine ⟨?_, by decide⟩
    have hmode : Rg.DEV_MODE.key 0 < 0x120840 := by decide
    have hitem : Rg.CAL_STS.key 0 < 0x120840 := by decide
    omega
  have hmode : (s.retired e 1).mode = s.mode := hch.get_eq DEV_MODE.MODE fun q hq => (hlow q hq).1
  rw [← hmode] at h0 h9 h11
  obtain ⟨-, ws, -, hkeys, hbasic⟩ := State.enterBasic_effect (cause := 1) (parts := [.chans]) (by decide) (by decide) h0 h9 h11
  obtain ⟨-, -, hpool⟩ := s.retired_counts 1 he
  refine ⟨_, hexec, ?_, ?_, State.fellToBasic_enterBasic (by decide) (by decide) (hch.mono ?_ ?_)
    (hch.get_eq CAL_STS.ITEM fun q hq => (hlow q hq).2) h0 h9 h11⟩
  · rw [State.settle_engRetired, hbasic.engRetired_eq he fun q hq => ?_]
    · exact s.retired_engRetired 1 he
    · obtain hq | hq := List.mem_append.mp hq
      · have hout : ∀ q ∈ basicWords, q.1.key q.2 < 0x120840 ∨ 0x120880 < q.1.key q.2 := by decide
        exact hout q hq
      · have := hkeys q hq
        omega
  · rw [State.settle_get_of, hbasic.get_eq _ (itemWords_key_ne (by decide) hkeys (by decide)), hpool, hn]
    rfl
  · simp [retireParts, notedParts, basicParts]
  · simp [retireWords, markWords, countWords, servedWords, logWords, basicWords, retireCounter]

/-- Settles O18: the four causes are one retirement, whose effect is said once; the 17th enters BASIC after it. -/
theorem engineRetirements : Obligations.EngineRetirements := by
  unfold Obligations.EngineRetirements
  refine ⟨fun s e he h0 h11 hr hn => ⟨?_, ?_, ?_, fun hp => ?_⟩, fun s e => exec_engineParityError_last⟩
  · exact ⟨_, onEngine_retire (f := (·.retire e 1)) he h0 h11 hr hn rfl (by simp)⟩
  · exact ⟨_, onEngine_retire (f := (·.retire e 2)) he h0 h11 hr hn rfl (by simp)⟩
  · obtain ⟨hexec, hretired⟩ := onEngine_retire (f := (·.retire e 4)) (parts := [.dev]) he h0 h11 hr hn rfl (by simp)
    refine ⟨_, hexec, hretired, ?_⟩
    rw [State.settle_dev, (s.retired_changesOnly_marked e 4).part .dev (by simp)]
    unfold State.retireMarked
    rw [State.retireNoted_dev, State.set_dev, (s.retireCounted_changesOnly e 4).part .dev (by simp),
      (s.markRetired_changesOnly e).part .dev (by simp)]
  · exact ⟨_, onEngine_retire (f := fun s => if (s.channelOf e).any fun c => progPosts (s.prog c) then s.retire e 5 else s)
      he h0 h11 hr hn (if_pos hp) (by simp)⟩

end Sys2Proof.Machine

namespace Sys2Proof.Machine

/-! ### Heartbeats (R202, R203) -/

/-- A command of unit `k` of two that acts while the pair logic runs. -/
theorem onUnit_onPair {s : State} {k : Nat} (f : State → State) (hk : k < 2) (hr : s.pairRuns = true) :
    onUnit k 2 s (s.onPair f) = done (f s) := by
  rw [onUnit_next _ _ _ _ hk, State.onPair, if_pos hr, done]

theorem hbOk_r (k : Nat) : (hbOk k).r = .PAIR_STS := by
  unfold hbOk
  split <;> rfl

/-- The flags of the two inputs are fields of their own, apart from the other flags of PAIR_STS that the death of the peer asks for. -/
theorem hbOk_apart {k : Nat} (hk : k < 2) :
    (hbOk k).ok = true ∧ (hbOk k).apart (hbOk (1 - k)) = true ∧ (hbOk (1 - k)).ok = true
      ∧ ∀ g ∈ [PAIR_STS.PEER_ALIVE, PAIR_STS.LINK_UP, PAIR_STS.ROLE], (hbOk k).apart g = true ∧ g.ok = true ∧ g.r = .PAIR_STS := by
  revert k
  decide

/-- The counter of the misses of a heartbeat input. -/
abbrev hbMiss (k : Nat) : Rg := if k = 0 then .PAIR_HB0_MISS_CNT else .PAIR_HB1_MISS_CNT

theorem hbMiss_key (k : Nat) : (hbMiss k).key 0 ≠ Rg.PAIR_STS.key 0 ∧ (hbMiss k).key 0 ≠ Rg.PAIR_PEER_DEATH_CNT.key 0 := by
  unfold hbMiss
  split <;> decide

/-- R203: a heartbeat input dead and counted. -/
def State.hbDead (s : State) (k : Nat) : State := (s.set (hbOk k) 0).inc (hbMiss k)

theorem State.hbDead_changesOnly (s : State) (k : Nat) : s.changesOnly (s.hbDead k) [] [(.PAIR_STS, 0), (hbMiss k, 0)] :=
  (s.changesOnly_set (hbOk k) 0 0 _ (by simp [hbOk_r])).trans (State.changesOnly_inc _ (hbMiss k) 0 _ (by simp))

theorem State.hbDead_rd (s : State) (k : Nat) : (s.hbDead k).rd .PAIR_STS = (hbOk k).put (s.rd .PAIR_STS) 0 := by
  rw [State.hbDead, State.rd_inc_ne _ _ _ (hbMiss_key k).1, s.rd_set_same _ _ _ (hbOk_r k)]

theorem State.hbDead_counts (s : State) (k : Nat) : s.counted (s.hbDead k) (hbMiss k) 0 1 := by
  have hne : (hbOk k).r.key 0 ≠ (hbMiss k).key 0 := by
    rw [hbOk_r]
    exact (hbMiss_key k).1.symm
  rw [State.counted, State.hbDead, State.rd_inc_same, s.rd_set_ne _ _ _ hne]

/-- A flag of PAIR_STS beside that of the input stands. -/
theorem State.hbDead_get (s : State) {k : Nat} {g : Fld} (hok : (hbOk k).ok = true) (hg : g.ok = true) (hr : g.r = .PAIR_STS)
    (ha : (hbOk k).apart g = true) : (s.hbDead k).get g = s.get g := by
  rw [State.hbDead, State.get_inc_ne _ _ _ _ _ (by rw [hr]; exact (hbMiss_key k).1),
    s.get_set_apart _ _ _ _ hok hg ((hbOk_r k).trans hr.symm) ha]

theorem State.hbDead_off (s : State) {k : Nat} (hk : k < 2) : (s.hbDead k).on (hbOk k) = false := by
  have hget : (s.hbDead k).get (hbOk k) = 0 := by
    rw [State.hbDead, State.get_inc_ne _ _ _ _ _ (by rw [hbOk_r]; exact (hbMiss_key k).1), s.get_set_same _ _ _ (hbOk_apart hk).1,
      Nat.zero_mod]
  rw [State.on, hget]
  rfl

/-- R203: while the other input lives, so does the peer. -/
theorem State.checkDeath_alive {s : State} {k : Nat} (hk : k < 2) (h : s.on (hbOk (1 - k)) = true) : s.checkDeath = s := by
  obtain rfl | rfl : k = 0 ∨ k = 1 := by omega
  · exact if_neg (by rw [show s.on PAIR_STS.HB1_OK = true from h]; simp)
  · exact if_neg (by rw [show s.on PAIR_STS.HB0_OK = true from h]; simp)

/-- R203, R206: the peer is dead, and counted. -/
def State.peerDied (s : State) : State :=
  let t := (s.inc .PAIR_PEER_DEATH_CNT).set PAIR_STS.PEER_ALIVE 0
  { t with pair := { t.pair with peerRole := 0 } }

theorem State.peerDied_pair (s : State) : s.peerDied.pair = { s.pair with peerRole := 0 } := by
  simp only [State.peerDied, State.set_pair, State.inc_pair]

theorem State.peerDied_rd (s : State) (r : Rg) (i : Nat) :
    s.peerDied.rd r i = ((s.inc .PAIR_PEER_DEATH_CNT).set PAIR_STS.PEER_ALIVE 0).rd r i := State.mk_rd ..

theorem State.peerDied_changesOnly (s : State) : s.changesOnly s.peerDied [.pair] [(.PAIR_STS, 0), (.PAIR_PEER_DEATH_CNT, 0)] :=
  ((s.changesOnly_inc .PAIR_PEER_DEATH_CNT 0 _ (by simp)).trans (State.changesOnly_set _ PAIR_STS.PEER_ALIVE 0 0 _ (by simp))).trans
    (State.changesOnly_pair _ _ _ (by simp))

/-- R203: both inputs dead and the link down: the peer of a unit that is not a standby is declared dead. -/
theorem State.checkDeath_dead {s : State} {k : Nat} (hk : k < 2) (ha : s.on PAIR_STS.PEER_ALIVE = true) (hd : s.on (hbOk k) = false)
    (ho : s.on (hbOk (1 - k)) = false) (hl : s.on PAIR_STS.LINK_UP = false) (hs : s.isStandby = false) :
    s.checkDeath = s.peerDied := by
  have hboth : s.on PAIR_STS.HB0_OK = false ∧ s.on PAIR_STS.HB1_OK = false := by
    obtain rfl | rfl : k = 0 ∨ k = 1 := by omega
    · exact ⟨hd, ho⟩
    · exact ⟨ho, hd⟩
  have hrole : s.peerDied.isStandby = false := by
    rw [State.isStandby, State.peerDied, State.mk_get, State.get_set_apart _ PAIR_STS.PEER_ALIVE PAIR_STS.ROLE _ _ (by decide) (by decide)
      rfl (by decide), s.get_inc_ne _ _ _ _ (by decide)]
    exact hs
  have hno : ¬ (s.peerDied.isStandby && (s.peerDied.mode == 7 || s.peerDied.mode == 8)) = true := by
    rw [hrole]
    simp
  unfold State.checkDeath
  rw [if_pos (by simp [ha, hboth.1, hboth.2, hl])]
  exact if_neg hno

theorem exec_heartbeatEdge_effect {s : State} {k : Nat} (hk : k < 2) (hr : s.pairRuns = true) (hh : s.pair.holdStep = false) :
    ∃ t, exec (.heartbeatEdge k) s = .next t
      ∧ t.rd .PAIR_STS = PAIR_STS.CLAIM_BLOCK.put (PAIR_STS.PEER_ALIVE.put ((hbOk k).put (s.rd .PAIR_STS) 1) 1) 0
      ∧ t.pair = { s.pair with hbEdge := k :: s.pair.hbEdge.filter (· != k) } ∧ s.frame t [.pair] [(.PAIR_STS, 0)] := by
  refine ⟨_, (onUnit_onPair _ hk hr).trans (congrArg done (if_neg (by simp [hh]))), ?_, ?_, ?_⟩
  · rw [State.settle_rd_of, State.mk_rd, State.rd_set_same _ _ _ _ rfl, State.rd_set_same _ _ _ _ rfl, s.rd_set_same _ _ _ (hbOk_r k)]
  · rfl
  · exact ((((s.changesOnly_set (hbOk k) 1 0 _ (by simp [hbOk_r])).trans (State.changesOnly_set _ PAIR_STS.PEER_ALIVE 1 0 _ (by simp))).trans
      (State.changesOnly_set _ PAIR_STS.CLAIM_BLOCK 0 0 _ (by simp))).trans (State.changesOnly_pair _ _ _ (by simp))).frame

/-- R21: an edge in the tick keeps its input alive. -/
theorem exec_heartbeatInputDead_kept {s : State} {k : Nat} (hk : k < 2) (hr : s.pairRuns = true) (ht : s.dev.ticking = true)
    (he : k ∈ s.pair.hbEdge) : ∃ t, exec (.heartbeatInputDead k) s = .next t ∧ s.frame t [] [] :=
  ⟨_, (onUnit_onPair _ hk hr).trans (congrArg done (if_neg (by simp [ht, he]))),
    (s.changesOnly_refl _ _).frame⟩

theorem exec_heartbeatInputDead {s : State} {k : Nat} (hk : k < 2) (hr : s.pairRuns = true) (he : k ∉ s.pair.hbEdge)
    (ho : s.on (hbOk k) = true) : exec (.heartbeatInputDead k) s = .next (s.hbDead k).checkDeath.settle :=
  (onUnit_onPair _ hk hr).trans (congrArg done (if_pos (by simp [ho, he])))

theorem exec_heartbeatInputDead_counts {s : State} {k : Nat} (hk : k < 2) (hr : s.pairRuns = true) (he : k ∉ s.pair.hbEdge)
    (ho : s.on (hbOk k) = true) (hother : s.on (hbOk (1 - k)) = true) :
    ∃ t, exec (.heartbeatInputDead k) s = .next t
      ∧ t.rd .PAIR_STS = (hbOk k).put (s.rd .PAIR_STS) 0 ∧ s.counted t (hbMiss k) 0 1 ∧ s.frame t [] [(.PAIR_STS, 0), (hbMiss k, 0)] := by
  obtain ⟨hok, hapart, hok', -⟩ := hbOk_apart hk
  have hlives : (s.hbDead k).on (hbOk (1 - k)) = true := by
    rw [State.on, s.hbDead_get hok hok' (hbOk_r _) hapart]
    exact hother
  refine ⟨_, exec_heartbeatInputDead hk hr he ho, ?_⟩
  rw [State.checkDeath_alive hk hlives]
  refine ⟨?_, ?_, (s.hbDead_changesOnly k).frame⟩
  · rw [State.settle_rd_of, s.hbDead_rd]
  · rw [State.counted, State.settle_rd_of]
    exact s.hbDead_counts k

theorem exec_heartbeatInputDead_death {s : State} {k : Nat} (hk : k < 2) (hr : s.pairRuns = true) (he : k ∉ s.pair.hbEdge)
    (ho : s.on (hbOk k) = true) (hother : s.on (hbOk (1 - k)) = false) (hl : s.on PAIR_STS.LINK_UP = false)
    (ha : s.on PAIR_STS.PEER_ALIVE = true) (hs : s.isStandby = false) :
    ∃ t, exec (.heartbeatInputDead k) s = .next t
      ∧ t.rd .PAIR_STS = PAIR_STS.PEER_ALIVE.put ((hbOk k).put (s.rd .PAIR_STS) 0) 0
      ∧ s.counted t .PAIR_PEER_DEATH_CNT 0 1 ∧ t.pair = { s.pair with peerRole := 0 }
      ∧ s.frame t [.pair] [(.PAIR_STS, 0), (.PAIR_PEER_DEATH_CNT, 0), (hbMiss k, 0)] := by
  obtain ⟨hok, hapart, hok', hflags⟩ := hbOk_apart hk
  have hget (g : Fld) (hg : g ∈ [PAIR_STS.PEER_ALIVE, PAIR_STS.LINK_UP, PAIR_STS.ROLE]) : (s.hbDead k).get g = s.get g :=
    have ⟨hga, hgok, hgr⟩ := hflags g hg
    s.hbDead_get hok hgok hgr hga
  have hdead : (s.hbDead k).checkDeath = (s.hbDead k).peerDied := State.checkDeath_dead hk (by rw [State.on, hget _ (by simp)]; exact ha) (s.hbDead_off hk)
    (by rw [State.on, s.hbDead_get hok hok' (hbOk_r _) hapart]; exact hother) (by rw [State.on, hget _ (by simp)]; exact hl)
    (by rw [State.isStandby, hget _ (by simp)]; exact hs)
  refine ⟨_, exec_heartbeatInputDead hk hr he ho, ?_⟩
  rw [hdead]
  refine ⟨?_, ?_, ?_, (((s.hbDead_changesOnly k).mono (by simp) (by simp)).trans
    ((State.peerDied_changesOnly _).mono (by simp) (by simp))).frame⟩
  · rw [State.settle_rd_of, State.peerDied_rd, State.rd_set_same _ _ _ _ rfl, State.rd_inc_ne _ _ _ (by decide), s.hbDead_rd]
  · rw [State.counted, State.settle_rd_of, State.peerDied_rd, State.rd_set_ne _ _ _ _ (by decide), State.rd_inc_same,
      (s.hbDead_changesOnly k).rd_eq]
    simpa using ⟨by decide, (hbMiss_key k).2⟩
  · rw [State.settle_pair, State.peerDied_pair, (s.hbDead_changesOnly k).part .pair (by simp)]

/-- Settles O30: an edge writes its flags; a dead input is counted, and the death of the peer follows when nothing else shows life. -/
theorem pairHeartbeats : Obligations.PairHeartbeats := by
  unfold Obligations.PairHeartbeats
  refine ⟨fun s => ⟨fun hm => ?_, fun hm => ?_⟩, fun s k hk hr =>
    ⟨exec_heartbeatEdge_effect hk hr, exec_heartbeatInputDead_kept hk hr, exec_heartbeatInputDead_counts hk hr,
      exec_heartbeatInputDead_death hk hr⟩⟩
  · exact ⟨_, congrArg done (if_pos hm), rfl, (s.changesOnly_pair _ _ (by simp)).frame⟩
  · exact ⟨_, congrArg done (if_neg hm), (s.changesOnly_refl _ _).frame⟩

end Sys2Proof.Machine

namespace Sys2Proof.Machine

/-! ### The events of a flow (R154, R159) -/

/-- An event of an active flow while its engines run. -/
theorem onFlow_acts {s : State} {f : Nat} (g : State → State) (hf : f < 64) (ha : s.flowActive f = true) (h0 : s.mode ≠ 0) (h11 : s.mode ≠ 11) :
    onFlow f s g = done ((g s).showFlow f) := by
  simp [onFlow, onUnit_next _ _ _ _ hf, done, ha, h0, h11]

/-- The count of missed exchanges does not make a flow active or idle. -/
theorem State.changesOnly.flowActive_eq {s t : State} {f : Nat} {parts : List Part} (h : s.changesOnly t parts [(.FLOW_MISS_CNT, f)])
    (hf : f < 64) : t.flowActive f = s.flowActive f := by
  have hhome : s.flowHome f < 512 := FLOW_CFG.CHANNEL.of_lt _
  have kmiss : Rg.FLOW_MISS_CNT.key f = 0x13040c + 0x10 * f := rfl
  have kcfg : Rg.FLOW_CFG.key f = 0x130400 + 0x10 * f := rfl
  have kmap : Rg.ENG_CHMAP.key (s.flowHome f) = 0x120000 + 4 * s.flowHome f := rfl
  exact State.flowActive_congr (h.rd_eq (by simp only [List.forall_mem_singleton]; omega))
    (h.rd_eq (by simp only [List.forall_mem_singleton]; omega))

/-- R154: the states of a flow are 0 to 5. -/
theorem State.flowState_le (s : State) (f : Nat) : s.flowState f ≤ 5 := by
  unfold State.flowState
  dsimp only
  split
  · omega
  · split
    · omega
    · split <;> [omega; (split <;> [omega; (split <;> omega)])]

/-- R154: a qualified flow has its Sync. -/
theorem State.flowState_syncOk {s : State} {f : Nat} (h : s.flowState f = 4) : (s.flow f).syncOk = true := by
  unfold State.flowState at h
  dsimp only at h
  split at h
  · omega
  · split at h
    · omega
    · split at h
      · omega
      · split at h
        · omega
        · split at h
          · assumption
          · omega

theorem State.showFlow_flow {s : State} {f : Nat} (ha : s.flowActive f = true) (k : Nat) : (s.showFlow f).flow k = s.flow k := by
  rw [State.showFlow_active ha, State.set_flow]

theorem State.showFlow_shows {s : State} {f : Nat} (ha : s.flowActive f = true) : (s.showFlow f).get FLOW_STS.STATE f = s.flowState f := by
  rw [State.showFlow_active ha, s.get_set_same _ _ _ (by decide)]
  exact Nat.mod_eq_of_lt (Nat.lt_of_le_of_lt (s.flowState_le f) (by decide))

theorem State.showFlow_changesOnly {s : State} {f : Nat} (ha : s.flowActive f = true) :
    s.changesOnly (s.showFlow f) [] [(.FLOW_STS, f)] := by
  rw [State.showFlow_active ha]
  exact s.changesOnly_set _ _ _ _ (by simp)

/-- The shown state of a flow stands below its count. -/
theorem State.showFlow_counted {s u : State} {f n : Nat} (ha : u.flowActive f = true) (h : s.counted u .FLOW_MISS_CNT f n) :
    s.counted (u.showFlow f).settle .FLOW_MISS_CNT f n := by
  have kmiss : Rg.FLOW_MISS_CNT.key f = 0x13040c + 0x10 * f := rfl
  have ksts : Rg.FLOW_STS.key f = 0x130408 + 0x10 * f := rfl
  rw [State.counted, State.settle_rd_of, (State.showFlow_changesOnly ha).rd_eq (by simp only [List.forall_mem_singleton]; omega)]
  exact h

/-- R154: an event that changes what a flow holds, and no more than its shown state beside that. -/
theorem onFlow_setFlow_effect {s : State} {f : Nat} {g : State → State} (x : Flow) (hg : g s = s.setFlow f x) (hf : f < 64)
    (ha : s.flowActive f = true) (h0 : s.mode ≠ 0) (h11 : s.mode ≠ 11) :
    ∃ t, onFlow f s g = .next t ∧ t.flow f = x ∧ t.get FLOW_STS.STATE f = (s.setFlow f x).flowState f
      ∧ s.onlyFlow t f ∧ s.frame t [.twl] [(.FLOW_STS, f)] := by
  have hch := s.setFlow_changesOnly f x (parts := [.twl]) [(.FLOW_MISS_CNT, f)] (by simp)
  have hact : (s.setFlow f x).flowActive f = true := (hch.flowActive_eq hf).trans ha
  refine ⟨_, onFlow_acts g hf ha h0 h11, ?_⟩
  rw [hg]
  refine ⟨?_, ?_, fun k hk => ?_, ?_⟩
  · rw [State.settle_flow, State.showFlow_flow hact, State.flow_setFlow_same]
  · rw [State.settle_get_of, State.showFlow_shows hact]
  · rw [State.settle_flow, State.showFlow_flow hact, State.flow_setFlow_ne _ _ hk.symm]
  · exact ((s.setFlow_changesOnly f x _ (by simp)).trans ((State.showFlow_changesOnly hact).mono (by simp) (by simp))).frame

/-- R159: an event that drops a part of a flow's exchange, and counts it. -/
theorem onFlow_missExchange_effect {s : State} {f : Nat} {g : State → State} (x : Flow) (hg : g s = (s.setFlow f x).missExchange f) (hf : f < 64)
    (ha : s.flowActive f = true) (h0 : s.mode ≠ 0) (h11 : s.mode ≠ 11) :
    ∃ t, onFlow f s g = .next t ∧ t.flow f = x ∧ s.counted t .FLOW_MISS_CNT f 1
      ∧ s.onlyFlow t f ∧ s.frame t [.twl] [(.FLOW_STS, f), (.FLOW_MISS_CNT, f)] := by
  have hflow (k : Nat) : ((s.setFlow f x).missExchange f).flow k = (s.setFlow f x).flow k := rfl
  have hch : s.changesOnly ((s.setFlow f x).missExchange f) [.twl] [(.FLOW_MISS_CNT, f)] :=
    (s.setFlow_changesOnly f x _ (by simp)).trans (State.changesOnly_inc _ .FLOW_MISS_CNT f _ (by simp))
  have hact := (hch.flowActive_eq hf).trans ha
  refine ⟨_, onFlow_acts g hf ha h0 h11, ?_⟩
  rw [hg]
  refine ⟨?_, State.showFlow_counted hact ((s.setFlow f x).rd_inc_same .FLOW_MISS_CNT f), fun k hk => ?_,
    ((hch.mono (by simp) (by simp)).trans ((State.showFlow_changesOnly hact).mono (by simp) (by simp))).frame⟩
  · rw [State.settle_flow, State.showFlow_flow hact, hflow, State.flow_setFlow_same]
  · rw [State.settle_flow, State.showFlow_flow hact, hflow, State.flow_setFlow_ne _ _ hk.symm]

/-! ### The request of a flow (R150, R156, R159) -/

/-- R156, R159: the request that flow `f` sends to its port. -/
def State.requestMsg (s : State) (f : Nat) (kind : MsgKind) : OutMsg :=
  ⟨kind, 0, (s.flow f).lane, 0, s.flowHome f, s.get FLOW_CFG.PORT f, 0, 1, false, 0, (s.flow f).hdr,
    [(1, (s.flow f).nextSeq), (10, 127), (13, s.get FLOW_CFG.DOMAIN f), (30, s.portId f)]⟩

/-- R159: the request that leaves is the flow's, whether or not an open one is counted first. -/
theorem State.sendRequest_eq {s : State} {f : Nat} (kind : MsgKind) (hh : (s.flow f).hdr ≠ []) (hc : s.canSend (s.flow f).lane = true) :
    s.sendRequest f kind = ((s.missWaiting f).send (s.requestMsg f kind)).setFlow f (s.flow f).requested := by
  have hne : (s.flow f).hdr.isEmpty = false := by simpa using hh
  have kmiss : Rg.FLOW_MISS_CNT.key f = 0x13040c + 0x10 * f := rfl
  have kcfg : Rg.FLOW_CFG.key f = 0x130400 + 0x10 * f := rfl
  have hcfg : (s.missWaiting f).rd .FLOW_CFG f = s.rd .FLOW_CFG f :=
    (s.missWaiting_changesOnly f [] (words := [(.FLOW_MISS_CNT, f)]) (by simp)).rd_eq (by simp only [List.forall_mem_singleton]; omega)
  have hport : (s.missWaiting f).get FLOW_CFG.PORT f = s.get FLOW_CFG.PORT f := congrArg FLOW_CFG.PORT.of hcfg
  have hdomain : (s.missWaiting f).get FLOW_CFG.DOMAIN f = s.get FLOW_CFG.DOMAIN f := congrArg FLOW_CFG.DOMAIN.of hcfg
  have hid : (s.missWaiting f).portId f = s.portId f := by
    unfold State.missWaiting State.cond
    split <;> rfl
  unfold State.sendRequest State.requestMsg
  simp only [hne, hc, Bool.not_true, Bool.false_eq_true, if_false]
  rw [← hport, ← hdomain, ← hid]
  rfl

/-- R150: a message that leaves is the last sent and its tag is outstanding. -/
theorem State.send_sentMsg (s : State) (m : OutMsg) : s.sentMsg (s.send m) m := by
  simp [State.sentMsg, State.send]

/-- What has been sent does not depend on what the flows hold, nor on the registers. -/
theorem State.sentMsg_congr {s s' t t' : State} {m : OutMsg} (h : s'.sentMsg t' m) (hs : s'.twl = s.twl) (hd : s'.dev = s.dev)
    (hsent : t.twl.sent = t'.twl.sent) (htags : t.twl.tags = t'.twl.tags) : s.sentMsg t m := by
  simpa only [State.sentMsg, hs, hd, hsent, htags] using h

/-- R159: an open request that is replaced is counted. -/
theorem State.missWaiting_counts (s : State) (f : Nat) :
    s.counted (s.missWaiting f) .FLOW_MISS_CNT f (if (s.flow f).exch.waitsResponse then 1 else 0) := by
  unfold State.missWaiting State.cond
  split
  · exact s.rd_inc_same .FLOW_MISS_CNT f
  · have := (s.rd .FLOW_MISS_CNT f).isLt
    rw [State.counted]
    omega

/-- R150, R159: an event of a flow whose request leaves. -/
theorem onFlow_requestLeaves_effect {s : State} {f : Nat} {g : State → State} (kind : MsgKind) (hg : g s = s.sendRequest f kind) (hf : f < 64)
    (ha : s.flowActive f = true) (hm : s.mirTransmits = true) (hh : (s.flow f).hdr ≠ []) (hc : s.canSend (s.flow f).lane = true) :
    ∃ t, onFlow f s g = .next t ∧ s.sentMsg t (s.requestMsg f kind)
      ∧ t.twl.sent.length = s.twl.sent.length + 1 ∧ t.twl.nextTag = (s.twl.nextTag + 1) % 65536
      ∧ s.counted t .MIR_TX_FRAMES_CNT (s.flow f).lane 1 ∧ t.flow f = (s.flow f).requested
      ∧ s.counted t .FLOW_MISS_CNT f (if (s.flow f).exch.waitsResponse then 1 else 0)
      ∧ s.onlyFlow t f ∧ s.frame t [.twl] [(.MIR_TX_FRAMES_CNT, (s.flow f).lane), (.FLOW_MISS_CNT, f), (.FLOW_STS, f)] := by
  obtain ⟨h0, h11⟩ := State.mode_of_mirTransmits hm
  have hact := State.request_flowActive (s.requestMsg f kind) (s.flow f).requested hf ha
  have htwl := s.missWaiting_twl f
  have hmiss := s.missWaiting_changesOnly f [] (words := [(.FLOW_MISS_CNT, f)]) (by simp)
  have kmiss : Rg.FLOW_MISS_CNT.key f = 0x13040c + 0x10 * f := rfl
  have ksts : Rg.FLOW_STS.key f = 0x130408 + 0x10 * f := rfl
  have ktx : Rg.MIR_TX_FRAMES_CNT.key (s.flow f).lane = 0x140124 + 0x40 * (s.flow f).lane := rfl
  refine ⟨_, onFlow_acts g hf ha h0 h11, ?_⟩
  rw [hg, State.sendRequest_eq kind hh hc]
  refine ⟨?_, ?_, ?_, ?_, ?_, State.showFlow_counted hact ?_, fun k hk => ?_, ?_⟩
  · refine State.sentMsg_congr ((s.missWaiting f).send_sentMsg (s.requestMsg f kind)) htwl (hmiss.part .dev (by simp)) ?_ ?_ <;>
    · rw [State.settle_twl, (State.showFlow_changesOnly hact).part .twl (by simp)]
      rfl
  · rw [State.settle_twl, (State.showFlow_changesOnly hact).part .twl (by simp), State.setFlow_sent, State.send_sent_length, htwl]
  · rw [State.settle_twl, (State.showFlow_changesOnly hact).part .twl (by simp), ← htwl]
    rfl
  · rw [State.counted, State.settle_rd_of, (State.showFlow_changesOnly hact).rd_eq (by simp only [List.forall_mem_singleton]; omega),
      ← hmiss.rd_eq (r := .MIR_TX_FRAMES_CNT) (i := (s.flow f).lane) (by simp only [List.forall_mem_singleton]; omega)]
    exact (s.missWaiting f).rd_inc_same .MIR_TX_FRAMES_CNT (s.flow f).lane
  · rw [State.settle_flow, State.showFlow_flow hact, State.flow_setFlow_same]
  · have hsend : (((s.missWaiting f).send (s.requestMsg f kind)).setFlow f (s.flow f).requested).rd .FLOW_MISS_CNT f
        = (s.missWaiting f).rd .FLOW_MISS_CNT f :=
      (s.missWaiting f).send_rd_ne (s.requestMsg f kind) (Rg.txFrames_key_ne _ (by omega))
    rw [State.counted, hsend]
    exact s.missWaiting_counts f
  · rw [State.settle_flow, State.showFlow_flow hact, State.flow_setFlow_ne _ _ hk.symm, State.send_flow, State.flow, htwl, State.flow]
  · exact ((((hmiss.mono (by simp) (by simp)).trans (State.send_changesOnly _ _ (by simp) (by simp [State.requestMsg]))).trans
      (State.setFlow_changesOnly _ f _ _ (by simp))).trans ((State.showFlow_changesOnly hact).mono (by simp) (by simp))).frame

/-- R191: an event of a flow whose lane may not send. -/
theorem onFlow_requestMissed_effect {s : State} {f : Nat} {g : State → State} (kind : MsgKind) (hg : g s = s.sendRequest f kind) (hf : f < 64)
    (ha : s.flowActive f = true) (hm : s.mirTransmits = true) (hh : (s.flow f).hdr ≠ []) (hc : s.canSend (s.flow f).lane = false) :
    ∃ t, onFlow f s g = .next t ∧ t.flow f = s.flow f ∧ s.counted t .FLOW_MISS_CNT f 1
      ∧ s.onlyFlow t f ∧ s.frame t [.twl] [(.FLOW_MISS_CNT, f), (.FLOW_STS, f)] := by
  obtain ⟨h0, h11⟩ := State.mode_of_mirTransmits hm
  have hne : (s.flow f).hdr.isEmpty = false := by simpa using hh
  have hmiss : g s = s.missExchange f := by
    rw [hg, State.sendRequest]
    simp [hne, hc]
  have hch : s.changesOnly (s.missExchange f) [] [(.FLOW_MISS_CNT, f)] := s.changesOnly_inc .FLOW_MISS_CNT f _ (by simp)
  have hact := (hch.flowActive_eq hf).trans ha
  have hflow (k : Nat) : ((s.missExchange f).showFlow f).settle.flow k = s.flow k := by
    rw [State.settle_flow, State.showFlow_flow hact]
    rfl
  refine ⟨_, onFlow_acts g hf ha h0 h11, ?_⟩
  rw [hmiss]
  exact ⟨hflow f, State.showFlow_counted hact (s.rd_inc_same .FLOW_MISS_CNT f), fun k _ => hflow k,
    ((hch.mono (by simp) (by simp)).trans ((State.showFlow_changesOnly hact).mono (by simp) (by simp))).frame⟩

/-! ### The timeouts and the requests -/

theorem exec_announceReceiptTimeout_effect {s : State} {f : Nat} (hf : f < 64) (ha : s.flowActive f = true) (h0 : s.mode ≠ 0)
    (h11 : s.mode ≠ 11) (ht : (s.flow f).annTick ≠ some s.dev.tick) :
    ∃ t, exec (.announceReceiptTimeout f) s = .next t
      ∧ t.flow f = { s.flow f with announce := none, lastAnn := none, annSeen := 0, annTick := none } ∧ t.get FLOW_STS.STATE f = 1
      ∧ s.onlyFlow t f ∧ s.frame t [.twl] [(.FLOW_STS, f)] := by
  obtain ⟨t, he, hflow, hstate, hrest⟩ := onFlow_setFlow_effect (g := fun s => if (s.flow f).annTick = some s.dev.tick then s
    else s.setFlow f { s.flow f with announce := none, lastAnn := none, annSeen := 0, annTick := none }) _ (if_neg ht) hf ha h0 h11
  refine ⟨t, he, hflow, ?_, hrest⟩
  have hact : (s.setFlow f { s.flow f with announce := none, lastAnn := none, annSeen := 0, annTick := none }).flowActive f = true :=
    ((s.setFlow_changesOnly f _ (parts := [.twl]) [(.FLOW_MISS_CNT, f)] (by simp)).flowActive_eq hf).trans ha
  rw [hstate, State.flowState, hact]
  simp

theorem exec_syncReceiptTimeout_effect {s : State} {f : Nat} (hf : f < 64) (ha : s.flowActive f = true) (h0 : s.mode ≠ 0)
    (h11 : s.mode ≠ 11) (ht : (s.flow f).syncTick ≠ some s.dev.tick) :
    ∃ t, exec (.syncReceiptTimeout f) s = .next t
      ∧ t.flow f = { s.flow f with syncOk := false } ∧ t.get FLOW_STS.STATE f ≠ 4
      ∧ s.onlyFlow t f ∧ s.frame t [.twl] [(.FLOW_STS, f)] := by
  obtain ⟨t, he, hflow, hstate, hrest⟩ := onFlow_setFlow_effect (g := fun s => if (s.flow f).syncTick = some s.dev.tick then s
    else s.setFlow f { s.flow f with syncOk := false }) _ (if_neg ht) hf ha h0 h11
  refine ⟨t, he, hflow, ?_, hrest⟩
  intro h4
  have hsync := State.flowState_syncOk (hstate.symm.trans h4)
  rw [State.flow_setFlow_same] at hsync
  cases hsync

/-- What the end of RESP_WIN does to a flow (R159). -/
def State.exchangeTimeout (s : State) (f : Nat) : State :=
  let x := s.flow f
  if x.exch.followDue then
    (s.setFlow f { x with exch := { x.exch with followDue := false, t1 := none, t2 := [], cSync := 0 } }).missExchange f
  else if x.exch.waitsResponse then s.missRequest f
  else s

theorem exec_exchangeResponseTimeout (f : Nat) (s : State) :
    exec (.exchangeResponseTimeout f) s = onFlow f s (·.exchangeTimeout f) := .trans (.refl _) rfl

/-- R120, R159: a request that is due by the mechanism of its flow is sent. -/
theorem exec_requestDue {s : State} {f : Nat} {pd : Bool} (hm : s.mirTransmits = true) (hpd : s.flowPeerDelay f = pd) :
    ∃ g : State → State, g s = s.sendRequest f (if pd then .pdelayReq f else .delayReq f)
      ∧ exec (if pd then .pdelayReqDue f else .delayReqDue f) s = onFlow f s g := by
  cases pd with
  | false =>
    exact ⟨fun s => if s.flowPeerDelay f || !s.mirTransmits then s else s.sendRequest f (.delayReq f), if_neg (by simp [hpd, hm]),
      .trans (.refl _) rfl⟩
  | true =>
    exact ⟨fun s => if s.flowPeerDelay f && s.mirTransmits then s.sendRequest f (.pdelayReq f) else s, if_pos (by simp [hpd, hm]),
      .trans (.refl _) rfl⟩

/-- Settles O22: a timeout changes what the flow holds and its shown state; a request leaves on the lane of the last Sync or is missed. -/
theorem flowTimeoutsAndRequests : Obligations.FlowTimeoutsAndRequests := by
  unfold Obligations.FlowTimeoutsAndRequests
  refine ⟨fun s f hf ha h0 h11 => ⟨exec_announceReceiptTimeout_effect hf ha h0 h11, exec_syncReceiptTimeout_effect hf ha h0 h11,
    fun hdue => ?_, fun hdue hw => ?_⟩, fun s f pd hf ha hm hpd hh => ?_⟩
  · rw [exec_exchangeResponseTimeout]
    exact onFlow_missExchange_effect _ (if_pos hdue) hf ha h0 h11
  · rw [exec_exchangeResponseTimeout]
    exact onFlow_missExchange_effect _ ((if_neg (by simp [hdue])).trans (if_pos hw)) hf ha h0 h11
  · obtain ⟨g, hg, he⟩ := exec_requestDue (f := f) hm hpd
    rw [he]
    exact ⟨onFlow_requestLeaves_effect _ hg hf ha hm hh, onFlow_requestMissed_effect _ hg hf ha hm hh⟩

end Sys2Proof.Machine

namespace Sys2Proof.Machine

/-! ### The order of a lane (R186) -/

theorem State.lane_setLane_same (s : State) (l : Nat) (x : LaneOrder) : (s.setLane l x).lane l = x := by
  simp [State.lane, State.setLane]

theorem State.lane_setLane_ne (s : State) {l k : Nat} (x : LaneOrder) (h : l ≠ k) : (s.setLane l x).lane k = s.lane k := by
  simp [State.lane, State.setLane, Tab.get_set_ne _ _ _ h]

theorem State.settle_lane (s : State) (l : Nat) : s.settle.lane l = s.lane l := by rw [State.lane, State.settle_intake, State.lane]

theorem State.add_lane (s : State) (r : Rg) (n i l : Nat) : (s.add r n i).lane l = s.lane l := by rw [State.lane, State.add_intake, State.lane]

/-- R186: E moves to the number of the one held frame, which is released, and the numbers before it are passed. -/
theorem LaneOrder.moveTo_single {x : LaneOrder} {d : Decided} {e n : Nat} (hheld : x.held = [d])
    (hn : n = (d.frame.stamp.seq + 65536 - e) % 65536) (he : e < 65536) (hs : d.frame.stamp.seq < 65536) :
    x.moveTo e n = ({ x with expect := some ((d.frame.stamp.seq + 1) % 65536), held := [], ready := x.ready ++ [d] }, n) := by
  have hpassed : (List.range n).filterMap (fun j => x.held.find? (·.frame.stamp.seq == (e + j) % 65536)) = [] := by
    rw [List.filterMap_eq_nil_iff]
    intro j hj
    have hlt := List.mem_range.mp hj
    have hne : (e + j) % 65536 ≠ d.frame.stamp.seq := by omega
    simp [hheld, Ne.symm hne]
  have hkept : x.held.filter (fun d => !decide ((d.frame.stamp.seq + 65536 - e) % 65536 < n)) = [d] := by
    simp [hheld, hn]
  have hnum : (e + n) % 65536 = d.frame.stamp.seq := by omega
  have hdrain : drainHeld 256 d.frame.stamp.seq [d] x.ready = ((d.frame.stamp.seq + 1) % 65536, [], x.ready ++ [d]) := by
    simp [drainHeld]
  simp only [LaneOrder.moveTo, hpassed, hkept, hnum, List.append_nil, hdrain, List.length_nil, Nat.sub_zero]

theorem exec_reorderTimeout_effect {s : State} {l e : Nat} {d : Decided} (hl : l < 4) (hr : s.intakeRuns = true) (hheld : (s.lane l).held = [d])
    (hexp : (s.lane l).expect = some e) (he : e < 65536) (hs : d.frame.stamp.seq < 65536) :
    ∃ t, exec (.reorderTimeout l) s = .next t
      ∧ t.lane l = { s.lane l with
          expect := some ((d.frame.stamp.seq + 1) % 65536), held := [], ready := (s.lane l).ready ++ [d] }
      ∧ s.counted t .MIR_SEQ_GAP_CNT l ((d.frame.stamp.seq + 65536 - e) % 65536)
      ∧ s.onlyLane t l ∧ s.frame t [.intake] [(.MIR_SEQ_GAP_CNT, l)] := by
  have hmin : (s.lane l).held.foldl (fun m d => min m ((d.frame.stamp.seq + 65536 - ((s.lane l).expect.getD 0)) % 65536)) 65535
      = (d.frame.stamp.seq + 65536 - e) % 65536 := by
    simp only [hheld, hexp, List.foldl_cons, List.foldl_nil, Option.getD_some]
    omega
  have hmove := LaneOrder.moveTo_single hheld rfl he hs
  have hexec : exec (.reorderTimeout l) s = _ := (onUnit_next _ _ _ _ hl).trans (congrArg done (if_neg (by simp [hheld, hr])))
  dsimp only at hexec
  rw [hmin, hexp, Option.getD_some, hmove] at hexec
  refine ⟨_, hexec, ?_, ?_, fun k hk => ?_, ?_⟩
  · rw [State.settle_lane, State.add_lane, State.lane_setLane_same]
  · rw [State.counted, State.settle_rd_of, State.rd_add_same]
    rfl
  · rw [State.settle_lane, State.add_lane, State.lane_setLane_ne _ _ hk.symm]
  · exact ((s.changesOnly_intake _ _ (by simp)).trans (State.changesOnly_add _ _ _ l _ (by simp))).frame

/-! ### Fragments and the slow path (R182, R298) -/

theorem exec_fragmentEntryAged_old {s : State} {e : Nat} {x : FragEntry} (he : e < 256) (hx : s.frag e = some x)
    (hold : x.at_ + 2000 ≤ s.dev.tick) :
    ∃ t, exec (.fragmentEntryAged e) s = .next t
      ∧ t.intake = { s.intake with frags := Tab.set none s.intake.frags e none } ∧ s.frame t [.intake] [(.PARSE_FRAG_STS, 0)] := by
  refine ⟨_, (onUnit_next _ _ _ _ he).trans (congrArg done (if_pos (by simp [hx, hold]))), ?_, ?_⟩
  · rw [State.settle_intake]
    exact State.set_intake _ _ _ _
  · exact ((s.changesOnly_intake _ _ (by simp)).trans (State.changesOnly_set _ PARSE_FRAG_STS.USED _ 0 _ (by simp))).frame

theorem exec_fragmentEntryAged_young {s : State} {e : Nat} {x : FragEntry} (he : e < 256) (hx : s.frag e = some x)
    (hyoung : s.dev.tick < x.at_ + 2000) : ∃ t, exec (.fragmentEntryAged e) s = .next t ∧ s.frame t [] [] :=
  ⟨_, (onUnit_next _ _ _ _ he).trans (congrArg done (if_neg (by simp [hx, hyoung]))), (s.changesOnly_refl _ _).frame⟩

theorem exec_slowPathEntryConsumed_effect {s : State} {e : SlowEntry} {es : List SlowEntry} (hf : s.on MGMT_STS.FW_RUN = true)
    (hs : s.intake.slow = e :: es) :
    ∃ t, exec .slowPathEntryConsumed s = .next t ∧ t.intake = { s.intake with slow := es }
      ∧ t.rd .PARSE_SLOW_STS = PARSE_SLOW_STS.DEPTH.put (s.rd .PARSE_SLOW_STS) es.length ∧ s.frame t [.intake] [(.PARSE_SLOW_STS, 0)] := by
  have hexec : exec .slowPathEntryConsumed s
      = done { s.set PARSE_SLOW_STS.DEPTH es.length with intake := { s.intake with slow := es } } :=
    congrArg done ((if_pos hf).trans (by rw [hs]))
  refine ⟨_, hexec, rfl, ?_, ?_⟩
  · rw [State.settle_rd_of, State.mk_rd, s.rd_set_same _ _ _ rfl]
  · exact ((s.changesOnly_set PARSE_SLOW_STS.DEPTH _ 0 _ (by simp)).trans (State.changesOnly_intake _ _ _ (by simp))).frame

/-! ### The swap of the banks (R184, R192) -/

theorem State.hostReg_bankSwap {s : State} {p : Port} (hs : s.reaches p .PARSE_BANK_CMD 0) (h7 : s.mode ≠ 7) (h11 : s.mode ≠ 11) :
    s.hostReg p .PARSE_BANK_CMD 0 1 = s.swapBanks p (Rg.PARSE_BANK_CMD.key 0) := by
  have hspend := s.spendKey_unguarded p (r := .PARSE_BANK_CMD) rfl
  have hlegal : s.notStep = none := by simp [State.notStep, State.notTest, unless_, h7, h11]
  rw [State.hostReg_executed (by decide) (by decide) (by decide) hs (by rfl), hspend, State.touched_uncovered _ (by decide)]
  show s.bitCmd p _ 1 0 s.notStep (fun s => s.swapBanks p _) = _
  rw [hlegal, State.bitCmd_executed (by decide)]

theorem State.defer_changesOnly (s : State) (p : Port) (a : Nat) :
    s.changesOnly (s.defer p a) [] [(.DEV_DEFER_CNT, 0), (.DEV_CMD_STATUS, 0)] :=
  (s.changesOnly_wr .DEV_CMD_STATUS 0 _ _ (by simp)).trans (State.changesOnly_inc _ .DEV_DEFER_CNT 0 _ (by simp))

theorem State.defer_counts (s : State) (p : Port) (a : Nat) : s.counted (s.defer p a) .DEV_DEFER_CNT 0 1 := by
  rw [State.counted, State.defer, State.rd_inc_same, State.record, s.rd_wr_ne _ (by decide)]

theorem done_swapBanks_waits {s : State} (p : Port) (a : Nat) (hswap : s.on PARSE_BANK_CMD.SWAP = false)
    (hr : s.on PARSE_BANK_STS.RETIRING = false) :
    (s.swapBanks p a).settle.rd .PARSE_BANK_CMD = PARSE_BANK_CMD.SWAP.put (s.rd .PARSE_BANK_CMD) 1
      ∧ s.frame (s.swapBanks p a).settle [] [(.PARSE_BANK_CMD, 0)] := by
  have hr' : (s.set PARSE_BANK_CMD.SWAP 1).on PARSE_BANK_STS.RETIRING = false := by
    rw [State.on, s.get_set_ne _ _ _ _ _ (by decide)]
    exact hr
  have heq : s.swapBanks p a = s.set PARSE_BANK_CMD.SWAP 1 := by
    simp [State.swapBanks, hswap, State.cond, hr']
  rw [heq]
  exact ⟨(State.settle_rd_of _ _ _).trans (s.rd_set_same _ _ _ rfl), (s.changesOnly_set _ _ _ _ (by simp)).frame⟩

theorem done_swapBanks_deferred {s : State} (p : Port) (a : Nat) (hswap : s.on PARSE_BANK_CMD.SWAP = false)
    (hr : s.on PARSE_BANK_STS.RETIRING = true) :
    let t := (s.swapBanks p a).settle
    t.rd .PARSE_BANK_CMD = PARSE_BANK_CMD.SWAP.put (s.rd .PARSE_BANK_CMD) 1
      ∧ t.rd .PARSE_BANK_STS = PARSE_BANK_STS.DEFER.put (s.rd .PARSE_BANK_STS) 1
      ∧ s.counted t .PARSE_SWAP_DEFER_CNT 0 1 ∧ s.counted t .DEV_DEFER_CNT 0 1
      ∧ s.frame t [] [(.PARSE_BANK_CMD, 0), (.PARSE_BANK_STS, 0), (.PARSE_SWAP_DEFER_CNT, 0), (.DEV_DEFER_CNT, 0), (.DEV_CMD_STATUS, 0)] := by
  have hr' : (s.set PARSE_BANK_CMD.SWAP 1).on PARSE_BANK_STS.RETIRING = true := by
    rw [State.on, s.get_set_ne _ _ _ _ _ (by decide)]
    exact hr
  generalize hu : ((s.set PARSE_BANK_CMD.SWAP 1).set PARSE_BANK_STS.DEFER 1).inc .PARSE_SWAP_DEFER_CNT = u
  have heq : s.swapBanks p a = u.defer p a := by
    simp [State.swapBanks, hswap, State.cond, hr', hu]
  have hdefer := u.defer_changesOnly p a
  dsimp only
  rw [heq]
  refine ⟨?_, ?_, ?_, ?_, ?_⟩
  · rw [State.settle_rd_of, hdefer.rd_eq (by decide), ← hu, State.rd_inc_ne _ _ _ (by decide), State.rd_set_ne _ _ _ _ (by decide),
      s.rd_set_same _ _ _ rfl]
  · rw [State.settle_rd_of, hdefer.rd_eq (by decide), ← hu, State.rd_inc_ne _ _ _ (by decide), State.rd_set_same _ _ _ _ rfl,
      s.rd_set_ne _ _ _ (by decide)]
  · rw [State.counted, State.settle_rd_of, hdefer.rd_eq (by decide), ← hu, State.rd_inc_same, State.rd_set_ne _ _ _ _ (by decide),
      s.rd_set_ne _ _ _ (by decide)]
  · have hcnt : u.rd .DEV_DEFER_CNT = s.rd .DEV_DEFER_CNT := by
      rw [← hu, State.rd_inc_ne _ _ _ (by decide), State.rd_set_ne _ _ _ _ (by decide), s.rd_set_ne _ _ _ (by decide)]
    rw [State.counted, State.settle_rd_of, ← hcnt]
    exact u.defer_counts p a
  · rw [← hu] at hdefer
    rw [← hu]
    exact ((((s.changesOnly_set PARSE_BANK_CMD.SWAP 1 0 _ (by simp)).trans (State.changesOnly_set _ PARSE_BANK_STS.DEFER 1 0 _ (by simp))).trans
      (State.changesOnly_inc _ .PARSE_SWAP_DEFER_CNT 0 _ (by simp))).trans (hdefer.mono (by simp) (by simp))).frame

/-- Settles O29: the held frame is the only one below its own number, so the move of E releases it and counts what is missing. -/
theorem intakeHousekeeping : Obligations.IntakeHousekeeping := by
  unfold Obligations.IntakeHousekeeping
  refine ⟨fun s l e d hl hr hheld hexp he hs _ => exec_reorderTimeout_effect hl hr hheld hexp he hs,
    fun s e x he hx => ⟨exec_fragmentEntryAged_old he hx, exec_fragmentEntryAged_young he hx⟩,
    fun s p hs h7 h11 hswap => ?_, fun s e es => exec_slowPathEntryConsumed_effect⟩
  have hexec : exec (.bankSwap p) s = .next (s.swapBanks p (Rg.PARSE_BANK_CMD.key 0)).settle :=
    congrArg done (State.hostReg_bankSwap hs h7 h11)
  exact ⟨fun hr => ⟨_, hexec, done_swapBanks_waits p _ hswap hr⟩, fun hr => ⟨_, hexec, done_swapBanks_deferred p _ hswap hr⟩⟩

end Sys2Proof.Machine

namespace Sys2Proof.Machine

/-! ### Words and bits -/

/-- A number of `w` bits stays one when one of them is set or cleared. -/
theorem withBit_lt {n k w : Nat} (b : Bool) (hn : n < 2 ^ w) (hk : k < w) : withBit n k b < 2 ^ w := by
  cases b with
  | false => exact Nat.lt_of_le_of_lt (withBit_false_le n k) hn
  | true =>
    unfold withBit
    split
    · exact hn
    · rename_i hbit
      obtain ⟨j, rfl⟩ : ∃ j, w = k + 1 + j := ⟨w - (k + 1), by omega⟩
      have hpos : 0 < 2 ^ k := by positivity
      have hsplit : 2 ^ (k + 1 + j) = 2 ^ k * (2 * 2 ^ j) := by ring
      have hq : n / 2 ^ k < 2 * 2 ^ j := Nat.div_lt_of_lt_mul (hsplit ▸ hn)
      simp only [bitOf, beq_true, beq_iff_eq] at hbit
      rw [if_pos rfl, hsplit, Nat.mul_comm, ← Nat.div_lt_iff_lt_mul hpos, Nat.add_div_right _ hpos]
      omega

/-- A field reads what was written where the mask takes all its bits. -/
theorem Fld.of_mergeMask {f : Fld} (old new : Word) {mask : Nat} (hf : f.ok = true)
    (h : ∀ k < f.hi - f.lo + 1, mask.testBit (k + f.lo) = true) : f.of (mergeMask old new mask) = f.of new := by
  simp only [Fld.ok, Bool.and_eq_true, decide_eq_true_eq] at hf
  refine Nat.eq_of_testBit_eq fun k => ?_
  simp only [Fld.of, bitsOf, Nat.testBit_mod_two_pow, Nat.testBit_div_two_pow]
  by_cases hk : k < f.hi - f.lo + 1
  · have hlt : k + f.lo < 32 := by omega
    simp only [hk, mergeMask, BitVec.testBit_toNat, BitVec.getLsbD_or, BitVec.getLsbD_and, BitVec.getLsbD_not, BitVec.getLsbD_ofNat, hlt,
      h k hk]
    simp
  · simp [hk]

/-! ### Writes that are rejected or disarm (R332, R341) -/

/-- R332: a rejected item: its record, its count and the flag of its port. -/
theorem State.reject_effect (s : State) {reason : Nat} (p : Port) (a : Nat) (hr : reason < 16) :
    (s.reject reason p a).get DEV_CMD_STATUS.REASON = reason ∧ s.counted (s.reject reason p a) .DEV_REJECT_CNT 0 1
      ∧ s.changesOnly (s.reject reason p a) [.dev] [(.DEV_CMD_STATUS, 0), (.DEV_REJECT_CNT, 0)] := by
  obtain ⟨d, hd⟩ := ((s.record reason p a).inc .DEV_REJECT_CNT).setPort_eq p { s.port p with reject := true }
  have hcode : portCode p < 4 := by cases p <;> decide
  have haddr : a % 2 ^ 24 < 2 ^ 24 := Nat.mod_lt _ (by decide)
  have hreason : DEV_CMD_STATUS.REASON.of (BitVec.ofNat 32 (reason * 2 ^ 28 + portCode p * 2 ^ 26 + a % 2 ^ 24)) = reason := by
    simp only [Fld.of, bitsOf, BitVec.toNat_ofNat]
    omega
  unfold State.reject
  rw [hd]
  refine ⟨?_, ?_, ?_⟩
  · rw [State.mk_get, State.get_inc_ne _ _ _ _ _ (by decide), State.get, State.record, State.rd_wr_same, hreason]
  · rw [State.counted, State.mk_rd, State.rd_inc_same, State.record, s.rd_wr_ne _ (by decide)]
  · exact ((s.changesOnly_wr .DEV_CMD_STATUS 0 _ _ (by simp)).trans (State.changesOnly_inc _ .DEV_REJECT_CNT 0 _ (by simp))).trans
      (State.changesOnly_dev _ d _ (by simp))

/-- R332: an unguarded item that its legality table rejects. -/
theorem State.hostReg_rejected {s : State} {p : Port} {r : Rg} {i e : Nat} {w : Word} (ha : r.ownsAddress i) (hr : r.isItem i)
    (hk : r ≠ .DEV_KEY) (hg : r.info.guard = false) (hs : s.reaches p r i) (hj : s.judge r w = some e) :
    s.hostReg p r i w = s.reject e p (r.key i) := by
  obtain ⟨hcnt, hgrp, hmask⟩ := hr
  rw [State.hostReg_eq_writeWord w ha hs, State.writeWord_open w hk hs, s.spendKey_unguarded p hg]
  simp only [State.writeReg, hcnt, hgrp, hj, if_neg hmask, ne_eq, not_true_eq_false, if_false, Bool.false_eq_true]

theorem done_modeReq_rejected {s : State} {p : Port} {w : Word} {e : Nat} (he : e < 16) (hs : s.reaches p .DEV_MODE_REQ 0)
    (hj : s.judgeMode (w.toNat % 16) = some e) :
    ∃ t, done (s.hostReg p .DEV_MODE_REQ 0 w) = .next t ∧ t.get DEV_CMD_STATUS.REASON = e ∧ s.counted t .DEV_REJECT_CNT 0 1
      ∧ s.frame t [.dev] [(.DEV_CMD_STATUS, 0), (.DEV_REJECT_CNT, 0)] := by
  have hjudge : s.judge .DEV_MODE_REQ w = some e := by
    show orElse (s.judgeMode (w.toNat % 16)) (unless_ true 4) = some e
    rw [hj]
    rfl
  obtain ⟨hreason, hcount, hch⟩ := s.reject_effect p (Rg.DEV_MODE_REQ.key 0) he
  rw [State.hostReg_rejected (by decide) (by decide) (by decide) rfl hs hjudge]
  refine ⟨_, rfl, ?_, ?_, hch.frame⟩
  · rw [State.settle_get_of, hreason]
  · rw [State.counted, State.settle_rd_of]
    exact hcount

/-- R333: in STANDBY_STEP every request but SERVICE waits for the unit to leave it. -/
theorem State.judgeMode_step {s : State} {v : Nat} (hm : s.mode = 7) (hv : v ∈ [15, 3, 6]) : s.judgeMode v = some 3 := by
  simp only [List.mem_cons, List.not_mem_nil, or_false] at hv
  rcases hv with rfl | rfl | rfl <;> simp [State.judgeMode, hm]

/-- R24: a value that R24 does not name is out of range. -/
theorem State.judgeMode_unknown {s : State} {v : Nat} (hm : s.mode ≠ 11) (hv : v < 16) (hk : modeReqKnown v = false) :
    s.judgeMode v = some 4 := by
  have hne : v ≠ 15 ∧ v ≠ 3 ∧ v ≠ 6 ∧ v ≠ 10 := by
    simpa only [modeReqKnown, Nat.mod_eq_of_lt hv, Bool.or_eq_false_iff, beq_eq_false_iff_ne, and_assoc] using hk
  obtain ⟨h15, h3, h6, h10⟩ := hne
  unfold State.judgeMode
  rw [if_neg hm]
  split
  · omega
  · omega
  · omega
  · omega
  · rfl

/-- R341: a write to a covered word disarms the comparison. -/
theorem State.touched_armed (s : State) {r : Rg} (h : r.covered = true) : (s.touched r).on CFG_CRC_CTL.ARMED = false := by
  have hget : (s.set CFG_CRC_CTL.ARMED 0).get CFG_CRC_CTL.ARMED = 0 := s.get_set_same _ _ _ (by decide)
  rw [State.touched, if_pos h, State.disarm, State.mk_on, State.on, hget]
  rfl

theorem State.touched_ramping (s : State) (r : Rg) : (s.touched r).dev.ramping = s.dev.ramping := by
  unfold State.touched
  split <;> rfl

theorem State.settle_port (s : State) (p : Port) : s.settle.port p = s.port p := by rw [State.port, State.port, State.settle_dev]

/-! ### The commands of a channel (R61, R66) -/

/-- R61: a command of a channel joins the bits of its word that wait already. -/
theorem State.joinGroup_shadow {s : State} {p : Port} {c : Nat} (w : Word) (hp : isHost p = true) (hs : s.pair.streaming = false) :
    Tab.get none (s.joinGroup p .CH_CMD c w).dev.shadow (Rg.key .CH_CMD c) = some (s.shadowWord .CH_CMD c ||| w) := by
  obtain ⟨d, hd⟩ := s.setPort_eq p { s.port p with open_ := (s.port p).open_ ++ [⟨.CH_CMD, c, w⟩] }
  simp only [State.joinGroup, hp, if_true, hd, hs, Bool.false_eq_true, if_false, Tab.get_set_same]

theorem onUnit_chCmd_joins {s : State} {p : Port} {c : Nat} (w : Word) (hp : isHost p = true) (hc : c < 512) (hs : s.reaches p .CH_CMD c)
    (hstr : s.pair.streaming = false) :
    ∃ t, onUnit c 512 s (s.hostReg p .CH_CMD c w) = .next t ∧ (t.port p).open_ = (s.port p).open_ ++ [⟨.CH_CMD, c, w⟩]
      ∧ Tab.get none t.dev.shadow (Rg.key .CH_CMD c) = some (s.shadowWord .CH_CMD c ||| w) ∧ s.frame t [.dev] [] := by
  have hjoin : s.hostReg p .CH_CMD c w = s.joinGroup p .CH_CMD c w := by
    rw [State.hostReg_eq_writeWord w (Rg.ownsAddress_CH_CMD hc) hs, State.writeWord_open w (by decide) hs, s.spendKey_unguarded p rfl]
    rfl
  obtain ⟨hopen, hch⟩ := s.joinGroup_host .CH_CMD c w hp
  rw [onUnit_next _ _ _ _ hc, hjoin]
  refine ⟨_, rfl, ?_, ?_, hch.frame⟩
  · rw [State.settle_port, hopen]
  · rw [State.settle_dev, State.joinGroup_shadow w hp hstr]

/-! ### The frequency counter (R269) -/

/-- R269: the word that a start stores. -/
def State.freqWord (s : State) (w : Word) : Word := mergeMask (s.rd .CLK_FC_CTL) w Rg.CLK_FC_CTL.info.cfg

/-- R269: a word that starts a count, in range. -/
theorem State.hostReg_freqStart {s : State} {p : Port} {w : Word} (hs : s.reaches p .CLK_FC_CTL 0) (h11 : s.mode ≠ 11)
    (hstart : CLK_FC_CTL.START.of w = 1) (hlo : 10 ≤ CLK_FC_CTL.GATE.of w) (hhi : CLK_FC_CTL.GATE.of w ≤ 30)
    (ht : CLK_FC_CTL.TGT.of w < 56) (hr : CLK_FC_CTL.REF.of w < 56) :
    s.hostReg p .CLK_FC_CTL 0 w
      = ((s.wr .CLK_FC_CTL 0 (s.freqWord w)).freqStart (CLK_FC_CTL.START.put (s.freqWord w) 1)).touched .CLK_FC_CTL := by
  have hbit : bitOf w.toNat 31 = true := by
    simp only [bitOf, beq_iff_eq]
    exact hstart
  have hjudge : s.judge .CLK_FC_CTL w = none := by
    show orElse none (unless_ (decide (10 ≤ CLK_FC_CTL.GATE.of w) && decide (CLK_FC_CTL.GATE.of w ≤ 30)) 4) = none
    simp only [hlo, hhi, decide_true]
    rfl
  have hspend := s.spendKey_unguarded p (r := .CLK_FC_CTL) rfl
  have hmode : (s.wr .CLK_FC_CTL 0 (s.freqWord w)).mode ≠ 11 := by
    rwa [State.mode, State.get, s.rd_wr_ne _ (by decide)]
  have hlegal : orElse (s.wr .CLK_FC_CTL 0 (s.freqWord w)).notTest (unless_ (CLK_FC_CTL.TGT.of w < 56 && CLK_FC_CTL.REF.of w < 56) 4)
      = none := by
    simp only [State.notTest, bne_iff_ne.mpr hmode, ht, hr, decide_true]
    rfl
  rw [State.hostReg_executed (by decide) (by decide) (by decide) hs (by rw [hspend]; exact hjudge), hspend]
  have hcmd : s.freqCmd p (Rg.CLK_FC_CTL.key 0) w = State.bitCmd (s.wr .CLK_FC_CTL 0 (s.freqWord w)) p (Rg.CLK_FC_CTL.key 0) w 31
      (orElse (s.wr .CLK_FC_CTL 0 (s.freqWord w)).notTest (unless_ (CLK_FC_CTL.TGT.of w < 56 && CLK_FC_CTL.REF.of w < 56) 4))
      (·.freqStart (CLK_FC_CTL.START.put (s.freqWord w) 1)) := rfl
  show (s.freqCmd p _ w).touched _ = _
  rw [hcmd, hlegal, State.bitCmd_executed hbit]

/-- The fields of the counter's word that a write takes, and that START leaves. -/
theorem State.freqWord_get (s : State) (w : Word) {f : Fld} (hok : f.ok = true) (ha : CLK_FC_CTL.START.apart f = true)
    (hmask : ∀ k < f.hi - f.lo + 1, Rg.CLK_FC_CTL.info.cfg.testBit (k + f.lo) = true) :
    f.of (CLK_FC_CTL.START.put (s.freqWord (CLK_FC_CTL.START.put w 1)) 1) = f.of w := by
  rw [Fld.of_put_apart _ _ _ _ (by decide) hok ha, State.freqWord, Fld.of_mergeMask _ _ hok hmask,
    Fld.of_put_apart _ _ _ _ (by decide) hok ha]

theorem exec_freqCountStart_effect {s : State} {p : Port} {w : Word} (hs : s.reaches p .CLK_FC_CTL 0) (h11 : s.mode ≠ 11)
    (hlo : 10 ≤ CLK_FC_CTL.GATE.of w) (hhi : CLK_FC_CTL.GATE.of w ≤ 30) (ht : CLK_FC_CTL.TGT.of w < 56) (hr : CLK_FC_CTL.REF.of w < 56) :
    ∃ t, exec (.freqCountStart p w) s = .next t
      ∧ t.on CLK_FC_CTL.START = true ∧ t.get CLK_FC_CTL.TGT = CLK_FC_CTL.TGT.of w ∧ t.get CLK_FC_CTL.GATE = CLK_FC_CTL.GATE.of w
      ∧ t.rd .CLK_STS = CLK_STS.FC_DONE.put (CLK_STS.FC_BUSY.put (s.rd .CLK_STS) 1) 0
      ∧ s.frame t [.dev] [(.CLK_FC_CTL, 0), (.CLK_STS, 0), (.CFG_CRC_CTL, 0)] := by
  have hstart : CLK_FC_CTL.START.of (CLK_FC_CTL.START.put w 1) = 1 := Fld.of_put_same _ w 1 (by decide)
  have hkept {f : Fld} (hf : f.ok = true) (ha : CLK_FC_CTL.START.apart f = true) : f.of (CLK_FC_CTL.START.put w 1) = f.of w :=
    Fld.of_put_apart _ f w 1 (by decide) hf ha
  have hgate := hkept (f := CLK_FC_CTL.GATE) (by decide) (by decide)
  have hreg := State.hostReg_freqStart hs h11 hstart (by rwa [hgate]) (by rwa [hgate]) (by rwa [hkept (by decide) (by decide)])
    (by rwa [hkept (by decide) (by decide)])
  generalize hm : s.freqWord (CLK_FC_CTL.START.put w 1) = m at hreg
  have hword : (s.hostReg p .CLK_FC_CTL 0 (CLK_FC_CTL.START.put w 1)).rd .CLK_FC_CTL = CLK_FC_CTL.START.put m 1 := by
    rw [hreg, State.touched_rd_ne _ _ (by decide), State.freqStart, State.rd_set_ne _ _ _ _ (by decide), State.rd_set_ne _ _ _ _ (by decide),
      State.rd_wr_same]
  have hget (f : Fld) (hf : f.r = .CLK_FC_CTL) :
      (s.hostReg p .CLK_FC_CTL 0 (CLK_FC_CTL.START.put w 1)).settle.get f = f.of (CLK_FC_CTL.START.put m 1) := by
    rw [State.settle_get_of, State.get, hf, hword]
  refine ⟨_, rfl, ?_, ?_, ?_, ?_, ?_⟩
  · rw [State.on, hget _ rfl, Fld.of_put_same _ _ _ (by decide)]
    rfl
  · rw [hget _ rfl, ← hm, s.freqWord_get w (by decide) (by decide) (by decide)]
  · rw [hget _ rfl, ← hm, s.freqWord_get w (by decide) (by decide) (by decide)]
  · rw [State.settle_rd_of, hreg, State.touched_rd_ne _ _ (by decide), State.freqStart, State.rd_set_same _ _ _ _ rfl,
      State.rd_set_same _ _ _ _ rfl, State.rd_wr_ne _ _ (by decide), s.rd_wr_ne _ (by decide)]
  · rw [hreg]
    exact (((((s.changesOnly_wr .CLK_FC_CTL 0 _ _ (by simp)).trans (State.changesOnly_wr _ .CLK_FC_CTL 0 _ _ (by simp))).trans
      (State.changesOnly_set _ CLK_STS.FC_BUSY 1 0 _ (by simp))).trans (State.changesOnly_set _ CLK_STS.FC_DONE 0 0 _ (by simp))).trans
      (State.touched_changesOnly _ _ (by simp) (by simp))).frame

/-! ### The gates (R268, R330) -/

/-- R330: the word that turns gate `b` on or off. -/
def gateWord (b : Nat) (on : Bool) : Word := BitVec.ofNat 32 (2 ^ (b + 16) + flag on * 2 ^ b)

/-- R330: the word asks for its gate only, under its mask. -/
theorem bitOf_gateWord : ∀ b < 13, ∀ on, bitOf (gateWord b on).toNat b = on
    ∧ ∀ k < 13, bitOf (gateWord b on).toNat (k + 16) = decide (k = b) := by decide

/-- R268: gate `b` changes, and its slice clock starts to ramp. -/
def State.rampGate (s : State) (b : Nat) (on : Bool) : State :=
  let t := s.setBit DEV_GATE.GATE b on
  { t.inc .CLK_RAMP_CNT with dev := { t.dev with ramping := t.dev.ramping.filter (·.1 != b) ++ [(b, 0)] } }

theorem State.writeGate_gateWord {s : State} {b : Nat} {on : Bool} (hb : b < 13) (h3 : 3 ≤ s.mode) (h10 : s.mode ≤ 10)
    (hoff : bitOf (s.get DEV_GATE.GATE) b = !on) : s.writeGate (gateWord b on) = s.rampGate b on := by
  obtain ⟨hon, hmask⟩ := bitOf_gateWord b hb on
  have hmode : (s.setBit DEV_GATE.GATE b on).mode = s.mode := s.get_set_ne _ DEV_MODE.MODE _ _ _ (by decide)
  unfold State.writeGate
  rw [State.upto_single hb fun k hk hkb u => ?_]
  · simp [hon, hmask b hb, hoff, hmode, h3, h10, State.rampGate]
  · simp [hmask k hk, hkb]

theorem exec_devGateWrite_effect {s : State} {p : Port} {b : Nat} {on : Bool} (hb : b < 13) (hs : s.reaches p .DEV_GATE 0)
    (h3 : 3 ≤ s.mode) (h10 : s.mode ≤ 10) (hoff : bitOf (s.get DEV_GATE.GATE) b = !on) :
    ∃ t, exec (.devGateWrite p (gateWord b on)) s = .next t
      ∧ t.get DEV_GATE.GATE = withBit (s.get DEV_GATE.GATE) b on ∧ s.counted t .CLK_RAMP_CNT 0 1
      ∧ t.dev.ramping = s.dev.ramping.filter (·.1 != b) ++ [(b, 0)]
      ∧ s.frame t [.dev] [(.DEV_GATE, 0), (.CLK_RAMP_CNT, 0), (.CFG_CRC_CTL, 0)] := by
  have hspend := s.spendKey_unguarded p (r := .DEV_GATE) rfl
  have hjudge : s.judge .DEV_GATE (gateWord b on) = none := by
    have hne : (s.mode != 11) = true := by simp; omega
    show orElse (unless_ (s.mode != 11) 1) (unless_ true 4) = none
    rw [hne]
    rfl
  have hreg : s.hostReg p .DEV_GATE 0 (gateWord b on) = (s.rampGate b on).touched .DEV_GATE := by
    rw [State.hostReg_executed (by decide) (by decide) (by decide) hs (by rw [hspend]; exact hjudge), hspend,
      ← State.writeGate_gateWord hb h3 h10 hoff]
    rfl
  refine ⟨_, congrArg done hreg, ?_, ?_, ?_, ?_⟩
  · have hlt : withBit (s.get DEV_GATE.GATE) b on < 2 ^ 13 := withBit_lt on (DEV_GATE.GATE.of_lt _) hb
    rw [State.settle_get_of, State.get, State.touched_rd_ne _ _ (by decide), State.rampGate, State.mk_rd, State.rd_inc_ne _ _ _ (by decide)]
    exact (s.get_set_same _ _ _ (by decide)).trans (Nat.mod_eq_of_lt hlt)
  · rw [State.counted, State.settle_rd_of, State.touched_rd_ne _ _ (by decide), State.rampGate, State.mk_rd, State.rd_inc_same,
      s.rd_setBit_ne _ _ _ _ (by decide)]
  · rw [State.settle_dev, State.touched_ramping]
    rfl
  · exact ((((s.changesOnly_setBit DEV_GATE.GATE b on 0 _ (by simp)).trans (State.changesOnly_inc _ .CLK_RAMP_CNT 0 _ (by simp))).trans
      (State.changesOnly_dev _ _ _ (by simp))).trans (State.touched_changesOnly _ _ (by simp) (by simp))).frame

theorem exec_gateRampStep_effect {s : State} {b n : Nat} (hb : b < 13) (hr : s.dev.ramping = [(b, n)]) :
    ∃ t, exec (.gateRampStep b) s = .next t
      ∧ t.dev = { s.dev with ramping := if n + 1 < 3 then [(b, n + 1)] else [] } ∧ s.frame t [.dev] [] := by
  refine ⟨_, onUnit_next _ _ _ _ hb, ?_, (s.changesOnly_dev _ _ (by simp)).frame⟩
  rw [State.settle_dev, hr]
  by_cases hn : n + 1 < 3 <;> simp [hn]

/-- Settles O52: each word reaches its register; the tables judge it, and the effect of what they execute is said once per register. -/
theorem registerCommands : Obligations.RegisterCommands := by
  unfold Obligations.RegisterCommands
  refine fun s p hp => ⟨fun i v hi hs hstr => ⟨fun hr => ?_, fun h7 hv => ?_⟩, fun v hv hk hs h11 => ?_, fun i b hi hs hm h0 hok => ?_,
    fun c b hc hs hstr hb => ?_, fun w hs h11 => ?_, fun w hs h11 hlo hhi ht hr => exec_freqCountStart_effect hs h11 hlo hhi ht hr,
    fun b on hb hs h3 h10 hoff => exec_devGateWrite_effect hb hs h3 h10 hoff, fun b n hb hr => exec_gateRampStep_effect hb hr⟩
  · simp only [List.mem_cons, Prod.mk.injEq, List.not_mem_nil, or_false] at hi
    rcases hi with ⟨rfl, rfl⟩ | ⟨rfl, rfl⟩ | ⟨rfl, rfl⟩ | ⟨rfl, rfl⟩ <;>
      exact done_modeReq_effect rfl (by decide) hs hstr hr
  · simp only [List.mem_cons, Prod.mk.injEq, List.not_mem_nil, or_false] at hi
    rcases hi with ⟨rfl, rfl⟩ | ⟨rfl, rfl⟩ | ⟨rfl, rfl⟩ | ⟨rfl, rfl⟩
    · exact done_modeReq_rejected (by decide) hs (State.judgeMode_step h7 (by decide))
    · exact done_modeReq_rejected (by decide) hs (State.judgeMode_step h7 (by decide))
    · exact done_modeReq_rejected (by decide) hs (State.judgeMode_step h7 (by decide))
    · exact absurd rfl hv
  · have hw : (BitVec.ofNat 32 v).toNat % 16 = v := by
      rw [BitVec.toNat_ofNat]
      omega
    have hexec : exec (.modeReqInvalid p v) s = done (s.hostReg p .DEV_MODE_REQ 0 (BitVec.ofNat 32 v)) := congrArg done (if_neg (by simp [hk]))
    rw [hexec]
    exact done_modeReq_rejected (by decide) hs (by rw [hw]; exact State.judgeMode_unknown h11 hv hk)
  · simp only [List.mem_cons, Prod.mk.injEq, List.not_mem_nil, or_false] at hi
    rcases hi with ⟨rfl, rfl⟩ | ⟨rfl, rfl⟩ | ⟨rfl, rfl⟩ <;>
      exact done_masterCmd_effect (by decide) hs hm h0 hok
  · rcases hb with rfl | rfl
    · exact onUnit_chCmd_joins 1 hp hc hs hstr
    · exact onUnit_chCmd_joins 2 hp hc hs hstr
  · obtain ⟨hrd, -, hch⟩ := State.hostReg_stored_effect w (r := .OUT_CTL) (by decide) h11 hs
    refine ⟨_, rfl, ?_, ?_, hch.frame⟩
    · rw [State.settle_rd_of, hrd]
    · rw [State.settle_on_of, State.hostReg_stored w (by decide) h11 hs, State.touched_armed _ (by decide)]

end Sys2Proof.Machine

namespace Sys2Proof.Machine

/-! ### Power-on reset (R271, R300) -/

/-- R271, R300: what power-on reset leaves, before its entry of the log. -/
def State.poweredOn (s : State) : State :=
  { State.reset with
    pending := s.pending, fuse := s.fuse, cal := { Cal.reset with slotA := s.cal.slotA, slotB := s.cal.slotB }, dmem := Tab.set 0 [] 528 s.free, free := s.free + 1
    pair := { Pair.reset with peerLow := s.pair.peerLow }
    rst := { Rst.reset with supplies := false, porstBall := s.rst.porstBall, wrstBall := s.rst.wrstBall }
    mgmt := { Mgmt.reset with t1 := s.mgmt.t1, t2 := s.mgmt.t2, t3 := s.mgmt.t3, pfwRails := s.mgmt.pfwRails } }

/-- R11: with every word as after reset the mode is RESET. -/
theorem State.mode_of_no_regs {s : State} (h : s.regs = []) : s.mode = 0 := by
  unfold State.mode State.get State.rd
  rw [h]
  decide

/-- R302: the log of a device that comes out of power-on reset is empty and its port idle, so the entry is taken. -/
theorem State.powerOn_eq (s : State) : ∃ m : Mgmt, s.powerOn = { s.poweredOn with mgmt := m } := by
  have hmode : s.poweredOn.get DEV_MODE.MODE = 0 := State.mode_of_no_regs rfl
  show ∃ m : Mgmt, s.poweredOn.modeLog s.mode 0 = { s.poweredOn with mgmt := m }
  unfold State.modeLog
  split
  · exact ⟨s.poweredOn.mgmt, rfl⟩
  · unfold State.log
    rw [if_neg (by rw [hmode]; decide), if_neg (by show ¬ false = true; decide)]
    exact ⟨_, rfl⟩

theorem exec_powerOnResetAssert_effect (s : State) :
    ∃ t, exec .powerOnResetAssert s = .next t
      ∧ t.regs = [] ∧ t.chans = [] ∧ t.outs = [] ∧ t.pps = [] ∧ t.refs = [] ∧ t.msyn = .reset ∧ t.twl = .reset ∧ t.intake = .reset
      ∧ t.cal = { Cal.reset with slotA := s.cal.slotA, slotB := s.cal.slotB } ∧ t.dev = .reset ∧ t.mode = 0 ∧ t.rst.level = 5
      ∧ t.rst.asserted = [(0, 5)] ∧ t.rst.supplies = false ∧ t.fuse = s.fuse ∧ t.pending = s.pending ∧ t.pins = t.pinsOf := by
  obtain ⟨m, hm⟩ := s.powerOn_eq
  exact ⟨_, congrArg done hm, rfl, rfl, rfl, rfl, rfl, rfl, rfl, rfl, rfl, rfl, State.mode_of_no_regs rfl, rfl, rfl, rfl, rfl, rfl, State.settle_shows _⟩

/-! ### The start of BOOT (R25, R280, R288) -/

/-- R25, R280: the words that the start of BOOT writes. -/
def bootStartWords : List (Rg × Nat) := modeWords ++ [(.RST_BOOT_STS, 0), (.PAIR_STS, 0)]

/-- R25, R280: BOOT of kind `k` has started, before the master's part. -/
def State.bootStarted (s : State) (k : Nat) : State := ((s.setMode 1).set RST_BOOT_STS.KIND k).showRole.startFirmware.clearBoot

theorem State.showRole_changesOnly (s : State) (parts : List Part) {words : List (Rg × Nat)} (h : (Rg.PAIR_STS, 0) ∈ words) :
    s.changesOnly s.showRole parts words := by
  unfold State.showRole
  split
  · exact s.changesOnly_refl _ _
  · split
    · exact s.changesOnly_set _ _ _ _ h
    · exact State.changesOnly_cond (s.changesOnly_set PAIR_STS.ROLE 0 0 _ h)

theorem State.startFirmware_changesOnly (s : State) {parts : List Part} (words : List (Rg × Nat)) (h : Part.mgmt ∈ parts) :
    s.changesOnly s.startFirmware parts words := s.changesOnly_mgmt _ _ h

theorem State.clearBoot_changesOnly (s : State) {parts : List Part} (words : List (Rg × Nat)) (h : Part.rst ∈ parts) :
    s.changesOnly s.clearBoot parts words := s.changesOnly_rst _ _ h

theorem State.clearBoot_levels {s : State} : s.clearBoot.rst.level = s.rst.level ∧ s.clearBoot.rst.asserted = s.rst.asserted := ⟨rfl, rfl⟩

theorem State.bootStarted_changesOnly (s : State) (k : Nat) : s.changesOnly (s.bootStarted k) [.rst, .mgmt, .free] bootStartWords :=
  (((((s.setMode_changesOnly 1).mono (by simp) (by simp [bootStartWords])).trans
    (State.changesOnly_set _ RST_BOOT_STS.KIND k 0 _ (by simp [bootStartWords]))).trans (State.showRole_changesOnly _ _ (by simp [bootStartWords]))).trans
    (State.startFirmware_changesOnly _ _ (by simp))).trans (State.clearBoot_changesOnly _ _ (by simp))

/-- What the start of BOOT shows: the mode and the kind; the levels stand. -/
theorem State.bootStarted_shows (s : State) {k : Nat} (hk : k < 4) :
    (s.bootStarted k).mode = 1 ∧ (s.bootStarted k).get RST_BOOT_STS.KIND = k
      ∧ (s.bootStarted k).rst.level = s.rst.level ∧ (s.bootStarted k).rst.asserted = s.rst.asserted := by
  have hrole := ((s.setMode 1).set RST_BOOT_STS.KIND k).showRole_changesOnly [.rst, .mgmt] (words := [(.PAIR_STS, 0)]) (by simp)
  have hfirm := State.startFirmware_changesOnly ((s.setMode 1).set RST_BOOT_STS.KIND k).showRole (parts := [.mgmt]) [] (by simp)
  have hclear := State.clearBoot_changesOnly ((s.setMode 1).set RST_BOOT_STS.KIND k).showRole.startFirmware (parts := [.rst]) [] (by simp)
  have hrst : ((s.setMode 1).set RST_BOOT_STS.KIND k).showRole.startFirmware.rst = s.rst := by
    rw [hfirm.part .rst (by simp), (State.showRole_changesOnly _ [] (words := [(.PAIR_STS, 0)]) (by simp)).part .rst (by simp),
      State.set_rst, (s.setMode_changesOnly 1).part .rst (by simp)]
  unfold State.bootStarted
  refine ⟨?_, ?_, ?_, ?_⟩
  · rw [State.mode, hclear.get_eq _ (by simp), hfirm.get_eq _ (by simp), hrole.get_eq _ (by decide), State.get_set_ne _ _ _ _ _ _ (by decide)]
    exact s.setMode_mode (by decide)
  · rw [hclear.get_eq _ (by simp), hfirm.get_eq _ (by simp), hrole.get_eq _ (by decide), State.get_set_same _ _ _ _ (by decide)]
    exact Nat.mod_eq_of_lt hk
  · rw [State.clearBoot_levels.1, hrst]
  · rw [State.clearBoot_levels.2, hrst]

/-- R264: the words of the master. -/
def masterWords : List (Rg × Nat) := [(.MSYN_REF, 0), (.MSYN_NINT, 0), (.MSYN_NNUM, 0), (.MSYN_NDEN, 0), (.MSYN_XOF, 0), (.MSYN_STS, 0)]

theorem State.useStored_changesOnly (s : State) {parts : List Part} {words : List (Rg × Nat)} (hp : Part.msyn ∈ parts)
    (hw : (Rg.MSYN_STS, 0) ∈ words) : s.changesOnly s.useStored parts words :=
  (s.changesOnly_msyn _ _ hp).trans (State.changesOnly_set _ MSYN_STS.NPEND 0 0 _ hw)

theorem State.bootWords_changesOnly (s : State) : s.changesOnly s.bootWords [.msyn] masterWords := by
  unfold State.bootWords
  split
  · exact (((((s.changesOnly_wr .MSYN_REF 0 _ _ (by simp [masterWords])).trans (State.changesOnly_wr _ .MSYN_NINT 0 _ _ (by simp [masterWords]))).trans
      (State.changesOnly_wr _ .MSYN_NNUM 0 _ _ (by simp [masterWords]))).trans (State.changesOnly_wr _ .MSYN_NDEN 0 _ _ (by simp [masterWords]))).trans
      (State.changesOnly_wr _ .MSYN_XOF 0 _ _ (by simp [masterWords]))).trans (State.useStored_changesOnly _ (by simp) (by simp [masterWords]))
  · exact s.useStored_changesOnly (by simp) (by simp [masterWords])

/-- R264: the master's words are those of STRAP_CLK, and in use. -/
theorem State.bootWords_words {s : State} {w : MasterWords} (h : strapWords (s.get DEV_STRAP.CLK) = some w) :
    s.bootWords.rd .MSYN_REF = w.ref ∧ s.bootWords.rd .MSYN_NINT = w.nint ∧ s.bootWords.rd .MSYN_NNUM = w.nnum
      ∧ s.bootWords.rd .MSYN_NDEN = w.nden ∧ s.bootWords.rd .MSYN_XOF = w.xof ∧ s.bootWords.msyn.useNint = w.nint := by
  have hne {a b : Rg} (h : a.key 0 ≠ b.key 0) (t : State) (x : Word) : (t.wr a 0 x).rd b = t.rd b := t.rd_wr_ne x h
  have huse (t : State) (r : Rg) (hr : Rg.MSYN_STS.key 0 ≠ r.key 0) : t.useStored.rd r = t.rd r :=
    (t.useStored_changesOnly (parts := [.msyn]) (words := [(.MSYN_STS, 0)]) (by simp) (by simp)).rd_eq (by simpa using hr)
  have hnint (t : State) : t.useStored.msyn.useNint = t.rd .MSYN_NINT := rfl
  unfold State.bootWords
  rw [h]
  refine ⟨?_, ?_, ?_, ?_, ?_, ?_⟩
  · rw [huse _ _ (by decide), hne (by decide), hne (by decide), hne (by decide), hne (by decide), State.rd_wr_same]
  · rw [huse _ _ (by decide), hne (by decide), hne (by decide), hne (by decide), State.rd_wr_same]
  · rw [huse _ _ (by decide), hne (by decide), hne (by decide), State.rd_wr_same]
  · rw [huse _ _ (by decide), hne (by decide), State.rd_wr_same]
  · rw [huse _ _ (by decide), State.rd_wr_same]
  · rw [hnint, hne (by decide), hne (by decide), hne (by decide), State.rd_wr_same]

/-- R15: the tick number starts again. -/
def State.clearTick (s : State) : State := { s with dev := { s.dev with tick := 0, ticking := false } }

theorem State.coldBoot_eq (s : State) : s.coldBoot = s.clearTick.bootWords.setBootMute true := rfl

theorem State.clearTick_changesOnly (s : State) : s.changesOnly s.clearTick [.dev] [] := s.changesOnly_dev _ _ (by simp)

theorem State.setBootMute_changesOnly (s : State) (b : Bool) : s.changesOnly (s.setBootMute b) [.rst] [] := s.changesOnly_rst _ _ (by simp)

theorem State.setBootMute_rst (s : State) (b : Bool) : (s.setBootMute b).rst = { s.rst with bootMute := b } := rfl

theorem State.coldBoot_changesOnly (s : State) : s.changesOnly s.coldBoot [.rst, .dev, .msyn] masterWords := by
  rw [State.coldBoot_eq]
  exact ((s.clearTick_changesOnly.mono (by simp) (by simp)).trans ((State.bootWords_changesOnly _).mono (by simp) (by simp))).trans
    ((State.setBootMute_changesOnly _ true).mono (by simp) (by simp))

theorem State.coldBoot_rst (s : State) : s.coldBoot.rst = { s.rst with bootMute := true } := by
  rw [State.coldBoot_eq, State.setBootMute_rst, (State.bootWords_changesOnly _).part .rst (by simp), s.clearTick_changesOnly.part .rst (by simp)]

theorem State.coldBoot_dev (s : State) : s.coldBoot.dev = { s.dev with tick := 0, ticking := false } := by
  rw [State.coldBoot_eq, (State.setBootMute_changesOnly _ true).part .dev (by simp), (State.bootWords_changesOnly _).part .dev (by simp)]
  rfl

/-- R264: a cold BOOT puts the words of STRAP_CLK in use. -/
theorem State.coldBoot_words {s : State} {w : MasterWords} (h : strapWords (s.get DEV_STRAP.CLK) = some w) :
    s.coldBoot.rd .MSYN_REF = w.ref ∧ s.coldBoot.rd .MSYN_NINT = w.nint ∧ s.coldBoot.rd .MSYN_NNUM = w.nnum
      ∧ s.coldBoot.rd .MSYN_NDEN = w.nden ∧ s.coldBoot.rd .MSYN_XOF = w.xof ∧ s.coldBoot.msyn.useNint = w.nint := by
  have hmute := s.clearTick.bootWords.setBootMute_changesOnly true
  have hwords := State.bootWords_words (s := s.clearTick) (w := w) (by rwa [s.clearTick_changesOnly.get_eq _ (by simp)])
  rw [State.coldBoot_eq, hmute.rd_eq (by simp), hmute.rd_eq (by simp), hmute.rd_eq (by simp), hmute.rd_eq (by simp), hmute.rd_eq (by simp),
    hmute.part .msyn (by simp)]
  exact hwords

/-- R15, R264, R280: what a cold BOOT shows. -/
def State.coldBooted (t : State) (straps : Nat) : Prop :=
  t.mode = 1 ∧ t.get RST_BOOT_STS.KIND = 1 ∧ t.rst.level = 0 ∧ t.rst.asserted = [] ∧ t.rst.bootMute = true
    ∧ t.rd .DEV_STRAP = BitVec.ofNat 32 (straps % 128) ∧ t.dev.tick = 0 ∧ t.dev.ticking = false
    ∧ ∀ w ∈ strapWords (t.get DEV_STRAP.CLK), t.rd .MSYN_REF = w.ref ∧ t.rd .MSYN_NINT = w.nint ∧ t.rd .MSYN_NNUM = w.nnum
        ∧ t.rd .MSYN_NDEN = w.nden ∧ t.rd .MSYN_XOF = w.xof ∧ t.msyn.useNint = w.nint

theorem State.startBoot_cold_eq {s : State} (hc : s.rst.cold = true) : s.startBoot = (s.bootStarted 1).coldBoot := by
  simp only [State.startBoot, State.bootStarted, hc, if_true]

theorem State.startBoot_warm_eq {s : State} (hc : s.rst.cold = false) : s.startBoot = (s.bootStarted 2).warmBoot := by
  simp only [State.startBoot, State.bootStarted, hc, Bool.false_eq_true, if_false]

/-- R288: the trigger that L2 leaves for calibration. -/
def State.trigL2 (s : State) : State := { s with cal := { s.cal with l2Trigger := true } }

theorem State.trigL2_changesOnly (s : State) : s.changesOnly s.trigL2 [.cal] [] := s.changesOnly_cal _ _ (by simp)

/-- R288: the master of a warm BOOT that is locked and not held goes on. -/
theorem State.warmBoot_locked {s : State} (hf : s.on CLK_STS.FORCED = false) (hl : s.on MSYN_STS.LOCK = true)
    (hh : s.on MSYN_STS.HELD = false) : s.warmBoot = s.trigL2.setBootMute false := by
  have hon {f : Fld} {b : Bool} (hb : s.on f = b) : s.trigL2.on f = b := hb
  have heq : s.warmBoot = if s.trigL2.on CLK_STS.FORCED || (s.trigL2.on MSYN_STS.HELD && !s.trigL2.on CLK_STS.XO_OK) then
      { s.trigL2 with rst := { s.trigL2.rst with xoAbsent := true, bootMute := false } }
    else if !s.trigL2.on MSYN_STS.LOCK || s.trigL2.on MSYN_STS.HELD then s.trigL2.startAcq.setBootMute true
    else s.trigL2.setBootMute false := rfl
  rw [heq, hon hf, hon hl, hon hh]
  rfl

/-- R15, R264: what the master's part of a cold BOOT leaves and adds. -/
theorem State.coldBoot_shows {s : State} {straps : Nat} (hmode : s.mode = 1) (hkind : s.get RST_BOOT_STS.KIND = 1) (hl : s.rst.level = 0)
    (ha : s.rst.asserted = []) (hs : s.rd .DEV_STRAP = BitVec.ofNat 32 (straps % 128)) : s.coldBoot.coldBooted straps := by
  have hcold := s.coldBoot_changesOnly
  refine ⟨(hcold.get_eq DEV_MODE.MODE (by decide)).trans hmode, ?_, ?_, ?_, ?_, ?_, ?_, ?_, fun w hw => ?_⟩
  · rw [hcold.get_eq _ (by decide), hkind]
  · rw [s.coldBoot_rst, hl]
  · rw [s.coldBoot_rst, ha]
  · rw [s.coldBoot_rst]
  · rw [hcold.rd_eq (by decide), hs]
  · rw [s.coldBoot_dev]
  · rw [s.coldBoot_dev]
  · rw [hcold.get_eq _ (by decide)] at hw
    exact State.coldBoot_words hw

theorem State.startBoot_cold {s : State} {straps : Nat} (hc : s.rst.cold = true) (hl : s.rst.level = 0) (ha : s.rst.asserted = [])
    (hs : s.rd .DEV_STRAP = BitVec.ofNat 32 (straps % 128)) :
    s.startBoot.coldBooted straps ∧ s.changesOnly s.startBoot [.rst, .mgmt, .dev, .msyn, .free] (bootStartWords ++ masterWords) := by
  obtain ⟨hmode, hkind, hlevel, hasserted⟩ := s.bootStarted_shows (k := 1) (by decide)
  have hstart := s.bootStarted_changesOnly 1
  rw [State.startBoot_cold_eq hc]
  exact ⟨State.coldBoot_shows hmode hkind (hlevel.trans hl) (hasserted.trans ha) ((hstart.rd_eq (by decide)).trans hs),
    (hstart.mono (by simp) (by simp)).trans ((State.coldBoot_changesOnly _).mono (by simp) (by simp))⟩

/-- R288: the master's part of a warm BOOT in which it stays locked. -/
theorem State.warmBoot_shows {s : State} (hf : s.on CLK_STS.FORCED = false) (hl : s.on MSYN_STS.LOCK = true)
    (hh : s.on MSYN_STS.HELD = false) :
    s.warmBoot.mode = s.mode ∧ s.warmBoot.rst.level = s.rst.level ∧ s.warmBoot.rst.asserted = s.rst.asserted
      ∧ s.warmBoot.rst.bootMute = false ∧ s.warmBoot.cal = { s.cal with l2Trigger := true }
      ∧ s.changesOnly s.warmBoot [.rst, .cal] [] := by
  have hmute := s.trigL2.setBootMute_changesOnly false
  rw [State.warmBoot_locked hf hl hh]
  refine ⟨?_, rfl, rfl, rfl, ?_, (s.trigL2_changesOnly.mono (by simp) (by simp)).trans (hmute.mono (by simp) (by simp))⟩
  · exact (hmute.get_eq DEV_MODE.MODE (by simp)).trans (s.trigL2_changesOnly.get_eq DEV_MODE.MODE (by simp))
  · rw [hmute.part .cal (by simp), State.trigL2]

/-- R288: a warm BOOT of a locked master goes on with the outputs on. -/
theorem State.startBoot_warm {s : State} (hc : s.rst.cold = false) (hf : s.on CLK_STS.FORCED = false) (hl : s.on MSYN_STS.LOCK = true)
    (hh : s.on MSYN_STS.HELD = false) :
    s.startBoot.mode = 1 ∧ s.startBoot.get RST_BOOT_STS.KIND = 2 ∧ s.startBoot.rst.level = s.rst.level
      ∧ s.startBoot.rst.asserted = s.rst.asserted ∧ s.startBoot.rst.bootMute = false
      ∧ s.startBoot.cal = { s.cal with l2Trigger := true } ∧ s.changesOnly s.startBoot [.rst, .mgmt, .cal, .free] bootStartWords := by
  obtain ⟨hmode, hkind, hlevel, hasserted⟩ := s.bootStarted_shows (k := 2) (by decide)
  have hstart := s.bootStarted_changesOnly 2
  obtain ⟨hmode', hlevel', hasserted', hmute, hcal, hwarm⟩ := State.warmBoot_shows ((hstart.on_eq _ (by decide)).trans hf) ((hstart.on_eq _ (by decide)).trans hl)
    ((hstart.on_eq _ (by decide)).trans hh)
  rw [State.startBoot_warm_eq hc]
  exact ⟨hmode'.trans hmode, (hwarm.get_eq RST_BOOT_STS.KIND (by simp)).trans hkind, hlevel'.trans hlevel, hasserted'.trans hasserted,
    hmute, hcal.trans (congrArg (fun x : Cal => { x with l2Trigger := true }) (hstart.part .cal (by simp))), (hstart.mono (by simp) (by simp)).trans (hwarm.mono (by simp) (by simp))⟩

/-! ### The release of the last source (R261, R273, R278) -/

/-- R278: the words that the straps show in. -/
def strapShown : List (Rg × Nat) := [(.DEV_STRAP, 0), (.RST_REACH0, 0), (.RST_REACH1, 0)]

theorem State.sampleStraps_changesOnly (s : State) (straps : Nat) : s.changesOnly (s.sampleStraps straps) [] strapShown :=
  ((s.changesOnly_wr .DEV_STRAP 0 _ _ (by simp [strapShown])).trans (State.changesOnly_wr _ .RST_REACH0 0 _ _ (by simp [strapShown]))).trans
    (State.changesOnly_wr _ .RST_REACH1 0 _ _ (by simp [strapShown]))

theorem State.sampleStraps_strap (s : State) (straps : Nat) : (s.sampleStraps straps).rd .DEV_STRAP = BitVec.ofNat 32 (straps % 128) := by
  rw [State.sampleStraps, State.showReach, State.rd_wr_ne _ _ (by decide), State.rd_wr_ne _ _ (by decide), State.rd_wr_same]

/-- R273: no source is left. -/
def State.noSource (s : State) : State := { s with rst := { s.rst with asserted := [], level := 0 } }

theorem State.noSource_changesOnly (s : State) : s.changesOnly s.noSource [.rst] [] := s.changesOnly_rst _ _ (by simp)

/-- R273, R278: the straps are sampled, and the BOOT to come is cold. -/
def State.strapsSampled (s : State) (straps : Nat) : State :=
  let t := s.sampleStraps straps
  { t with rst := { t.rst with cold := true } }

theorem State.strapsSampled_changesOnly (s : State) (straps : Nat) : s.changesOnly (s.strapsSampled straps) [.rst] strapShown :=
  ((s.sampleStraps_changesOnly straps).mono (by simp) (by simp)).trans (State.changesOnly_rst _ _ _ (by simp))

/-- R273: no level of L1 is left either. -/
def State.noL1 (s : State) : State := (s.setB RST_STS.L1M false).setB RST_STS.L1I false

theorem State.noL1_changesOnly (s : State) : s.changesOnly s.noL1 [] [(.RST_STS, 0)] :=
  (s.changesOnly_setB _ _ _ _ (by simp)).trans (State.changesOnly_setB _ _ _ _ _ (by simp))

/-- R273: the release of the only source, at L2 or wider, starts BOOT. -/
theorem State.releaseSource_last {s : State} {src lv : Nat} (straps : Nat) (ha : s.rst.asserted = [(src, lv)]) (hl : 3 ≤ s.rst.level) :
    s.releaseSource src straps = ((s.noSource.cond (decide (4 ≤ s.rst.level)) (·.strapsSampled straps)).noL1).startBoot := by
  have hnone : s.rst.asserted.filter (·.1 != src) = [] := by simp [ha]
  have hlevel : (decide (4 ≤ s.rst.level) && decide (levelOf [] < 4)) = decide (4 ≤ s.rst.level) := by simp [levelOf]
  unfold State.releaseSource
  simp only [hnone, if_pos hl, hlevel]
  exact if_pos rfl

/-- R261, R278, R367: after L3 and L4 the last release leads to a cold BOOT. -/
theorem State.releaseSource_cold {s : State} {src lv : Nat} (straps : Nat) (ha : s.rst.asserted = [(src, lv)]) (hl : 4 ≤ s.rst.level) :
    (s.releaseSource src straps).coldBooted straps
      ∧ s.changesOnly (s.releaseSource src straps) [.rst, .mgmt, .dev, .msyn, .free]
          (bootStartWords ++ masterWords ++ (.RST_STS, 0) :: strapShown) := by
  have hsampled := s.noSource.strapsSampled_changesOnly straps
  have hl1 := (s.noSource.strapsSampled straps).noL1_changesOnly
  have hrst : (s.noSource.strapsSampled straps).rst = { s.noSource.rst with cold := true } := by
    have hkeep := (s.noSource.sampleStraps_changesOnly straps).part .rst (by simp)
    rw [State.strapsSampled, hkeep]
  have hrst' : (s.noSource.strapsSampled straps).noL1.rst = { s.noSource.rst with cold := true } := (hl1.part .rst (by simp)).trans hrst
  have hstrap : (s.noSource.strapsSampled straps).noL1.rd .DEV_STRAP = BitVec.ofNat 32 (straps % 128) := by
    rw [hl1.rd_eq (by decide), State.strapsSampled, State.mk_rd, State.sampleStraps_strap]
  obtain ⟨hboot, hch⟩ := State.startBoot_cold (by rw [hrst']) (by rw [hrst']; rfl) (by rw [hrst']; rfl) hstrap
  rw [State.releaseSource_last straps ha (by omega), State.cond, if_pos (decide_eq_true hl)]
  exact ⟨hboot, (((s.noSource_changesOnly.mono (by simp) (by simp)).trans (hsampled.mono (by simp) fun q hq => by simp [hq])).trans
    (hl1.mono (by simp) (by simp))).trans (hch.mono (by simp) (by simp))⟩

/-- R288: after L2 the last release leads to a warm BOOT; a master that stayed locked goes on. -/
theorem State.releaseSource_warm {s : State} {src : Nat} (straps : Nat) (ha : s.rst.asserted = [(src, 3)]) (hl : s.rst.level = 3)
    (hc : s.rst.cold = false) (hf : s.on CLK_STS.FORCED = false) (hk : s.on MSYN_STS.LOCK = true) (hh : s.on MSYN_STS.HELD = false) :
    let t := s.releaseSource src straps
    t.mode = 1 ∧ t.get RST_BOOT_STS.KIND = 2 ∧ t.rst.level = 0 ∧ t.rst.asserted = [] ∧ t.rst.bootMute = false
      ∧ t.cal = { s.cal with l2Trigger := true } ∧ s.changesOnly t [.rst, .mgmt, .cal, .free] ((.RST_STS, 0) :: bootStartWords) := by
  have hl1 := s.noSource.noL1_changesOnly
  have hboth := (s.noSource_changesOnly.mono (parts' := [.rst]) (words' := [(.RST_STS, 0)]) (by simp) (by simp)).trans (hl1.mono (by simp) (by simp))
  have hrst : s.noSource.noL1.rst = s.noSource.rst := hl1.part .rst (by simp)
  obtain ⟨hmode, hkind, hlevel, hasserted, hmute, hcal, hch⟩ := State.startBoot_warm (s := s.noSource.noL1) (by rw [hrst]; exact hc)
    ((hboth.on_eq _ (by decide)).trans hf) ((hboth.on_eq _ (by decide)).trans hk) ((hboth.on_eq _ (by decide)).trans hh)
  rw [State.releaseSource_last straps ha (by omega), State.cond, if_neg (by simp [hl])]
  refine ⟨hmode, hkind, ?_, ?_, hmute, ?_, (hboth.mono (by simp) (by simp)).trans (hch.mono (by simp) (by simp))⟩
  · rw [hlevel, hrst]
    rfl
  · rw [hasserted, hrst]
    rfl
  · rw [hcal, hboth.part .cal (by simp)]

/-! ### Power-on settle and the end of a hold (R261, R262, R275) -/

theorem State.coldBooted_settle {s : State} {straps : Nat} (h : s.coldBooted straps) : s.settle.coldBooted straps := by
  simpa only [State.coldBooted, State.settle_mode, State.settle_get_of, State.settle_rd_of, State.settle_rst, State.settle_dev,
    State.settle_msyn] using h

/-- R261: the settle count has run: the oscillator is up and the monitor armed. -/
def State.oscSettled (s : State) : State :=
  let t := (s.set CLK_STS.INTOSC_OK 1).set CLK_STS.MON_ARMED 1
  State.showPfw { t with rst := { t.rst with settled := true } }

theorem State.showPfw_changesOnly (s : State) : s.changesOnly s.showPfw [] [(.MGMT_STS, 0)] := s.changesOnly_setB _ _ _ _ (by simp)

theorem State.oscSettled_changesOnly (s : State) : s.changesOnly s.oscSettled [.rst] [(.CLK_STS, 0), (.MGMT_STS, 0)] :=
  (((s.changesOnly_set CLK_STS.INTOSC_OK 1 0 _ (by simp)).trans (State.changesOnly_set _ CLK_STS.MON_ARMED 1 0 _ (by simp))).trans
    (State.changesOnly_rst _ _ _ (by simp))).trans ((State.showPfw_changesOnly _).mono (by simp) (by simp))

theorem State.oscSettled_rst (s : State) : s.oscSettled.rst = { s.rst with settled := true } := by
  unfold State.oscSettled
  dsimp only
  rw [(State.showPfw_changesOnly _).part .rst (by simp), State.set_rst, State.set_rst]

theorem State.oscSettled_flags (s : State) : s.oscSettled.on CLK_STS.INTOSC_OK = true ∧ s.oscSettled.on CLK_STS.MON_ARMED = true := by
  have hget {f : Fld} (hf : Rg.MGMT_STS.key 0 ≠ f.r.key 0) :
      s.oscSettled.get f = ((s.set CLK_STS.INTOSC_OK 1).set CLK_STS.MON_ARMED 1).get f :=
    (State.showPfw_changesOnly _).get_eq f (by simpa using hf)
  constructor
  · rw [State.on, hget (by decide), State.get_set_apart _ CLK_STS.MON_ARMED CLK_STS.INTOSC_OK _ _ (by decide) (by decide) rfl (by decide),
      s.get_set_same _ _ _ (by decide)]
    rfl
  · rw [State.on, hget (by decide), State.get_set_same _ _ _ _ (by decide)]
    rfl

theorem exec_intoscSettleComplete_effect {s : State} (straps : Nat) (hs : s.rst.supplies = true) (hn : s.rst.settled = false)
    (ha : s.rst.asserted = [(0, 5)]) (hl : s.rst.level = 5) :
    ∃ t, exec (.intoscSettleComplete straps) s = .next t ∧ t.on CLK_STS.INTOSC_OK = true ∧ t.on CLK_STS.MON_ARMED = true
      ∧ t.coldBooted straps
      ∧ s.frame t [.rst, .mgmt, .dev, .msyn, .free]
          ([(.CLK_STS, 0), (.MGMT_STS, 0)] ++ (bootStartWords ++ masterWords ++ (.RST_STS, 0) :: strapShown)) := by
  have hexec : exec (.intoscSettleComplete straps) s = done (s.oscSettled.releaseSource 0 straps) := congrArg done (if_pos ⟨hs, by simp [hn]⟩)
  obtain ⟨hosc, harmed⟩ := s.oscSettled_flags
  have hrst := s.oscSettled_rst
  obtain ⟨hboot, hch⟩ := State.releaseSource_cold (s := s.oscSettled) (src := 0) (lv := 5) straps (by rw [hrst, ← ha]) (by rw [hrst]; dsimp only; omega)
  refine ⟨_, hexec, ?_, ?_, State.coldBooted_settle hboot,
    ((s.oscSettled_changesOnly.mono (by simp) (by simp)).trans (hch.mono (by simp) (by simp))).frame⟩
  · rw [State.settle_on_of, hch.on_eq _ (by decide), hosc]
  · rw [State.settle_on_of, hch.on_eq _ (by decide), harmed]

/-- R262, R275: the hold of a source that is no ball ends. -/
theorem exec_resetHoldExpired {s : State} {src lv : Nat} (straps : Nat) (h3 : 3 ≤ src) (h11 : src < 11) (ho : s.on CLK_STS.INTOSC_OK = true)
    (ha : s.rst.asserted = [(src, lv)]) : exec (.resetHoldExpired src straps) s = done (s.releaseSource src straps) := by
  have hne : (src == 11) = false := by
    rw [beq_eq_false_iff_ne]
    omega
  refine (onUnit_next _ _ _ _ (by omega)).trans (congrArg done ((if_pos ⟨ho, h3, by simp [ha]⟩).trans ?_))
  rw [State.cond, hne]
  exact if_neg (by decide)

/-- Settles O44: power-on leaves the reset state but for the fuses; every last release starts BOOT, whose effect is said once per kind. -/
theorem resetReleases : Obligations.ResetReleases := by
  unfold Obligations.ResetReleases
  refine fun s straps => ⟨exec_powerOnResetAssert_effect s, ⟨_, rfl, rfl, (s.changesOnly_rst _ _ (by simp)).frame⟩,
    fun hs hn ha hl _ => ?_, fun src h3 h11 _ ho => ⟨fun hl ha hc hf hk hh => ?_, fun hl ha => ?_⟩⟩
  · obtain ⟨t, hexec, hosc, harmed, ⟨hmode, hkind, hlevel, hasserted, hmute, hstrap, htick, hticking, hwords⟩, hkeeps, hkept⟩ :=
      exec_intoscSettleComplete_effect straps hs hn ha hl
    exact ⟨t, hexec, hosc, harmed, hstrap, hmode, hkind, hlevel, hasserted, hmute, htick, hticking, hwords, hkeeps,
      fun r i hk => hkept r i fun q hq => hk q (by
        revert q
        decide)⟩
  · obtain ⟨hmode, hkind, hlevel, hasserted, hmute, hcal, hch⟩ := State.releaseSource_warm straps ha hl hc hf hk hh
    refine ⟨_, exec_resetHoldExpired straps h3 h11 ho ha, ?_, ?_, ?_, ?_, ?_, ?_, (hch.mono (List.Subset.refl _) ?_).frame⟩
    · rw [State.settle_mode, hmode]
    · rw [State.settle_get_of, hkind]
    · rw [State.settle_rst, hlevel]
    · rw [State.settle_rst, hasserted]
    · rw [State.settle_rst, hmute]
    · rw [State.settle_cal, hcal]
    · simp [bootStartWords, modeWords, logWords]
  · obtain ⟨hmode, hkind, hlevel, hasserted, hmute, hstrap, htick, hticking, -⟩ :=
      State.coldBooted_settle (State.releaseSource_cold straps ha (by omega)).1
    exact ⟨_, exec_resetHoldExpired straps h3 h11 ho ha, hmode, hkind, hlevel, hasserted, hmute, hstrap, htick, hticking⟩

end Sys2Proof.Machine

namespace Sys2Proof.Machine

/-! ### The tick and the master at a boundary in any mode (R15, R45, R46, R51) -/

/-- The words that the master's part of a boundary writes in any mode. -/
def masterTickWords : List (Rg × Nat) := [(.MSYN_TICKSLIP_CNT, 0), (.MSYN_STS, 0), (.MSYN_LANE_SW_CNT, 0)]

theorem State.countTick_changesOnly (s : State) {parts : List Part} (words : List (Rg × Nat)) (h : Part.dev ∈ parts) :
    s.changesOnly s.countTick parts words := by
  unfold State.countTick
  split
  · exact s.changesOnly_dev _ _ h
  · exact s.changesOnly_dev _ _ h

theorem State.countTick_dev (s : State) : s.countTick.dev = { s.dev with
    tick := if s.dev.ticking then (s.dev.tick + 1) % 2 ^ 64 else s.dev.tick, ticking := true } := by
  unfold State.countTick
  split
  case isTrue h => simp [h]
  case isFalse h => simp

theorem State.trimTick_changesOnly (s : State) (n : Nat) {parts : List Part} (words : List (Rg × Nat)) (h : Part.pair ∈ parts) :
    s.changesOnly (s.trimTick n) parts words := by
  unfold State.trimTick
  split
  · exact s.changesOnly_pair _ _ h
  · exact s.changesOnly_refl _ _

theorem State.trimTick_pair (s : State) (n : Nat) : (s.trimTick n).pair = if s.on PAIR_STS.PACED || s.on PAIR_STS.TRIM_HELD then
    { s.pair with trimAcc := s.pair.trimAcc + n * signedOf 32 (s.rd .PAIR_TRIM).toNat } else s.pair := by
  unfold State.trimTick
  split <;> rfl

/-- R6: a counter that counts one event under a condition. -/
theorem State.cond_inc_counts (s : State) (b : Bool) (r : Rg) : s.counted (s.cond b (·.inc r)) r 0 (if b then 1 else 0) := by
  unfold State.counted State.cond
  cases b
  · have := (s.rd r 0).isLt
    simp only [Bool.false_eq_true, if_false]
    omega
  · exact s.rd_inc_same r 0

/-- R45, R46: the master-cycle count and its sample after a tick. -/
def State.sampled (s : State) (cycles : Nat) : Msyn :=
  { s.msyn with
    mcc := if s.msyn.counting then (s.msyn.mcc + cycles) % 2 ^ 64 else s.msyn.mcc
    sample := if s.msyn.counting then some ((s.msyn.mcc + cycles) % 2 ^ 64) else s.msyn.sample }

/-- R46: whether a tick slips. -/
def State.slips (s : State) (cycles : Nat) : Bool :=
  s.msyn.counting && s.msyn.sample.isSome && decide (1 < ((cycles : Int) - 12800).natAbs)

/-- R217, R224: the pair after a tick. -/
def State.trimmed (s : State) (cycles : Nat) : Pair :=
  if s.msyn.counting && (s.on PAIR_STS.PACED || s.on PAIR_STS.TRIM_HELD) then
    { s.pair with trimAcc := s.pair.trimAcc + cycles * signedOf 32 (s.rd .PAIR_TRIM).toNat } else s.pair

theorem State.sampleMaster_effect (s : State) (n : Nat) :
    (s.sampleMaster n).msyn = s.sampled n ∧ (s.sampleMaster n).pair = s.trimmed n
      ∧ s.counted (s.sampleMaster n) .MSYN_TICKSLIP_CNT 0 (if s.slips n then 1 else 0)
      ∧ s.changesOnly (s.sampleMaster n) [.msyn, .pair] [(.MSYN_TICKSLIP_CNT, 0)] := by
  unfold State.sampleMaster State.sampled State.trimmed State.slips
  cases hc : s.msyn.counting
  · refine ⟨by simp, by simp, ?_, by simpa using s.changesOnly_refl _ _⟩
    exact State.cond_inc_counts s false .MSYN_TICKSLIP_CNT
  · simp only [Bool.not_true, Bool.false_eq_true, if_false, if_true, Bool.true_and]
    generalize hx : ({ s.msyn with mcc := (s.msyn.mcc + n) % 2 ^ 64, sample := some ((s.msyn.mcc + n) % 2 ^ 64) } : Msyn) = x
    have hmsyn := s.changesOnly_msyn x (parts := [.msyn, .pair]) [(.MSYN_TICKSLIP_CNT, 0)] (by simp)
    have htrim := State.trimTick_changesOnly { s with msyn := x } n (parts := [.pair]) [] (by simp)
    have hinc (b : Bool) (t : State) : t.changesOnly (t.cond b (·.inc .MSYN_TICKSLIP_CNT)) [] [(.MSYN_TICKSLIP_CNT, 0)] :=
      State.changesOnly_cond (t.changesOnly_inc .MSYN_TICKSLIP_CNT 0 _ (by simp))
    refine ⟨?_, ?_, ?_, hmsyn.trans ((htrim.mono (by simp) (by simp)).trans ((hinc _ _).mono (by simp) (by simp)))⟩
    · exact ((hinc _ _).part .msyn (by simp)).trans (htrim.part .msyn (by simp))
    · exact ((hinc _ _).part .pair (by simp)).trans (State.trimTick_pair ..)
    · have hcount := State.cond_inc_counts (State.trimTick { s with msyn := x } n)
        (s.msyn.sample.isSome && decide (1 < ((n : Int) - 12800).natAbs)) .MSYN_TICKSLIP_CNT
      rwa [State.counted, htrim.rd_eq (by simp), State.mk_rd] at hcount

theorem State.sampleMaster_changesOnly (s : State) (n : Nat) : s.changesOnly (s.sampleMaster n) [.msyn, .pair] [(.MSYN_TICKSLIP_CNT, 0)] :=
  have ⟨_, _, _, h⟩ := s.sampleMaster_effect n
  h

/-- R53: whether the loop runs closed. -/
def State.loopCloses (s : State) : Bool := decide (3 ≤ s.get MSYN_STS.STATE) && s.get MSYN_STS.STATE != 7

/-- The words of the loop's live readings. -/
def loopWords : List (Rg × Nat) := [(.MSYN_STS, 0), (.MSYN_TUNE, 0), (.MSYN_PHERR, 0)]

theorem State.showLoop_test {s : State} (m : MasterSample) (h : s.mode = 11) : s.showLoop m = s := if_pos (.inr (.inr h))

/-- R38, R53: the readings of a loop, and the flags of the master that they leave. -/
theorem State.showLoop_effect {s : State} (m : MasterSample) (h : s.mode ≠ 11) :
    (s.showLoop m).rd .MSYN_TUNE = (if s.loopCloses then MSYN_TUNE.TUNE.put (s.rd .MSYN_TUNE) (m.tune % 2 ^ 20) else s.rd .MSYN_TUNE)
      ∧ (s.showLoop m).rd .MSYN_PHERR = (if s.loopCloses then
          MSYN_PHERR.PHERR.put (MSYN_PHERR.PHMAX.put (s.rd .MSYN_PHERR) (min m.phMax 65535))
            (BitVec.ofInt 16 (clampInt m.phErr (-32768) 32767)).toNat else s.rd .MSYN_PHERR)
      ∧ ((s.showLoop m).on MSYN_STS.BAND_MARGIN = true
          ↔ s.on MSYN_STS.BAND_MARGIN = true ∧ (s.loopCloses = true → outsideMargin (m.tune % 2 ^ 20) = true))
      ∧ (s.showLoop m).get MSYN_STS.LANE_SRC = s.get MSYN_STS.LANE_SRC ∧ (s.showLoop m).on MSYN_STS.LOCK = s.on MSYN_STS.LOCK
      ∧ s.changesOnly (s.showLoop m) [] loopWords := by
  unfold State.showLoop
  dsimp only
  by_cases hc : s.loopCloses = true
  case neg =>
    have hopen : s.get MSYN_STS.STATE < 3 ∨ s.get MSYN_STS.STATE = 7 ∨ s.mode = 11 := by
      simp [State.loopCloses] at hc
      omega
    rw [if_pos hopen]
    simp [hc, s.changesOnly_refl]
  case pos =>
    have hclosed : ¬ (s.get MSYN_STS.STATE < 3 ∨ s.get MSYN_STS.STATE = 7 ∨ s.mode = 11) := by
      simp [State.loopCloses] at hc
      omega
    rw [if_neg hclosed]
    generalize hu : s.set MSYN_TUNE.TUNE (m.tune % 2 ^ 20) = u
    generalize hv : u.cond (!outsideMargin (m.tune % 2 ^ 20)) (·.set MSYN_STS.BAND_MARGIN 0) = v
    have hsu : s.changesOnly u [] [(.MSYN_TUNE, 0)] := hu ▸ s.changesOnly_set MSYN_TUNE.TUNE _ 0 _ (by simp)
    have huv : u.changesOnly v [] [(.MSYN_STS, 0)] := hv ▸ State.changesOnly_cond (u.changesOnly_set MSYN_STS.BAND_MARGIN 0 0 _ (by simp))
    generalize (BitVec.ofInt 16 (clampInt m.phErr (-32768) 32767)).toNat = e
    have hph : v.changesOnly ((v.set MSYN_PHERR.PHMAX (min m.phMax 65535)).set MSYN_PHERR.PHERR e) [] [(.MSYN_PHERR, 0)] :=
      (v.changesOnly_set MSYN_PHERR.PHMAX _ 0 _ (by simp)).trans (State.changesOnly_set _ MSYN_PHERR.PHERR e 0 _ (by simp))
    have hvget {f : Fld} (hr : f.r = .MSYN_STS) (hok : f.ok = true) (ha : MSYN_STS.BAND_MARGIN.apart f = true) : v.get f = s.get f := by
      rw [← hv, State.cond, ← hsu.get_eq f (i := 0) (by rw [hr]; decide)]
      split
      · exact u.get_set_apart MSYN_STS.BAND_MARGIN f 0 0 (by decide) hok hr.symm ha
      · rfl
    simp only [hc, if_true, true_implies]
    refine ⟨?_, ?_, ?_, ?_, ?_, ?_⟩
    · rw [hph.rd_eq (by decide), huv.rd_eq (by decide), ← hu, State.rd_set_same _ _ _ _ rfl]
    · rw [State.rd_set_same _ _ _ _ rfl, State.rd_set_same _ _ _ _ rfl, huv.rd_eq (by decide), hsu.rd_eq (by decide)]
    · rw [hph.on_eq _ (by decide), ← hv, State.cond]
      cases outsideMargin (m.tune % 2 ^ 20)
      · simp [State.on, State.get_set_same u MSYN_STS.BAND_MARGIN 0 0 (by decide)]
      · simp [hsu.on_eq MSYN_STS.BAND_MARGIN (i := 0) (by decide)]
    · rw [hph.get_eq _ (by decide), hvget rfl (by decide) (by decide)]
    · rw [hph.on_eq _ (by decide), State.on, hvget rfl (by decide) (by decide), State.on]
    · exact (hsu.mono (by simp) (by simp [loopWords])).trans ((huv.mono (by simp) (by simp [loopWords])).trans
        (hph.mono (by simp) (by simp [loopWords])))

/-- R39, R51: whether the lane references switch at this boundary. -/
def State.lanesSwitch (s : State) : Bool := s.msyn.everLocked && !s.msyn.intref && s.get MSYN_STS.LANE_SRC == 0

theorem State.masterTick_effect (s : State) :
    s.masterTick.msyn = { s.msyn with bw := s.get MSYN_LOOP.BW, lockTick := s.on MSYN_STS.LOCK }
      ∧ s.masterTick.get MSYN_STS.LANE_SRC = (if s.lanesSwitch then 7 else s.get MSYN_STS.LANE_SRC)
      ∧ s.counted s.masterTick .MSYN_LANE_SW_CNT 0 (if s.lanesSwitch then 1 else 0)
      ∧ s.masterTick.on MSYN_STS.BAND_MARGIN = s.on MSYN_STS.BAND_MARGIN
      ∧ s.changesOnly s.masterTick [.msyn] [(.MSYN_STS, 0), (.MSYN_LANE_SW_CNT, 0)] := by
  generalize hx : ({ s.msyn with bw := s.get MSYN_LOOP.BW, lockTick := s.on MSYN_STS.LOCK } : Msyn) = x
  have hmsyn := s.changesOnly_msyn x (parts := [.msyn]) [] (by simp)
  have he : s.masterTick = State.cond s.lanesSwitch (fun s => (s.set MSYN_STS.LANE_SRC 7).inc .MSYN_LANE_SW_CNT) { s with msyn := x } := by
    rw [← hx]
    rfl
  rw [he]
  cases s.lanesSwitch
  · refine ⟨rfl, rfl, ?_, rfl, hmsyn.mono (by simp) (by simp)⟩
    exact State.cond_inc_counts s false .MSYN_LANE_SW_CNT
  · generalize hu : ({ s with msyn := x } : State) = u at hmsyn
    have hset := u.changesOnly_set MSYN_STS.LANE_SRC 7 0 [] (words := [(.MSYN_STS, 0)]) (by simp)
    have hinc := (u.set MSYN_STS.LANE_SRC 7).changesOnly_inc .MSYN_LANE_SW_CNT 0 [] (words := [(.MSYN_LANE_SW_CNT, 0)]) (by simp)
    simp only [State.cond, if_true]
    refine ⟨?_, ?_, ?_, ?_, ?_⟩
    · rw [hinc.part .msyn (by simp), hset.part .msyn (by simp), ← hu]
    · rw [hinc.get_eq _ (by decide), u.get_set_same _ _ _ (by decide)]
      rfl
    · rw [State.counted, State.rd_inc_same, hset.rd_eq (by decide), hmsyn.rd_eq (by simp)]
    · rw [hinc.on_eq _ (by decide), State.on, u.get_set_apart MSYN_STS.LANE_SRC MSYN_STS.BAND_MARGIN _ _ (by decide) (by decide) rfl (by decide),
        hmsyn.get_eq _ (by simp), State.on]
    · exact (hmsyn.mono (by simp) (by simp)).trans ((hset.mono (by simp) (by simp)).trans (hinc.mono (by simp) (by simp)))

theorem State.masterTick_changesOnly (s : State) : s.changesOnly s.masterTick [.msyn] [(.MSYN_STS, 0), (.MSYN_LANE_SW_CNT, 0)] :=
  have ⟨_, _, _, _, h⟩ := s.masterTick_effect
  h

/-- The tick and the master of a boundary in any mode. -/
def State.tickMaster (s : State) (m : MasterSample) : State := ((s.countTick.sampleMaster m.cycles).showLoop m).masterTick

/-- R15, R45, R46, R51: what the tick and the master of a boundary show in any mode. -/
def State.tickCounted (s t : State) (m : MasterSample) : Prop :=
  t.dev = { s.dev with tick := if s.dev.ticking then (s.dev.tick + 1) % 2 ^ 64 else s.dev.tick, ticking := true }
    ∧ t.msyn = { s.sampled m.cycles with bw := s.get MSYN_LOOP.BW, lockTick := s.on MSYN_STS.LOCK }
    ∧ s.counted t .MSYN_TICKSLIP_CNT 0 (if s.slips m.cycles then 1 else 0)
    ∧ t.get MSYN_STS.LANE_SRC = (if s.lanesSwitch then 7 else s.get MSYN_STS.LANE_SRC)
    ∧ s.counted t .MSYN_LANE_SW_CNT 0 (if s.lanesSwitch then 1 else 0)
    ∧ t.pair = s.trimmed m.cycles

/-- R38, R53: what the loop's readings show outside TEST. -/
def State.loopShown (s t : State) (m : MasterSample) : Prop :=
  t.rd .MSYN_TUNE = (if s.loopCloses then MSYN_TUNE.TUNE.put (s.rd .MSYN_TUNE) (m.tune % 2 ^ 20) else s.rd .MSYN_TUNE)
    ∧ t.rd .MSYN_PHERR = (if s.loopCloses then
        MSYN_PHERR.PHERR.put (MSYN_PHERR.PHMAX.put (s.rd .MSYN_PHERR) (min m.phMax 65535))
          (BitVec.ofInt 16 (clampInt m.phErr (-32768) 32767)).toNat else s.rd .MSYN_PHERR)
    ∧ (t.on MSYN_STS.BAND_MARGIN = true
        ↔ s.on MSYN_STS.BAND_MARGIN = true ∧ (s.loopCloses = true → outsideMargin (m.tune % 2 ^ 20) = true))

theorem State.tickSampled_changesOnly (s : State) (n : Nat) :
    s.changesOnly (s.countTick.sampleMaster n) [.dev, .msyn, .pair] [(.MSYN_TICKSLIP_CNT, 0)] :=
  (s.countTick_changesOnly _ (by simp)).trans ((s.countTick.sampleMaster_changesOnly n).mono (by simp) (by simp))

/-- The tick is counted and the master sampled before the loop's readings, of which its part takes no account. -/
theorem State.tickCounted_masterTick {s v : State} {m : MasterSample} {words : List (Rg × Nat)}
    (hv : (s.countTick.sampleMaster m.cycles).changesOnly v [] words) (hw : words ⊆ loopWords)
    (hlane : v.get MSYN_STS.LANE_SRC = (s.countTick.sampleMaster m.cycles).get MSYN_STS.LANE_SRC)
    (hlock : v.on MSYN_STS.LOCK = (s.countTick.sampleMaster m.cycles).on MSYN_STS.LOCK) : s.tickCounted v.masterTick m := by
  obtain ⟨hmsyn, hpair, hslip, -⟩ := s.countTick.sampleMaster_effect m.cycles
  obtain ⟨htmsyn, htlane, htsw, -, htick⟩ := v.masterTick_effect
  have hcount := s.countTick_changesOnly [] (parts := [.dev]) (by simp)
  have hsamp := s.tickSampled_changesOnly m.cycles
  have hv' := hv.mono (List.Subset.refl _) hw
  have hsampled : s.countTick.sampled m.cycles = s.sampled m.cycles := by rw [State.sampled, State.sampled, hcount.part .msyn (by simp)]
  have hslips : s.countTick.slips m.cycles = s.slips m.cycles := by rw [State.slips, State.slips, hcount.part .msyn (by simp)]
  have hvmsyn : v.msyn = s.sampled m.cycles := by rw [hv.part .msyn (by simp), hmsyn, hsampled]
  have hlanes : v.lanesSwitch = s.lanesSwitch := by
    rw [State.lanesSwitch, hvmsyn, hlane, hsamp.get_eq _ (by decide)]
    rfl
  have htrimmed : s.countTick.trimmed m.cycles = s.trimmed m.cycles := by
    rw [State.trimmed, State.trimmed, hcount.part .msyn (by simp), hcount.part .pair (by simp), hcount.on_eq _ (by simp),
      hcount.on_eq _ (by simp), hcount.rd_eq (by simp)]
  refine ⟨?_, ?_, ?_, ?_, ?_, ?_⟩
  · rw [htick.part .dev (by simp), hv.part .dev (by simp), (s.countTick.sampleMaster_changesOnly m.cycles).part .dev (by simp), s.countTick_dev]
  · rw [htmsyn, hvmsyn, hlock, hsamp.on_eq _ (by decide), hv'.get_eq _ (by decide), hsamp.get_eq _ (by decide)]
  · rw [State.counted, htick.rd_eq (by decide), hv'.rd_eq (by decide), hslip, hcount.rd_eq (by simp), hslips]
  · rw [htlane, hlanes, hlane, hsamp.get_eq _ (by decide)]
  · rw [State.counted, htsw, hlanes, hv'.rd_eq (by decide), hsamp.rd_eq (by decide)]
  · rw [htick.part .pair (by simp), hv.part .pair (by simp), hpair, htrimmed]

theorem State.tickMaster_test {s : State} (m : MasterSample) (h : s.mode = 11) :
    s.tickCounted (s.tickMaster m) m ∧ s.changesOnly (s.tickMaster m) [.dev, .msyn, .pair] masterTickWords := by
  have hsamp := s.tickSampled_changesOnly m.cycles
  have hmode : (s.countTick.sampleMaster m.cycles).mode = 11 := (hsamp.get_eq DEV_MODE.MODE (by decide)).trans h
  rw [State.tickMaster, State.showLoop_test m hmode]
  exact ⟨State.tickCounted_masterTick (State.changesOnly_refl _ _ []) (by simp) rfl rfl,
    (hsamp.mono (by simp) (by simp [masterTickWords])).trans ((State.masterTick_changesOnly _).mono (by simp) (by simp [masterTickWords]))⟩

theorem State.tickMaster_live {s : State} (m : MasterSample) (h : s.mode ≠ 11) :
    s.tickCounted (s.tickMaster m) m ∧ s.loopShown (s.tickMaster m) m
      ∧ s.changesOnly (s.tickMaster m) [.dev, .msyn, .pair] (masterTickWords ++ loopWords) := by
  have hsamp := s.tickSampled_changesOnly m.cycles
  have hmode : (s.countTick.sampleMaster m.cycles).mode ≠ 11 := fun h' => h ((hsamp.get_eq DEV_MODE.MODE (by decide)).symm.trans h')
  obtain ⟨htune, hpherr, hmargin, hlane, hlock, hshow⟩ := State.showLoop_effect m hmode
  obtain ⟨-, -, -, hband, htick⟩ := ((s.countTick.sampleMaster m.cycles).showLoop m).masterTick_effect
  have hcloses : (s.countTick.sampleMaster m.cycles).loopCloses = s.loopCloses := by
    rw [State.loopCloses, State.loopCloses, hsamp.get_eq _ (by decide)]
  rw [hcloses, hsamp.rd_eq (by decide)] at htune hpherr
  rw [hcloses, hsamp.on_eq _ (by decide)] at hmargin
  refine ⟨State.tickCounted_masterTick hshow (List.Subset.refl _) hlane hlock, ⟨?_, ?_, ?_⟩, ?_⟩
  · exact (htick.rd_eq (by decide)).trans htune
  · exact (htick.rd_eq (by decide)).trans hpherr
  · rw [State.tickMaster, hband]
    exact hmargin
  · exact (hsamp.mono (by simp) (by simp [masterTickWords])).trans ((hshow.mono (by simp) (List.subset_append_right _ _)).trans
      (htick.mono (by simp) (by simp [masterTickWords])))

/-! ### A boundary where every channel rests (R22, R57, R60) -/

/-- An action over the units below `n` that leaves each as it is. -/
theorem State.upto_id {n : Nat} {f : Nat → State → State} {s : State} (h : ∀ k < n, f k s = s) : State.upto n f s = s := by
  induction n with
  | zero => rfl
  | succ n ih => rw [State.upto_succ, ih fun k hk => h k (by omega), h n (by omega)]

/-- A channel at rest, whose counter runs or not. -/
def Chan.resting (r : Bool) : Chan := { Chan.reset with running := r }

theorem Chan.patternIndex_resting (r : Bool) (p0 : Nat) : patternIndex (.resting r) p0 = 0 := by
  simp [patternIndex, Chan.resting, Chan.reset]

theorem State.runResidue_resting {s : State} {c : Nat} {r : Bool} (h : s.chan c = .resting r) : s.runResidue c = s := by
  unfold State.runResidue
  dsimp only
  rw [h, Chan.patternIndex_resting]
  exact if_pos rfl

theorem drizzle_resting (r : Bool) (rate : Nat) : drizzle (.resting r) rate = .resting r := by
  have hclamp : clampInt 0 (-((rate * 2 ^ 48 : Nat) : Int)) ((rate * 2 ^ 48 : Nat) : Int) = 0 := by
    unfold clampInt
    omega
  unfold drizzle
  dsimp only [Chan.resting, Chan.reset]
  simp only [Int.sub_zero, hclamp, Int.natAbs_zero, Int.natCast_zero, Int.add_zero]
  rfl

theorem State.chan_of_no_chans {s : State} (h : s.chans = []) (c : Nat) : s.chan c = .reset := by
  rw [State.chan, h]
  rfl

theorem State.advance_resting {s : State} {c : Nat} (h : s.chan c = .reset) : s.advance c = s := by
  unfold State.advance
  dsimp only
  have hstill : (s.chEn c && (s.chan c).running) = false := by
    rw [h]
    exact Bool.and_false _
  rw [hstill]
  rfl

/-- R57: channel `c`, at rest, has taken the boundary. -/
theorem State.restingStep_effect {s : State} {c : Nat} (h : s.chan c = .reset) :
    let t := ((s.startCounter c).hopBoundary c).drizzleStep c
    t.chan c = .resting (s.chEn c && s.msyn.counting) ∧ s.onlyChan t c ∧ s.changesOnly t [.chans] [] := by
  have hset (x : Chan) (u : State) : u.changesOnly (u.setChan c x) [.chans] [] := u.changesOnly_setChan c x [] (by simp)
  have hstart : (s.startCounter c).chan c = .resting (s.chEn c && s.msyn.counting) ∧ s.onlyChan (s.startCounter c) c
      ∧ s.changesOnly (s.startCounter c) [.chans] [] := by
    unfold State.startCounter
    dsimp only
    rw [h]
    cases hb : s.chEn c && s.msyn.counting
    · exact ⟨h, fun _ _ => rfl, s.changesOnly_refl _ _⟩
    · exact ⟨s.chan_setChan_same c _, fun k hk => s.chan_setChan_ne _ (Ne.symm hk), hset _ s⟩
  generalize s.startCounter c = u at hstart ⊢
  generalize (s.chEn c && s.msyn.counting) = r at hstart ⊢
  obtain ⟨hu, honly, hch⟩ := hstart
  have hhop : u.hopBoundary c = u := by
    unfold State.hopBoundary
    dsimp only
    rw [hu]
    rfl
  rw [hhop]
  unfold State.drizzleStep
  split
  · rw [hu, drizzle_resting, State.runResidue_resting (u.chan_setChan_same c _)]
    exact ⟨u.chan_setChan_same c _, fun k hk => (u.chan_setChan_ne _ (Ne.symm hk)).trans (honly k hk), hch.trans (hset _ u)⟩
  · exact ⟨hu, honly, hch⟩

/-- R57, R60: the channels at rest below `n` have taken the boundary. -/
theorem State.restingSteps_effect {s : State} (h : s.chans = []) (n : Nat) :
    let t := State.upto n (fun c s => ((s.startCounter c).hopBoundary c).drizzleStep c) s
    (∀ c, t.chan c = if c < n then .resting (s.chEn c && s.msyn.counting) else .reset) ∧ s.changesOnly t [.chans] [] := by
  induction n with
  | zero => exact ⟨fun c => s.chan_of_no_chans h c, s.changesOnly_refl _ _⟩
  | succ n ih =>
    rw [State.upto_succ]
    generalize State.upto n _ s = u at ih
    obtain ⟨hchan, hch⟩ := ih
    obtain ⟨hn, honly, hstep⟩ := u.restingStep_effect (c := n) (by rw [hchan, if_neg (Nat.lt_irrefl n)])
    refine ⟨fun c => ?_, hch.trans hstep⟩
    by_cases hc : c = n
    · subst hc
      rw [hn, if_pos (Nat.lt_succ_self c), State.chEn, hch.on_eq _ (by simp), hch.part .msyn (by simp), State.chEn]
    · rw [honly c hc, hchan]
      exact if_congr (by omega) rfl rfl

theorem State.changesOnly_setPps (s : State) (m : Nat) (x : Pin) {parts : List Part} (words : List (Rg × Nat)) (h : Part.pps ∈ parts) :
    s.changesOnly (s.setPps m x) parts words :=
  State.changesOnly_part .pps words h rfl rfl fun p hp => by cases p <;> simp_all [Part.same]

theorem State.ppsPin_setPps_ne (s : State) {m k : Nat} (x : Pin) (h : m ≠ k) : (s.setPps m x).ppsPin k = s.ppsPin k :=
  Tab.get_set_ne _ _ _ h

/-- R369: a PPS pin that does not run keeps its state. -/
theorem State.ppsPulses_effect (s : State) (n : Nat) :
    let t := State.upto n (fun m s => s.ppsPulse m) s
    (∀ k, s.ppsRuns k = false → t.ppsPin k = s.ppsPin k) ∧ s.changesOnly t [.pps] [] := by
  induction n with
  | zero => exact ⟨fun _ _ => rfl, s.changesOnly_refl _ _⟩
  | succ n ih =>
    rw [State.upto_succ]
    generalize State.upto n _ s = u at ih
    obtain ⟨hpin, hch⟩ := ih
    have hruns (k : Nat) : u.ppsRuns k = s.ppsRuns k := by rw [State.ppsRuns, hch.get_eq _ (by simp), State.ppsRuns]
    unfold State.ppsPulse
    dsimp only
    split
    · exact ⟨hpin, hch⟩
    case isFalse hn =>
      refine ⟨fun k hk => ?_, hch.trans (u.changesOnly_setPps n _ [] (by simp))⟩
      have hne : n ≠ k := by
        rintro rfl
        rw [hruns, hk] at hn
        exact hn rfl
      rw [u.ppsPin_setPps_ne _ hne, hpin k hk]

theorem State.sendTimeWords_effect (s : State) :
    s.sendTimeWords.twl.sent = [] ∧ s.changesOnly s.sendTimeWords [.twl] [(.TWL_STS, 0)] :=
  ⟨rfl, (s.changesOnly_setB TWL_STS.FRAMES _ 0 _ (by simp)).trans (State.changesOnly_twl _ _ _ (by simp))⟩

/-- R22: a boundary under L2 where every channel rests. -/
theorem State.tickL2_effect {s : State} (h : s.chans = []) :
    (∀ c < 512, s.tickL2.chan c = .resting (s.chEn c && s.msyn.counting)) ∧ (∀ k, s.ppsRuns k = false → s.tickL2.ppsPin k = s.ppsPin k)
      ∧ s.tickL2.twl.sent = [] ∧ s.changesOnly s.tickL2 [.chans, .pps, .twl] [(.TWL_STS, 0)] := by
  obtain ⟨hpin, hpps⟩ := s.ppsPulses_effect 16
  unfold State.tickL2
  dsimp only
  generalize State.upto 16 _ s = u at hpin hpps
  obtain ⟨hchan, hchans⟩ := State.restingSteps_effect ((hpps.part .chans (by simp)).trans h) 512
  generalize State.upto 512 _ u = v at hchan hchans
  obtain ⟨hsent, hsend⟩ := v.sendTimeWords_effect
  refine ⟨fun c hc => ?_, fun k hk => ?_, hsent,
    (hpps.mono (by simp) (by simp)).trans ((hchans.mono (by simp) (by simp)).trans (hsend.mono (by simp) (by simp)))⟩
  · rw [hsend.chan_eq (by simp), hchan, if_pos hc, State.chEn, hpps.on_eq _ (by simp), hpps.part .msyn (by simp), State.chEn]
  · rw [State.ppsPin, hsend.part .pps (by simp), hchans.part .pps (by simp)]
    exact hpin k hk

theorem State.flushLocks_resting {s : State} (h : s.chans = []) (hr : s.isRun = false) : s.flushLocks = s := by
  have hlock (c : Nat) : (s.declareLock c).loseLock c = s := by
    have hd : s.declareLock c = s := if_neg fun ⟨hst, _⟩ => by simp [s.chan_of_no_chans h c, Chan.reset] at hst
    rw [hd]
    exact if_neg fun ⟨hst, _⟩ => by simp [s.chan_of_no_chans h c, Chan.reset] at hst
  have hmode : s.deriveMode = s := if_neg (by simp [hr])
  unfold State.flushLocks State.cond
  dsimp only
  rw [State.upto_id fun c _ => hlock c, hmode, ite_self]

/-! ### A boundary in TEST and under L2 (R22) -/

theorem exec_applyTickBoundary (m : MasterSample) (s : State) : exec (.applyTickBoundary m) s = done (s.tickBoundary m) := rfl

/-- R22: a boundary with no snapshot due and no channel that locks starts with the tick and the master. -/
theorem State.tickBoundary_resting {s : State} (m : MasterSample) (hcold : s.rst.cold = false) (h : s.chans = [])
    (hsnap : s.dev.snapDue = false) (hr : s.isRun = false) :
    s.tickBoundary m = if (s.tickMaster m).mode = 11 then (s.tickMaster m).tickTest
      else if (State.upto 512 (fun c s => s.advance c) (s.tickMaster m)).mode = 0
        then (State.upto 512 (fun c s => s.advance c) (s.tickMaster m)).tickL2
        else (State.upto 512 (fun c s => s.advance c) (s.tickMaster m)).tickLive := by
  have hco : s.coherentSnap = s := by
    unfold State.coherentSnap State.cond
    rw [hsnap]
    rfl
  unfold State.tickBoundary
  rw [if_neg (by simp [hcold]), hco, State.flushLocks_resting h hr]
  rfl

theorem State.tickBoundary_test {s : State} (m : MasterSample) (hcold : s.rst.cold = false) (h : s.chans = [])
    (hsnap : s.dev.snapDue = false) (hm : s.mode = 11) (hg : s.dev.groups = []) : s.tickBoundary m = s.tickMaster m := by
  obtain ⟨⟨hdev, -⟩, hch⟩ := State.tickMaster_test m hm
  have hmode : (s.tickMaster m).mode = 11 := (hch.get_eq DEV_MODE.MODE (by decide)).trans hm
  rw [State.tickBoundary_resting m hcold h hsnap (by simp [State.isRun, hm]), if_pos hmode]
  unfold State.tickTest State.applyGroups
  dsimp only
  rw [hdev, hg]
  rfl

theorem State.tickBoundary_l2 {s : State} (m : MasterSample) (hcold : s.rst.cold = false) (h : s.chans = [])
    (hsnap : s.dev.snapDue = false) (hm : s.mode = 0) : s.tickBoundary m = (s.tickMaster m).tickL2 := by
  obtain ⟨-, -, hch⟩ := State.tickMaster_live m (show s.mode ≠ 11 by omega)
  have hmode : (s.tickMaster m).mode = 0 := (hch.get_eq DEV_MODE.MODE (by decide)).trans hm
  have hadv : State.upto 512 (fun c s => s.advance c) (s.tickMaster m) = s.tickMaster m :=
    State.upto_id fun c _ => State.advance_resting (State.chan_of_no_chans ((hch.part .chans (by simp)).trans h) c)
  rw [State.tickBoundary_resting m hcold h hsnap (by simp [State.isRun, hm]), hadv, if_neg (by omega), if_pos hmode]

/-- What the tick and the master show stands when only channels, PPS pins and time words follow. -/
theorem State.tickCounted.of_l2 {s u t : State} {m : MasterSample} (h : s.tickCounted u m)
    (hch : u.changesOnly t [.chans, .pps, .twl] [(.TWL_STS, 0)]) : s.tickCounted t m := by
  unfold State.tickCounted State.counted at h ⊢
  rwa [hch.part .dev (by simp), hch.part .msyn (by simp), hch.part .pair (by simp), hch.rd_eq (by decide), hch.get_eq _ (by decide),
    hch.rd_eq (by decide)]

theorem State.loopShown.of_l2 {s u t : State} {m : MasterSample} (h : s.loopShown u m)
    (hch : u.changesOnly t [.chans, .pps, .twl] [(.TWL_STS, 0)]) : s.loopShown t m := by
  unfold State.loopShown at h ⊢
  rwa [hch.rd_eq (by decide), hch.rd_eq (by decide), hch.on_eq _ (by decide)]

theorem State.tickCounted.settle {s t : State} {m : MasterSample} (h : s.tickCounted t m) : s.tickCounted t.settle m := by
  unfold State.tickCounted State.counted at h ⊢
  rwa [State.settle_dev, State.settle_msyn, State.settle_pair, State.settle_rd_of, State.settle_get_of, State.settle_rd_of]

theorem State.loopShown.settle {s t : State} {m : MasterSample} (h : s.loopShown t m) : s.loopShown t.settle m := by
  unfold State.loopShown at h ⊢
  rwa [State.settle_rd_of, State.settle_rd_of, State.settle_on_of]

/-- Settles O54: a boundary of a device at rest is the tick and the master, and under L2 the pins, the channels and the time words. -/
theorem tickBoundaries : Obligations.TickBoundaries := by
  unfold Obligations.TickBoundaries
  refine fun s m => ⟨fun hcold => ?_, fun hcold h hsnap => ⟨fun hm hg => ?_, fun hm => ?_⟩⟩
  · exact ⟨_, congrArg done (if_pos hcold), (s.changesOnly_refl _ _).frame⟩
  · obtain ⟨hcount, hch⟩ := State.tickMaster_test m hm
    exact ⟨_, congrArg done (State.tickBoundary_test m hcold h hsnap hm hg), hcount.settle, hch.frame⟩
  · obtain ⟨hcount, hloop, hch⟩ := State.tickMaster_live m (show s.mode ≠ 11 by omega)
    obtain ⟨hchan, hpin, hsent, hl2⟩ := State.tickL2_effect ((hch.part .chans (by simp)).trans h)
    obtain ⟨htune, hpherr, hmargin⟩ := (hloop.of_l2 hl2).settle
    refine ⟨_, congrArg done (State.tickBoundary_l2 m hcold h hsnap hm), (hcount.of_l2 hl2).settle, htune, hpherr, hmargin,
      fun c hc => ?_, fun k hk => ?_, ?_, ((hch.mono (by simp) (by decide)).trans (hl2.mono (by simp) (by simp))).frame⟩
    · have hcounting : (s.tickMaster m).msyn.counting = s.msyn.counting := by
        obtain ⟨-, hmsyn, -⟩ := hcount
        rw [hmsyn]
        rfl
      rw [State.settle_chan_of, hchan c hc, State.chEn, hch.on_eq _ (Rg.key_ne_below (by decide)), hcounting, s.chan_of_no_chans h]
      rfl
    · have hruns : (s.tickMaster m).ppsRuns k = s.ppsRuns k := by rw [State.ppsRuns, hch.get_eq _ (by decide), State.ppsRuns]
      rw [State.settle_ppsPin_of, hpin k (hruns.trans hk), State.ppsPin, hch.part .pps (by simp), State.ppsPin]
    · rw [State.settle_twl, hsent]

end Sys2Proof.Machine

namespace Sys2Proof.Machine

/-! ### The clock of a boundary

What the steps of a boundary after the master's sample leave: each function that a boundary calls has its lemma here. -/

/-- The write groups and the events of the pair that wait, and whether the master-cycle count runs. -/
def State.due (s : State) : Nat × Nat × Bool := (s.dev.groups.length, s.pair.stream.length, s.msyn.counting)

/-- The tick number, whether it counts, the master-cycle count and the queue. -/
def State.beat (s : State) : Nat × Bool × Nat × List Instr := (s.dev.tick, s.dev.ticking, s.msyn.mcc, s.pending)

/-- The beat; with `w` also what is due. -/
def State.clock (w : Bool) (s : State) : (Nat × Bool × Nat × List Instr) × Option (Nat × Nat × Bool) :=
  (s.beat, if w then some s.due else none)

theorem State.clock_mk {w : Bool} (s : State) (rg ch os ps rf ms po dm tw it pr ca rs fu mg dv ho pi fr) (hm : ms.mcc = s.msyn.mcc)
    (ht : dv.tick = s.dev.tick) (hk : dv.ticking = s.dev.ticking) (hg : dv.groups.length = s.dev.groups.length)
    (hs : pr.stream.length = s.pair.stream.length) (hc : ms.counting = s.msyn.counting) :
    (State.mk s.pending rg ch os ps rf ms po dm tw it pr ca rs fu mg dv ho pi fr).clock w = s.clock w := by
  rw [State.clock, State.clock, State.beat, State.beat, State.due, State.due, hm, ht, hk, hg, hs, hc]

theorem State.clock_mk_late (s : State) (rg ch os ps rf ms po dm tw it pr ca rs fu mg dv ho pi fr) (hm : ms.mcc = s.msyn.mcc)
    (ht : dv.tick = s.dev.tick) (hk : dv.ticking = s.dev.ticking) :
    (State.mk s.pending rg ch os ps rf ms po dm tw it pr ca rs fu mg dv ho pi fr).clock false = s.clock false := by
  rw [State.clock, State.clock, State.beat, State.beat, hm, ht, hk]
  rfl

theorem State.clock_ite {w : Bool} {p : Prop} [Decidable p] {s t : State} (h : s.clock w = t.clock w) :
    (if p then s else t).clock w = t.clock w := by
  split
  · exact h
  · rfl

theorem State.clock_cond {w : Bool} (s : State) (b : Bool) (f : State → State) (h : ∀ t, (f t).clock w = t.clock w) :
    (s.cond b f).clock w = s.clock w := State.clock_ite (h s)

theorem State.clock_foldl {w : Bool} {α : Type} (l : List α) (f : State → α → State) (h : ∀ t x, (f t x).clock w = t.clock w) (s : State) :
    (l.foldl f s).clock w = s.clock w := by
  induction l generalizing s with
  | nil => rfl
  | cons x l ih => exact (ih (f s x)).trans (h s x)

theorem State.clock_upto {w : Bool} (n : Nat) (f : Nat → State → State) (h : ∀ k t, (f k t).clock w = t.clock w) (s : State) :
    (State.upto n f s).clock w = s.clock w := State.clock_foldl _ _ (fun t k => h k t) s

theorem State.clock_elim {w : Bool} {α : Type} {o : Option α} {s : State} {f : α → State} (h : ∀ x, (f x).clock w = s.clock w) :
    (o.elim s f).clock w = s.clock w := by
  cases o with
  | none => rfl
  | some x => exact h x

theorem State.clock_wr (s : State) (r : Rg) (i : Nat) (v : Word) (w : Bool) : (s.wr r i v).clock w = s.clock w := .trans (.refl _) rfl
theorem State.clock_set (s : State) (f : Fld) (v i : Nat) (w : Bool) : (s.set f v i).clock w = s.clock w := .trans (.refl _) rfl
theorem State.clock_setB (s : State) (f : Fld) (b : Bool) (i : Nat) (w : Bool) : (s.setB f b i).clock w = s.clock w := .trans (.refl _) rfl
theorem State.clock_add (s : State) (r : Rg) (n i : Nat) (w : Bool) : (s.add r n i).clock w = s.clock w := .trans (.refl _) rfl
theorem State.clock_inc (s : State) (r : Rg) (i : Nat) (w : Bool) : (s.inc r i).clock w = s.clock w := .trans (.refl _) rfl

/-! #### Units, free values and the log -/

theorem State.clock_setChan (s : State) (c : Nat) (x : Chan) (w : Bool) : (s.setChan c x).clock w = s.clock w := by
  simp only [State.setChan, ↓State.clock_mk]

theorem State.clock_setOut (s : State) (n : Nat) (x : Pin) (w : Bool) : (s.setOut n x).clock w = s.clock w := by
  simp only [State.setOut, ↓State.clock_mk]

theorem State.clock_setPps (s : State) (m : Nat) (x : Pin) (w : Bool) : (s.setPps m x).clock w = s.clock w := by
  simp only [State.setPps, ↓State.clock_mk]

theorem State.clock_setFlow (s : State) (f : Nat) (x : Flow) : (s.setFlow f x).clock false = s.clock false := by
  simp only [State.setFlow, ↓State.clock_mk_late]

theorem State.clock_drawInt (s : State) : s.drawInt.2.clock false = s.clock false := by
  simp only [State.drawInt, ↓State.clock_mk_late]

theorem State.clock_drawNat (s : State) (n : Nat) (w : Bool) : (s.drawNat n).2.clock w = s.clock w := by
  simp only [State.drawNat, ↓State.clock_mk]

theorem State.clock_syncShadow (s : State) (w : Bool) : s.syncShadow.clock w = s.clock w := by
  simp only [State.syncShadow, ↓State.clock_mk]

theorem State.clock_logTake (s : State) (code block sev : Nat) (d0 d1 d2 : Word) (w : Bool) :
    (s.logTake code block sev d0 d1 d2).clock w = s.clock w := by
  simp only [State.logTake, ↓State.clock_inc, ↓State.clock_mk, ↓State.clock_cond, implies_true]

theorem State.clock_log (s : State) (code block sev : Nat) (d0 d1 d2 : Word) (w : Bool) :
    (s.log code block sev d0 d1 d2).clock w = s.clock w := by
  unfold State.log
  dsimp only
  split
  · rfl
  · simp only [↓State.clock_ite, ↓State.clock_inc, ↓State.clock_logTake, ↓State.clock_drawNat]

theorem State.clock_modeLog (s : State) (old m : Nat) (w : Bool) : (s.modeLog old m).clock w = s.clock w := by
  simp only [State.modeLog, ↓State.clock_log, ↓State.clock_ite]

theorem State.clock_setMode (s : State) (m : Nat) (w : Bool) : (s.setMode m).clock w = s.clock w := by
  simp only [State.setMode, ↓State.clock_set, ↓State.clock_modeLog, ↓State.clock_ite]

theorem State.clock_record (s : State) (reason : Nat) (p : Port) (addr : Nat) (w : Bool) :
    (s.record reason p addr).clock w = s.clock w := by
  simp only [State.record, ↓State.clock_wr]

/-! #### The pair, calibration and BASIC -/

theorem State.clock_pairLog (s : State) (sub : Nat) : (s.pairLog sub).clock false = s.clock false := by
  simp only [State.pairLog, ↓State.clock_log]

theorem State.clock_stopStream (s : State) : s.stopStream.clock false = s.clock false := by
  simp only [State.stopStream, ↓State.clock_mk_late]

theorem State.clock_endPairCmd (s : State) : s.endPairCmd.clock false = s.clock false := by
  simp only [State.endPairCmd, ↓State.clock_set]

theorem State.clock_yieldNow (s : State) (cause : Nat) : (s.yieldNow cause).clock false = s.clock false := by
  simp only [State.yieldNow, ↓State.clock_set, ↓State.clock_stopStream, ↓State.clock_endPairCmd, ↓State.clock_pairLog,
    ↓State.clock_mk_late, ↓State.clock_ite]

theorem State.clock_setCalLast (s : State) (t v : Nat) (w : Bool) : (s.setCalLast t v).clock w = s.clock w := by
  simp only [State.setCalLast, ↓State.clock_wr]

theorem State.clock_setStale (s : State) (i : Nat) (b : Bool) (w : Bool) : (s.setStale i b).clock w = s.clock w := by
  simp only [State.setStale, ↓State.clock_setB]

theorem State.clock_calAbort (s : State) (cnt : Rg) (w : Bool) : (s.calAbort cnt).clock w = s.clock w := by
  simp only [State.calAbort, ↓State.clock_set, ↓State.clock_inc, ↓State.clock_setCalLast, ↓State.clock_setStale, ↓State.clock_mk,
    ↓State.clock_ite, ↓State.clock_cond, implies_true]

theorem State.clock_calPause (s : State) (w : Bool) : s.calPause.clock w = s.clock w := by
  simp only [State.calPause, ↓State.clock_set, ↓State.clock_calAbort, ↓State.clock_mk, ↓State.clock_ite]

theorem State.clock_calEndRotation (s : State) : s.calEndRotation.clock false = s.clock false := by
  simp only [State.calEndRotation, ↓State.clock_set, ↓State.clock_calAbort, ↓State.clock_mk_late]

theorem State.clock_holdMaster (s : State) : s.holdMaster.clock false = s.clock false := by
  simp only [State.holdMaster, ↓State.clock_set, ↓State.clock_mk_late]

theorem State.clock_leavePair (s : State) : s.leavePair.clock false = s.clock false := by
  simp only [State.leavePair, ↓State.clock_set, ↓State.clock_endPairCmd, ↓State.clock_mk_late, ↓State.clock_cond, implies_true]

theorem State.clock_enterBasic (s : State) (cause : Nat) : (s.enterBasic cause).clock false = s.clock false := by
  simp only [State.enterBasic, ↓State.clock_set, ↓State.clock_leavePair, ↓State.clock_holdMaster, ↓State.clock_yieldNow,
    ↓State.clock_calEndRotation, ↓State.clock_setMode, ↓State.clock_log, ↓State.clock_mk_late, ↓State.clock_ite, ↓State.clock_cond,
    implies_true]

/-! #### Channels -/

theorem State.clock_runResidue (s : State) (c : Nat) (w : Bool) : (s.runResidue c).clock w = s.clock w := by
  simp only [State.runResidue, ↓State.clock_setChan, ↓State.clock_ite]

theorem State.clock_syncPattern (s : State) (c : Nat) : (s.syncPattern c).clock false = s.clock false := by
  simp only [State.syncPattern, ↓State.clock_setChan]

theorem State.clock_advance (s : State) (c : Nat) (w : Bool) : (s.advance c).clock w = s.clock w := by
  simp only [State.advance, ↓State.clock_runResidue, ↓State.clock_setChan, ↓State.clock_ite]

theorem State.clock_drizzleStep (s : State) (c : Nat) : (s.drizzleStep c).clock false = s.clock false := by
  simp only [State.drizzleStep, ↓State.clock_runResidue, ↓State.clock_setChan, ↓State.clock_ite]

theorem State.clock_stepPins (s : State) (c : Nat) (d : Int) : (s.stepPins c d).clock false = s.clock false := by
  simp only [State.stepPins, ↓State.clock_setPps, ↓State.clock_setOut, ↓State.clock_ite, ↓State.clock_upto, implies_true]

theorem State.clock_noteJump (s : State) (c : Nat) (j : Jump) : (s.noteJump c j).clock false = s.clock false := by
  simp only [State.noteJump, ↓State.clock_mk_late]

theorem State.clock_timeStep (s : State) (c t : Nat) : (s.timeStep c t).clock false = s.clock false := by
  simp only [State.timeStep, ↓State.clock_inc, ↓State.clock_stepPins, ↓State.clock_setChan, ↓State.clock_syncPattern, ↓State.clock_noteJump]

theorem State.clock_toFree (s : State) (c : Nat) (keep : Bool) : (s.toFree c keep).clock false = s.clock false := by
  simp only [State.toFree, ↓State.clock_setChan]

theorem State.clock_freeze (s : State) (c : Nat) : (s.freeze c).clock false = s.clock false := by
  simp only [State.freeze, ↓State.clock_setChan, ↓State.clock_ite]

theorem State.clock_thaw (s : State) (c : Nat) (st : ChState) : (s.thaw c st).clock false = s.clock false := by
  simp only [State.thaw, ↓State.clock_setChan]

/-! #### References and programs -/

theorem State.clock_joinInput (s : State) (c : Nat) : (s.joinInput c).clock false = s.clock false := by
  simp only [State.joinInput, ↓State.clock_setChan, ↓State.clock_cond, implies_true]

theorem State.clock_setSel (s : State) (c : Nat) (e : Nat × Nat) : (s.setSel c e).clock false = s.clock false := by
  simp only [State.setSel, ↓State.clock_set, ↓State.clock_joinInput, ↓State.clock_setChan, ↓State.clock_cond, implies_true]

theorem State.clock_selectRef (s : State) (c : Nat) : (s.selectRef c).clock false = s.clock false := by
  unfold State.selectRef
  dsimp only
  split
  · rfl
  · split
    · exact s.clock_set ..
    · split
      · simp only [↓State.clock_ite, ↓State.clock_set, ↓State.clock_setChan]
      · split
        · split
          · exact s.clock_setChan ..
          · split <;> simp only [↓State.clock_inc, ↓State.clock_setSel, ↓State.clock_setChan]
        · simp only [↓State.clock_cond, ↓State.clock_inc, ↓State.clock_setSel, ↓State.clock_setChan, implies_true]

theorem State.clock_enterOvercast (s : State) (c : Nat) : (s.enterOvercast c).clock false = s.clock false := by
  simp only [State.enterOvercast, ↓State.clock_setB, ↓State.clock_inc, ↓State.clock_setChan]

theorem State.clock_exitOvercast (s : State) (c : Nat) : (s.exitOvercast c).clock false = s.clock false := by
  simp only [State.exitOvercast, ↓State.clock_inc, ↓State.clock_setChan]

theorem State.clock_stateRules (s : State) (c req : Nat) : (s.stateRules c req).clock false = s.clock false := by
  unfold State.stateRules
  dsimp only
  split
  · rfl
  · split
    · rfl
    · exact State.clock_ite (s.clock_setChan ..)
    · exact State.clock_ite (s.clock_enterOvercast c)
    · exact State.clock_ite (s.clock_enterOvercast c)
    · exact State.clock_ite (s.clock_exitOvercast c)

theorem State.clock_checkpoint (s : State) (c : Nat) (ws : List (Nat × Word)) : (s.checkpoint c ws).clock false = s.clock false := by
  simp only [State.checkpoint, ↓State.clock_wr, ↓State.clock_ite, ↓State.clock_foldl, implies_true]

theorem State.clock_secPhase (s : State) (c : Nat) (e : Int) : (s.secPhase c e).clock false = s.clock false := by
  simp only [State.secPhase, ↓State.clock_mk_late]

theorem State.clock_applyPosted (s : State) (c : Nat) (q : Posted) : (s.applyPosted c q).clock false = s.clock false := by
  unfold State.applyPosted
  dsimp only
  split <;> simp only [↓State.clock_wr, ↓State.clock_setB, ↓State.clock_inc, ↓State.clock_setChan, ↓State.clock_checkpoint,
    ↓State.clock_timeStep, ↓State.clock_secPhase, ↓State.clock_ite, ↓State.clock_cond, implies_true]

theorem State.clock_recordRate (s : State) (c : Nat) : (s.recordRate c).clock false = s.clock false := by
  unfold State.recordRate
  dsimp only
  split <;> simp only [↓State.clock_setChan, ↓State.clock_ite]

theorem State.clock_spendExchanges (s : State) (c : Nat) : (s.spendExchanges c).clock false = s.clock false := by
  simp only [State.spendExchanges, ↓State.clock_setFlow, ↓State.clock_foldl, implies_true]

theorem State.clock_startProgram (s : State) (c req : Nat) : (s.startProgram c req).clock false = s.clock false := by
  unfold State.startProgram
  extract_lets t x u
  have hu : u.clock false = s.clock false := by
    simp only [u, t, ↓State.clock_setChan, ↓State.clock_spendExchanges, ↓State.clock_set, ↓State.clock_upto, ↓State.clock_wr, implies_true]
  clear_value u
  split
  · exact hu
  · split
    · refine (State.clock_setChan ..).trans ((State.clock_cond _ _ _ fun v => ?_).trans hu)
      simp only [↓State.clock_elim, ↓State.clock_setSel, implies_true]
    · exact (u.clock_toFree ..).trans hu

theorem State.clock_declareLock (s : State) (c : Nat) (w : Bool) : (s.declareLock c).clock w = s.clock w := by
  simp only [State.declareLock, ↓State.clock_inc, ↓State.clock_setChan, ↓State.clock_ite]

theorem State.clock_loseLock (s : State) (c : Nat) (w : Bool) : (s.loseLock c).clock w = s.clock w := by
  simp only [State.loseLock, ↓State.clock_inc, ↓State.clock_setChan, ↓State.clock_ite]

theorem State.clock_deriveMode (s : State) (w : Bool) : s.deriveMode.clock w = s.clock w := by
  simp only [State.deriveMode, ↓State.clock_setMode, ↓State.clock_ite]

/-! #### Hops -/

theorem State.clock_startArming (s : State) (c i : Nat) : (s.startArming c i).clock false = s.clock false := by
  simp only [State.startArming, ↓State.clock_setChan]

theorem State.clock_streamEvent (s : State) (r : PairRec) : (s.streamEvent r).clock false = s.clock false := by
  simp only [State.streamEvent, ↓State.clock_mk_late]

theorem State.clock_calHop (s : State) (c h : Nat) : (s.calHop c h).clock false = s.clock false := by
  simp only [State.calHop, ↓State.clock_mk_late, ↓State.clock_cond, implies_true]

theorem State.clock_hopMeet (s : State) (h c : Nat) : (s.hopMeet h c).clock false = s.clock false := by
  simp only [State.hopMeet, ↓State.clock_mk_late]

theorem State.clock_hopCount (s : State) (h c : Nat) (r : Rg) : (s.hopCount h c r).clock false = s.clock false := by
  simp only [State.hopCount, ↓State.clock_inc, ↓State.clock_hopMeet, ↓State.clock_ite]

theorem State.clock_hopChannel (s : State) (src : HopSrc) (h c : Nat) (gate : Bool) :
    (s.hopChannel src h c gate).clock false = s.clock false := by
  unfold State.hopChannel
  dsimp only
  split
  · exact s.clock_hopCount ..
  · split
    · simp only [↓State.clock_ite, ↓State.clock_setChan, ↓State.clock_hopCount]
    · split
      · exact s.clock_hopCount ..
      · simp only [↓State.clock_ite, ↓State.clock_startArming, ↓State.clock_calHop, ↓State.clock_hopMeet, ↓State.clock_setChan]

theorem State.clock_countGroups (s : State) (before after : List Nat) : (s.countGroups before after).clock false = s.clock false := by
  simp only [State.countGroups, ↓State.clock_inc, ↓State.clock_cond, ↓State.clock_upto, implies_true]

theorem State.clock_writeHop (s : State) (n : HopNote) (w : Bool) : (s.writeHop n).clock w = s.clock w := by
  simp only [State.writeHop, ↓State.clock_log, ↓State.clock_mk]

theorem State.clock_hopRecord (s : State) (n : HopNote) (w : Bool) : (s.hopRecord n).clock w = s.clock w := by
  simp only [State.hopRecord, ↓State.clock_inc, ↓State.clock_writeHop, ↓State.clock_ite]

theorem State.clock_hopRecords (s : State) (w : Bool) : s.hopRecords.clock w = s.clock w := by
  simp only [State.hopRecords, ↓State.clock_hopRecord, ↓State.clock_mk, ↓State.clock_foldl, implies_true]

theorem State.clock_hopRecopy (s : State) (cs : List Nat) : (s.hopRecopy cs).clock false = s.clock false := by
  simp only [State.hopRecopy, ↓State.clock_mk_late, ↓State.clock_ite]

theorem State.clock_noteHop (s : State) (src : HopSrc) (t : HopTarget) (h : Nat) (cs : List Nat) :
    (s.noteHop src t h cs).clock false = s.clock false := by
  unfold State.noteHop
  dsimp only
  split <;> simp only [↓State.clock_hopRecopy, ↓State.clock_mk_late]

theorem State.clock_streamHops (s : State) : s.streamHops.clock false = s.clock false := by
  simp only [State.streamHops, ↓State.clock_streamEvent, ↓State.clock_mk_late, ↓State.clock_ite, ↓State.clock_foldl, implies_true]

theorem State.clock_trigger (s : State) (src : HopSrc) (t : HopTarget) (h : Nat) : (s.trigger src t h).clock false = s.clock false := by
  simp only [State.trigger, ↓State.clock_hopChannel, ↓State.clock_noteHop, ↓State.clock_countGroups, ↓State.clock_ite, ↓State.clock_foldl,
    implies_true]

theorem State.clock_dropPending (s : State) (c : Nat) (p : Preset) (w : Bool) : (s.dropPending c p).clock w = s.clock w := by
  simp only [State.dropPending, ↓State.clock_add, ↓State.clock_syncShadow, ↓State.clock_mk, List.length_map]

theorem State.clock_hopPending (s : State) (c : Nat) (w : Bool) : (s.hopPending c).clock w = s.clock w := by
  unfold State.hopPending
  split
  · simp only [↓State.clock_ite, ↓State.clock_dropPending]
  · rfl

theorem State.clock_hopBoundary (s : State) (c : Nat) : (s.hopBoundary c).clock false = s.clock false := by
  unfold State.hopBoundary
  dsimp only
  split <;> simp only [↓State.clock_inc, ↓State.clock_setChan, ↓State.clock_mk_late, ↓State.clock_ite]

/-! #### Results, time words and flows -/

theorem State.clock_collect (s : State) : s.collect.2.clock false = s.clock false := by
  unfold State.collect
  dsimp only
  split <;> simp only [↓State.clock_wr, ↓State.clock_set, ↓State.clock_mk_late]

theorem State.clock_sendTimeWords (s : State) : s.sendTimeWords.clock false = s.clock false := by
  simp only [State.sendTimeWords, ↓State.clock_setB, ↓State.clock_mk_late]

theorem State.clock_showFlow (s : State) (f : Nat) : (s.showFlow f).clock false = s.clock false := by
  simp only [State.showFlow, ↓State.clock_set, ↓State.clock_setFlow, ↓State.clock_ite]

theorem State.clock_flowsBoundary (s : State) : s.flowsBoundary.clock false = s.clock false := by
  simp only [State.flowsBoundary, ↓State.clock_set, ↓State.clock_showFlow, ↓State.clock_ite, ↓State.clock_upto, implies_true]

/-! #### Quality levels, banks and pins -/

theorem State.clock_setQl (s : State) (i ssm essm : Nat) : (s.setQl i ssm essm).clock false = s.clock false := by
  simp only [State.setQl, ↓State.clock_set, ↓State.clock_ite]

theorem State.clock_showInflight (s : State) : s.showInflight.clock false = s.clock false := by
  simp only [State.showInflight, ↓State.clock_set, ↓State.clock_cond, implies_true]

theorem State.clock_bankBoundary (s : State) : s.bankBoundary.clock false = s.clock false := by
  simp only [State.bankBoundary, ↓State.clock_set, ↓State.clock_inc, ↓State.clock_showInflight, ↓State.clock_ite]

theorem State.clock_outStarting (s : State) (n : Nat) : (s.outStarting n).clock false = s.clock false := by
  simp only [State.outStarting, ↓State.clock_set, ↓State.clock_setOut]

theorem State.clock_outMuted (s : State) (n : Nat) (w : Bool) : (s.outMuted n).clock w = s.clock w := by
  unfold State.outMuted
  dsimp only
  split <;> simp only [↓State.clock_set, ↓State.clock_setOut]

theorem State.clock_outDivider (s : State) (n : Nat) : (s.outDivider n).clock false = s.clock false := by
  unfold State.outDivider
  dsimp only
  split <;> simp only [↓State.clock_set, ↓State.clock_setOut, ↓State.clock_ite]

theorem State.clock_outBoundary (s : State) (n : Nat) : (s.outBoundary n).clock false = s.clock false := by
  unfold State.outBoundary
  dsimp only
  split <;> simp only [↓State.clock_set, ↓State.clock_setB, ↓State.clock_outDivider, ↓State.clock_setOut, ↓State.clock_outStarting,
    ↓State.clock_ite, ↓State.clock_cond, implies_true]

theorem State.clock_ppsBoundary (s : State) (m : Nat) : (s.ppsBoundary m).clock false = s.clock false := by
  simp only [State.ppsBoundary, ↓State.clock_setPps, ↓State.clock_ite]

theorem State.clock_ppsPulse (s : State) (m : Nat) (w : Bool) : (s.ppsPulse m).clock w = s.clock w := by
  simp only [State.ppsPulse, ↓State.clock_setPps, ↓State.clock_ite]

theorem State.clock_muteAllNow (s : State) (w : Bool) : s.muteAllNow.clock w = s.clock w := by
  simp only [State.muteAllNow, ↓State.clock_set, ↓State.clock_setPps, ↓State.clock_outMuted, ↓State.clock_ite, ↓State.clock_upto,
    implies_true]

/-! #### The pair at a boundary -/

theorem State.clock_pairSend (s : State) (r : PairRec) : (s.pairSend r).clock false = s.clock false := by
  simp only [State.pairSend, ↓State.clock_mk_late]

theorem State.clock_rejoin (s : State) (c : Nat) : (s.rejoin c).clock false = s.clock false := by
  simp only [State.rejoin, ↓State.clock_setChan, ↓State.clock_cond, implies_true]

theorem State.clock_abortEpoch (s : State) (cause : Nat) : (s.abortEpoch cause).clock false = s.clock false := by
  simp only [State.abortEpoch, ↓State.clock_set, ↓State.clock_inc, ↓State.clock_pairSend, ↓State.clock_pairLog, ↓State.clock_rejoin,
    ↓State.clock_mk_late, ↓State.clock_ite, ↓State.clock_cond, ↓State.clock_foldl, implies_true]

theorem State.clock_startEpoch (s : State) : s.startEpoch.clock false = s.clock false := by
  simp only [State.startEpoch, ↓State.clock_set, ↓State.clock_mk_late]

theorem State.clock_tryEpoch (s : State) : s.tryEpoch.clock false = s.clock false := by
  simp only [State.tryEpoch, ↓State.clock_startEpoch, ↓State.clock_ite]

theorem State.clock_detach (s : State) : s.detach.clock false = s.clock false := by
  simp only [State.detach, ↓State.clock_mk_late]

theorem State.clock_tryClaim (s : State) : s.tryClaim.clock false = s.clock false := by
  unfold State.tryClaim
  dsimp only
  split_ifs <;> simp only [↓State.clock_mk_late, ↓State.clock_set]

theorem State.clock_tryForm (s : State) : s.tryForm.clock false = s.clock false := by
  unfold State.tryForm
  dsimp only
  split <;> simp only [↓State.clock_detach, ↓State.clock_tryClaim, ↓State.clock_mk_late, ↓State.clock_ite]

theorem State.clock_startForming (s : State) : s.startForming.clock false = s.clock false := by
  simp only [State.startForming, ↓State.clock_tryForm, ↓State.clock_mk_late, ↓State.clock_ite]

theorem State.clock_zeroTrim (s : State) : s.zeroTrim.clock false = s.clock false := by
  simp only [State.zeroTrim, ↓State.clock_wr, ↓State.clock_set, ↓State.clock_mk_late]

theorem State.clock_setRel (s : State) (r : Int) : (s.setRel r).clock false = s.clock false := by
  simp only [State.setRel, ↓State.clock_wr, ↓State.clock_mk_late]

theorem State.clock_follow (s : State) (c : Nat) (q : Posted) : (s.follow c q).clock false = s.clock false := by
  simp only [State.follow, ↓State.clock_wr, ↓State.clock_setB, ↓State.clock_mk_late, ↓State.clock_ite]

theorem State.clock_takeOwnQl (s : State) : s.takeOwnQl.clock false = s.clock false := by
  simp only [State.takeOwnQl, ↓State.clock_mk_late]
  refine State.clock_upto 32 _ (fun i t => ?_) s
  split <;> simp only [↓State.clock_setQl]

theorem State.clock_takeRole (s : State) (planned : Bool) : (s.takeRole planned).clock false = s.clock false := by
  simp only [State.takeRole, ↓State.clock_set, ↓State.clock_setB, ↓State.clock_inc, ↓State.clock_pairLog, ↓State.clock_endPairCmd,
    ↓State.clock_abortEpoch, ↓State.clock_takeOwnQl, ↓State.clock_setRel, ↓State.clock_rejoin, ↓State.clock_setMode, ↓State.clock_mk_late,
    ↓State.clock_cond, ↓State.clock_upto, implies_true]

theorem State.clock_giveRole (s : State) : s.giveRole.clock false = s.clock false := by
  simp only [State.giveRole, ↓State.clock_set, ↓State.clock_pairLog, ↓State.clock_setMode, ↓State.clock_endPairCmd, ↓State.clock_zeroTrim,
    ↓State.clock_setRel, ↓State.clock_stopStream, ↓State.clock_mk_late]

theorem State.clock_releaseBoundary (s : State) : s.releaseBoundary.clock false = s.clock false := by
  simp only [State.releaseBoundary, ↓State.clock_pairSend, ↓State.clock_mk_late, ↓State.clock_cond, implies_true]

theorem State.clock_handoverBoundary (s : State) : s.handoverBoundary.clock false = s.clock false := by
  simp only [State.handoverBoundary, ↓State.clock_set, ↓State.clock_inc, ↓State.clock_giveRole, ↓State.clock_takeRole,
    ↓State.clock_releaseBoundary, ↓State.clock_ite]

theorem State.clock_commitBoundary (s : State) : s.commitBoundary.clock false = s.clock false := by
  unfold State.commitBoundary
  dsimp only
  split <;> simp only [↓State.clock_set, ↓State.clock_inc, ↓State.clock_setMode, ↓State.clock_pairLog, ↓State.clock_mk_late,
    ↓State.clock_cond, implies_true]

theorem State.clock_yieldBoundary (s : State) : s.yieldBoundary.clock false = s.clock false := by
  unfold State.yieldBoundary
  dsimp only
  split <;> simp only [↓State.clock_yieldNow, ↓State.clock_detach, ↓State.clock_mk_late]

theorem State.clock_detachBoundary (s : State) : s.detachBoundary.clock false = s.clock false := by
  unfold State.detachBoundary
  dsimp only
  split <;> simp only [↓State.clock_set, ↓State.clock_setMode, ↓State.clock_endPairCmd, ↓State.clock_takeOwnQl, ↓State.clock_mk_late,
    ↓State.clock_cond, implies_true]

theorem State.clock_takeoverBoundary (s : State) : s.takeoverBoundary.clock false = s.clock false := by
  unfold State.takeoverBoundary
  dsimp only
  split <;> simp only [↓State.clock_detachBoundary, ↓State.clock_takeRole, ↓State.clock_mk_late, ↓State.clock_ite, ↓State.clock_cond,
    implies_true]

theorem State.clock_pairBoundary (s : State) : s.pairBoundary.clock false = s.clock false := by
  simp only [State.pairBoundary, ↓State.clock_detachBoundary, ↓State.clock_handoverBoundary, ↓State.clock_commitBoundary,
    ↓State.clock_yieldBoundary, ↓State.clock_tryEpoch, ↓State.clock_takeoverBoundary, ↓State.clock_mk_late, ↓State.clock_ite]

theorem State.clock_sendStatic (s : State) : s.sendStatic.clock false = s.clock false := by
  simp only [State.sendStatic, ↓State.clock_pairSend, ↓State.clock_mk_late, ↓State.clock_ite]

theorem State.clock_sendJoin (s : State) : s.sendJoin.clock false = s.clock false := by
  unfold State.sendJoin
  dsimp only
  split <;> simp only [↓State.clock_pairSend, ↓State.clock_mk_late, ↓State.clock_ite]

theorem State.clock_sendRepair (s : State) (c : Nat) : (s.sendRepair c).clock false = s.clock false := by
  simp only [State.sendRepair, ↓State.clock_pairSend, ↓State.clock_mk_late, ↓State.clock_ite]

theorem State.clock_activeCopies (s : State) : s.activeCopies.clock false = s.clock false := by
  simp only [State.activeCopies, ↓State.clock_sendStatic, ↓State.clock_sendJoin, ↓State.clock_sendRepair, ↓State.clock_ite,
    ↓State.clock_cond, ↓State.clock_foldl, implies_true]

theorem State.clock_noteClaim (s : State) : s.noteClaim.clock false = s.clock false := by
  simp only [State.noteClaim, ↓State.clock_mk_late]

theorem State.clock_sendRecords (s : State) (gridB : Int) : (s.sendRecords gridB).clock false = s.clock false := by
  simp only [State.sendRecords, ↓State.clock_mk_late]

theorem State.clock_sendPairFrame (s : State) : s.sendPairFrame.clock false = s.clock false := by
  unfold State.sendPairFrame
  dsimp only
  split <;> simp only [↓State.clock_sendRecords, ↓State.clock_activeCopies, ↓State.clock_drawInt, ↓State.clock_noteClaim,
    ↓State.clock_mk_late, ↓State.clock_ite]

/-! #### Calibration and the master -/

theorem State.clock_calTrigger (s : State) : s.calTrigger.clock false = s.clock false := by
  unfold State.calTrigger
  dsimp only
  split <;> simp only [↓State.clock_set, ↓State.clock_mk_late, ↓State.clock_cond, implies_true]

theorem State.clock_putSlot (s : State) (c : CalSlot) : (s.putSlot c).clock false = s.clock false := by
  simp only [State.putSlot, ↓State.clock_mk_late, ↓State.clock_ite]

theorem State.clock_startStore (s : State) : s.startStore.clock false = s.clock false := by
  unfold State.startStore
  dsimp only
  split_ifs <;> simp only [↓State.clock_set, ↓State.clock_putSlot, ↓State.clock_mk_late]

theorem State.clock_storeIfDue (s : State) : s.storeIfDue.clock false = s.clock false := by
  simp only [State.storeIfDue, ↓State.clock_startStore, ↓State.clock_cond, implies_true]

theorem State.clock_storeBoundary (s : State) : s.storeBoundary.clock false = s.clock false := by
  simp only [State.storeBoundary, ↓State.clock_set, ↓State.clock_startStore, ↓State.clock_storeIfDue, ↓State.clock_mk_late,
    ↓State.clock_cond, implies_true]

theorem State.clock_useStored (s : State) (w : Bool) : s.useStored.clock w = s.clock w := by
  simp only [State.useStored, ↓State.clock_set, ↓State.clock_mk]

theorem State.clock_startAcq (s : State) (w : Bool) : s.startAcq.clock w = s.clock w := by
  simp only [State.startAcq, ↓State.clock_set, ↓State.clock_mk, ↓State.clock_ite]

theorem State.clock_startMasterCmd (s : State) (bit : Nat) (w : Bool) : (s.startMasterCmd bit).clock w = s.clock w := by
  simp only [State.startMasterCmd, ↓State.clock_set, ↓State.clock_startAcq, ↓State.clock_useStored, ↓State.clock_cond, implies_true]

theorem State.clock_svcMasterStart (s : State) (p : Port) (w : Bool) : (s.svcMasterStart p).clock w = s.clock w := by
  simp only [State.svcMasterStart, ↓State.clock_wr, ↓State.clock_inc, ↓State.clock_startMasterCmd, ↓State.clock_record,
    ↓State.clock_calPause, ↓State.clock_mk, ↓State.clock_ite]

/-! #### Mailbox and snapshot -/

theorem State.clock_mccAt (s : State) (ofs : Nat) (w : Bool) : (s.mccAt ofs).2.clock w = s.clock w := by
  unfold State.mccAt
  split
  · rfl
  · split
    · rfl
    · exact s.clock_drawNat 12801 w

theorem State.clock_mboxCapture (s : State) (ofs : Nat) : (s.mboxCapture ofs).clock false = s.clock false := by
  unfold State.mboxCapture
  dsimp only
  split <;> simp only [↓State.clock_wr, ↓State.clock_set, ↓State.clock_mccAt, ↓State.clock_upto, implies_true]

theorem State.clock_mboxDue (s : State) (ofs : Nat) : (s.mboxDue ofs).clock false = s.clock false := by
  simp only [State.mboxDue, ↓State.clock_set, ↓State.clock_mboxCapture, ↓State.clock_ite]

theorem State.clock_mboxAuto (s : State) : s.mboxAuto.clock false = s.clock false := by
  simp only [State.mboxAuto, ↓State.clock_mboxDue, ↓State.clock_cond, implies_true]

theorem State.clock_takeSnap (s : State) (coherent : Bool) (ofs : Nat) (w : Bool) : (s.takeSnap coherent ofs).clock w = s.clock w := by
  simp only [State.takeSnap, ↓State.clock_set, ↓State.clock_setB, ↓State.clock_mccAt, ↓State.clock_mk]

theorem State.clock_snapBoundary (s : State) : s.snapBoundary.clock false = s.clock false := by
  simp only [State.snapBoundary, ↓State.clock_mk_late, ↓State.clock_cond, implies_true]

theorem State.clock_coherentSnap (s : State) (w : Bool) : s.coherentSnap.clock w = s.clock w := by
  simp only [State.coherentSnap, ↓State.clock_takeSnap, ↓State.clock_cond, implies_true]

theorem State.clock_startCommit (s : State) : s.startCommit.clock false = s.clock false := by
  simp only [State.startCommit, ↓State.clock_set]

/-! #### Programs, freezing and engine results -/

theorem State.clock_changeProgram (s : State) (c : Nat) : (s.changeProgram c).clock false = s.clock false := by
  simp only [State.changeProgram, ↓State.clock_inc, ↓State.clock_startProgram, ↓State.clock_setChan, ↓State.clock_cond, implies_true]

theorem State.clock_restartBoundary (s : State) : s.restartBoundary.clock false = s.clock false := by
  simp only [State.restartBoundary, ↓State.clock_set, ↓State.clock_changeProgram, ↓State.clock_ite, ↓State.clock_cond, implies_true]

theorem State.clock_freezeBoundary (s : State) : s.freezeBoundary.clock false = s.clock false := by
  simp only [State.freezeBoundary, ↓State.clock_freeze, ↓State.clock_mk_late, ↓State.clock_ite, ↓State.clock_upto, implies_true]

theorem State.clock_engineHop (s : State) (c : Nat) (q : HopReq) : (s.engineHop c q).clock false = s.clock false := by
  unfold State.engineHop
  split
  · exact s.clock_trigger ..
  · simp only [↓State.clock_ite, ↓State.clock_trigger, ↓State.clock_inc]

theorem State.clock_applyResult (s : State) (c : Nat) (q : Posted) : (s.applyResult c q).clock false = s.clock false := by
  simp only [State.applyResult, ↓State.clock_applyPosted, ↓State.clock_setChan, ↓State.clock_follow, ↓State.clock_thaw,
    ↓State.clock_engineHop, ↓State.clock_ite, ↓State.clock_elim, implies_true]

theorem State.clock_idleTakeover (s : State) (c : Nat) : (s.idleTakeover c).clock false = s.clock false := by
  simp only [State.idleTakeover, ↓State.clock_setChan, ↓State.clock_thaw, ↓State.clock_ite]

theorem State.clock_startCatchUp (s : State) (c : Nat) : (s.startCatchUp c).clock false = s.clock false := by
  unfold State.startCatchUp
  dsimp only
  split <;> simp only [↓State.clock_setChan, ↓State.clock_selectRef, ↓State.clock_ite, ↓State.clock_cond, implies_true]

theorem State.clock_resultOf (s : State) (late : List Nat) (c : Nat) : (s.resultOf late c).clock false = s.clock false := by
  unfold State.resultOf
  dsimp only
  split <;> simp only [↓State.clock_idleTakeover, ↓State.clock_setChan, ↓State.clock_applyResult, ↓State.clock_ite]

theorem State.clock_resultsBoundary (s : State) : s.resultsBoundary.clock false = s.clock false := by
  simp only [State.resultsBoundary, ↓State.clock_resultOf, ↓State.clock_setChan, ↓State.clock_collect, ↓State.clock_startCatchUp,
    ↓State.clock_ite, ↓State.clock_upto, implies_true]

/-! #### The boundary -/

theorem State.clock_masterBoundary (s : State) (w : Bool) : s.masterBoundary.clock w = s.clock w := by
  unfold State.masterBoundary
  dsimp only
  split <;> simp only [↓State.clock_svcMasterStart, ↓State.clock_muteAllNow, ↓State.clock_mk, ↓State.clock_cond, implies_true]

theorem State.clock_startCounter (s : State) (c : Nat) : (s.startCounter c).clock false = s.clock false := by
  simp only [State.startCounter, ↓State.clock_setChan, ↓State.clock_ite]

theorem State.clock_holdFree (s : State) (c : Nat) : (s.holdFree c).clock false = s.clock false := by
  simp only [State.holdFree, ↓State.clock_toFree, ↓State.clock_ite]

theorem State.clock_steerState (s : State) (c : Nat) : (s.steerState c).clock false = s.clock false := by
  unfold State.steerState
  dsimp only
  split <;> simp only [↓State.clock_setSel, ↓State.clock_holdFree, ↓State.clock_selectRef, ↓State.clock_stateRules, ↓State.clock_ite,
    ↓State.clock_elim, implies_true]

theorem State.clock_steerChannel (s : State) (c : Nat) : (s.steerChannel c).clock false = s.clock false := by
  simp only [State.steerChannel, ↓State.clock_steerState, ↓State.clock_recordRate, ↓State.clock_selectRef, ↓State.clock_cond, implies_true]

theorem State.clock_takeRequest (s : State) : s.takeRequest.clock false = s.clock false := by
  simp only [State.takeRequest, ↓State.clock_mk_late, ↓State.clock_cond, implies_true]

theorem State.clock_startPrograms (s : State) : s.startPrograms.clock false = s.clock false := by
  unfold State.startPrograms
  dsimp only
  split
  · rfl
  · refine (State.clock_upto _ _ (fun c t => (State.clock_ite (State.clock_setChan ..)).trans ?_) _).trans rfl
    simp only [↓State.clock_cond, ↓State.clock_ite, ↓State.clock_thaw, ↓State.clock_toFree, implies_true]

theorem State.clock_bootCommit (s : State) : s.bootCommit.clock false = s.clock false := by
  simp only [State.bootCommit, ↓State.clock_startCommit, ↓State.clock_cond, implies_true]

theorem State.clock_beginRun (s : State) : s.beginRun.clock false = s.clock false := by
  simp only [State.beginRun, ↓State.clock_set, ↓State.clock_startPrograms, ↓State.clock_takeRequest, ↓State.clock_mk_late]

theorem State.clock_serviceEmpty (s : State) : s.serviceEmpty.clock false = s.clock false := by
  simp only [State.serviceEmpty, ↓State.clock_setMode, ↓State.clock_mk_late]

theorem State.clock_bootBoundary (s : State) : s.bootBoundary.clock false = s.clock false := by
  unfold State.bootBoundary
  dsimp only
  split_ifs <;> simp only [↓State.clock_serviceEmpty, ↓State.clock_setMode, ↓State.clock_enterBasic, ↓State.clock_bootCommit,
    ↓State.clock_beginRun, ↓State.clock_mk_late]

theorem State.clock_selfcalBoundary (s : State) : s.selfcalBoundary.clock false = s.clock false := by
  simp only [State.selfcalBoundary, ↓State.clock_beginRun, ↓State.clock_ite]

theorem State.clock_serviceAborts (s : State) : s.serviceAborts.clock false = s.clock false := by
  simp only [State.serviceAborts, ↓State.clock_set, ↓State.clock_inc, ↓State.clock_cond, implies_true]

theorem State.clock_enterService (s : State) : s.enterService.clock false = s.clock false := by
  unfold State.enterService
  dsimp only
  rw [State.clock_setMode, State.clock_cond]
  · simp only [↓State.clock_abortEpoch, ↓State.clock_yieldNow, ↓State.clock_serviceAborts]
  · intro t
    simp only [↓State.clock_mk_late, ↓State.clock_endPairCmd, ↓State.clock_cond, ↓State.clock_takeOwnQl, ↓State.clock_set, implies_true]

theorem State.clock_leaveService (s : State) : s.leaveService.clock false = s.clock false := by
  simp only [State.leaveService, ↓State.clock_set, ↓State.clock_setMode, ↓State.clock_startPrograms, ↓State.clock_mk_late, ↓State.clock_ite]

theorem State.clock_requestBoundary (s : State) : s.requestBoundary.clock false = s.clock false := by
  simp only [State.requestBoundary, ↓State.clock_enterService, ↓State.clock_leaveService, ↓State.clock_ite]

theorem State.clock_settleMode (s : State) (before : Nat) : (s.settleMode before).clock false = s.clock false := by
  simp only [State.settleMode, ↓State.clock_set, ↓State.clock_setMode, ↓State.clock_startForming, ↓State.clock_deriveMode,
    ↓State.clock_ite, ↓State.clock_cond, implies_true]

theorem State.clock_calBoundary (s : State) : s.calBoundary.clock false = s.clock false := by
  simp only [State.calBoundary, ↓State.clock_calTrigger, ↓State.clock_storeBoundary, ↓State.clock_mk_late, ↓State.clock_cond, implies_true]

theorem State.clock_flushLocks (s : State) (w : Bool) : s.flushLocks.clock w = s.clock w := by
  simp only [State.flushLocks, ↓State.clock_deriveMode, ↓State.clock_loseLock, ↓State.clock_declareLock, ↓State.clock_cond,
    ↓State.clock_upto, implies_true]

theorem State.clock_outward (s : State) : s.outward.clock false = s.clock false := by
  simp only [State.outward, ↓State.clock_bankBoundary, ↓State.clock_ppsBoundary, ↓State.clock_mboxAuto, ↓State.clock_outBoundary,
    ↓State.clock_streamHops, ↓State.clock_snapBoundary, ↓State.clock_sendPairFrame, ↓State.clock_sendTimeWords, ↓State.clock_cond,
    ↓State.clock_upto, implies_true]

theorem State.clock_newSecond (s : State) (w : Bool) : s.newSecond.clock w = s.clock w := by
  simp only [State.newSecond, ↓State.clock_mk, ↓State.clock_cond, implies_true]

end Sys2Proof.Machine

namespace Sys2Proof.Machine

/-! ### A boundary in a live mode (R15, R45, R46) -/

/-- The beat of a boundary once its tick and its master cycles have been counted. -/
def State.nextBeat (s : State) (m : MasterSample) : Nat × Bool × Nat × List Instr :=
  (if s.dev.ticking then (s.dev.tick + 1) % 2 ^ 64 else s.dev.tick, true,
    if s.msyn.counting then (s.msyn.mcc + m.cycles) % 2 ^ 64 else s.msyn.mcc, s.pending)

theorem State.beat_of_clock {s t : State} {w : Bool} (h : t.clock w = s.clock w) : t.beat = s.beat := congrArg Prod.fst h

theorem State.due_of_clock {s t : State} (h : t.clock true = s.clock true) : t.due = s.due :=
  Option.some.inj (congrArg Prod.snd h)

theorem State.clock_late {s t : State} (h : t.clock true = s.clock true) : t.clock false = s.clock false := by
  rw [State.clock, State.clock, State.beat_of_clock h]
  rfl

theorem State.nextBeat_congr {s t : State} (m : MasterSample) (h : t.clock true = s.clock true) : t.nextBeat m = s.nextBeat m := by
  have hbeat := State.beat_of_clock h
  have hdue := State.due_of_clock h
  simp only [State.beat, State.due, Prod.mk.injEq] at hbeat hdue
  obtain ⟨htick, hticking, hmcc, hq⟩ := hbeat
  obtain ⟨-, -, hcounting⟩ := hdue
  rw [State.nextBeat, State.nextBeat, htick, hticking, hmcc, hq, hcounting]

/-- No write group and no event of the pair waits. -/
theorem State.nothing_due_congr {s t : State} (h : t.due = s.due) (hg : s.dev.groups = []) (hs : s.pair.stream = []) :
    t.dev.groups = [] ∧ t.pair.stream = [] := by
  simpa [State.due, hg, hs] using And.intro (congrArg Prod.fst h) (congrArg (·.2.1) h)

/-- R15, R45, R46: the tick and the master of a boundary lead to the next beat, and leave what is due. -/
theorem State.tickMaster_beat (s : State) (m : MasterSample) : (s.tickMaster m).beat = s.nextBeat m ∧ (s.tickMaster m).due = s.due := by
  have hcount : s.tickCounted (s.tickMaster m) m ∧ (s.tickMaster m).pending = s.pending := by
    by_cases h : s.mode = 11
    · obtain ⟨hc, hq, -⟩ := State.tickMaster_test m h
      exact ⟨hc, hq⟩
    · obtain ⟨hc, -, hq, -⟩ := State.tickMaster_live m h
      exact ⟨hc, hq⟩
  obtain ⟨⟨hdev, hmsyn, -, -, -, hpair⟩, hq⟩ := hcount
  have hstream : (s.trimmed m.cycles).stream = s.pair.stream := by
    unfold State.trimmed
    split <;> rfl
  rw [State.beat, State.due, hdev, hmsyn, hpair, hq, hstream]
  exact ⟨rfl, rfl⟩

theorem State.applyGroups_none {s : State} (h : s.dev.groups = []) : s.applyGroups = s := by
  unfold State.applyGroups
  dsimp only
  rw [h]
  rfl

/-- R232: a boundary on which no event of the pair waits runs none. -/
theorem State.runStream_none {s : State} (h : s.pair.stream = []) (w : Bool) : s.runStream.clock w = s.clock w := by
  unfold State.runStream
  dsimp only
  simp only [h, List.filter_nil, List.foldl_nil, List.append_nil]
  exact State.clock_mk s (hm := rfl) (ht := rfl) (hk := rfl) (hg := rfl) (hs := by rw [h]) (hc := rfl) ..

theorem State.clock_tickL2 (s : State) : s.tickL2.clock false = s.clock false := by
  unfold State.tickL2
  dsimp only
  rw [State.clock_sendTimeWords, State.clock_upto _ _ fun c t => ?_, State.clock_upto _ _ fun c t => ?_]
  · exact t.clock_ppsPulse c false
  · rw [State.clock_drizzleStep, State.clock_hopBoundary, State.clock_startCounter]

/-- R16: the steps of a boundary in BOOT and later up to the write groups, where nothing is due. -/
theorem State.clock_untilGroups {s : State} (hg : s.dev.groups = []) (hs : s.pair.stream = []) {t : State} (ht : t.clock true = s.clock true) :
    t.runStream.applyGroups.restartBoundary.clock false = s.clock false := by
  obtain ⟨-, hstream⟩ := State.nothing_due_congr (State.due_of_clock ht) hg hs
  have hrun := (State.runStream_none hstream true).trans ht
  obtain ⟨hgroups, -⟩ := State.nothing_due_congr (State.due_of_clock hrun) hg hs
  rw [State.clock_restartBoundary, State.applyGroups_none hgroups, State.clock_late hrun]

/-- R16: a boundary in BOOT and later on which nothing is due. -/
theorem State.clock_tickLive {s : State} (hg : s.dev.groups = []) (hs : s.pair.stream = []) : s.tickLive.clock false = s.clock false := by
  unfold State.tickLive
  extract_lets before pulsed hopped grouped resulted moded steered stepped settled flowed
  have hhopped : hopped.masterBoundary.clock true = s.clock true := by
    simp only [hopped, pulsed, ↓State.clock_masterBoundary, ↓State.clock_hopRecords, ↓State.clock_upto, ↓State.clock_hopPending,
      ↓State.clock_ppsPulse, ↓State.clock_newSecond, implies_true]
  have hgrouped : grouped.clock false = s.clock false := State.clock_untilGroups hg hs hhopped
  have hresulted : resulted.clock false = grouped.clock false := by
    rw [State.clock_resultsBoundary, State.clock_freezeBoundary, State.clock_takeRequest]
  have hmoded : moded.clock false = resulted.clock false := by
    simp only [moded]
    split
    · exact State.clock_bootBoundary _
    · split
      · exact State.clock_selfcalBoundary _
      · exact State.clock_requestBoundary _
  have hsteered : steered.clock false = moded.clock false :=
    State.clock_cond _ _ _ fun t => State.clock_upto _ _ (fun c u => u.clock_steerChannel c) t
  have hstepped : stepped.clock false = steered.clock false :=
    State.clock_upto _ _ (fun c u => by rw [State.clock_drizzleStep, State.clock_hopBoundary, State.clock_startCounter]) _
  have hsettled : settled.clock false = stepped.clock false := by
    rw [State.clock_pairBoundary, State.clock_calBoundary, State.clock_settleMode]
  have hflowed : flowed.clock false = settled.clock false := State.clock_cond _ _ _ fun t => t.clock_flowsBoundary
  rw [State.clock_outward, hflowed, hsettled, hstepped, hsteered, hmoded, hresulted, hgrouped]

/-- R16, R22: what follows the tick and the master at a boundary on which nothing is due. -/
theorem State.afterMaster_clock {s : State} (hg : s.dev.groups = []) (hs : s.pair.stream = []) :
    (if s.mode = 11 then s.tickTest else
      let t := State.upto 512 (fun c s => s.advance c) s
      if t.mode = 0 then t.tickL2 else t.tickLive).clock false = s.clock false := by
  have hadvanced : (State.upto 512 (fun c s => s.advance c) s).clock true = s.clock true :=
    State.clock_upto _ _ (fun c t => t.clock_advance c true) s
  obtain ⟨hgroups, hstream⟩ := State.nothing_due_congr (State.due_of_clock hadvanced) hg hs
  split
  · rw [State.tickTest, State.applyGroups_none hg]
  · dsimp only
    split
    · rw [State.clock_tickL2, State.clock_late hadvanced]
    · rw [State.clock_tickLive hgroups hstream, State.clock_late hadvanced]

/-- R15, R45, R46: a boundary that counts and on which nothing is due leads to the next beat. -/
theorem State.tickBoundary_beat {s : State} (m : MasterSample) (hcold : s.rst.cold = false) (hg : s.dev.groups = []) (hs : s.pair.stream = []) :
    (s.tickBoundary m).beat = s.nextBeat m := by
  have hstart : s.coherentSnap.flushLocks.clock true = s.clock true := by rw [State.clock_flushLocks, State.clock_coherentSnap]
  obtain ⟨hbeat, hdue⟩ := s.coherentSnap.flushLocks.tickMaster_beat m
  obtain ⟨hgroups, hstream⟩ := State.nothing_due_congr (hdue.trans (State.due_of_clock hstart)) hg hs
  have hafter := State.afterMaster_clock hgroups hstream
  unfold State.tickBoundary
  rw [if_neg (by simp [hcold])]
  exact (State.beat_of_clock hafter).trans (hbeat.trans (State.nextBeat_congr m hstart))

/-- Settles O55: the tick and the master count, and every other step of the boundary leaves the beat. -/
theorem liveBoundariesCount : Obligations.LiveBoundariesCount := by
  unfold Obligations.LiveBoundariesCount
  intro s m hcold _ _ hg hs
  have hbeat := State.tickBoundary_beat m hcold hg hs
  simp only [State.beat, State.nextBeat, Prod.mk.injEq] at hbeat
  obtain ⟨htick, hticking, hmcc, hq⟩ := hbeat
  exact ⟨_, exec_applyTickBoundary m s, htick, hticking, hmcc, hq, State.settle_shows _⟩

end Sys2Proof.Machine

namespace Sys2Proof.Machine

/-! ### Words and frames of the master's events -/

/-- Two fields that share no bit can be put in either order. -/
theorem Fld.put_comm (f g : Fld) (w : Word) (u v : Nat) (hf : f.ok = true) (hg : g.ok = true) (ha : f.apart g = true) :
    f.put (g.put w v) u = g.put (f.put w u) v := by
  have ha' : g.apart f = true := by rwa [Fld.apart, Bool.or_comm]
  have hfg : f.of (g.put w v) = f.of w := g.of_put_apart f w v hg hf ha'
  have hgf : g.of (f.put w u) = g.of w := f.of_put_apart g w u hf hg ha
  rw [Fld.put, hfg, Fld.put.eq_def g (f.put w u), hgf, Fld.put, Fld.put]
  ring

theorem State.changesOnly.set {s t : State} {parts : List Part} {words : List (Rg × Nat)} (h : s.changesOnly t parts words) (f : Fld)
    (v i : Nat) (hw : (f.r, i) ∈ words) : s.changesOnly (t.set f v i) parts words := h.trans (t.changesOnly_set f v i parts hw)

theorem State.changesOnly.inc {s t : State} {parts : List Part} {words : List (Rg × Nat)} (h : s.changesOnly t parts words) (r : Rg)
    (i : Nat) (hw : (r, i) ∈ words) : s.changesOnly (t.inc r i) parts words := h.trans (t.changesOnly_inc r i parts hw)

theorem State.changesOnly.wr {s t : State} {parts : List Part} {words : List (Rg × Nat)} (h : s.changesOnly t parts words) (r : Rg)
    (i : Nat) (w : Word) (hw : (r, i) ∈ words) : s.changesOnly (t.wr r i w) parts words := h.trans (t.changesOnly_wr r i w parts hw)

theorem State.changesOnly.msyn {s t : State} {parts : List Part} {words : List (Rg × Nat)} (h : s.changesOnly t parts words) (x : Msyn)
    (hp : Part.msyn ∈ parts) : s.changesOnly { t with msyn := x } parts words := h.trans (t.changesOnly_msyn x words hp)

/-- R47: a loop that is not held stands at the stage that STATE shows. -/
theorem State.acqStage_shown {s : State} (h : s.get MSYN_STS.STATE ≠ 7) : s.acqStage = s.get MSYN_STS.STATE := if_neg h

/-- R47: a held loop stands at the stage that the hold keeps. -/
theorem State.acqStage_held {s : State} (h : s.get MSYN_STS.STATE = 7) : s.acqStage = s.msyn.heldStage := if_pos h

/-! ### The steps of an acquisition (R37, R42) -/

/-- R42: the settle of the first attempt ends, and the band search begins. -/
theorem exec_acquisitionSettleDone_effect {s : State} (hacq : s.on MSYN_STS.ACQ = true) (hst : s.get MSYN_STS.STATE = 1) :
    ∃ t, exec .acquisitionSettleDone s = .next t
      ∧ t.rd .MSYN_STS = MSYN_STS.STATE.put (s.rd .MSYN_STS) 2 ∧ t.msyn = { s.msyn with settled := true }
      ∧ s.frame t [.msyn] [(.MSYN_STS, 0)] := by
  have hopen : s.get MSYN_STS.STATE ≠ 7 := by omega
  have he : exec .acquisitionSettleDone s = done (State.set { s with msyn := { s.msyn with settled := true } } MSYN_STS.STATE 2) :=
    congrArg done ((if_pos ⟨hacq, (State.acqStage_shown hopen).trans hst⟩).trans (if_neg hopen))
  refine ⟨_, he, ?_, ?_, ?_⟩
  · rw [State.settle_rd_of, State.rd_set_same _ _ _ _ rfl, State.mk_rd]
  · rw [State.settle_msyn, State.set_msyn]
  · exact ((s.changesOnly_msyn _ _ (by simp)).set MSYN_STS.STATE 2 0 (by simp)).frame

/-- R42, R47: the filters settle behind a hold too. -/
theorem exec_acquisitionSettleDone_held_effect {s : State} (hacq : s.on MSYN_STS.ACQ = true) (hst : s.get MSYN_STS.STATE = 7)
    (hstage : s.msyn.heldStage = 1) :
    ∃ t, exec .acquisitionSettleDone s = .next t
      ∧ t.msyn = { s.msyn with settled := true, heldStage := 2 } ∧ s.frame t [.msyn] [] := by
  have he : exec .acquisitionSettleDone s = done { s with msyn := { s.msyn with settled := true, heldStage := 2 } } :=
    congrArg done ((if_pos ⟨hacq, (State.acqStage_held hst).trans hstage⟩).trans (if_pos hst))
  exact ⟨_, he, by rw [State.settle_msyn], (s.changesOnly_msyn _ _ (by simp)).frame⟩

/-- R37: the band search names the VCO, the band and the tuning word, and the loop closes. -/
theorem exec_bandSearchDone_effect {s : State} (vco band tune : Nat) (hst : s.get MSYN_STS.STATE = 2) :
    ∃ t, exec (.bandSearchDone vco band tune) s = .next t
      ∧ t.rd .MSYN_STS = MSYN_STS.STATE.put (MSYN_STS.BAND.put (MSYN_STS.VCO.put (s.rd .MSYN_STS) vco) band) 3
      ∧ t.rd .MSYN_TUNE = MSYN_TUNE.TUNE.put (s.rd .MSYN_TUNE) tune
      ∧ s.frame t [] [(.MSYN_STS, 0), (.MSYN_TUNE, 0)] := by
  have he : exec (.bandSearchDone vco band tune) s
      = done ((((s.set MSYN_STS.VCO vco).set MSYN_STS.BAND band).set MSYN_TUNE.TUNE tune).set MSYN_STS.STATE 3) :=
    congrArg done (if_pos hst)
  refine ⟨_, he, ?_, ?_, ?_⟩
  · simp (disch := decide) only [State.settle_rd_of, State.rd_set_same, State.rd_set_ne]
  · simp (disch := decide) only [State.settle_rd_of, State.rd_set_same, State.rd_set_ne]
  · exact ((((s.changesOnly_refl _ _).set MSYN_STS.VCO vco 0 (by simp)).set MSYN_STS.BAND band 0 (by simp)).set MSYN_TUNE.TUNE tune 0
      (by simp)).set MSYN_STS.STATE 3 0 (by simp) |>.frame

/-- R42: an attempt before the third that fails is counted, and the next one follows it: shown, or behind the hold. -/
theorem exec_acquisitionAttemptTimeout {s : State} (hacq : s.on MSYN_STS.ACQ = true) (hn : s.get MSYN_STS.ATTEMPT < 3) :
    exec .acquisitionAttemptTimeout s = done (
      let u := (s.inc .MSYN_ATTEMPT_FAIL_CNT).set MSYN_STS.ATTEMPT (s.get MSYN_STS.ATTEMPT + 1)
      if s.on MSYN_STS.HELD then { u with msyn := { s.msyn with heldStage := 2 } } else u.set MSYN_STS.STATE 2) := by
  have hheld : (s.inc .MSYN_ATTEMPT_FAIL_CNT).on MSYN_STS.HELD = s.on MSYN_STS.HELD :=
    congrArg (· != 0) (s.get_inc_ne .MSYN_ATTEMPT_FAIL_CNT 0 MSYN_STS.HELD 0 (by decide))
  refine congrArg done ((if_pos hacq).trans ((if_neg (Nat.not_le.mpr hn)).trans ?_))
  rw [hheld, State.inc_msyn]

theorem exec_acquisitionAttemptTimeout_effect {s : State} (hacq : s.on MSYN_STS.ACQ = true) (hn : s.get MSYN_STS.ATTEMPT < 3)
    (hheld : s.on MSYN_STS.HELD = false) :
    ∃ t, exec .acquisitionAttemptTimeout s = .next t
      ∧ t.rd .MSYN_STS = MSYN_STS.STATE.put (MSYN_STS.ATTEMPT.put (s.rd .MSYN_STS) (s.get MSYN_STS.ATTEMPT + 1)) 2
      ∧ s.counted t .MSYN_ATTEMPT_FAIL_CNT 0 1
      ∧ s.frame t [] [(.MSYN_STS, 0), (.MSYN_ATTEMPT_FAIL_CNT, 0)] := by
  have he := exec_acquisitionAttemptTimeout hacq hn
  dsimp only at he
  rw [if_neg (ne_true_of_eq_false hheld)] at he
  refine ⟨_, he, ?_, ?_, ?_⟩
  · simp (disch := decide) only [State.settle_rd_of, State.rd_set_same, State.rd_inc_ne]
  · simp (disch := decide) only [State.counted, State.settle_rd_of, State.rd_set_ne, State.rd_inc_same]
  · exact ((((s.changesOnly_refl _ _).inc .MSYN_ATTEMPT_FAIL_CNT 0 (by simp)).set MSYN_STS.ATTEMPT _ 0 (by simp)).set MSYN_STS.STATE 2 0
      (by simp)).frame

/-- R42, R47: the attempts go on behind a hold. -/
theorem exec_acquisitionAttemptTimeout_held_effect {s : State} (hacq : s.on MSYN_STS.ACQ = true) (hn : s.get MSYN_STS.ATTEMPT < 3)
    (hheld : s.on MSYN_STS.HELD = true) :
    ∃ t, exec .acquisitionAttemptTimeout s = .next t
      ∧ t.rd .MSYN_STS = MSYN_STS.ATTEMPT.put (s.rd .MSYN_STS) (s.get MSYN_STS.ATTEMPT + 1) ∧ t.msyn = { s.msyn with heldStage := 2 }
      ∧ s.counted t .MSYN_ATTEMPT_FAIL_CNT 0 1
      ∧ s.frame t [.msyn] [(.MSYN_STS, 0), (.MSYN_ATTEMPT_FAIL_CNT, 0)] := by
  have he := exec_acquisitionAttemptTimeout hacq hn
  dsimp only at he
  rw [if_pos hheld] at he
  refine ⟨_, he, ?_, ?_, ?_, ?_⟩
  · simp (disch := decide) only [State.settle_rd_of, State.mk_rd, State.rd_set_same, State.rd_inc_ne]
  · rw [State.settle_msyn]
  · simp (disch := decide) only [State.counted, State.settle_rd_of, State.mk_rd, State.rd_set_ne, State.rd_inc_same]
  · exact ((((s.changesOnly_refl _ _).inc .MSYN_ATTEMPT_FAIL_CNT 0 (by simp)).set MSYN_STS.ATTEMPT _ 0 (by simp)).msyn _
      (by simp)).frame

/-! ### A missing reference (R47) -/

theorem exec_xoReferenceMissing_effect {s : State} (hst : s.get MSYN_STS.STATE ≠ 0) (hheld : s.on MSYN_STS.HELD = false)
    (h11 : s.mode ≠ 11) :
    ∃ t, exec .xoReferenceMissing s = .next t
      ∧ t.rd .MSYN_STS = MSYN_STS.STATE.put (MSYN_STS.REFMISS.put (MSYN_STS.HELD.put (s.rd .MSYN_STS) 1) 1) 7
      ∧ s.counted t .MSYN_REFMISS_CNT 0 1 ∧ t.msyn = { s.msyn with heldStage := s.get MSYN_STS.STATE }
      ∧ s.frame t [.msyn] [(.MSYN_STS, 0), (.MSYN_REFMISS_CNT, 0)] := by
  have he : exec .xoReferenceMissing s = done (
      let u := (((s.set MSYN_STS.HELD 1).set MSYN_STS.REFMISS 1).set MSYN_STS.STATE 7).inc .MSYN_REFMISS_CNT
      { u with msyn := { u.msyn with heldStage := s.get MSYN_STS.STATE } }) :=
    congrArg done (if_pos ⟨hst, ne_true_of_eq_false hheld, h11⟩)
  refine ⟨_, he, ?_, ?_, ?_, ?_⟩
  · simp (disch := decide) only [State.settle_rd_of, State.mk_rd, State.rd_inc_ne, State.rd_set_same]
  · simp (disch := decide) only [State.counted, State.settle_rd_of, State.mk_rd, State.rd_inc_same, State.rd_set_ne]
  · simp only [State.settle_msyn, State.inc_msyn, State.set_msyn]
  · exact (((((s.changesOnly_refl _ _).set MSYN_STS.HELD 1 0 (by simp)).set MSYN_STS.REFMISS 1 0 (by simp)).set MSYN_STS.STATE 7 0
      (by simp)).inc .MSYN_REFMISS_CNT 0 (by simp)).msyn _ (by simp) |>.frame

theorem exec_xoReferenceResumed_effect {s : State} (hmiss : s.on MSYN_STS.REFMISS = true) (hforced : s.on CLK_STS.FORCED = false)
    (h11 : s.mode ≠ 11) :
    ∃ t, exec .xoReferenceResumed s = .next t
      ∧ t.rd .MSYN_STS = (if s.msyn.heldBasic then MSYN_STS.REFMISS.put (s.rd .MSYN_STS) 0
          else MSYN_STS.STATE.put (MSYN_STS.REFMISS.put (MSYN_STS.HELD.put (s.rd .MSYN_STS) 0) 0) s.msyn.heldStage)
      ∧ s.frame t [] [(.MSYN_STS, 0)] := by
  have he : exec .xoReferenceResumed s = done (if s.msyn.heldBasic then s.set MSYN_STS.REFMISS 0
      else ((s.set MSYN_STS.REFMISS 0).set MSYN_STS.HELD 0).set MSYN_STS.STATE s.msyn.heldStage) :=
    congrArg done (if_pos ⟨hmiss, ne_true_of_eq_false hforced, h11⟩)
  have hshown := (s.changesOnly_refl [] [(.MSYN_STS, 0)]).set MSYN_STS.REFMISS 0 0 (by simp)
  refine ⟨_, he, ?_⟩
  cases s.msyn.heldBasic with
  | true =>
    refine ⟨?_, hshown.frame⟩
    simp (disch := decide) only [if_true, State.settle_rd_of, State.rd_set_same]
  | false =>
    refine ⟨?_, ((hshown.set MSYN_STS.HELD 0 0 (by simp)).set MSYN_STS.STATE _ 0 (by simp)).frame⟩
    simp (disch := decide) only [Bool.false_eq_true, if_false, State.settle_rd_of, State.rd_set_same]
    rw [Fld.put_comm MSYN_STS.HELD MSYN_STS.REFMISS _ _ _ (by decide) (by decide) (by decide)]

/-- Settles O5: each event is one update of the master's words, shown, or kept behind the hold. -/
theorem acquisitionAndHold : Obligations.AcquisitionAndHold := by
  unfold Obligations.AcquisitionAndHold
  exact ⟨⟨fun s => exec_acquisitionSettleDone_effect, fun s => exec_acquisitionSettleDone_held_effect,
      fun s vco band tune => exec_bandSearchDone_effect vco band tune, fun s => exec_acquisitionAttemptTimeout_effect,
      fun s => exec_acquisitionAttemptTimeout_held_effect⟩,
    fun s => exec_xoReferenceMissing_effect, fun s => exec_xoReferenceResumed_effect⟩

end Sys2Proof.Machine

namespace Sys2Proof.Machine

/-! ### An entry of the log between other changes (R302) -/

/-- R302, R303: an entry goes to the log port. -/
theorem State.log_wrote (s : State) (code block sev : Nat) (d0 d1 d2 : Word) : s.wrote (s.log code block sev d0 d1 d2) code block sev d0 d1 d2 := by
  unfold State.wrote State.mode
  obtain ⟨hm, he⟩ | ⟨hm, -, he⟩ | ⟨hm, hbusy, he | he⟩ := s.log_cases code block sev d0 d1 d2 <;> rw [he]
  · rw [if_pos hm]
    exact ⟨rfl, rfl⟩
  · rw [if_neg hm]
    exact .inl (s.logTake_wrote ..)
  · rw [if_neg hm]
    exact .inr ⟨hbusy, by rw [State.inc_mgmt]; rfl, by rw [State.inc_mgmt]; rfl, (s.drawNat 2).2.rd_inc_same .MGMT_LOG_LOST_CNT 0⟩
  · rw [if_neg hm]
    exact .inl ((s.drawNat 2).2.logTake_wrote ..)

/-- R302: what a command does before its entry and after it leaves the entry, where it touches neither the log nor the mode. -/
theorem State.wrote_of_log {s u v t : State} {parts parts' : List Part} {words words' : List (Rg × Nat)} {code block sev : Nat}
    {d0 d1 d2 : Word} (hu : s.changesOnly u parts words) (hv : u.log code block sev d0 d1 d2 = v) (ht : v.changesOnly t parts' words')
    (hp : Part.mgmt ∉ parts ∧ Part.dev ∉ parts ∧ Part.mgmt ∉ parts')
    (hw : ∀ q ∈ words, q.1.key q.2 ≠ Rg.DEV_MODE.key 0 ∧ q.1.key q.2 ≠ Rg.MGMT_LOG_LOST_CNT.key 0)
    (hw' : ∀ q ∈ words', q.1.key q.2 ≠ Rg.MGMT_LOG_LOST_CNT.key 0) : s.wrote t.settle code block sev d0 d1 d2 := by
  obtain ⟨hmgmt, hdev, hmgmt'⟩ := hp
  have hmode : u.mode = s.mode := hu.get_eq DEV_MODE.MODE fun q hq => (hw q hq).1
  have hlost : u.rd .MGMT_LOG_LOST_CNT = s.rd .MGMT_LOG_LOST_CNT := hu.rd_eq fun q hq => (hw q hq).2
  have hm : u.mgmt = s.mgmt := hu.part .mgmt hmgmt
  have hd : u.dev = s.dev := hu.part .dev hdev
  have hmt : t.mgmt = v.mgmt := ht.part .mgmt hmgmt'
  have hwrote := hv ▸ u.log_wrote code block sev d0 d1 d2
  simp only [State.wrote, State.counted, State.logRecent, hmode, hlost, hm, hd] at hwrote
  simp only [State.wrote, State.counted, State.logRecent, State.settle_mgmt, State.settle_rd_of, ht.rd_eq hw', hmt]
  exact hwrote

/-! ### Lock declared (R42, R45) -/

/-- R42: the words that a declared lock writes. -/
def State.lockShown (s : State) (durationUs tune : Nat) : State :=
  let u := (((s.set MSYN_STS.LOCK 1).set MSYN_STS.STATE 4).set MSYN_STS.ACQ 0).set MSYN_ACQ.ATTEMPTS (s.get MSYN_STS.ATTEMPT)
  (((u.set MSYN_STS.ATTEMPT 0).set MSYN_ACQ.LOCK_TIME (min durationUs (2 ^ 24 - 1))).set MSYN_TUNE.TUNE tune).wr .MSYN_CMD 0 0

theorem State.lockShown_msyn (s : State) (durationUs tune : Nat) : (s.lockShown durationUs tune).msyn = s.msyn := by
  simp only [State.lockShown, State.wr_msyn, State.set_msyn]

/-- R42, R45: beside its words a declared lock starts the master-cycle count where none runs, and a retune is over. -/
def State.startCount (s : State) : State :=
  { s with
    msyn := { s.msyn with counting := true, mcc := if !s.msyn.counting then 0 else s.msyn.mcc, everLocked := true, failed := false }
    rst := { s.rst with retuning := false } }

theorem State.startCount_rd (s : State) (r : Rg) (i : Nat) : s.startCount.rd r i = s.rd r i := by
  rw [State.startCount, State.mk_rd]

theorem State.startCount_changesOnly (s : State) (words : List (Rg × Nat)) : s.changesOnly s.startCount [.msyn, .rst] words :=
  (s.changesOnly_msyn s.startCount.msyn words (by simp)).trans (State.changesOnly_rst _ s.startCount.rst words (by simp))

theorem State.lockMaster_eq (s : State) (durationUs tune : Nat) :
    s.lockMaster durationUs tune = (s.lockShown durationUs tune).startCount := rfl

theorem State.lockMaster_words (s : State) (durationUs tune : Nat) :
    let t := s.lockMaster durationUs tune
    t.rd .MSYN_STS = MSYN_STS.ATTEMPT.put (MSYN_STS.ACQ.put (MSYN_STS.STATE.put (MSYN_STS.LOCK.put (s.rd .MSYN_STS) 1) 4) 0) 0
      ∧ t.rd .MSYN_ACQ
        = MSYN_ACQ.LOCK_TIME.put (MSYN_ACQ.ATTEMPTS.put (s.rd .MSYN_ACQ) (s.get MSYN_STS.ATTEMPT)) (min durationUs (2 ^ 24 - 1))
      ∧ t.rd .MSYN_CMD = 0 ∧ t.rd .MSYN_TUNE = MSYN_TUNE.TUNE.put (s.rd .MSYN_TUNE) tune := by
  dsimp only
  refine ⟨?_, ?_, ?_, ?_⟩ <;>
    simp (disch := decide) only [State.lockMaster_eq, State.startCount_rd, State.lockShown, State.rd_wr_same, State.rd_wr_ne,
      State.rd_set_same, State.rd_set_ne]

theorem State.lockMaster_changesOnly (s : State) (durationUs tune : Nat) :
    s.changesOnly (s.lockMaster durationUs tune) [.msyn, .rst] [(.MSYN_STS, 0), (.MSYN_ACQ, 0), (.MSYN_TUNE, 0), (.MSYN_CMD, 0)] := by
  have hlocked := ((((s.changesOnly_refl [.msyn, .rst] [(.MSYN_STS, 0), (.MSYN_ACQ, 0), (.MSYN_TUNE, 0), (.MSYN_CMD, 0)]).set
    MSYN_STS.LOCK 1 0 (by simp)).set MSYN_STS.STATE 4 0 (by simp)).set MSYN_STS.ACQ 0 0 (by simp)).set MSYN_ACQ.ATTEMPTS
    (s.get MSYN_STS.ATTEMPT) 0 (by simp)
  have hshown : s.changesOnly (s.lockShown durationUs tune) [.msyn, .rst] _ :=
    (((hlocked.set MSYN_STS.ATTEMPT 0 0 (by simp)).set MSYN_ACQ.LOCK_TIME (min durationUs (2 ^ 24 - 1)) 0 (by simp)).set
      MSYN_TUNE.TUNE tune 0 (by simp)).wr .MSYN_CMD 0 0 (by simp)
  exact hshown.trans (State.startCount_changesOnly _ _)

/-- R45: the master-cycle count starts at the first lock. -/
theorem State.lockMaster_count (s : State) (durationUs tune : Nat) :
    (s.lockMaster durationUs tune).msyn.counting = true
      ∧ (s.lockMaster durationUs tune).msyn.mcc = if s.msyn.counting then s.msyn.mcc else 0 := by
  rw [State.lockMaster_eq, ← s.lockShown_msyn durationUs tune]
  refine ⟨rfl, ?_⟩
  generalize s.lockShown durationUs tune = u
  rw [State.startCount]
  cases u.msyn.counting <;> rfl

/-- R42: what the status and acquisition words of a declared lock read. -/
theorem State.lockMaster_fields (s : State) (durationUs tune : Nat) :
    let t := s.lockMaster durationUs tune
    t.get MSYN_STS.LOCK = 1 ∧ t.get MSYN_STS.STATE = 4 ∧ t.get MSYN_STS.ACQ = 0 ∧ t.get MSYN_STS.ATTEMPT = 0
      ∧ t.get MSYN_ACQ.ATTEMPTS = s.get MSYN_STS.ATTEMPT ∧ t.get MSYN_ACQ.LOCK_TIME = min durationUs (2 ^ 24 - 1) := by
  obtain ⟨hsts, hacq, -, -⟩ := s.lockMaster_words durationUs tune
  have hattempts : s.get MSYN_STS.ATTEMPT < 4 := MSYN_STS.ATTEMPT.of_lt _
  simp (disch := decide) only [State.get, hsts, hacq, Fld.of_put_same, Fld.of_put_apart]
  refine ⟨rfl, rfl, rfl, rfl, Nat.mod_eq_of_lt hattempts, Nat.mod_eq_of_lt ?_⟩
  show _ < 2 ^ 24
  omega

theorem exec_masterLockDeclared_effect {s : State} (durationUs tune : Nat) (hst : s.get MSYN_STS.STATE = 3)
    (hacq : s.on MSYN_STS.ACQ = true) (hheld : s.on MSYN_STS.HELD = false) :
    ∃ t, exec (.masterLockDeclared durationUs tune) s = .next t
      ∧ t.get MSYN_STS.LOCK = 1 ∧ t.get MSYN_STS.STATE = 4 ∧ t.get MSYN_STS.ACQ = 0 ∧ t.get MSYN_STS.ATTEMPT = 0
      ∧ t.get MSYN_ACQ.ATTEMPTS = s.get MSYN_STS.ATTEMPT ∧ t.get MSYN_ACQ.LOCK_TIME = min durationUs (2 ^ 24 - 1)
      ∧ t.rd .MSYN_CMD = 0 ∧ t.rd .MSYN_TUNE = MSYN_TUNE.TUNE.put (s.rd .MSYN_TUNE) tune
      ∧ t.msyn.counting = true ∧ t.msyn.mcc = (if s.msyn.counting then s.msyn.mcc else 0)
      ∧ s.frame t [.msyn, .rst] [(.MSYN_STS, 0), (.MSYN_ACQ, 0), (.MSYN_TUNE, 0), (.MSYN_CMD, 0)] := by
  have he : exec (.masterLockDeclared durationUs tune) s = done (s.lockMaster durationUs tune) :=
    congrArg done (if_pos ⟨hst, hacq, ne_true_of_eq_false hheld⟩)
  obtain ⟨hlock, hstate, hend, hnone, hattempts, htime⟩ := s.lockMaster_fields durationUs tune
  obtain ⟨-, -, hcmd, htune⟩ := s.lockMaster_words durationUs tune
  obtain ⟨hcounting, hmcc⟩ := s.lockMaster_count durationUs tune
  refine ⟨_, he, ?_⟩
  simp only [State.settle_get_of, State.settle_rd_of, State.settle_msyn]
  exact ⟨hlock, hstate, hend, hnone, hattempts, htime, hcmd, htune, hcounting, hmcc, (s.lockMaster_changesOnly durationUs tune).frame⟩

/-! ### Unlock, recovery and the end of grace (R44, R48, R49) -/

theorem State.unlockLog_changesOnly (s : State) (recovery : Bool) : s.changesOnly (s.unlockLog recovery) [.mgmt, .free] logWords :=
  s.log_changesOnly ..

/-- R44, R303: the entry of an unlock or a recovery carries the phase error and the tuning word, where the command writes neither before it. -/
theorem State.wrote_of_unlockLog {s u v t : State} {recovery : Bool} {parts parts' : List Part} {words words' : List (Rg × Nat)}
    (hu : s.changesOnly u parts words) (hv : u.unlockLog recovery = v) (ht : v.changesOnly t parts' words')
    (hp : Part.mgmt ∉ parts ∧ Part.dev ∉ parts ∧ Part.mgmt ∉ parts')
    (hloop : ∀ q ∈ words, q.1.key q.2 ≠ Rg.MSYN_PHERR.key 0 ∧ q.1.key q.2 ≠ Rg.MSYN_TUNE.key 0)
    (hw : ∀ q ∈ words, q.1.key q.2 ≠ Rg.DEV_MODE.key 0 ∧ q.1.key q.2 ≠ Rg.MGMT_LOG_LOST_CNT.key 0)
    (hw' : ∀ q ∈ words', q.1.key q.2 ≠ Rg.MGMT_LOG_LOST_CNT.key 0) :
    s.wrote t.settle 5 1 2 (s.rd .MSYN_PHERR) (s.rd .MSYN_TUNE) (if recovery then 1 else 0) := by
  rw [State.unlockLog, hu.rd_eq fun q hq => (hloop q hq).1, hu.rd_eq fun q hq => (hloop q hq).2] at hv
  exact State.wrote_of_log hu hv ht hp hw hw'

/-- R48: the window of 1 ms of an unlock opens. -/
def State.openWindow (s : State) : State := { s.set MSYN_STS.STATE 5 with msyn := { s.msyn with unlocked := true } }

theorem State.openWindow_rd_sts (s : State) : s.openWindow.rd .MSYN_STS = MSYN_STS.STATE.put (s.rd .MSYN_STS) 5 := by
  rw [State.openWindow, State.mk_rd, State.rd_set_same _ _ _ _ rfl]

theorem State.openWindow_changesOnly (s : State) {words : List (Rg × Nat)} (h : (Rg.MSYN_STS, 0) ∈ words) :
    s.changesOnly s.openWindow [.msyn] words :=
  (s.changesOnly_set MSYN_STS.STATE 5 0 _ h).msyn _ (by simp)

/-- R44, R48, R250: in a live mode, while no rotation runs, an unlock is evidence against the unit and opens its window. -/
theorem State.unlockActs_live {s : State} (hm : 3 ≤ s.mode ∧ s.mode ≤ 8 ∨ s.mode = 10) (hr : s.on CAL_STS.ROTATING = false) :
    s.unlockActs = (s.evidence 16).openWindow := by
  have hpause : (s.evidence 16).calPause = s.evidence 16 := if_neg (ne_true_of_eq_false hr)
  have h1 : s.mode ≠ 1 := by omega
  have h09 : ¬ (s.mode = 0 ∨ s.mode = 9) := by omega
  exact (if_neg h1).trans ((if_neg h09).trans (congrArg State.openWindow hpause))

theorem exec_masterUnlock_effect {s : State} (hlock : s.on MSYN_STS.LOCK = true) (hm : 3 ≤ s.mode ∧ s.mode ≤ 8 ∨ s.mode = 10)
    (hr : s.on CAL_STS.ROTATING = false) :
    ∃ t, exec .masterUnlock s = .next t
      ∧ t.rd .MSYN_STS = MSYN_STS.STATE.put (MSYN_STS.LOCK.put (s.rd .MSYN_STS) 0) 5
      ∧ s.counted t .MSYN_UNLOCK_CNT 0 1 ∧ t.msyn = { s.msyn with unlocked := true }
      ∧ s.wrote t 5 1 2 (s.rd .MSYN_PHERR) (s.rd .MSYN_TUNE) 0
      ∧ t.pair = { s.pair with evidence := s.pair.evidence.lor 16 }
      ∧ s.frame t [.msyn, .pair, .mgmt, .free] [(.MSYN_STS, 0), (.MSYN_UNLOCK_CNT, 0), (.MGMT_LOG_OVW_CNT, 0), (.MGMT_LOG_LOST_CNT, 0)] := by
  have h11 : s.mode ≠ 11 := by omega
  have hu := ((s.changesOnly_refl [] [(.MSYN_STS, 0), (.MSYN_UNLOCK_CNT, 0)]).set MSYN_STS.LOCK 0 0 (by simp)).inc .MSYN_UNLOCK_CNT 0
    (by simp)
  generalize hx : (s.set MSYN_STS.LOCK 0).inc .MSYN_UNLOCK_CNT = u at hu
  have hl := u.unlockLog_changesOnly false
  generalize hv : u.unlockLog false = v at hl
  have hsv : s.changesOnly v [.mgmt, .free] [(.MSYN_STS, 0), (.MSYN_UNLOCK_CNT, 0), (.MGMT_LOG_OVW_CNT, 0), (.MGMT_LOG_LOST_CNT, 0)] :=
    (hu.mono (by simp) (by simp)).trans (hl.mono (by simp) (by simp [logWords]))
  have hmode : v.mode = s.mode := hsv.get_eq DEV_MODE.MODE (by decide)
  have hrot : v.on CAL_STS.ROTATING = false := (hsv.on_eq CAL_STS.ROTATING (by decide)).trans hr
  have hacts {words : List (Rg × Nat)} (hw : (Rg.MSYN_STS, 0) ∈ words) : v.changesOnly (v.evidence 16).openWindow [.msyn, .pair] words :=
    (v.changesOnly_pair _ _ (by simp)).trans ((State.openWindow_changesOnly _ hw).mono (by simp) (List.Subset.refl _))
  have he : exec .masterUnlock s = done (v.evidence 16).openWindow := by
    rw [← State.unlockActs_live (hmode ▸ hm) hrot, ← hv, ← hx]
    exact congrArg done (if_pos ⟨hlock, h11⟩)
  refine ⟨_, he, ?_, ?_, ?_, ?_, ?_, ?_⟩
  · rw [State.settle_rd_of, State.openWindow_rd_sts, State.evidence, State.mk_rd, hl.rd_eq (by decide), ← hx,
      State.rd_inc_ne _ _ _ (by decide), State.rd_set_same _ _ _ _ rfl]
  · rw [State.counted, State.settle_rd_of, (hacts (words := [(.MSYN_STS, 0)]) (by simp)).rd_eq (by decide), hl.rd_eq (by decide), ← hx,
      State.rd_inc_same, State.rd_set_ne _ _ _ _ (by decide)]
  · rw [← hsv.part .msyn (by simp)]
    rfl
  · exact State.wrote_of_unlockLog hu hv (hacts (words := [(.MSYN_STS, 0)]) (by simp)) (by decide) (by decide) (by decide) (by decide)
  · rw [← hsv.part .pair (by simp)]
    rfl
  · exact ((hsv.mono (by simp) (List.Subset.refl _)).trans ((hacts (by simp)).mono (by simp) (List.Subset.refl _))).frame

theorem exec_masterLockRecovered_effect {s : State} (hlock : s.on MSYN_STS.LOCK = false) (hacq : s.on MSYN_STS.ACQ = false)
    (hheld : s.on MSYN_STS.HELD = false) (hever : s.msyn.everLocked = true) (h11 : s.mode ≠ 11) :
    ∃ t, exec .masterLockRecovered s = .next t
      ∧ t.rd .MSYN_STS = MSYN_STS.STATE.put (MSYN_STS.LOCK.put (s.rd .MSYN_STS) 1) 4
      ∧ t.msyn = { s.msyn with unlocked := false } ∧ s.wrote t 5 1 2 (s.rd .MSYN_PHERR) (s.rd .MSYN_TUNE) 1
      ∧ s.frame t [.msyn, .mgmt, .free] [(.MSYN_STS, 0), (.MGMT_LOG_OVW_CNT, 0), (.MGMT_LOG_LOST_CNT, 0)] := by
  have hu := ((s.changesOnly_refl [] [(.MSYN_STS, 0)]).set MSYN_STS.LOCK 1 0 (by simp)).set MSYN_STS.STATE 4 0 (by simp)
  generalize hx : (s.set MSYN_STS.LOCK 1).set MSYN_STS.STATE 4 = u at hu
  have hl := u.unlockLog_changesOnly true
  generalize hv : u.unlockLog true = v at hl
  have hsv : s.changesOnly v [.mgmt, .free] [(.MSYN_STS, 0), (.MGMT_LOG_OVW_CNT, 0), (.MGMT_LOG_LOST_CNT, 0)] :=
    (hu.mono (by simp) (by simp)).trans (hl.mono (by simp) (by simp [logWords]))
  have hclosed (words : List (Rg × Nat)) : v.changesOnly { v with msyn := { v.msyn with unlocked := false } } [.msyn] words :=
    v.changesOnly_msyn _ _ (by simp)
  have he : exec .masterLockRecovered s = done { v with msyn := { v.msyn with unlocked := false } } := by
    rw [← hv, ← hx]
    exact congrArg done (if_pos ⟨ne_true_of_eq_false hlock, ne_true_of_eq_false hacq, ne_true_of_eq_false hheld, hever, h11⟩)
  refine ⟨_, he, ?_, ?_, ?_, ?_⟩
  · rw [State.settle_rd_of, State.mk_rd, hl.rd_eq (by decide), ← hx, State.rd_set_same _ _ _ _ rfl, State.rd_set_same _ _ _ _ rfl]
  · rw [State.settle_msyn, hsv.part .msyn (by simp)]
  · exact State.wrote_of_unlockLog hu hv (hclosed []) (by decide) (by decide) (by decide) (by decide)
  · exact ((hsv.mono (by simp) (List.Subset.refl _)).trans ((hclosed _).mono (by simp) (List.Subset.refl _))).frame

/-- R49: the grace ends on a unit that is not an active: the loop goes to the unlocked state, shown or behind the hold, and that is all. -/
theorem exec_unlockGraceExpired {s : State} (hstage : s.acqStage = 5) (ha : s.isActive = false) :
    exec .unlockGraceExpired s = done (if s.get MSYN_STS.STATE = 7 then { s with msyn := { s.msyn with heldStage := 6 } }
      else s.set MSYN_STS.STATE 6) := by
  refine congrArg done ((if_pos hstage).trans (if_neg ?_))
  rintro ⟨hactive, -⟩
  have hrole : (if s.get MSYN_STS.STATE = 7 then { s with msyn := { s.msyn with heldStage := 6 } }
      else s.set MSYN_STS.STATE 6).isActive = s.isActive := by
    split
    · rfl
    · exact congrArg (· == 1) (s.get_set_ne MSYN_STS.STATE PAIR_STS.ROLE 6 0 0 (by decide))
  rw [hrole, ha] at hactive
  cases hactive

theorem exec_unlockGraceExpired_effect {s : State} (hst : s.get MSYN_STS.STATE = 5) (ha : s.isActive = false) :
    ∃ t, exec .unlockGraceExpired s = .next t
      ∧ t.rd .MSYN_STS = MSYN_STS.STATE.put (s.rd .MSYN_STS) 6 ∧ s.frame t [] [(.MSYN_STS, 0)] := by
  have hopen : s.get MSYN_STS.STATE ≠ 7 := by omega
  have he := exec_unlockGraceExpired ((State.acqStage_shown hopen).trans hst) ha
  rw [if_neg hopen] at he
  exact ⟨_, he, by rw [State.settle_rd_of, State.rd_set_same _ _ _ _ rfl], (s.changesOnly_set MSYN_STS.STATE 6 0 _ (by simp)).frame⟩

theorem exec_unlockGraceExpired_held_effect {s : State} (hst : s.get MSYN_STS.STATE = 7) (hstage : s.msyn.heldStage = 5)
    (ha : s.isActive = false) :
    ∃ t, exec .unlockGraceExpired s = .next t ∧ t.msyn = { s.msyn with heldStage := 6 } ∧ s.frame t [.msyn] [] := by
  have he := exec_unlockGraceExpired ((State.acqStage_held hst).trans hstage) ha
  rw [if_pos hst] at he
  exact ⟨_, he, by rw [State.settle_msyn], (s.changesOnly_msyn _ _ (by simp)).frame⟩

/-- Settles O6: a declared lock is `lockMaster`; an unlock and a recovery are one entry of the log between changes of the master's words. -/
theorem masterLockCourse : Obligations.MasterLockCourse := by
  unfold Obligations.MasterLockCourse
  exact ⟨fun s durationUs tune => exec_masterLockDeclared_effect durationUs tune, fun s => exec_masterUnlock_effect,
    fun s => exec_masterLockRecovered_effect, fun s => exec_unlockGraceExpired_effect, fun s => exec_unlockGraceExpired_held_effect⟩

end Sys2Proof.Machine

namespace Sys2Proof.Machine

/-! ### Entry to TEST (R25, R53, R71, R146, R250, R362) -/

/-- A fold over the indices below `n` changes what its steps change. -/
theorem State.upto_changesOnly {n : Nat} {f : Nat → State → State} {parts : List Part} {words : List (Rg × Nat)}
    (h : ∀ k < n, ∀ u : State, u.changesOnly (f k u) parts words) (s : State) : s.changesOnly (State.upto n f s) parts words := by
  induction n with
  | zero => exact s.changesOnly_refl _ _
  | succ n ih =>
    rw [State.upto_succ]
    exact (ih fun k hk => h k (by omega)).trans (h n (by omega) _)

/-- The field of every unit below `n` shows the value set for all of them, where the units' words are apart. -/
theorem State.get_upto_set {n : Nat} (f : Fld) (v : Nat) (hf : f.ok = true) (hkey : ∀ i j, i ≠ j → f.r.key i ≠ f.r.key j) (s : State) {i : Nat}
    (hi : i < n) : (State.upto n (fun k s => s.set f v k) s).get f i = v % 2 ^ (f.hi - f.lo + 1) := by
  induction n with
  | zero => omega
  | succ n ih =>
    rw [State.upto_succ]
    by_cases he : i = n
    · rw [he, State.get_set_same _ _ _ _ hf]
    · rw [State.get_set_ne _ _ _ _ _ _ (hkey n i (Ne.symm he)), ih (by omega)]

/-- R71: every output shows TAP. -/
def State.outsTap (s : State) : State := State.upto 128 (fun n s => s.set OUT_STS.STATE 3 n) s

/-- The status words of the outputs. -/
def outWords : List (Rg × Nat) := (List.range 128).map fun n => (.OUT_STS, n)

theorem State.outsTap_changesOnly (s : State) : s.changesOnly s.outsTap [] outWords :=
  State.upto_changesOnly (fun k hk u => u.changesOnly_set OUT_STS.STATE 3 k [] (by simp [outWords, hk])) s

theorem State.outsTap_get (s : State) {n : Nat} (hn : n < 128) : s.outsTap.get OUT_STS.STATE n = 3 := by
  have kout (i : Nat) : Rg.OUT_STS.key i = 0x10000c + 0x10 * i := rfl
  exact State.get_upto_set OUT_STS.STATE 3 (by decide) (fun i j hij => by rw [kout, kout]; omega) s hn

/-- A word outside the window of the outputs is none of theirs. -/
theorem outWords_key_ne {r : Rg} {i : Nat} (h : r.key i < 0x10000c ∨ 0x10080c ≤ r.key i) : ∀ q ∈ outWords, q.1.key q.2 ≠ r.key i := by
  intro q hq
  obtain ⟨n, hn, rfl⟩ := List.mem_map.mp hq
  have hlt := List.mem_range.mp hn
  have kout : Rg.OUT_STS.key n = 0x10000c + 0x10 * n := rfl
  dsimp only
  omega

/-- R25: entry to TEST writes no entry of the log. -/
theorem State.setMode_test_changesOnly (s : State) : s.changesOnly (s.setMode 11) [] [(.DEV_MODE, 0)] := by
  unfold State.setMode State.modeLog
  split
  · exact s.changesOnly_refl _ _
  · rw [if_pos (.inr rfl)]
    exact s.changesOnly_set DEV_MODE.MODE 11 0 _ (by simp)

/-- R250, R53, R146: at entry to TEST the rotation ends, the master shows TAP and no time words leave. -/
def State.testWords (s : State) : State := (s.calEndRotation.set MSYN_STS.STATE 8).set TWL_STS.FRAMES 0

/-- R71, R362: the outputs that are off or muted. -/
def State.mutedOuts (s : State) : List Nat := (List.range 128).filter fun n => !s.on OUT_CFG.EN n || s.get OUT_STS.STATE n == 0

/-- R146, R362: no time frame is due, and the TAP keeps the outputs that are muted. -/
def State.noteMuted (s : State) : State :=
  { s with twl := { s.twl with frameTick := none }, rst := { s.rst with tapMuted := s.mutedOuts } }

theorem State.noteMuted_changesOnly (s : State) (words : List (Rg × Nat)) : s.changesOnly s.noteMuted [.twl, .rst] words :=
  (s.changesOnly_twl s.noteMuted.twl words (by simp)).trans (State.changesOnly_rst _ s.noteMuted.rst words (by simp))

theorem State.enterTest_eq {s : State} (h0 : s.mode ≠ 0) (h11 : s.mode ≠ 11) : s.enterTest = s.testWords.noteMuted.outsTap.setMode 11 :=
  if_neg (not_or.mpr ⟨h0, h11⟩)

theorem State.enterTest_resting {s : State} (h : s.mode = 0 ∨ s.mode = 11) : s.enterTest = s := if_pos h

theorem State.testWords_changesOnly (s : State) :
    s.changesOnly s.testWords [.cal] ([(.CAL_STS, 0), (.MSYN_STS, 0), (.TWL_STS, 0)] ++ s.itemWords) := by
  have hend : s.changesOnly s.calEndRotation [.cal] ([(.CAL_STS, 0), (.MSYN_STS, 0), (.TWL_STS, 0)] ++ s.itemWords) :=
    s.calEndRotation_changesOnly.mono (List.Subset.refl _) (List.cons_subset.mpr ⟨by simp, List.subset_append_right _ _⟩)
  exact (hend.set MSYN_STS.STATE 8 0 (by simp)).set TWL_STS.FRAMES 0 0 (by simp)

theorem State.testWords_shown (s : State) : s.testWords.get MSYN_STS.STATE = 8 ∧ s.testWords.on TWL_STS.FRAMES = false := by
  unfold State.testWords
  constructor
  · rw [State.get_set_ne _ _ _ _ _ _ (by decide), State.get_set_same _ _ _ _ (by decide)]
    rfl
  · rw [State.on, State.get_set_same _ _ _ _ (by decide)]
    rfl

/-- R71: what the TAP keeps as off or muted follows the configuration and the state of the outputs, which the words of TEST leave. -/
theorem State.mem_testWords_mutedOuts (s : State) (n : Nat) :
    n ∈ s.testWords.mutedOuts ↔ n < 128 ∧ (s.on OUT_CFG.EN n = false ∨ s.get OUT_STS.STATE n = 0) := by
  have kcfg : Rg.OUT_CFG.key n = 0x100000 + 0x10 * n := rfl
  have ksts : Rg.OUT_STS.key n = 0x10000c + 0x10 * n := rfl
  have hch := s.testWords_changesOnly
  rw [State.mutedOuts, List.mem_filter, List.mem_range]
  refine and_congr_right fun hn => ?_
  have hen : s.testWords.on OUT_CFG.EN n = s.on OUT_CFG.EN n :=
    hch.on_eq OUT_CFG.EN (itemWords_key_ne (Rg.key_ne_window (by decide) (by decide) hn) s.itemWords_key (by rw [kcfg]; unfold itemKey; omega))
  have hst : s.testWords.get OUT_STS.STATE n = s.get OUT_STS.STATE n :=
    hch.get_eq OUT_STS.STATE (itemWords_key_ne (Rg.key_ne_window (by decide) (by decide) hn) s.itemWords_key (by rw [ksts]; unfold itemKey; omega))
  simp [hen, hst]

/-- R362: the last of the entry to TEST, the outputs and the mode. -/
theorem State.enterTest_last {s : State} (h0 : s.mode ≠ 0) (h11 : s.mode ≠ 11) :
    s.testWords.noteMuted.changesOnly s.enterTest [] (outWords ++ [(.DEV_MODE, 0)]) := by
  rw [State.enterTest_eq h0 h11]
  exact ((State.outsTap_changesOnly _).mono (List.Subset.refl _) (by simp)).trans
    ((State.setMode_test_changesOnly _).mono (List.Subset.refl _) (by simp))

/-- R250, R362: the words that entry to TEST may write, those of an item in progress apart. -/
def testEntryWords : List (Rg × Nat) := [(.DEV_MODE, 0), (.CAL_STS, 0), (.MSYN_STS, 0), (.TWL_STS, 0)] ++ outWords

theorem State.enterTest_changesOnly {s : State} (h0 : s.mode ≠ 0) (h11 : s.mode ≠ 11) :
    s.changesOnly s.enterTest [.rst, .cal, .twl] (testEntryWords ++ s.itemWords) := by
  have hfirst := s.testWords_changesOnly.mono (parts' := [.rst, .cal, .twl]) (words' := testEntryWords ++ s.itemWords) (by simp)
    (List.append_subset.mpr ⟨by simp [testEntryWords], by simp⟩)
  have hnoted := (State.noteMuted_changesOnly s.testWords (testEntryWords ++ s.itemWords)).mono (parts' := [.rst, .cal, .twl]) (by simp)
    (List.Subset.refl _)
  exact (hfirst.trans hnoted).trans ((State.enterTest_last h0 h11).mono (by simp)
    (List.append_subset.mpr ⟨List.subset_append_of_subset_left _ (List.subset_append_right _ _), by simp [testEntryWords]⟩))

/-- R53, R71, R146, R362: what entry to TEST shows. -/
theorem State.enterTest_effect {s : State} (h0 : s.mode ≠ 0) (h11 : s.mode ≠ 11) :
    let t := s.enterTest
    t.mode = 11 ∧ t.get MSYN_STS.STATE = 8 ∧ (∀ n, n < 128 → t.get OUT_STS.STATE n = 3) ∧ t.on TWL_STS.FRAMES = false
      ∧ (∀ n, n ∈ t.rst.tapMuted ↔ n < 128 ∧ (s.on OUT_CFG.EN n = false ∨ s.get OUT_STS.STATE n = 0))
      ∧ t.rst = { s.rst with tapMuted := t.rst.tapMuted } := by
  have hlast := State.enterTest_last h0 h11
  obtain ⟨hstate, hframes⟩ := s.testWords_shown
  have hapart {r : Rg} (hk : r.key 0 < 0x10000c ∨ 0x10080c ≤ r.key 0) (hd : r.key 0 ≠ Rg.DEV_MODE.key 0) :
      ∀ q ∈ outWords ++ [(.DEV_MODE, 0)], q.1.key q.2 ≠ r.key 0 := by
    intro q hq
    obtain hq | hq := List.mem_append.mp hq
    · exact outWords_key_ne hk q hq
    · rw [List.mem_singleton.mp hq]
      exact hd.symm
  have hrst : s.enterTest.rst = { s.rst with tapMuted := s.testWords.mutedOuts } := by
    rw [hlast.part .rst (by simp), State.noteMuted, s.testWords_changesOnly.part .rst (by simp)]
  refine ⟨?_, ?_, fun n hn => ?_, ?_, fun n => ?_, ?_⟩
  · rw [State.enterTest_eq h0 h11, State.setMode_mode _ (by decide)]
  · rw [hlast.get_eq MSYN_STS.STATE (hapart (by decide) (by decide)), State.noteMuted, State.mk_get, hstate]
  · have ksts : Rg.OUT_STS.key n = 0x10000c + 0x10 * n := rfl
    have kmode : Rg.DEV_MODE.key 0 < 0x10000c := by decide
    rw [State.enterTest_eq h0 h11, (State.setMode_test_changesOnly _).get_eq OUT_STS.STATE (by simp; omega), State.outsTap_get _ hn]
  · rw [hlast.on_eq TWL_STS.FRAMES (hapart (by decide) (by decide)), State.noteMuted, State.mk_on, hframes]
  · rw [hrst, s.mem_testWords_mutedOuts]
  · rw [hrst]

/-! ### The TAP (R360 to R363) -/

/-- R361: the instructions that select the boundary register. -/
theorem tapScans_iff (op : Nat) : tapScans op = true ↔ op = 0 ∨ op = 1 ∨ op = 5 ∨ op = 6 := by
  simp [tapScans, or_assoc]

/-- R361: the opcodes whose instruction takes the pins; BYPASS takes none. -/
theorem tapTakesPins_tapInstr (op : Nat) : tapTakesPins (tapInstr op) = true ↔ op = 0 ∨ 3 ≤ op ∧ op ≤ 6 := by
  unfold tapInstr
  split
  · simp only [tapTakesPins, Bool.or_eq_true, beq_iff_eq]
    omega
  · exact ⟨fun h => absurd h (by decide), fun h => by omega⟩

/-- R361, R363: the TAP has taken its next instruction, and the boundary register the cells that the scans under the present one left. -/
def State.tapSelect (s : State) (op : Nat) (scan : BitVec 502) : State :=
  { s with rst := { s.rst with
      tap := tapInstr op
      cells := if s.rst.tap = 0 ∨ s.rst.tap = 1 ∨ s.rst.tap = 5 ∨ s.rst.tap = 6 then scan else s.rst.cells } }

theorem State.tapSelect_changesOnly (s : State) (op : Nat) (scan : BitVec 502) {parts : List Part} (words : List (Rg × Nat))
    (h : Part.rst ∈ parts) : s.changesOnly (s.tapSelect op scan) parts words := s.changesOnly_rst _ words h

theorem State.tapSelect_mode (s : State) (op : Nat) (scan : BitVec 502) : (s.tapSelect op scan).mode = s.mode := by
  rw [State.tapSelect, State.mk_mode]

/-- R360, R362: outside L3 and L4 the instruction is taken, and the device enters TEST where it takes the pins. -/
theorem exec_tapUpdateIr {s : State} (op : Nat) (scan : BitVec 502) (hl : s.rst.level < 4) :
    exec (.tapUpdateIr ⟨op, scan⟩) s
      = done (if tapTakesPins (tapInstr (op % 64)) then (s.tapSelect (op % 64) scan).enterTest else s.tapSelect (op % 64) scan) := by
  have hcells := if_congr (tapScans_iff s.rst.tap) (Eq.refl scan) (Eq.refl s.rst.cells)
  rw [State.tapSelect, ← hcells]
  exact congrArg done (if_neg (Nat.not_le.mpr hl))

/-- R361, R363: an instruction that leaves the pins, or comes in RESET or TEST, is only taken. -/
theorem exec_tapUpdateIr_select {s : State} {op : Nat} (scan : BitVec 502) (hl : s.rst.level < 4)
    (h : ¬ ((op % 64 = 0 ∨ 3 ≤ op % 64 ∧ op % 64 ≤ 6) ∧ s.mode ≠ 0 ∧ s.mode ≠ 11)) :
    exec (.tapUpdateIr ⟨op, scan⟩) s = done (s.tapSelect (op % 64) scan) := by
  rw [exec_tapUpdateIr op scan hl]
  split
  case isTrue hop =>
    rw [tapTakesPins_tapInstr] at hop
    rw [State.enterTest_resting (by rw [State.tapSelect_mode]; omega)]
  case isFalse => rfl

/-- R53, R71, R250, R362: an instruction that takes the pins puts the device into TEST. -/
theorem exec_tapUpdateIr_test {s : State} {op : Nat} (scan : BitVec 502) (hl : s.rst.level < 4)
    (hop : op % 64 = 0 ∨ 3 ≤ op % 64 ∧ op % 64 ≤ 6) (h0 : s.mode ≠ 0) (h11 : s.mode ≠ 11) :
    ∃ t, exec (.tapUpdateIr ⟨op, scan⟩) s = .next t ∧ t.rst = { (s.tapSelect (op % 64) scan).rst with tapMuted := t.rst.tapMuted }
      ∧ (t.mode = 11 ∧ t.get MSYN_STS.STATE = 8 ∧ (∀ n, n < 128 → t.get OUT_STS.STATE n = 3) ∧ t.on TWL_STS.FRAMES = false
        ∧ ∀ n, n ∈ t.rst.tapMuted ↔ n < 128 ∧ (s.on OUT_CFG.EN n = false ∨ s.get OUT_STS.STATE n = 0))
      ∧ s.keepsParts t [.rst, .cal, .twl] ∧ (s.get CAL_STS.ITEM = 0xFF → s.keepsWords t testEntryWords) := by
  have hexec := exec_tapUpdateIr op scan hl
  rw [if_pos ((tapTakesPins_tapInstr _).mpr hop)] at hexec
  refine ⟨_, hexec, ?_⟩
  generalize hu : s.tapSelect (op % 64) scan = u
  have hsu : s.changesOnly u [.rst] [] := hu ▸ s.tapSelect_changesOnly (op % 64) scan [] (by simp)
  have hon (f : Fld) (i : Nat) : u.on f i = s.on f i := hsu.on_eq f (by simp)
  have hget (f : Fld) (i : Nat) : u.get f i = s.get f i := hsu.get_eq f (by simp)
  have hmode : u.mode = s.mode := hget DEV_MODE.MODE 0
  rw [← hmode] at h0 h11
  obtain ⟨hm, hmaster, houts, hframes, hmuted, hrst⟩ := State.enterTest_effect h0 h11
  obtain ⟨hparts, hwords⟩ := ((hsu.mono (by simp) (List.nil_subset _)).trans (State.enterTest_changesOnly h0 h11)).frame
  simp only [hon, hget] at hmuted
  simp only [State.settle_rst, State.settle_mode, State.settle_get_of, State.settle_on_of]
  refine ⟨hrst, ⟨hm, hmaster, houts, hframes, hmuted⟩, hparts, fun hi => ?_⟩
  have hnone : u.itemWords = [] := by simp [State.itemWords, hget, hi]
  rw [hnone, List.append_nil] at hwords
  exact hwords

theorem exec_tapUpdateIr_effect {s : State} (op : Nat) (scan : BitVec 502) (hl : s.rst.level < 4) :
    ∃ t, exec (.tapUpdateIr ⟨op, scan⟩) s = .next t
      ∧ t.rst = { s.rst with
          tap := if op % 64 ≤ 6 then op % 64 else 0x3F
          cells := if s.rst.tap = 0 ∨ s.rst.tap = 1 ∨ s.rst.tap = 5 ∨ s.rst.tap = 6 then scan else s.rst.cells
          tapMuted := t.rst.tapMuted }
      ∧ (op % 64 = 1 ∨ op % 64 = 2 ∨ 7 ≤ op % 64 ∨ s.mode = 0 ∨ s.mode = 11 → t.rst.tapMuted = s.rst.tapMuted ∧ s.frame t [.rst] [])
      ∧ ((op % 64 = 0 ∨ 3 ≤ op % 64 ∧ op % 64 ≤ 6) → s.mode ≠ 0 → s.mode ≠ 11 →
          t.mode = 11 ∧ t.get MSYN_STS.STATE = 8 ∧ (∀ n, n < 128 → t.get OUT_STS.STATE n = 3) ∧ t.on TWL_STS.FRAMES = false
            ∧ (∀ n, n ∈ t.rst.tapMuted ↔ n < 128 ∧ (s.on OUT_CFG.EN n = false ∨ s.get OUT_STS.STATE n = 0))
            ∧ s.keepsParts t [.rst, .cal, .twl]
            ∧ (s.get CAL_STS.ITEM = 0xFF → s.keepsWords t
                ([(.DEV_MODE, 0), (.CAL_STS, 0), (.MSYN_STS, 0), (.TWL_STS, 0)] ++ (List.range 128).map fun n => (.OUT_STS, n)))) := by
  by_cases htest : (op % 64 = 0 ∨ 3 ≤ op % 64 ∧ op % 64 ≤ 6) ∧ s.mode ≠ 0 ∧ s.mode ≠ 11
  case pos =>
    obtain ⟨hop, h0, h11⟩ := htest
    obtain ⟨t, hexec, hrst, hshows, hparts, hwords⟩ := exec_tapUpdateIr_test scan hl hop h0 h11
    obtain ⟨hm, hmaster, houts, hframes, hmuted⟩ := hshows
    exact ⟨t, hexec, hrst, fun h => by omega, fun _ _ _ => ⟨hm, hmaster, houts, hframes, hmuted, hparts, hwords⟩⟩
  case neg =>
    exact ⟨_, exec_tapUpdateIr_select scan hl htest, rfl, fun _ => ⟨rfl, (s.tapSelect_changesOnly _ scan _ (by simp)).frame⟩,
      fun hop h0 h11 => absurd ⟨hop, h0, h11⟩ htest⟩

/-- Settles O10: an instruction is taken, and one that takes the pins enters TEST; Test-Logic-Reset only takes IDCODE. -/
theorem tapInstructions : Obligations.TapInstructions := by
  unfold Obligations.TapInstructions
  exact ⟨fun s => exec_tapUpdateIr_effect, fun s => ⟨_, rfl, rfl, (s.changesOnly_rst _ _ (by simp)).frame⟩⟩

end Sys2Proof.Machine

namespace Sys2Proof.Machine

/-! ### Outputs and PPS pins start and stop (R71, R73, R369) -/

theorem State.changesOnly_setOut (s : State) (n : Nat) (x : Pin) {parts : List Part} (words : List (Rg × Nat)) (h : Part.outs ∈ parts) :
    s.changesOnly (s.setOut n x) parts words :=
  State.changesOnly_part .outs words h rfl rfl fun p hp => by cases p <;> simp_all [Part.same]

theorem State.out_setOut_ne (s : State) {n k : Nat} (x : Pin) (h : n ≠ k) : (s.setOut n x).out k = s.out k :=
  Tab.get_set_ne _ _ _ h

/-- A command that replaces output `n` last leaves the other outputs, where what it did before left them all. -/
theorem State.onlyOut_setOut {s u : State} (h : u.outs = s.outs) (n : Nat) (x : Pin) : s.onlyOut (u.setOut n x).settle n := by
  intro k hk
  rw [State.settle_out_of, State.out_setOut_ne _ _ hk.symm, State.out, State.out, h]

/-- A command that replaces PPS pin `m` last leaves the other pins, where what it did before left them all. -/
theorem State.onlyPps_setPps {s u : State} (h : u.pps = s.pps) (m : Nat) (x : Pin) : s.onlyPps (u.setPps m x).settle m := by
  intro k hk
  rw [State.settle_ppsPin_of, State.ppsPin_setPps_ne _ _ hk.symm, State.ppsPin, State.ppsPin, h]

/-- The status word of an output is none of the configuration words of the outputs. -/
theorem Rg.outSts_key_ne {r : Rg} (hr : r ∈ [Rg.OUT_CFG, Rg.OUT_DIV, Rg.OUT_DRV]) (n k : Nat) : Rg.OUT_STS.key n ≠ r.key k := by
  have ksts : Rg.OUT_STS.key n = 0x10000c + 0x10 * n := rfl
  have kcfg : Rg.OUT_CFG.key k = 0x100000 + 0x10 * k := rfl
  have kdiv : Rg.OUT_DIV.key k = 0x100004 + 0x10 * k := rfl
  have kdrv : Rg.OUT_DRV.key k = 0x100008 + 0x10 * k := rfl
  simp only [List.mem_cons, List.not_mem_nil, or_false] at hr
  obtain rfl | rfl | rfl := hr <;> omega

/-- R71: an output in STARTING whose conditions hold runs. -/
theorem exec_outputStart_out_effect {s : State} {n : Nat} (hn : n < 128) (hst : s.get OUT_STS.STATE n = 1) (hok : s.outMayRun n = true) :
    ∃ t, exec (.outputStart (.out n)) s = .next t
      ∧ t.rd .OUT_STS n = OUT_STS.STATE.put (s.rd .OUT_STS n) 2 ∧ s.frame t [] [(.OUT_STS, n)] := by
  have he : exec (.outputStart (.out n)) s = onUnit n 128 s (s.set OUT_STS.STATE 2 n) :=
    congrArg (onUnit n 128 s) (if_pos ⟨hst, hok⟩)
  rw [he]
  refine ⟨_, onUnit_next n 128 s _ hn, ?_, (s.changesOnly_set OUT_STS.STATE 2 n _ (by simp)).frame⟩
  rw [State.settle_rd_of, State.rd_set_same _ _ _ _ rfl]

/-- R71, R369: a PPS pin whose conditions hold runs, with the source, width and offset configured. -/
theorem exec_outputStart_pps_effect {s : State} {m : Nat} (hm : m < 16) (hrun : s.ppsRuns m = false) (hok : s.ppsMayRun m = true)
    (hstop : (s.ppsPin m).stopping = false) :
    ∃ t, exec (.outputStart (.pps m)) s = .next t
      ∧ t.rd .OUT_PPS_STS = OUT_PPS_STS.RUN.put (s.rd .OUT_PPS_STS) (withBit (s.get OUT_PPS_STS.RUN) m true)
      ∧ t.ppsPin m = { s.ppsPin m with
          src := s.get PPS_CFG.SRC m, width := s.get PPS_WIDTH.WIDTH m, ofs := signedOf 32 (s.get PPS_OFS.OFS m), hold := none }
      ∧ s.onlyPps t m ∧ s.frame t [.pps] [(.OUT_PPS_STS, 0)] := by
  generalize hu : s.setBit OUT_PPS_STS.RUN m true = u
  have hsu : s.changesOnly u [.pps] [(.OUT_PPS_STS, 0)] := hu ▸ s.changesOnly_setBit _ m true 0 _ (by simp)
  have hpps : u.pps = s.pps := by rw [← hu, State.setBit_pps]
  have hpin : u.ppsPin m = s.ppsPin m := by rw [State.ppsPin, State.ppsPin, hpps]
  have hsrc : u.get PPS_CFG.SRC m = s.get PPS_CFG.SRC m :=
    hsu.get_eq _ (Rg.key_ne_window (r := .PPS_CFG) (by decide) (by decide) hm)
  have hwidth : u.get PPS_WIDTH.WIDTH m = s.get PPS_WIDTH.WIDTH m :=
    hsu.get_eq _ (Rg.key_ne_window (r := .PPS_WIDTH) (by decide) (by decide) hm)
  have hofs : u.get PPS_OFS.OFS m = s.get PPS_OFS.OFS m :=
    hsu.get_eq _ (Rg.key_ne_window (r := .PPS_OFS) (by decide) (by decide) hm)
  have he : exec (.outputStart (.pps m)) s = onUnit m 16 s (u.setPps m { u.ppsPin m with
      src := u.get PPS_CFG.SRC m, width := u.get PPS_WIDTH.WIDTH m, ofs := signedOf 32 (u.get PPS_OFS.OFS m), hold := none }) := by
    rw [← hu]
    exact congrArg (onUnit m 16 s) (if_pos ⟨by simp [hrun], hok, by simp [hstop]⟩)
  rw [he, hpin, hsrc, hwidth, hofs]
  refine ⟨_, onUnit_next m 16 s _ hm, ?_, ?_, State.onlyPps_setPps hpps m _, (hsu.trans (u.changesOnly_setPps m _ _ (by simp))).frame⟩
  · rw [State.settle_rd_of, State.setPps_rd_of, ← hu, State.rd_setBit_same _ _ _ _ _ rfl]
  · rw [State.settle_ppsPin_of, State.ppsPin_setPps_same]

/-- R71: a running output whose condition failed takes the muted level. -/
theorem exec_outputStop_out {s : State} {n : Nat} (hst : s.get OUT_STS.STATE n = 2) (hstop : (s.out n).stopping = true) :
    exec (.outputStop (.out n)) s = onUnit n 128 s (s.outMuted n) :=
  congrArg (onUnit n 128 s) (if_pos ⟨hst, hstop⟩)

/-- R71: without a divider that waits, an output that stops keeps its divider. -/
theorem exec_outputStop_out_effect {s : State} {n : Nat} (hn : n < 128) (hst : s.get OUT_STS.STATE n = 2) (hstop : (s.out n).stopping = true)
    (hdiv : (s.out n).divPend = none) :
    ∃ t, exec (.outputStop (.out n)) s = .next t
      ∧ t.rd .OUT_STS n = OUT_STS.STATE.put (s.rd .OUT_STS n) 0
      ∧ t.out n = { s.out n with stopping := false, hold := none }
      ∧ s.onlyOut t n ∧ s.frame t [.outs] [(.OUT_STS, n)] := by
  have hmuted : s.outMuted n = (s.set OUT_STS.STATE 0 n).setOut n { s.out n with stopping := false, hold := none } := by
    simp only [State.outMuted, hdiv]
  rw [exec_outputStop_out hst hstop, hmuted]
  refine ⟨_, onUnit_next n 128 s _ hn, ?_, ?_, State.onlyOut_setOut (s.set_outs ..) n _,
    ((s.changesOnly_set OUT_STS.STATE 0 n _ (by simp)).trans (State.changesOnly_setOut _ n _ _ (by simp))).frame⟩
  · rw [State.settle_rd_of, State.setOut_rd_of, State.rd_set_same _ _ _ _ rfl]
  · rw [State.settle_out_of, State.out_setOut_same]

/-- R71, R369: a divider that waits takes its place as its output stops. -/
theorem exec_outputStop_out_divider_effect {s : State} {n d : Nat} {k : Int} (hn : n < 128) (hst : s.get OUT_STS.STATE n = 2)
    (hstop : (s.out n).stopping = true) (hdiv : (s.out n).divPend = some (d, k)) :
    ∃ t, exec (.outputStop (.out n)) s = .next t
      ∧ t.rd .OUT_STS n = OUT_STS.STATE.put (s.rd .OUT_STS n) 0 ∧ t.rd .OUT_DIV n = OUT_DIV.DIVM1.put (s.rd .OUT_DIV n) d
      ∧ t.out n = { s.out n with stopping := false, divPend := none, k0 := k, hold := none }
      ∧ s.onlyOut t n ∧ s.frame t [.outs] [(.OUT_STS, n), (.OUT_DIV, n)] := by
  have hmuted : s.outMuted n = ((s.set OUT_STS.STATE 0 n).set OUT_DIV.DIVM1 d n).setOut n
      { s.out n with stopping := false, divPend := none, k0 := k, hold := none } := by
    simp only [State.outMuted, hdiv]
  rw [exec_outputStop_out hst hstop, hmuted]
  refine ⟨_, onUnit_next n 128 s _ hn, ?_, ?_, ?_, State.onlyOut_setOut (by simp) n _,
    (((s.changesOnly_set OUT_STS.STATE 0 n _ (by simp)).set OUT_DIV.DIVM1 d n (by simp)).trans
      (State.changesOnly_setOut _ n _ _ (by simp))).frame⟩
  · rw [State.settle_rd_of, State.setOut_rd_of, State.rd_set_ne _ _ _ _ (Rg.outSts_key_ne (by simp) n n).symm, State.rd_set_same _ _ _ _ rfl]
  · rw [State.settle_rd_of, State.setOut_rd_of, State.rd_set_same _ _ _ _ rfl, State.rd_set_ne _ _ _ _ (Rg.outSts_key_ne (by simp) n n)]
  · rw [State.settle_out_of, State.out_setOut_same]

/-- R71: a running PPS pin whose condition failed stops. -/
theorem exec_outputStop_pps_effect {s : State} {m : Nat} (hm : m < 16) (hrun : s.ppsRuns m = true) (hstop : (s.ppsPin m).stopping = true) :
    ∃ t, exec (.outputStop (.pps m)) s = .next t
      ∧ t.rd .OUT_PPS_STS = OUT_PPS_STS.RUN.put (s.rd .OUT_PPS_STS) (withBit (s.get OUT_PPS_STS.RUN) m false)
      ∧ t.ppsPin m = { s.ppsPin m with stopping := false, hold := none }
      ∧ s.onlyPps t m ∧ s.frame t [.pps] [(.OUT_PPS_STS, 0)] := by
  have he : exec (.outputStop (.pps m)) s
      = onUnit m 16 s ((s.setBit OUT_PPS_STS.RUN m false).setPps m { s.ppsPin m with stopping := false, hold := none }) :=
    congrArg (onUnit m 16 s) (if_pos ⟨hrun, hstop⟩)
  rw [he]
  refine ⟨_, onUnit_next m 16 s _ hm, ?_, ?_, State.onlyPps_setPps (s.setBit_pps ..) m _,
    ((s.changesOnly_setBit OUT_PPS_STS.RUN m false 0 _ (by simp)).trans (State.changesOnly_setPps _ m _ _ (by simp))).frame⟩
  · rw [State.settle_rd_of, State.setPps_rd_of, State.rd_setBit_same _ _ _ _ _ rfl]
  · rw [State.settle_ppsPin_of, State.ppsPin_setPps_same]

/-! ### The end of a driver change (R73) -/

/-- R71: the conditions of an output read registers, channels and the mode, and no output. -/
theorem State.outMayRun_setOut (s : State) (n : Nat) (x : Pin) (k : Nat) : (s.setOut n x).outMayRun k = s.outMayRun k := rfl

/-- R71: an output that leaves the muted level takes the source and the deskew in force. -/
theorem State.outStarting_eq (s : State) (n : Nat) :
    s.outStarting n = ((s.set OUT_STS.STATE 1 n).set OUT_STS.DESKEW_PEND 0 n).setOut n
      { s.out n with src := s.get OUT_CFG.SRC n, deskew := s.get OUT_DRV.DESKEW n } := by
  have hch : s.changesOnly ((s.set OUT_STS.STATE 1 n).set OUT_STS.DESKEW_PEND 0 n) [] [(.OUT_STS, n)] :=
    (s.changesOnly_set OUT_STS.STATE 1 n _ (by simp)).set OUT_STS.DESKEW_PEND 0 n (by simp)
  have hsrc := hch.get_eq OUT_CFG.SRC (i := n) (List.forall_mem_singleton.mpr (Rg.outSts_key_ne (by simp) n n))
  have hdeskew := hch.get_eq OUT_DRV.DESKEW (i := n) (List.forall_mem_singleton.mpr (Rg.outSts_key_ne (by simp) n n))
  simp only [State.outStarting, State.set_out_of, hsrc, hdeskew]

/-- R73: the output whose driver change ends starts under R71, or stays muted. -/
theorem exec_driverChangeMuteEnd {s : State} {n : Nat} (hwait : (s.out n).muteWait = true) (hstop : (s.out n).stopping = false)
    (hst : s.get OUT_STS.STATE n = 0) :
    exec (.driverChangeMuteEnd n) s = onUnit n 128 s (if s.outMayRun n then (s.setOut n { s.out n with muteWait := false }).outStarting n
      else s.setOut n { s.out n with muteWait := false }) := by
  rw [← s.outMayRun_setOut n { s.out n with muteWait := false } n]
  exact congrArg (onUnit n 128 s) (if_pos ⟨hwait, by simp [hstop], hst⟩)

/-- R71, R73: where its conditions hold, the output takes the source and the deskew in force. -/
theorem exec_driverChangeMuteEnd_starts {s : State} {n : Nat} (hn : n < 128) (hwait : (s.out n).muteWait = true)
    (hstop : (s.out n).stopping = false) (hst : s.get OUT_STS.STATE n = 0) (hok : s.outMayRun n = true) :
    ∃ t, exec (.driverChangeMuteEnd n) s = .next t
      ∧ t.rd .OUT_STS n = OUT_STS.DESKEW_PEND.put (OUT_STS.STATE.put (s.rd .OUT_STS n) 1) 0
      ∧ t.out n = { s.out n with muteWait := false, src := s.get OUT_CFG.SRC n, deskew := s.get OUT_DRV.DESKEW n }
      ∧ s.onlyOut t n ∧ s.frame t [.outs] [(.OUT_STS, n)] := by
  rw [exec_driverChangeMuteEnd hwait hstop hst, if_pos hok, State.outStarting_eq]
  refine ⟨_, onUnit_next n 128 s _ hn, ?_, ?_, ?_, ((((s.changesOnly_setOut n _ _ (by simp)).set OUT_STS.STATE 1 n (by simp)).set
    OUT_STS.DESKEW_PEND 0 n (by simp)).trans (State.changesOnly_setOut _ n _ _ (by simp))).frame⟩
  · rw [State.settle_rd_of, State.setOut_rd_of, State.rd_set_same _ _ _ _ rfl, State.rd_set_same _ _ _ _ rfl, State.setOut_rd_of]
  · simp only [State.settle_out_of, State.out_setOut_same, State.setOut_get_of]
  · intro k hk
    simp only [State.settle_out_of, State.out_setOut_ne _ _ hk.symm, State.set_out_of]

/-- R73: where a condition fails, the output only ceases to wait. -/
theorem exec_driverChangeMuteEnd_stays {s : State} {n : Nat} (hn : n < 128) (hwait : (s.out n).muteWait = true)
    (hstop : (s.out n).stopping = false) (hst : s.get OUT_STS.STATE n = 0) (hok : s.outMayRun n = false) :
    ∃ t, exec (.driverChangeMuteEnd n) s = .next t
      ∧ t.out n = { s.out n with muteWait := false } ∧ s.onlyOut t n ∧ s.frame t [.outs] [] := by
  rw [exec_driverChangeMuteEnd hwait hstop hst, if_neg (by simp [hok])]
  refine ⟨_, onUnit_next n 128 s _ hn, ?_, State.onlyOut_setOut rfl n _, (s.changesOnly_setOut n _ _ (by simp)).frame⟩
  rw [State.settle_out_of, State.out_setOut_same]

/-! ### Loop-back faults and the yield they cause (R78, R222) -/

/-- R222: the yield is asked for of an active whose peer is in STANDBY_STEP, where none waits yet. -/
theorem State.lbYield_pair (s : State) : s.lbYield.pair
    = if s.peerInStep && s.on PAIR_CFG.LB_YIELD && s.pair.yieldPend.isNone then { s.pair with yieldPend := some 3 } else s.pair :=
  apply_ite State.pair _ _ _

/-- R222: the yield depends on the pair, its configuration and its status only, so words below those of PAIR leave it. -/
theorem State.lbYield_pair_congr {s u : State} {words : List (Rg × Nat)} (h : s.changesOnly u [] words)
    (hw : ∀ q ∈ words, q.1.key q.2 < 0x160000) : u.lbYield.pair = s.lbYield.pair := by
  have hcfg : ∀ q ∈ words, q.1.key q.2 ≠ Rg.PAIR_CFG.key 0 := Rg.key_ne_below hw
  have hsts : ∀ q ∈ words, q.1.key q.2 ≠ Rg.PAIR_STS.key 0 := Rg.key_ne_below fun q hq => (hw q hq).trans (by decide)
  have hpeer : u.peerInStep = s.peerInStep := by
    simp only [State.peerInStep, State.isActive, h.get_eq PAIR_STS.ROLE hsts, h.on_eq PAIR_STS.IN_STEP hsts]
  have hpair : u.pair = s.pair := h.part .pair (by simp)
  rw [State.lbYield_pair, State.lbYield_pair, hpeer, h.on_eq PAIR_CFG.LB_YIELD hcfg, hpair]

/-- R78, R222: a declaration on an output asks for the yield of the state before it, beside what `onPin_lbDeclare_effect` says. -/
theorem onPin_lbDeclare_out_effect {s : State} {n : Nat} {cnt : Rg} (hcnt : 0x100800 ≤ cnt.key n ∧ cnt.key n < 0x100c00) (hn : n < 128)
    (ha : s.lbActive (.out n) = true) :
    ∃ t, onPin (.out n) s (s.lbDeclare (.out n) cnt) = .next t
      ∧ t.rd .OUT_STS n = OUT_STS.LB_FAULT.put (s.rd .OUT_STS n) 1 ∧ s.counted t cnt n 1 ∧ t.pair = s.lbYield.pair
      ∧ s.frame t [.pair] [(.OUT_STS, n), (cnt, n)] := by
  have ksts : Rg.OUT_STS.key n = 0x10000c + 0x10 * n := rfl
  obtain ⟨t, hexec, hbit, hcount, hframe⟩ := onPin_lbDeclare_effect cnt (by omega) hn ha
  refine ⟨t, hexec, hbit, hcount, ?_, hframe⟩
  have ht : t = (s.lbDeclare (.out n) cnt).settle := Host.Outcome.next.inj (hexec.symm.trans (onUnit_next n 128 s _ hn))
  have hd : s.lbDeclare (.out n) cnt = ((s.set OUT_STS.LB_FAULT 1 n).inc cnt n).lbYield := if_pos ha
  rw [ht, State.settle_pair, hd]
  refine State.lbYield_pair_congr (words := [(.OUT_STS, n), (cnt, n)])
    ((s.changesOnly_set OUT_STS.LB_FAULT 1 n _ (by simp)).inc cnt n (by simp)) ?_
  simp only [List.forall_mem_cons]
  exact ⟨by omega, by omega, by simp⟩

/-- R78, R222: a declaration on a PPS pin sets its fault bit, counts, and asks for the yield of the state before it. -/
theorem onPin_lbDeclare_pps_effect {s : State} {m : Nat} (cnt : Rg) (hm : m < 16) (ha : s.lbActive (.pps m) = true) :
    ∃ t, onPin (.pps m) s (s.lbDeclare (.pps m) cnt) = .next t
      ∧ t.rd .OUT_PPS_STS = OUT_PPS_STS.LB_FAULT.put (s.rd .OUT_PPS_STS) (withBit (s.get OUT_PPS_STS.LB_FAULT) m true)
      ∧ s.counted t .PPS_LB_CNT m 1 ∧ t.pair = s.lbYield.pair
      ∧ s.frame t [.pair] [(.OUT_PPS_STS, 0), (.PPS_LB_CNT, m)] := by
  have ksts : Rg.OUT_PPS_STS.key 0 = 0x100d14 := rfl
  have kcnt : Rg.PPS_LB_CNT.key m = 0x100c0c + 0x10 * m := rfl
  have hk : Rg.OUT_PPS_STS.key 0 ≠ Rg.PPS_LB_CNT.key m := by omega
  have hd : s.lbDeclare (.pps m) cnt = ((s.setBit OUT_PPS_STS.LB_FAULT m true).inc .PPS_LB_CNT m).lbYield := if_pos ha
  have hch (parts : List Part) : s.changesOnly ((s.setBit OUT_PPS_STS.LB_FAULT m true).inc .PPS_LB_CNT m) parts
      [(.OUT_PPS_STS, 0), (.PPS_LB_CNT, m)] :=
    (s.changesOnly_setBit OUT_PPS_STS.LB_FAULT m true 0 parts (by simp)).inc .PPS_LB_CNT m (by simp)
  rw [hd]
  refine ⟨_, onUnit_next m 16 s _ hm, ?_, ?_, ?_, ((hch [.pair]).trans (State.lbYield_changesOnly _ _ (by simp))).frame⟩
  · rw [State.settle_rd_of, State.lbYield_rd, State.rd_inc_ne _ _ _ hk.symm, State.rd_setBit_same _ _ _ _ _ rfl]
  · rw [State.counted, State.settle_rd_of, State.lbYield_rd, State.rd_inc_same, State.rd_setBit_ne _ _ _ _ _ hk]
  · refine State.lbYield_pair_congr (hch []) ?_
    simp only [List.forall_mem_cons]
    exact ⟨by omega, by omega, by simp⟩

/-- R78: clean edges on an output clear its fault bit. -/
theorem exec_loopbackFaultClear_out_effect {s : State} {n : Nat} (hn : n < 128) (ha : s.lbActive (.out n) = true) :
    ∃ t, exec (.loopbackFaultClear (.out n)) s = .next t
      ∧ t.rd .OUT_STS n = OUT_STS.LB_FAULT.put (s.rd .OUT_STS n) 0 ∧ s.frame t [] [(.OUT_STS, n)] := by
  have he : exec (.loopbackFaultClear (.out n)) s = onUnit n 128 s (s.set OUT_STS.LB_FAULT 0 n) := congrArg (onUnit n 128 s) (if_pos ha)
  rw [he]
  refine ⟨_, onUnit_next n 128 s _ hn, ?_, (s.changesOnly_set OUT_STS.LB_FAULT 0 n _ (by simp)).frame⟩
  rw [State.settle_rd_of, State.rd_set_same _ _ _ _ rfl]

/-- R78: clean edges on a PPS pin clear its fault bit. -/
theorem exec_loopbackFaultClear_pps_effect {s : State} {m : Nat} (hm : m < 16) (ha : s.lbActive (.pps m) = true) :
    ∃ t, exec (.loopbackFaultClear (.pps m)) s = .next t
      ∧ t.rd .OUT_PPS_STS = OUT_PPS_STS.LB_FAULT.put (s.rd .OUT_PPS_STS) (withBit (s.get OUT_PPS_STS.LB_FAULT) m false)
      ∧ s.frame t [] [(.OUT_PPS_STS, 0)] := by
  have he : exec (.loopbackFaultClear (.pps m)) s = onUnit m 16 s (s.setBit OUT_PPS_STS.LB_FAULT m false) :=
    congrArg (onUnit m 16 s) (if_pos ha)
  rw [he]
  refine ⟨_, onUnit_next m 16 s _ hm, ?_, (s.changesOnly_setBit OUT_PPS_STS.LB_FAULT m false 0 _ (by simp)).frame⟩
  rw [State.settle_rd_of, State.rd_setBit_same _ _ _ _ _ rfl]

/-- Settles O11: each event is one update of its pin and its status word; a fault asks for the yield of the
state before it. -/
theorem outputChanges : Obligations.OutputChanges := by
  unfold Obligations.OutputChanges
  simp only [← State.lbYield_pair]
  refine ⟨⟨fun s n => exec_outputStart_out_effect, fun s m => exec_outputStart_pps_effect, fun s n => exec_outputStop_out_effect,
      fun s n d k => exec_outputStop_out_divider_effect, fun s m => exec_outputStop_pps_effect⟩,
    fun s n hn hwait hstop hst => ⟨exec_driverChangeMuteEnd_starts hn hwait hstop hst, exec_driverChangeMuteEnd_stays hn hwait hstop hst⟩,
    fun s n miss hn ha => ?_, fun s m miss hm ha => ?_,
    fun s n => exec_loopbackFaultClear_out_effect, fun s m => exec_loopbackFaultClear_pps_effect⟩
  · have kmiss : Rg.OUT_LB_MISS_CNT.key n = 0x100800 + 8 * n := rfl
    have kextra : Rg.OUT_LB_EXTRA_CNT.key n = 0x100804 + 8 * n := rfl
    cases miss with
    | true => exact onPin_lbDeclare_out_effect (cnt := .OUT_LB_MISS_CNT) (by omega) hn ha
    | false => exact onPin_lbDeclare_out_effect (cnt := .OUT_LB_EXTRA_CNT) (by omega) hn ha
  · cases miss with
    | true => exact onPin_lbDeclare_pps_effect .OUT_LB_MISS_CNT hm ha
    | false => exact onPin_lbDeclare_pps_effect .OUT_LB_EXTRA_CNT hm ha

end Sys2Proof.Machine

namespace Sys2Proof.Machine

/-! ### A received hop on a unit whose own standby joins (R100, R230) -/

/-- A preset that does not chain. -/
def plainPreset : Preset where
  idx := 3
  pnom := 100 * 2 ^ 40
  pres := 5
  theta := 7
  divm1 := 9
  nextIdx := 0
  chain := false
  keepRate := true
  ldDiv := false
  ldPhofs := true
  valid := true

/-- A HOP record for channel 3, 48 master cycles behind its boundary. -/
def receivedHop : HopRec where
  sseq := 9
  exec := 0
  ofs := 48
  chTarget := true
  ch := 3
  gmask := 0
  sources := 1
  preset := 3

/-- A unit that has taken over: a hop it had received waits in its stream, and it streams to a standby that joins and holds a copy of
channel 3. -/
def takenOverWithJoiner : State :=
  let s := (((State.reset.set DEV_MODE.MODE 5).set PAIR_STS.ROLE 1).set CH_CFG.EN 1 3).set CH_HOP.HOP_EN 1 3
  { s.setChan 3 { Chan.reset with running := true, armed := some plainPreset } with
    pair := { s.pair with streaming := true, joined := [3], stream := [⟨0, .hop receivedHop⟩] } }

theorem takenOverWithJoiner_hopReady : takenOverWithJoiner.hopReady .peer 3 plainPreset := by
  unfold State.hopReady
  decide +kernel

/-- R230: the hop takes channel 3 out of the joined channels of the unit that executes it. -/
theorem takenOverWithJoiner_unjoins :
    ∃ t, exec (.peerHopRouterEntry 8) takenOverWithJoiner = .next t ∧ t.pair.joined = [] ∧ t.pair.recopy = [3] :=
  ⟨_, done_next _, by decide +kernel⟩

/-- Refutes O13: its last clause says that a hop of the peer's stream empties the stream and changes nothing else of the pair. A unit
that has taken over while its own standby joins takes the hopped channel out of the joined ones, to be copied again (R230), and no
hypothesis excludes it. -/
theorem not_hopTriggersCommit : ¬ Obligations.HopTriggersCommit := by
  unfold Obligations.HopTriggersCommit
  rintro ⟨-, -, -, hpeer⟩
  obtain ⟨t, hexec, hpair, -⟩ := hpeer takenOverWithJoiner 8 0 receivedHop plainPreset (by decide +kernel) (by decide) (by decide)
    (by decide +kernel) takenOverWithJoiner_hopReady
  obtain ⟨u, hexec', hjoined, -⟩ := takenOverWithJoiner_unjoins
  have htu : t = u := Host.Outcome.next.inj (hexec.symm.trans hexec')
  have hkept : t.pair.joined = [3] := (congrArg Pair.joined hpair).trans (by decide +kernel)
  rw [htu, hjoined] at hkept
  cases hkept

end Sys2Proof.Machine

namespace Sys2Proof.Machine

/-! ### Commands that change one channel -/

/-- A command that replaces channel `c` only. -/
theorem onUnit_setChan_effect {s : State} {c : Nat} (x : Chan) (hc : c < 512) :
    ∃ t, onUnit c 512 s (s.setChan c x) = .next t ∧ t.chan c = x ∧ s.onlyChan t c ∧ s.frame t [.chans] [] := by
  refine ⟨_, onUnit_next c 512 s _ hc, ?_, fun k hk => ?_, (s.changesOnly_setChan c x _ (by simp)).frame⟩
  · rw [State.settle_chan_of, State.chan_setChan_same]
  · rw [State.settle_chan_of, State.chan_setChan_ne _ _ hk.symm]

/-- A command that replaces channel `c` and counts. -/
theorem onUnit_setChan_inc_effect {s : State} {c : Nat} (x : Chan) (cnt : Rg) (hc : c < 512) :
    ∃ t, onUnit c 512 s ((s.setChan c x).inc cnt) = .next t
      ∧ t.chan c = x ∧ s.onlyChan t c ∧ s.counted t cnt 0 1 ∧ s.frame t [.chans] [(cnt, 0)] := by
  refine ⟨_, onUnit_next c 512 s _ hc, ?_, fun k hk => ?_, ?_,
    ((s.changesOnly_setChan c x _ (by simp)).inc cnt 0 (by simp)).frame⟩
  · rw [State.settle_chan_of, State.inc_chan_of, State.chan_setChan_same]
  · rw [State.settle_chan_of, State.inc_chan_of, State.chan_setChan_ne _ _ hk.symm]
  · rw [State.counted, State.settle_rd_of, State.rd_inc_same, State.setChan_rd_of]

/-! ### Edges of a hop pin and holdoff (R87, R88) -/

/-- R87: the edge that EDGE does not name. -/
theorem exec_hopPinEdge_otherEdge (s : State) (p cyc : Nat) :
    exec (.hopPinEdge ⟨p, s.on HOP_PIN_CFG.EDGE p⟩ cyc) s = onUnit p 8 s s :=
  congrArg (onUnit p 8 s) (if_pos (.inr (.inr rfl)))

/-- R88: an edge in the holdoff of its pin. -/
theorem exec_hopPinEdge_holdoff {s : State} {p : Nat} (cyc : Nat) (hm : s.mode ≠ 0) (hen : s.on HOP_PIN_CFG.EN p = true) (hp : p ∈ s.holdoff) :
    exec (.hopPinEdge ⟨p, !s.on HOP_PIN_CFG.EDGE p⟩ cyc) s = onUnit p 8 s (s.inc .HOP_HOLDOFF_CNT) := by
  have hnamed : ¬ (s.mode = 0 ∨ ¬ s.on HOP_PIN_CFG.EN p ∨ (!s.on HOP_PIN_CFG.EDGE p) = s.on HOP_PIN_CFG.EDGE p) := by
    simp [hm, hen]
  exact congrArg (onUnit p 8 s) ((if_neg hnamed).trans (if_pos (List.contains_iff_mem.mpr hp)))

/-- R88: the holdoff of one pin ends. -/
theorem exec_hopHoldoffExpired_effect (s : State) {p : Nat} (hp : p < 8) :
    ∃ t, exec (.hopHoldoffExpired p) s = .next t ∧ (∀ q, q ∈ t.holdoff ↔ q ∈ s.holdoff ∧ q ≠ p) ∧ s.frame t [.holdoff] [] := by
  have hch : s.changesOnly { s with holdoff := s.holdoff.filter (· != p) } [.holdoff] [] :=
    State.changesOnly_part .holdoff _ (by simp) rfl rfl fun q hq => by cases q <;> simp_all [Part.same]
  refine ⟨_, onUnit_next p 8 s _ hp, fun q => ?_, hch.frame⟩
  rw [State.settle_holdoff]
  simp

/-! ### The end of an arming (R84, R85) -/

theorem exec_hopArmingComplete_passes {s : State} {c : Nat} {p : Preset} (harm : (s.chan c).arming = some p) (hok : s.armOk c p = true) :
    exec (.hopArmingComplete c) s = onUnit c 512 s (s.setChan c { s.chan c with arming := none, armed := some p }) := by
  show onUnit c 512 s (s.completeArming c) = _
  simp only [State.completeArming, harm, hok, if_true]

theorem exec_hopArmingComplete_fails {s : State} {c : Nat} {p : Preset} (harm : (s.chan c).arming = some p) (hok : s.armOk c p = false) :
    exec (.hopArmingComplete c) s
      = onUnit c 512 s ((s.setChan c { s.chan c with arming := none, armed := none }).inc .HOP_ARMFAIL_CNT) := by
  show onUnit c 512 s (s.completeArming c) = _
  simp only [State.completeArming, harm, hok, Bool.false_eq_true, if_false]

/-! ### A hop in flight meets its edge (R89, R98) -/

/-- R89, R98: the edge E of a running, enabled channel falls in the tick. -/
theorem exec_hopTakesEffect_atEdge {s : State} {c : Nat} {f : InFlight} {e : EdgeE} (hf : (s.chan c).inflight = some f)
    (hrun : (s.chan c).running = true) (hen : s.chEn c = true) (he : edgeAfter (s.chan c) (s.p0 c) s.msyn.mcc f.h = some e) :
    exec (.hopTakesEffect c) s = onUnit c 512 s (if (s.chan c).state = .frozen then s.dropHop c else s.takeHop c f e) := by
  show execHopTakesEffect c s = _
  simp [execHopTakesEffect, hf, hrun, hen, he]

/-- R98: the instant H of a disabled channel has come by the end of the tick. -/
theorem exec_hopTakesEffect_disabled {s : State} {c : Nat} {f : InFlight} (hf : (s.chan c).inflight = some f)
    (hen : s.chEn c = false) (hh : f.h < s.msyn.mcc + 12800) :
    exec (.hopTakesEffect c) s = onUnit c 512 s (s.dropHop c) := by
  show execHopTakesEffect c s = _
  simp [execHopTakesEffect, hf, hen, hh]

/-- Settles O14: each clause is one branch of its command, which changes one channel, the holdoff or a counter. -/
theorem hopEdgesAndArming : Obligations.HopEdgesAndArming := by
  unfold Obligations.HopEdgesAndArming
  refine ⟨fun s p cyc hp => ⟨?_, fun hm hen hin => ?_⟩, fun s p hp => exec_hopHoldoffExpired_effect s hp,
    fun s c p hc harm => ⟨fun hok => ?_, fun hok => ?_⟩, fun s c f hc hf hdrop => ?_⟩
  · rw [exec_hopPinEdge_otherEdge]
    exact ⟨_, onUnit_next p 8 s _ hp, (s.changesOnly_refl _ _).frame⟩
  · rw [exec_hopPinEdge_holdoff cyc hm hen hin]
    exact ⟨_, onUnit_next p 8 s _ hp, s.rd_inc_same .HOP_HOLDOFF_CNT 0, (s.changesOnly_inc .HOP_HOLDOFF_CNT 0 _ (by simp)).frame⟩
  · rw [exec_hopArmingComplete_passes harm hok]
    exact onUnit_setChan_effect _ hc
  · rw [exec_hopArmingComplete_fails harm hok]
    exact onUnit_setChan_inc_effect _ _ hc
  · have he : exec (.hopTakesEffect c) s = onUnit c 512 s (s.dropHop c) := by
      obtain ⟨hrun, hen, hfrozen, hedge⟩ | ⟨hen, hh⟩ := hdrop
      · obtain ⟨e, he⟩ := Option.isSome_iff_exists.mp hedge
        rw [exec_hopTakesEffect_atEdge hf hrun hen he, if_pos hfrozen]
      · exact exec_hopTakesEffect_disabled hf hen hh
    rw [he]
    exact onUnit_setChan_inc_effect _ _ hc

end Sys2Proof.Machine

namespace Sys2Proof.Machine

/-! ### Pins across an offset step (R95) -/

/-- A fold keeps output `n` where no step replaces an output of another source than `c`. -/
theorem State.upto_out_of {f : Nat → State → State} {c n : Nat} (h : ∀ k u, (State.out u n).src ≠ c → (f k u).out n = u.out n) (m : Nat)
    {s : State} (hs : (s.out n).src ≠ c) : (State.upto m f s).out n = s.out n := by
  induction m with
  | zero => rfl
  | succ m ih => rw [State.upto_succ, h m _ (by rwa [ih]), ih]

/-- A fold keeps PPS pin `n` where no step replaces a pin of another source than `c`. -/
theorem State.upto_ppsPin_of {f : Nat → State → State} {c n : Nat} (h : ∀ k u, (State.ppsPin u n).src ≠ c → (f k u).ppsPin n = u.ppsPin n)
    (m : Nat) {s : State} (hs : (s.ppsPin n).src ≠ c) : (State.upto m f s).ppsPin n = s.ppsPin n := by
  induction m with
  | zero => rfl
  | succ m ih => rw [State.upto_succ, h m _ (by rwa [ih]), ih]

theorem State.hopOutputs_changesOnly (s : State) (c : Nat) (p : Preset) (x : Chan) (p0 : Nat) (m te : Int) :
    s.changesOnly (s.hopOutputs c p x p0 m te) [.outs] [] := by
  refine State.upto_changesOnly (fun n _ u => ?_) s
  split
  · exact u.changesOnly_setOut n _ _ (by simp)
  · exact u.changesOnly_refl _ _

theorem State.hopOutputs_out_ne (s : State) {c n : Nat} (p : Preset) (x : Chan) (p0 : Nat) (m te : Int) (h : (s.out n).src ≠ c) :
    (s.hopOutputs c p x p0 m te).out n = s.out n := by
  refine State.upto_out_of (fun k u hu => ?_) 128 h
  split
  case isTrue hk => exact u.out_setOut_ne _ fun e => hu (e ▸ hk.1)
  case isFalse => rfl

theorem State.hopPpsPins_changesOnly (s : State) (c : Nat) (te d : Int) : s.changesOnly (s.hopPpsPins c te d) [.pps] [] := by
  refine State.upto_changesOnly (fun m _ u => ?_) s
  split
  · exact u.changesOnly_setPps m _ _ (by simp)
  · exact u.changesOnly_refl _ _

theorem State.hopPpsPins_ppsPin_ne (s : State) {c m : Nat} (te d : Int) (h : (s.ppsPin m).src ≠ c) :
    (s.hopPpsPins c te d).ppsPin m = s.ppsPin m := by
  refine State.upto_ppsPin_of (fun k u hu => ?_) 16 h
  split
  case isTrue hk => exact u.ppsPin_setPps_ne _ fun e => hu (e ▸ hk.1)
  case isFalse => rfl

/-! ### The words and the channel of a hop (R91 to R93) -/

/-- A state whose pending words are replaced by themselves. -/
theorem State.with_own_pending {s : State} {spi inb cfg : List GWord} {groups : List Group} {shadow : Tab (Option Word)}
    {stream : List StreamEv} {out : List PairRec} (hspi : s.dev.spi.open_ = spi) (hinb : s.dev.inb.open_ = inb)
    (hgroups : s.dev.groups = groups) (hshadow : s.dev.shadow = shadow) (hcfg : s.pair.cfgOpen = cfg) (hstream : s.pair.stream = stream)
    (hout : s.pair.out = out) :
    { s with
      dev := { s.dev with
        spi := { s.dev.spi with open_ := spi }, inb := { s.dev.inb with open_ := inb }, groups := groups, shadow := shadow }
      pair := { s.pair with cfgOpen := cfg, stream := stream, out := out } } = s := by
  subst hspi hinb hgroups hshadow hcfg hstream hout
  rfl

/-- R65, R98: a device without pending words has none to discard. -/
theorem State.dropPending_none {s : State} (c : Nat) (p : Preset) (hgroups : s.dev.groups = []) (hspi : s.dev.spi.open_ = [])
    (hinb : s.dev.inb.open_ = []) (hshadow : s.dev.shadow = []) (hcfg : s.pair.cfgOpen = []) (hstream : s.pair.stream = [])
    (hout : s.pair.out = []) : s.dropPending c p = s.add .DEV_LOST_WRITES 0 := by
  simp only [State.dropPending, State.syncShadow, State.keepWords, State.lostWords, hgroups, hspi, hinb, hshadow, hcfg, hstream, hout,
    List.filter_nil, List.map_nil, List.length_nil, List.sum_nil, Nat.add_zero]
  exact congrArg (State.add · .DEV_LOST_WRITES 0) (State.with_own_pending hspi hinb hgroups hshadow hcfg hstream hout)

/-- R91: the words that a hop of channel `c` writes. -/
def hopWordsOf (c : Nat) : List (Rg × Nat) := [(.CH_PNOM_LO, c), (.CH_PNOM_HI, c), (.CH_PRES, c), (.CH_PHOFS, c)]

theorem State.hopWords_changesOnly (s : State) (c : Nat) (p : Preset) : s.changesOnly (s.hopWords c p) [] (hopWordsOf c) :=
  (((s.changesOnly_wr .CH_PNOM_LO c _ _ (by simp [hopWordsOf])).wr .CH_PNOM_HI c _ (by simp [hopWordsOf])).wr .CH_PRES c _ (by simp [hopWordsOf])).trans
    (State.changesOnly_cond (State.changesOnly_wr _ .CH_PHOFS c _ _ (by simp [hopWordsOf])))

/-- The period words, the residue and the offset of one channel are four words. -/
theorem Rg.hopWords_keys (c : Nat) : Rg.CH_PNOM_LO.key c = 0x80004 + 0x400 * c ∧ Rg.CH_PNOM_HI.key c = 0x80008 + 0x400 * c
    ∧ Rg.CH_PRES.key c = 0x8000c + 0x400 * c ∧ Rg.CH_PHOFS.key c = 0x80010 + 0x400 * c := ⟨rfl, rfl, rfl, rfl⟩

/-- R91: what the words of the channel read after the hop. -/
theorem State.hopWords_rd (s : State) (c : Nat) (p : Preset) :
    (s.hopWords c p).rd .CH_PNOM_LO c = BitVec.ofNat 32 p.pnom ∧ (s.hopWords c p).rd .CH_PNOM_HI c = BitVec.ofNat 32 (p.pnom / 2 ^ 32)
      ∧ (s.hopWords c p).rd .CH_PRES c = p.pres
      ∧ (s.hopWords c p).rd .CH_PHOFS c = if p.ldPhofs then p.theta else s.rd .CH_PHOFS c := by
  obtain ⟨klo, khi, kres, kofs⟩ := Rg.hopWords_keys c
  unfold State.hopWords State.cond
  dsimp only
  split <;> refine ⟨?_, ?_, ?_, ?_⟩ <;>
    simp (disch := omega) only [State.rd_wr_same, State.rd_wr_ne]

/-- R91 to R93: the hop writes its words and channel `c` goes on as `y`; the jump of its time is noted. -/
def State.hopApplied (s : State) (c : Nat) (p : Preset) (y : Chan) (j : Jump) : State :=
  (((s.setChan c y).hopWords c p).syncPattern c).noteJump c j

theorem State.hopApplied_changesOnly (s : State) (c : Nat) (p : Preset) (y : Chan) (j : Jump) :
    s.changesOnly (s.hopApplied c p y j) [.chans, .twl] (hopWordsOf c) :=
  (((s.changesOnly_setChan c y _ (by simp)).trans ((State.hopWords_changesOnly _ c p).mono (by simp) (by simp))).trans
    (State.changesOnly_setChan _ c _ _ (by simp))).trans (State.changesOnly_twl _ _ _ (by simp))

theorem State.hopApplied_rd (s : State) (c : Nat) (p : Preset) (y : Chan) (j : Jump) (r : Rg) (i : Nat) :
    (s.hopApplied c p y j).rd r i = ((s.setChan c y).hopWords c p).rd r i := rfl

/-- Beside where its accumulator goes on from, the channel is `y`. -/
theorem State.hopApplied_chan_same (s : State) (c : Nat) (p : Preset) (y : Chan) (j : Jump) :
    ∃ k, (s.hopApplied c p y j).chan c = { y with patK := k } := by
  have hy : ((s.setChan c y).hopWords c p).chan c = y := by
    rw [(State.hopWords_changesOnly _ c p).chan_eq (by simp), State.chan_setChan_same]
  refine ⟨patternIndex y (((s.setChan c y).hopWords c p).p0 c), ?_⟩
  exact (State.chan_setChan_same _ c _).trans (by rw [hy])

theorem State.hopApplied_chan_ne (s : State) {c k : Nat} (p : Preset) (y : Chan) (j : Jump) (h : k ≠ c) :
    (s.hopApplied c p y j).chan k = s.chan k :=
  (State.chan_setChan_ne _ _ h.symm).trans
    (((State.hopWords_changesOnly _ c p).chan_eq (by simp) k).trans (s.chan_setChan_ne y h.symm))

theorem State.hopApplied_twl (s : State) (c : Nat) (p : Preset) (y : Chan) (j : Jump) :
    (s.hopApplied c p y j).twl = { s.twl with jump := (s.hopApplied c p y j).twl.jump } := by
  have h : ((s.setChan c y).hopWords c p).twl = s.twl := (State.hopWords_changesOnly _ c p).part .twl (by simp)
  rw [← h]
  rfl

/-! ### The stages of a hop (R91 to R95) -/

theorem State.changesOnly.out_eq {s t : State} {parts : List Part} {words : List (Rg × Nat)} (h : s.changesOnly t parts words)
    (hn : Part.outs ∉ parts) (n : Nat) : t.out n = s.out n := by
  rw [State.out, State.out, h.part .outs hn]

theorem State.changesOnly.ppsPin_eq {s t : State} {parts : List Part} {words : List (Rg × Nat)} (h : s.changesOnly t parts words)
    (hn : Part.pps ∉ parts) (m : Nat) : t.ppsPin m = s.ppsPin m := by
  rw [State.ppsPin, State.ppsPin, h.part .pps hn]

/-- R95: the PPS pins follow a step `d` of the offset. -/
def State.ppsStage (s : State) (c : Nat) (te d : Int) : State := s.cond (d != 0) (·.hopPpsPins c te d)

/-- R95: the outputs follow a step `d` of the offset. `x` and `p0` are the channel and its P0 before the hop. -/
def State.outStage (s : State) (c : Nat) (p : Preset) (x : Chan) (p0 : Nat) (m te d : Int) : State :=
  s.cond (d != 0) (·.hopOutputs c p x p0 m te)

section
variable (s : State) (c : Nat) (p : Preset) (x y : Chan) (p0 : Nat) (j : Jump) (m te d : Int)

theorem State.ppsStage_changesOnly : s.changesOnly (s.ppsStage c te d) [.pps] [] :=
  State.changesOnly_cond (s.hopPpsPins_changesOnly c te d)

theorem State.outStage_changesOnly : s.changesOnly (s.outStage c p x p0 m te d) [.outs] [] :=
  State.changesOnly_cond (s.hopOutputs_changesOnly c p x p0 m te)

theorem State.ppsStage_ppsPin_ne {k : Nat} (h : (s.ppsPin k).src ≠ c) : (s.ppsStage c te d).ppsPin k = s.ppsPin k := by
  unfold State.ppsStage State.cond
  split
  · exact s.hopPpsPins_ppsPin_ne te d h
  · rfl

theorem State.outStage_out_ne {n : Nat} (h : (s.out n).src ≠ c) : (s.outStage c p x p0 m te d).out n = s.out n := by
  unfold State.outStage State.cond
  split
  · exact s.hopOutputs_out_ne p x p0 m te h
  · rfl

/-- R91 to R95: a hop without a divider to load, once its pending words are discarded: the PPS pins, the words and the channel, the
outputs. -/
def State.hopStages : State := ((s.ppsStage c te d).hopApplied c p y j).outStage c p x p0 m te d

theorem State.hopStages_changesOnly : s.changesOnly (s.hopStages c p x y p0 j m te d) [.chans, .outs, .pps, .twl] (hopWordsOf c) :=
  (((s.ppsStage_changesOnly c te d).mono (by simp) (by simp)).trans ((State.hopApplied_changesOnly _ c p y j).mono (by simp) (by simp))).trans
    ((State.outStage_changesOnly _ c p x p0 m te d).mono (by simp) (by simp))

theorem State.hopStages_rd (r : Rg) (i : Nat) :
    (s.hopStages c p x y p0 j m te d).rd r i = (((s.ppsStage c te d).setChan c y).hopWords c p).rd r i :=
  ((State.outStage_changesOnly _ c p x p0 m te d).rd_eq (by simp)).trans (State.hopApplied_rd ..)

theorem State.hopStages_chan_same : ∃ k, (s.hopStages c p x y p0 j m te d).chan c = { y with patK := k } := by
  rw [State.hopStages, (State.outStage_changesOnly _ c p x p0 m te d).chan_eq (by simp)]
  exact State.hopApplied_chan_same _ c p y j

theorem State.hopStages_chan_ne {k : Nat} (h : k ≠ c) : (s.hopStages c p x y p0 j m te d).chan k = s.chan k := by
  rw [State.hopStages, (State.outStage_changesOnly _ c p x p0 m te d).chan_eq (by simp), State.hopApplied_chan_ne _ p y j h,
    (s.ppsStage_changesOnly c te d).chan_eq (by simp)]

/-- R95: without a step of the offset no pin is held. -/
theorem State.hopStages_no_step :
    (s.hopStages c p x y p0 j m te 0).outs = s.outs ∧ (s.hopStages c p x y p0 j m te 0).pps = s.pps :=
  ⟨(s.hopApplied_changesOnly c p y j).part .outs (by simp), (s.hopApplied_changesOnly c p y j).part .pps (by simp)⟩

theorem State.hopStages_out_ne {n : Nat} (h : (s.out n).src ≠ c) : (s.hopStages c p x y p0 j m te d).out n = s.out n := by
  have hn : ((s.ppsStage c te d).hopApplied c p y j).out n = s.out n := by
    rw [(State.hopApplied_changesOnly _ c p y j).out_eq (by simp), (s.ppsStage_changesOnly c te d).out_eq (by simp)]
  rw [State.hopStages, State.outStage_out_ne (h := hn.symm ▸ h), hn]

theorem State.hopStages_ppsPin_ne {k : Nat} (h : (s.ppsPin k).src ≠ c) : (s.hopStages c p x y p0 j m te d).ppsPin k = s.ppsPin k := by
  rw [State.hopStages, (State.outStage_changesOnly _ c p x p0 m te d).ppsPin_eq (by simp),
    (State.hopApplied_changesOnly _ c p y j).ppsPin_eq (by simp), s.ppsStage_ppsPin_ne c te d h]

theorem State.hopStages_twl :
    (s.hopStages c p x y p0 j m te d).twl = { s.twl with jump := (s.hopStages c p x y p0 j m te d).twl.jump } := by
  rw [State.hopStages, (State.outStage_changesOnly _ c p x p0 m te d).part .twl (by simp), State.hopApplied_twl,
    (s.ppsStage_changesOnly c te d).part .twl (by simp)]

end

/-- R91 to R95: without pending words and a divider to load, a hop runs through its stages. Only an offset that the preset loads steps. -/
theorem State.takeHop_eq_stages {s : State} {c : Nat} {f : InFlight} (e : EdgeE)
    (hdrop : s.dropPending c f.preset = s.add .DEV_LOST_WRITES 0) (hdiv : f.preset.ldDiv = false) :
    ∃ (te d : Int) (j : Jump), (f.preset.ldPhofs = false → d = 0) ∧ s.takeHop c f e
      = (s.add .DEV_LOST_WRITES 0).hopStages c f.preset (s.chan c) ((s.chan c).hopped f e (s.p0 c)) (s.p0 c) j e.m te d := by
  obtain ⟨klo, khi, -, -⟩ := Rg.hopWords_keys c
  have klost : Rg.DEV_LOST_WRITES.key 0 = 0x54 := rfl
  have hp0 : (s.add .DEV_LOST_WRITES 0).p0 c = s.p0 c := by
    rw [State.p0, State.p0, State.rd_add_ne _ _ _ _ (by omega), State.rd_add_ne _ _ _ _ (by omega)]
  refine ⟨_, _, _, fun hl => ?_, by unfold State.takeHop; dsimp only; rw [hdrop, hdiv, hp0]; exact rfl⟩
  rw [Chan.hopped]
  simp [hl]

/-- Settles O15: the hop runs through its stages, each of which changes its own part and words only. -/
theorem hopTakesEffectAtEdge : Obligations.HopTakesEffectAtEdge := by
  unfold Obligations.HopTakesEffectAtEdge
  intro s c f e hc hf hlive hrun hen he hdiv hgroups hspi hinb hshadow hcfg hstream hout
  obtain ⟨te, d, j, hd, htake⟩ := State.takeHop_eq_stages e
    (State.dropPending_none c f.preset hgroups hspi hinb hshadow hcfg hstream hout) hdiv
  rw [exec_hopTakesEffect_atEdge hf hrun hen he, if_neg hlive, htake]
  generalize hs' : s.add .DEV_LOST_WRITES 0 = s'
  have hch : s.changesOnly s' [] [(.DEV_LOST_WRITES, 0)] := hs' ▸ s.changesOnly_add .DEV_LOST_WRITES 0 0 _ (by simp)
  generalize hw : s'.hopStages c f.preset (s.chan c) ((s.chan c).hopped f e (s.p0 c)) (s.p0 c) j e.m te d = w
  have hst : s'.changesOnly w [.chans, .outs, .pps, .twl] (hopWordsOf c) := hw ▸ State.hopStages_changesOnly ..
  have hrd := hw ▸ s'.hopStages_rd c f.preset (s.chan c) ((s.chan c).hopped f e (s.p0 c)) (s.p0 c) j e.m te d
  obtain ⟨hlo, hhi, hres, hofs⟩ := ((s'.ppsStage c te d).setChan c ((s.chan c).hopped f e (s.p0 c))).hopWords_rd c f.preset
  rw [State.setChan_rd_of, (s'.ppsStage_changesOnly c te d).rd_eq (by simp),
    hch.rd_eq (Rg.key_ne_window (r := .CH_PHOFS) (by decide) (by decide) hc)] at hofs
  obtain ⟨k, hx⟩ := hw ▸ s'.hopStages_chan_same c f.preset (s.chan c) ((s.chan c).hopped f e (s.p0 c)) (s.p0 c) j e.m te d
  refine ⟨_, onUnit_next c 512 s _ hc, (hrd _ _).trans hlo, (hrd _ _).trans hhi, (hrd _ _).trans hres, (hrd _ _).trans hofs,
    congrArg Chan.p hx, congrArg Chan.resAcc hx, congrArg Chan.time hx, congrArg Chan.restNum hx,
    congrArg Chan.restDen hx, ?_, congrArg Chan.inflight hx, congrArg Chan.hopDone hx, (congrArg Chan.armed hx).trans rfl,
    (congrArg Chan.state hx).trans rfl, (congrArg Chan.adj hx).trans rfl, fun hl => ?_, fun n hn => ?_, fun m hm => ?_, ?_, fun i hi => ?_, ?_⟩
  · rw [State.settle_chan_of, hx]
    simp only [Chan.hopped]
    omega
  · obtain rfl := hd hl
    rw [State.settle_outs, State.settle_pps, ← hw]
    obtain ⟨houts, hpps⟩ := s'.hopStages_no_step c f.preset (s.chan c) ((s.chan c).hopped f e (s.p0 c)) (s.p0 c) j e.m te
    exact ⟨houts.trans (hch.part .outs (by simp)), hpps.trans (hch.part .pps (by simp))⟩
  · have hn' : s'.out n = s.out n := hch.out_eq (by simp) n
    rw [State.settle_out_of, ← hw, State.hopStages_out_ne (h := hn'.symm ▸ hn), hn']
  · have hm' : s'.ppsPin m = s.ppsPin m := hch.ppsPin_eq (by simp) m
    rw [State.settle_ppsPin_of, ← hw, State.hopStages_ppsPin_ne (h := hm'.symm ▸ hm), hm']
  · rw [State.settle_twl, ← hw, State.hopStages_twl, hch.part .twl (by simp)]
  · rw [State.settle_chan_of, ← hw, State.hopStages_chan_ne (h := hi), hch.chan_eq (by simp)]
  · exact ((hch.mono (by simp) (by simp)).trans (hst.mono (by simp) (by simp [hopWordsOf]))).frame

end Sys2Proof.Machine

namespace Sys2Proof.Machine

/-! ### Inputs beside the registers -/

theorem State.changesOnly_setRefin (s : State) (i : Nat) (x : RefIn) {parts : List Part} (words : List (Rg × Nat)) (h : Part.refs ∈ parts) :
    s.changesOnly (s.setRefin i x) parts words :=
  State.changesOnly_part .refs words h rfl rfl fun p hp => by cases p <;> simp_all [Part.same]

theorem State.refin_setRefin_ne (s : State) {i k : Nat} (x : RefIn) (h : i ≠ k) : (s.setRefin i x).refin k = s.refin k :=
  Tab.get_set_ne _ _ _ h

theorem State.changesOnly.refin_eq {s t : State} {parts : List Part} {words : List (Rg × Nat)} (h : s.changesOnly t parts words)
    (hn : Part.refs ∉ parts) (k : Nat) : t.refin k = s.refin k := by
  rw [State.refin, State.refin, h.part .refs hn]

/-- What follows the replacement of input `i` and leaves every input leaves `i` replaced and the others as they were. -/
theorem State.setRefin_refins {s u : State} {i : Nat} {x : RefIn} {parts : List Part} {words : List (Rg × Nat)}
    (h : (s.setRefin i x).changesOnly u parts words) (hn : Part.refs ∉ parts) : u.settle.refin i = x ∧ s.onlyRefin u.settle i := by
  refine ⟨?_, fun k hk => ?_⟩
  · rw [State.settle_refin_of, h.refin_eq hn, State.refin_setRefin_same]
  · rw [State.settle_refin_of, h.refin_eq hn, State.refin_setRefin_ne _ _ hk.symm]

/-- R136: the keys of the words of input `i`. -/
theorem Rg.refin_keys (i : Nat) : Rg.REF_CFG.key i = 0x110000 + 0x20 * i ∧ Rg.REF_FNOM.key i = 0x110004 + 0x20 * i
    ∧ Rg.REF_QUAL.key i = 0x110008 + 0x20 * i ∧ Rg.REF_HIT.key i = 0x11000c + 0x20 * i ∧ Rg.REF_STS.key i = 0x110010 + 0x20 * i
    ∧ Rg.REF_FOFS.key i = 0x110014 + 0x20 * i ∧ Rg.REF_DISQ_CNT.key i = 0x110018 + 0x20 * i
    ∧ Rg.REF_HIT_CNT.key i = 0x11001c + 0x20 * i := ⟨rfl, rfl, rfl, rfl, rfl, rfl, rfl, rfl⟩

/-- R6: a counter that reads as before has taken nothing. -/
theorem State.counted_zero {s t : State} {r : Rg} {i : Nat} (h : t.rd r i = s.rd r i) : s.counted t r i 0 := by
  have hlt := (s.rd r i).isLt
  rw [State.counted, h]
  omega

/-- R6: a counter that reads alike in two states has taken alike. -/
theorem State.counted_congr {s t u : State} {r : Rg} {i n : Nat} (h : u.rd r i = t.rd r i) (hc : s.counted t r i n) : s.counted u r i n := by
  rw [State.counted, h]
  exact hc

/-! ### A move of the qualification state (R108) -/

/-- R108: whether a move from state `old` to `st` is counted. -/
def moveCounts (old st : Nat) : Bool := (st == 1 || st == 2) && 3 ≤ old && old ≤ 5

/-- R108: the words that a move of input `i` writes. -/
def moveWords (i old st : Nat) : List (Rg × Nat) := (.REF_STS, i) :: if moveCounts old st then [(.REF_DISQ_CNT, i)] else []

theorem moveWords_subset (i old st : Nat) : moveWords i old st ⊆ [(.REF_STS, i), (.REF_DISQ_CNT, i)] := by
  unfold moveWords
  split <;> simp

section
variable (s : State) (i st : Nat)

/-- A move that is not counted only shows its state. -/
theorem State.moveRef_uncounted {s : State} {i st : Nat} (h : moveCounts (s.get REF_STS.STATE i) st = false) :
    s.moveRef i st = s.set REF_STS.STATE st i := if_neg (Bool.eq_false_iff.mp h)

/-- A move out of SOAK, QUALIFIED or HIT into NOSIG or FREQ. -/
theorem State.moveRef_counted {s : State} {i st : Nat} (h : moveCounts (s.get REF_STS.STATE i) st = true) :
    s.moveRef i st = (s.set REF_STS.STATE st i).inc .REF_DISQ_CNT i := if_pos h

theorem State.moveRef_changesOnly (parts : List Part) : s.changesOnly (s.moveRef i st) parts (moveWords i (s.get REF_STS.STATE i) st) := by
  have hset {words : List (Rg × Nat)} (h : (Rg.REF_STS, i) ∈ words) := s.changesOnly_set REF_STS.STATE st i parts h
  cases hc : moveCounts (s.get REF_STS.STATE i) st with
  | false =>
    rw [State.moveRef_uncounted hc]
    exact hset (by simp [moveWords])
  | true =>
    rw [State.moveRef_counted hc]
    exact (hset (by simp [moveWords])).inc .REF_DISQ_CNT i (by simp [moveWords, hc])

theorem State.moveRef_rd_sts : (s.moveRef i st).rd .REF_STS i = REF_STS.STATE.put (s.rd .REF_STS i) st := by
  obtain ⟨-, -, -, -, ksts, -, kcnt, -⟩ := Rg.refin_keys i
  cases hc : moveCounts (s.get REF_STS.STATE i) st with
  | false => rw [State.moveRef_uncounted hc, s.rd_set_same _ _ _ rfl]
  | true => rw [State.moveRef_counted hc, State.rd_inc_ne _ _ _ (by omega), s.rd_set_same _ _ _ rfl]

theorem State.moveRef_state : (s.moveRef i st).get REF_STS.STATE i = st % 8 := by
  exact (congrArg REF_STS.STATE.of (s.moveRef_rd_sts i st)).trans (Fld.of_put_same _ _ _ (by decide))

theorem State.moveRef_counts :
    s.counted (s.moveRef i st) .REF_DISQ_CNT i (if moveCounts (s.get REF_STS.STATE i) st then 1 else 0) := by
  obtain ⟨-, -, -, -, ksts, -, kcnt, -⟩ := Rg.refin_keys i
  have hset : (s.set REF_STS.STATE st i).rd .REF_DISQ_CNT i = s.rd .REF_DISQ_CNT i := s.rd_set_ne _ _ _ (by dsimp only; omega)
  cases hc : moveCounts (s.get REF_STS.STATE i) st with
  | false =>
    rw [State.moveRef_uncounted hc]
    exact State.counted_zero hset
  | true =>
    rw [State.moveRef_counted hc, State.counted, State.rd_inc_same, hset, if_pos rfl]

/-- R109, R110: a move that restarts the gate of its input, or its checks. -/
theorem State.moveRef_setRefin_effect (x : RefIn) :
    let t := ((s.moveRef i st).setRefin i x).settle
    t.rd .REF_STS i = REF_STS.STATE.put (s.rd .REF_STS i) st
      ∧ s.counted t .REF_DISQ_CNT i (if moveCounts (s.get REF_STS.STATE i) st then 1 else 0)
      ∧ t.refin i = x ∧ s.onlyRefin t i ∧ s.frame t [.refs] (moveWords i (s.get REF_STS.STATE i) st) := by
  have hmove := s.moveRef_changesOnly i st [.refs]
  obtain ⟨hx, honly⟩ := State.setRefin_refins (((s.moveRef i st).setRefin i x).changesOnly_refl [] []) (by simp)
  refine ⟨?_, ?_, hx, fun k hk => ?_, (hmove.trans (State.changesOnly_setRefin _ i x _ (by simp))).frame⟩
  · rw [State.settle_rd_of, State.setRefin_rd_of, State.moveRef_rd_sts]
  · exact State.counted_congr (by rw [State.settle_rd_of, State.setRefin_rd_of]) (s.moveRef_counts i st)
  · rw [honly k hk, (s.moveRef_changesOnly i st []).refin_eq (by simp)]

end

/-! ### Events of an input (R109 to R112) -/

/-- R135: an event of an input outside L2 and wider. -/
theorem onInput_next {s u : State} {i : Nat} {f : State → State} (hi : i < 36) (h0 : s.mode ≠ 0) (hf : f s = u) :
    onInput i s f = .next u.settle := by
  rw [onInput, if_neg h0, onUnit_next _ _ _ _ hi, hf]

/-- R108: an event that only moves its input. -/
theorem onInput_moveRef_effect {s : State} {i st : Nat} {f : State → State} (hi : i < 36) (h0 : s.mode ≠ 0) (hf : f s = s.moveRef i st) :
    ∃ t, onInput i s f = .next t
      ∧ t.rd .REF_STS i = REF_STS.STATE.put (s.rd .REF_STS i) st
      ∧ s.counted t .REF_DISQ_CNT i (if moveCounts (s.get REF_STS.STATE i) st then 1 else 0)
      ∧ s.frame t [] (moveWords i (s.get REF_STS.STATE i) st) := by
  refine ⟨_, onInput_next hi h0 hf, ?_, State.counted_congr (State.settle_rd_of _ _ _) (s.moveRef_counts i st),
    (s.moveRef_changesOnly i st []).frame⟩
  rw [State.settle_rd_of, State.moveRef_rd_sts]

/-- R109: no edge came in time: the input has no signal, and its gate is to close anew. -/
theorem exec_refinActivityTimeout_effect {s : State} {i : Nat} (hi : i < 36) (h0 : s.mode ≠ 0) (hoff : s.get REF_STS.STATE i ≠ 0)
    (hnosig : s.get REF_STS.STATE i ≠ 1) (hlock : s.get REF_STS.STATE i ≠ 6) :
    ∃ t, exec (.refinActivityTimeout i) s = .next t
      ∧ t.rd .REF_STS i = REF_STS.STATE.put (s.rd .REF_STS i) 1
      ∧ s.counted t .REF_DISQ_CNT i (if 3 ≤ s.get REF_STS.STATE i ∧ s.get REF_STS.STATE i ≤ 5 then 1 else 0)
      ∧ t.refin i = { s.refin i with gated := false }
      ∧ s.onlyRefin t i ∧ s.frame t [.refs] [(.REF_STS, i), (.REF_DISQ_CNT, i)] := by
  obtain ⟨hsts, hcnt, hx, honly, hparts, hwords⟩ := s.moveRef_setRefin_effect i 1 { s.refin i with gated := false }
  have hacts : ¬ (s.get REF_STS.STATE i = 0 ∨ s.get REF_STS.STATE i = 1 ∨ s.get REF_STS.STATE i = 6) := by
    simp [hoff, hnosig, hlock]
  have hexec : exec (.refinActivityTimeout i) s = .next ((s.moveRef i 1).setRefin i { s.refin i with gated := false }).settle := by
    change execRefinActivityTimeout i s = _
    exact onInput_next hi h0 (if_neg hacts)
  refine ⟨_, hexec, hsts, ?_, hx, honly, hparts, fun r k hk => hwords r k fun q hq => hk q (moveWords_subset _ _ _ hq)⟩
  simpa [moveCounts] using hcnt

/-- R109: the first edge brings the input back to FREQ. -/
theorem exec_refinSignalReturn_effect {s : State} {i : Nat} (hi : i < 36) (h0 : s.mode ≠ 0) (hst : s.get REF_STS.STATE i = 1) :
    ∃ t, exec (.refinSignalReturn i) s = .next t
      ∧ t.rd .REF_STS i = REF_STS.STATE.put (s.rd .REF_STS i) 2 ∧ t.refin i = { s.refin i with gated := false }
      ∧ s.onlyRefin t i ∧ s.frame t [.refs] [(.REF_STS, i)] := by
  obtain ⟨hsts, -, hx, honly, hframe⟩ := s.moveRef_setRefin_effect i 2 { s.refin i with gated := false }
  rw [hst] at hframe
  exact ⟨_, onInput_next hi h0 (if_pos hst), hsts, hx, honly, hframe⟩

/-! ### The frequency gate (R110) -/

/-- R110: a gate of input `i` has closed: the offset shows, and the last period is known. -/
def State.gateClosed (s : State) (i : Nat) (ofs : Int) : State :=
  (s.wr .REF_FOFS i (BitVec.ofInt 32 (clampInt ofs (-(2 ^ 31)) (2 ^ 31 - 1)))).setRefin i { s.refin i with gated := true }

/-- R110: the state that a closing gate leaves or leads to, from `st` with the offset `ofs`. -/
def gateState (st win hyst : Nat) (ofs : Int) : Nat :=
  if st = 2 then if ofs.natAbs * 100 ≤ win * 100000 * (100 - hyst) then 3 else 2
  else if win * 100000 < ofs.natAbs then 2 else st

/-- A closed gate shows in REF_FOFS only. -/
theorem State.gateClosed_rd_ne (s : State) {i : Nat} (ofs : Int) {r : Rg} {k : Nat} (h : Rg.REF_FOFS.key i ≠ r.key k) :
    (s.gateClosed i ofs).rd r k = s.rd r k := (State.setRefin_rd_of ..).trans (s.rd_wr_ne _ h)

theorem State.gateClosed_state (s : State) (i : Nat) (ofs : Int) :
    (s.gateClosed i ofs).get REF_STS.STATE i = s.get REF_STS.STATE i := by
  obtain ⟨-, -, -, -, ksts, kofs, -, -⟩ := Rg.refin_keys i
  rw [State.get, State.gateClosed_rd_ne _ _ (by dsimp only; omega), State.get]

/-- R110: a closing gate leaves its input where it is, or moves it. -/
theorem exec_refinFreqGateClose {s : State} {i : Nat} (ofs : Int) (hi : i < 36) (h0 : s.mode ≠ 0) (hlo : 2 ≤ s.get REF_STS.STATE i)
    (hhi : s.get REF_STS.STATE i ≤ 5) :
    let g := gateState (s.get REF_STS.STATE i) (s.get REF_QUAL.WIN i) (s.get REF_HIT.HYST i) ofs
    exec (.refinFreqGateClose i ofs) s
      = .next (if g = s.get REF_STS.STATE i then s.gateClosed i ofs else (s.gateClosed i ofs).moveRef i g).settle := by
  obtain ⟨-, -, -, khit, -, kofs, -, -⟩ := Rg.refin_keys i
  have hhyst : (s.gateClosed i ofs).get REF_HIT.HYST i = s.get REF_HIT.HYST i := by
    rw [State.get, State.gateClosed_rd_ne _ _ (by dsimp only; omega), State.get]
  refine onInput_next hi h0 ((if_pos ⟨hlo, hhi⟩).trans ?_)
  change (if s.get REF_STS.STATE i = 2 then
      if ofs.natAbs * 100 ≤ s.get REF_QUAL.WIN i * 100000 * (100 - (s.gateClosed i ofs).get REF_HIT.HYST i)
        then (s.gateClosed i ofs).moveRef i 3 else s.gateClosed i ofs
    else if s.get REF_QUAL.WIN i * 100000 < ofs.natAbs then (s.gateClosed i ofs).moveRef i 2 else s.gateClosed i ofs) = _
  rw [hhyst, gateState]
  by_cases h2 : s.get REF_STS.STATE i = 2
  · rw [h2, if_pos rfl, if_pos rfl]
    split <;> rfl
  · rw [if_neg h2, if_neg h2]
    split
    · rw [if_neg (Ne.symm h2)]
    · rw [if_pos rfl]

/-- R110: whatever the move, the offset shows and the gate counts as closed. -/
theorem State.gateClosed_effect {s u : State} {i : Nat} {ofs : Int}
    (h : (s.gateClosed i ofs).changesOnly u [] [(.REF_STS, i), (.REF_DISQ_CNT, i)]) :
    u.settle.rd .REF_FOFS i = BitVec.ofInt 32 (max (-(2 ^ 31)) (min ofs (2 ^ 31 - 1)))
      ∧ u.settle.refin i = { s.refin i with gated := true } ∧ s.onlyRefin u.settle i
      ∧ s.frame u.settle [.refs] [(.REF_FOFS, i), (.REF_STS, i), (.REF_DISQ_CNT, i)] := by
  obtain ⟨-, -, -, -, ksts, kofs, kcnt, -⟩ := Rg.refin_keys i
  obtain ⟨hx, honly⟩ := State.setRefin_refins h (by simp)
  refine ⟨?_, hx, fun k hk => (honly k hk).trans (State.wr_refin_of ..), ?_⟩
  · have hout : ∀ q ∈ [(Rg.REF_STS, i), (.REF_DISQ_CNT, i)], q.1.key q.2 ≠ Rg.REF_FOFS.key i := by
      simp only [List.forall_mem_cons]
      exact ⟨by omega, by omega, by simp⟩
    rw [State.settle_rd_of, h.rd_eq hout, State.gateClosed, State.setRefin_rd_of, State.rd_wr_same, clampInt]
  · exact (((s.changesOnly_wr .REF_FOFS i _ _ (by simp)).trans (State.changesOnly_setRefin _ i _ _ (by simp))).trans
      (h.mono (by simp) (by simp))).frame

/-- R110, R112: the state after a closing gate, and the count of what leads back to FREQ. -/
theorem exec_refinFreqGateClose_effect {s : State} {i : Nat} (ofs : Int) (hi : i < 36) (h0 : s.mode ≠ 0) (hlo : 2 ≤ s.get REF_STS.STATE i)
    (hhi : s.get REF_STS.STATE i ≤ 5) :
    ∃ t, exec (.refinFreqGateClose i ofs) s = .next t
      ∧ t.rd .REF_FOFS i = BitVec.ofInt 32 (max (-(2 ^ 31)) (min ofs (2 ^ 31 - 1)))
      ∧ t.refin i = { s.refin i with gated := true }
      ∧ t.get REF_STS.STATE i = gateState (s.get REF_STS.STATE i) (s.get REF_QUAL.WIN i) (s.get REF_HIT.HYST i) ofs
      ∧ s.counted t .REF_DISQ_CNT i (if 3 ≤ s.get REF_STS.STATE i ∧ s.get REF_QUAL.WIN i * 100000 < ofs.natAbs then 1 else 0)
      ∧ s.onlyRefin t i ∧ s.frame t [.refs] [(.REF_FOFS, i), (.REF_STS, i), (.REF_DISQ_CNT, i)] := by
  obtain ⟨-, -, -, -, -, kofs, kcnt, -⟩ := Rg.refin_keys i
  have hcnt : (s.gateClosed i ofs).rd .REF_DISQ_CNT i = s.rd .REF_DISQ_CNT i := s.gateClosed_rd_ne _ (by omega)
  have hstate := s.gateClosed_state i ofs
  generalize hg : gateState (s.get REF_STS.STATE i) (s.get REF_QUAL.WIN i) (s.get REF_HIT.HYST i) ofs = g
  have hexec := exec_refinFreqGateClose ofs hi h0 hlo hhi
  simp only [hg] at hexec
  have hcases : g < 8 ∧ (g = s.get REF_STS.STATE i → ¬ (3 ≤ s.get REF_STS.STATE i ∧ s.get REF_QUAL.WIN i * 100000 < ofs.natAbs))
      ∧ (g ≠ s.get REF_STS.STATE i →
        (moveCounts (s.get REF_STS.STATE i) g = true ↔ 3 ≤ s.get REF_STS.STATE i ∧ s.get REF_QUAL.WIN i * 100000 < ofs.natAbs)) := by
    rw [← hg, gateState, moveCounts]
    split
    · split <;> simp_all
    · split <;> simp_all <;> omega
  obtain ⟨hlt, hstays, hmoves⟩ := hcases
  by_cases hsame : g = s.get REF_STS.STATE i
  · rw [if_pos hsame] at hexec
    obtain ⟨hofs, hx, honly, hframe⟩ := State.gateClosed_effect ((s.gateClosed i ofs).changesOnly_refl _ _)
    refine ⟨_, hexec, hofs, hx, ?_, ?_, honly, hframe⟩
    · rw [State.settle_get_of, hstate, hsame]
    · rw [if_neg (hstays hsame)]
      exact State.counted_zero ((State.settle_rd_of ..).trans hcnt)
  · rw [if_neg hsame] at hexec
    obtain ⟨hofs, hx, honly, hframe⟩ := State.gateClosed_effect
      (((s.gateClosed i ofs).moveRef_changesOnly i g []).mono (by simp) (moveWords_subset _ _ _))
    refine ⟨_, hexec, hofs, hx, ?_, ?_, honly, hframe⟩
    · rw [State.settle_get_of, State.moveRef_state, Nat.mod_eq_of_lt hlt]
    · have hcounts := (s.gateClosed i ofs).moveRef_counts i g
      rw [hstate, State.counted, hcnt] at hcounts
      simpa only [State.counted, State.settle_rd_of, hmoves hsame] using hcounts

/-- Settles O16: each event is one move of its input, whose effect is said once; a closing gate shows its offset and may move its input. -/
theorem referenceChecks : Obligations.ReferenceChecks := by
  unfold Obligations.ReferenceChecks
  refine ⟨fun s i hi h0 => ⟨fun hoff hnosig hlock => exec_refinActivityTimeout_effect hi h0 hoff hnosig hlock,
    fun hst => exec_refinSignalReturn_effect hi h0 hst, fun hst => ?_, fun hst => ?_, fun hst => ?_, fun hen => ?_⟩,
    fun s i ofs hi h0 hlo hhi => exec_refinFreqGateClose_effect ofs hi h0 hlo hhi⟩
  · obtain ⟨t, hexec, hsts, -, hframe⟩ := onInput_moveRef_effect (i := i) (st := 4)
      (f := fun s => if s.get REF_STS.STATE i = 3 then s.moveRef i 4 else s) hi h0 (if_pos hst)
    rw [hst] at hframe
    exact ⟨t, hexec, hsts, hframe⟩
  · obtain ⟨t, hexec, hsts, -, hframe⟩ := onInput_moveRef_effect (i := i) (st := 4)
      (f := fun s => if s.get REF_STS.STATE i = 5 then s.moveRef i 4 else s) hi h0 (if_pos hst)
    rw [hst] at hframe
    exact ⟨t, hexec, hsts, hframe⟩
  · obtain ⟨t, hexec, hsts, hcnt, hframe⟩ := onInput_moveRef_effect (i := i) (st := 2)
      (f := fun s => if s.get REF_STS.STATE i = 5 then s.moveRef i 2 else s) hi h0 (if_pos hst)
    rw [hst] at hcnt hframe
    exact ⟨t, hexec, hsts, hcnt, hframe⟩
  · refine ⟨_, onInput_next (f := fun s => if s.on REF_CFG.EN i then s.inc .REFIN_TDC_DROP_CNT else s) hi h0 (if_pos hen), ?_,
      (s.changesOnly_inc .REFIN_TDC_DROP_CNT 0 _ (by simp)).frame⟩
    rw [State.counted, State.settle_rd_of, State.rd_inc_same]

end Sys2Proof.Machine

namespace Sys2Proof.Machine

/-! ### Checks that restart (R113) -/

theorem State.restartRef_changesOnly (s : State) (i : Nat) :
    s.changesOnly (s.restartRef i) [.refs] (moveWords i (s.get REF_STS.STATE i) (if s.on REF_CFG.EN i then 1 else 0)) :=
  (s.moveRef_changesOnly i _ _).trans (State.changesOnly_setRefin _ i _ _ (by simp))

theorem State.restartRef_state (s : State) (i : Nat) :
    (s.restartRef i).get REF_STS.STATE i = if s.on REF_CFG.EN i then 1 else 0 := by
  have hlt : (if s.on REF_CFG.EN i then 1 else 0) < 8 := by split <;> decide
  rw [State.restartRef, State.setRefin_get_of, State.moveRef_state, Nat.mod_eq_of_lt hlt]

/-- An input whose checks have restarted holds what it holds after reset, and no other input has changed. -/
theorem State.restartRef_refins {s u : State} {i : Nat} {parts : List Part} {words : List (Rg × Nat)}
    (h : (s.restartRef i).changesOnly u parts words) (hn : Part.refs ∉ parts) : u.settle.refin i = .reset ∧ s.onlyRefin u.settle i := by
  obtain ⟨hx, honly⟩ := State.setRefin_refins (s := s.moveRef i (if s.on REF_CFG.EN i then 1 else 0)) h hn
  refine ⟨hx, fun k hk => ?_⟩
  rw [honly k hk, (s.moveRef_changesOnly i _ []).refin_eq (by simp)]

/-! ### Commands of an input (R113, R366) -/

/-- R134: outside STANDBY_STEP and TEST. -/
theorem State.notStep_none {s : State} (h7 : s.mode ≠ 7) (h11 : s.mode ≠ 11) : s.notStep = none := by
  simp [State.notStep, State.notTest, unless_, h7, h11]

/-- R134: in STANDBY_STEP and TEST. -/
theorem State.notStep_some {s : State} (h : s.mode = 7 ∨ s.mode = 11) : s.notStep = some (if s.mode = 7 then 3 else 1) := by
  obtain h | h := h <;> simp [State.notStep, State.notTest, unless_, h]

/-- R113: the fields of the words of LOCKOUT and RELEASE. -/
theorem refinWord_fields : ∀ b ∈ [30, 31], ∀ i < 36, REFIN_CMD.IDX.of (BitVec.ofNat 32 (2 ^ b + i)) = i
    ∧ rangeOk .REFIN_CMD (BitVec.ofNat 32 (2 ^ b + i)) = true
    ∧ ∀ k ∈ [30, 31], bitOf (BitVec.ofNat 32 (2 ^ b + i)).toNat k = decide (k = b) := by decide

/-- R113: a word in range runs its commands. -/
theorem State.hostReg_refinCmd {s : State} {p : Port} {w : Word} (hs : s.reaches p .REFIN_CMD 0) (hok : rangeOk .REFIN_CMD w = true) :
    s.hostReg p .REFIN_CMD 0 w = s.refinCmd p (Rg.REFIN_CMD.key 0) w := by
  have hspend := s.spendKey_unguarded p (r := .REFIN_CMD) rfl
  have hj : s.judge .REFIN_CMD w = none := by
    change orElse none (unless_ (rangeOk .REFIN_CMD w) 4) = none
    rw [hok]
    rfl
  rw [State.hostReg_executed (by decide) (by decide) (by decide) hs (by rw [hspend]; exact hj), hspend,
    State.touched_uncovered _ (by decide)]
  rfl

/-- R366: the index is stored before the command is judged, and the mode stands. -/
theorem State.set_idx_notStep {s : State} (i : Nat) (h7 : s.mode ≠ 7) (h11 : s.mode ≠ 11) : (s.set REFIN_CMD.IDX i).notStep = none := by
  have hmode : (s.set REFIN_CMD.IDX i).mode = s.mode := s.get_set_ne _ DEV_MODE.MODE _ _ _ (by decide)
  exact State.notStep_none (hmode ▸ h7) (hmode ▸ h11)

section
variable {s : State} {p : Port} {i : Nat} (hi : i < 36) (h7 : s.mode ≠ 7) (h11 : s.mode ≠ 11)
include hi h7 h11

theorem State.refinCmd_lockout (a : Nat) :
    s.refinCmd p a (BitVec.ofNat 32 (2 ^ 31 + i)) = (s.set REFIN_CMD.IDX i).set REF_STS.STATE 6 i := by
  obtain ⟨hidx, -, hbits⟩ := refinWord_fields 31 (by simp) i hi
  unfold State.refinCmd
  dsimp only
  rw [hidx, State.bitCmd_off ((hbits 30 (by simp)).trans (by decide)), State.set_idx_notStep i h7 h11,
    State.bitCmd_executed ((hbits 31 (by simp)).trans (by decide)), State.lockoutRef, State.moveRef_uncounted rfl]

theorem State.refinCmd_release (a : Nat) (hst : s.get REF_STS.STATE i = 6) :
    s.refinCmd p a (BitVec.ofNat 32 (2 ^ 30 + i)) = (s.set REFIN_CMD.IDX i).restartRef i := by
  obtain ⟨hidx, -, hbits⟩ := refinWord_fields 30 (by simp) i hi
  obtain ⟨-, -, -, -, ksts, -⟩ := Rg.refin_keys i
  have kcmd : Rg.REFIN_CMD.key 0 = 0x110800 := rfl
  have hlock : (s.set REFIN_CMD.IDX i).get REF_STS.STATE i = 6 := (s.get_set_ne _ _ _ _ _ (by dsimp only; omega)).trans hst
  unfold State.refinCmd
  dsimp only
  rw [hidx, State.bitCmd_off ((hbits 31 (by simp)).trans (by decide)), State.set_idx_notStep i h7 h11,
    State.bitCmd_executed ((hbits 30 (by simp)).trans (by decide)), State.releaseRef, if_pos hlock]

/-- R113: LOCKOUT. -/
theorem exec_refinLockout_effect (hs : s.reaches p .REFIN_CMD 0) :
    ∃ t, exec (.refinLockout p i) s = .next t
      ∧ t.get REF_STS.STATE i = 6 ∧ t.rd .REFIN_CMD = REFIN_CMD.IDX.put (s.rd .REFIN_CMD) i
      ∧ s.frame t [] [(.REFIN_CMD, 0), (.REF_STS, i)] := by
  obtain ⟨-, -, -, -, ksts, -⟩ := Rg.refin_keys i
  have kcmd : Rg.REFIN_CMD.key 0 = 0x110800 := rfl
  obtain ⟨-, hok, -⟩ := refinWord_fields 31 (by simp) i hi
  have hexec : exec (.refinLockout p i) s = .next ((s.set REFIN_CMD.IDX i).set REF_STS.STATE 6 i).settle := by
    rw [← State.refinCmd_lockout hi h7 h11, ← State.hostReg_refinCmd hs hok]
    exact onUnit_next i 64 s _ (by omega)
  refine ⟨_, hexec, ?_, ?_, ((s.changesOnly_set REFIN_CMD.IDX i 0 _ (by simp)).set REF_STS.STATE 6 i (by simp)).frame⟩
  · rw [State.settle_get_of, State.get_set_same _ _ _ _ (by decide)]
    rfl
  · rw [State.settle_rd_of, State.rd_set_ne _ _ _ _ (by dsimp only; omega), s.rd_set_same _ _ _ rfl]

/-- R113: RELEASE of an input in LOCKOUT. -/
theorem exec_refinRelease_effect (hs : s.reaches p .REFIN_CMD 0) (hst : s.get REF_STS.STATE i = 6) :
    ∃ t, exec (.refinRelease p i) s = .next t
      ∧ t.get REF_STS.STATE i = (if s.on REF_CFG.EN i then 1 else 0) ∧ t.refin i = .reset
      ∧ s.onlyRefin t i ∧ s.frame t [.refs] [(.REFIN_CMD, 0), (.REF_STS, i)] := by
  obtain ⟨kcfg, -, -, -, ksts, -⟩ := Rg.refin_keys i
  have kcmd : Rg.REFIN_CMD.key 0 = 0x110800 := rfl
  obtain ⟨-, hok, -⟩ := refinWord_fields 30 (by simp) i hi
  have hexec : exec (.refinRelease p i) s = .next ((s.set REFIN_CMD.IDX i).restartRef i).settle := by
    rw [← State.refinCmd_release hi h7 h11 _ hst, ← State.hostReg_refinCmd hs hok]
    exact onUnit_next i 64 s _ (by omega)
  have hlock : (s.set REFIN_CMD.IDX i).get REF_STS.STATE i = 6 := (s.get_set_ne _ _ _ _ _ (by dsimp only; omega)).trans hst
  have hen : (s.set REFIN_CMD.IDX i).on REF_CFG.EN i = s.on REF_CFG.EN i :=
    congrArg (· != 0) (s.get_set_ne _ REF_CFG.EN _ _ _ (by dsimp only; omega))
  obtain ⟨hx, honly⟩ := State.restartRef_refins (((s.set REFIN_CMD.IDX i).restartRef i).changesOnly_refl [] []) (by simp)
  refine ⟨_, hexec, ?_, hx, fun k hk => ?_, ?_⟩
  · rw [State.settle_get_of, State.restartRef_state, hen]
  · rw [honly k hk, State.set_refin_of]
  · have hrestart := (s.set REFIN_CMD.IDX i).restartRef_changesOnly i
    rw [hlock] at hrestart
    exact ((s.changesOnly_set REFIN_CMD.IDX i 0 _ (by simp)).trans (hrestart.mono (by simp) (by simp [moveWords, moveCounts]))).frame

end

/-- R332: a word that sets both command bits is out of range. -/
theorem exec_refinCmd_both {s : State} {p : Port} {w : Word} (hs : s.reaches p .REFIN_CMD 0) (hlock : REFIN_CMD.LOCKOUT.of w = 1)
    (hrel : REFIN_CMD.RELEASE.of w = 1) :
    ∃ t, exec (.registerWrite p (Rg.REFIN_CMD.key 0) w) s = .next t
      ∧ t.get DEV_CMD_STATUS.REASON = 4 ∧ s.counted t .DEV_REJECT_CNT 0 1
      ∧ s.frame t [.dev] [(.DEV_CMD_STATUS, 0), (.DEV_REJECT_CNT, 0)] := by
  have hj : s.judge .REFIN_CMD w = some 4 := by
    change orElse none (unless_ (_ && !(REFIN_CMD.LOCKOUT.of w == 1 && REFIN_CMD.RELEASE.of w == 1)) 4) = _
    rw [hlock, hrel, beq_self_eq_true, Bool.and_self, Bool.not_true, Bool.and_false]
    rfl
  obtain ⟨hreason, hcnt, hch⟩ := s.reject_effect (reason := 4) p (Rg.REFIN_CMD.key 0) (by decide)
  rw [← State.hostReg_rejected (by decide) (by decide) (by decide) rfl hs hj] at hreason hcnt hch
  exact ⟨_, rfl, (State.settle_get_of ..).trans hreason, State.counted_congr (State.settle_rd_of ..) hcnt, hch.frame⟩

/-! ### Configuration words of an input (R113, R134) -/

theorem refWord_ownsAddress : ∀ word < 4, ∀ i < 36, (refWord word).ownsAddress i := by decide +kernel

theorem refWord_isItem : ∀ word < 4, ∀ i < 36, (refWord word).isItem i := by decide +kernel

theorem refWord_unguarded : ∀ word < 4, refWord word ≠ .DEV_KEY ∧ (refWord word).info.guard = false := by decide

theorem refWord_key {word : Nat} (hw : word < 4) (i : Nat) : (refWord word).key i = 0x110000 + 4 * word + 0x20 * i := by
  interval_cases word <;> rfl

/-- R134: a configuration word is judged by the mode, then by its ranges. -/
theorem State.judge_refWord (s : State) {word : Nat} (w : Word) (hw : word < 4) :
    s.judge (refWord word) w = orElse s.notStep (unless_ (refWordOk word w) 4) := by
  interval_cases word <;> rfl

theorem State.effect_refWord (s : State) (p : Port) (a i : Nat) {word : Nat} (w : Word) (hw : word < 4) :
    s.effect p a (refWord word) i w = s.writeRef i word (mergeMask (s.rd (refWord word) i) w ((refWord word).maskAt i)) := by
  interval_cases word <;> rfl

/-- R113: a configuration word is stored; outside LOCKOUT the checks restart. -/
theorem State.writeRef_eq (s : State) {i word : Nat} (w : Word) (hw : word < 4) :
    s.writeRef i word w = if s.get REF_STS.STATE i = 6 then s.wr (refWord word) i w else (s.wr (refWord word) i w).restartRef i := by
  obtain ⟨-, -, -, -, ksts, -⟩ := Rg.refin_keys i
  have kword := refWord_key hw i
  have hst : (s.wr (refWord word) i w).get REF_STS.STATE i = s.get REF_STS.STATE i := by
    rw [State.get, s.rd_wr_ne _ (by dsimp only; omega), State.get]
  rw [State.writeRef, hst]

/-- R113: what a configuration word leaves of its input, before the comparison of R341 is disarmed. -/
theorem State.writeRef_effect (s : State) {i word : Nat} (w : Word) (hw : word < 4) :
    (s.writeRef i word w).rd (refWord word) i = w
      ∧ (s.writeRef i word w).get REF_STS.STATE i
        = (if s.get REF_STS.STATE i = 6 then 6 else if (s.writeRef i word w).on REF_CFG.EN i then 1 else 0)
      ∧ s.changesOnly (s.writeRef i word w) [.refs] [(refWord word, i), (.REF_STS, i), (.REF_DISQ_CNT, i)] := by
  obtain ⟨kcfg, -, -, -, ksts, -, kcnt, -⟩ := Rg.refin_keys i
  have kword := refWord_key hw i
  have hwr : s.changesOnly (s.wr (refWord word) i w) [.refs] [(refWord word, i), (.REF_STS, i), (.REF_DISQ_CNT, i)] :=
    s.changesOnly_wr _ i w _ (by simp)
  rw [State.writeRef_eq _ _ hw]
  split
  case isTrue hlock =>
    refine ⟨s.rd_wr_same .., ?_, hwr⟩
    rw [State.get, s.rd_wr_ne _ (by dsimp only; omega)]
    exact hlock
  case isFalse =>
    have hrestart := ((s.wr (refWord word) i w).restartRef_changesOnly i).mono (List.Subset.refl _) (moveWords_subset _ _ _)
    have hout {r : Rg} (h : r.key i < Rg.REF_STS.key i) : ∀ q ∈ [(Rg.REF_STS, i), (.REF_DISQ_CNT, i)], q.1.key q.2 ≠ r.key i := by
      simp only [List.forall_mem_cons]
      exact ⟨by omega, by omega, by simp⟩
    refine ⟨?_, ?_, hwr.trans (hrestart.mono (by simp) (by simp))⟩
    · rw [hrestart.rd_eq (hout (by omega)), s.rd_wr_same]
    · rw [State.restartRef_state, hrestart.on_eq REF_CFG.EN (hout (by dsimp only; omega))]

/-- R113: what a configuration word leaves beside the registers. -/
theorem State.writeRef_refins {s u : State} {i word : Nat} {w : Word} {parts : List Part} {words : List (Rg × Nat)} (hw : word < 4)
    (h : (s.writeRef i word w).changesOnly u parts words) (hn : Part.refs ∉ parts) :
    u.settle.refin i = (if s.get REF_STS.STATE i = 6 then s.refin i else .reset) ∧ s.onlyRefin u.settle i := by
  rw [State.writeRef_eq _ _ hw] at h
  split at h
  case isTrue hlock =>
    have hsame (k : Nat) : u.settle.refin k = s.refin k := by
      rw [State.settle_refin_of, h.refin_eq hn, State.wr_refin_of]
    rw [if_pos hlock]
    exact ⟨hsame i, fun k _ => hsame k⟩
  case isFalse hlock =>
    obtain ⟨hx, honly⟩ := State.restartRef_refins h hn
    rw [if_neg hlock]
    exact ⟨hx, fun k hk => (honly k hk).trans (State.wr_refin_of ..)⟩

/-- R332: the record of a rejected item. -/
theorem State.reject_record (s : State) (e : Nat) (p : Port) (a : Nat) :
    (s.reject e p a).rd .DEV_CMD_STATUS = BitVec.ofNat 32 (e * 2 ^ 28 + portCode p * 2 ^ 26 + a % 2 ^ 24) := by
  obtain ⟨d, hd⟩ := ((s.record e p a).inc .DEV_REJECT_CNT).setPort_eq p { s.port p with reject := true }
  unfold State.reject
  rw [hd, State.mk_rd, State.rd_inc_ne _ _ _ (by decide), State.record, State.rd_wr_same]

section
variable {s : State} {p : Port} {i word : Nat} {w : Word} (hi : i < 36) (hw : word < 4) (hs : s.reaches p (refWord word) i)
include hi hw hs

/-- R113: an executed write of a configuration word. -/
theorem exec_refConfigWrite_executed (hok : refWordOk word w = true) (h7 : s.mode ≠ 7) (h11 : s.mode ≠ 11) :
    ∃ t, exec (.refConfigWrite p i word w) s = .next t
      ∧ t.rd (refWord word) i = mergeMask (s.rd (refWord word) i) w ((refWord word).maskAt i)
      ∧ t.get REF_STS.STATE i = (if s.get REF_STS.STATE i = 6 then 6 else if t.on REF_CFG.EN i then 1 else 0)
      ∧ t.refin i = (if s.get REF_STS.STATE i = 6 then s.refin i else .reset)
      ∧ s.onlyRefin t i
      ∧ s.frame t [.refs, .dev] [(refWord word, i), (.REF_STS, i), (.REF_DISQ_CNT, i), (.CFG_CRC_CTL, 0)] := by
  obtain ⟨hkey, hguard⟩ := refWord_unguarded word hw
  obtain ⟨kcfg, -, -, -, ksts, -⟩ := Rg.refin_keys i
  have kword := refWord_key hw i
  have kcrc : Rg.CFG_CRC_CTL.key 0 < 0x110000 := by decide
  have hspend := s.spendKey_unguarded p hguard
  have hj : s.judge (refWord word) w = none := by
    rw [State.judge_refWord _ _ hw, State.notStep_none h7 h11, hok]
    rfl
  generalize hm : mergeMask (s.rd (refWord word) i) w ((refWord word).maskAt i) = m
  have hreg : s.hostReg p (refWord word) i w = (s.writeRef i word m).touched (refWord word) := by
    rw [State.hostReg_executed (refWord_ownsAddress word hw i hi) (refWord_isItem word hw i hi) hkey hs
      (by rw [hspend]; exact hj), hspend, State.effect_refWord _ _ _ _ _ hw, hm]
  obtain ⟨hrd, hstate, hch⟩ := s.writeRef_effect (i := i) m hw
  have htouched := (s.writeRef i word m).touched_changesOnly (refWord word) (parts := [.dev]) (words := [(.CFG_CRC_CTL, 0)])
    (by simp) (by simp)
  obtain ⟨hx, honly⟩ := State.writeRef_refins hw htouched (by simp)
  refine ⟨_, (onUnit_next i 36 s _ hi).trans (congrArg (fun u => Host.Outcome.next (State.settle u)) hreg), ?_, ?_, hx, honly,
    ((hch.mono (by simp) (by simp)).trans (htouched.mono (by simp) (by simp))).frame⟩
  · rw [State.settle_rd_of, State.touched_rd_ne _ _ (by omega), hrd]
  · rw [State.settle_get_of, State.settle_on_of, htouched.get_eq _ (by simp only [List.forall_mem_singleton]; omega),
      htouched.on_eq _ (by simp only [List.forall_mem_singleton]; omega), hstate]

/-- R134: a configuration word in STANDBY_STEP or TEST. -/
theorem exec_refConfigWrite_rejected (hm : s.mode = 7 ∨ s.mode = 11) :
    ∃ t, exec (.refConfigWrite p i word w) s = .next t
      ∧ s.counted t .DEV_REJECT_CNT 0 1
      ∧ t.rd .DEV_CMD_STATUS = BitVec.ofNat 32
          ((if s.mode = 7 then 3 else 1) * 2 ^ 28 + portCode p * 2 ^ 26 + (refWord word).key i)
      ∧ s.frame t [.dev] [(.DEV_REJECT_CNT, 0), (.DEV_CMD_STATUS, 0)] := by
  obtain ⟨hkey, hguard⟩ := refWord_unguarded word hw
  have kword := refWord_key hw i
  generalize he : (if s.mode = 7 then 3 else 1) = e
  have hlt : e < 16 := by
    rw [← he]
    split <;> decide
  have hj : s.judge (refWord word) w = some e := by
    rw [State.judge_refWord _ _ hw, State.notStep_some hm, he]
    rfl
  have hreg := State.hostReg_rejected (refWord_ownsAddress word hw i hi) (refWord_isItem word hw i hi) hkey hguard hs hj
  obtain ⟨-, hcnt, hch⟩ := s.reject_effect p ((refWord word).key i) hlt
  refine ⟨_, (onUnit_next i 36 s _ hi).trans (congrArg (fun u => Host.Outcome.next (State.settle u)) hreg),
    State.counted_congr (State.settle_rd_of ..) hcnt, ?_, (hch.mono (List.Subset.refl _) (by simp)).frame⟩
  rw [State.settle_rd_of, State.reject_record, Nat.mod_eq_of_lt (by omega)]

end

/-- Settles O17: a command is one move of its input, a configuration word is stored before the checks restart, and a rejected write
leaves its record. -/
theorem referenceCommands : Obligations.ReferenceCommands := by
  unfold Obligations.ReferenceCommands
  refine ⟨fun s p i hi hs h7 h11 => ⟨exec_refinLockout_effect hi h7 h11 hs, fun hst => exec_refinRelease_effect hi h7 h11 hs hst⟩,
    fun s p w hs hlock hrel => exec_refinCmd_both hs hlock hrel, fun s p i word w hi hw hs hok => ?_⟩
  have hw4 : word < 4 := Nat.lt_succ_of_le hw
  exact ⟨fun h7 h11 => exec_refConfigWrite_executed hi hw4 hs hok h7 h11, fun hm => exec_refConfigWrite_rejected hi hw4 hs hm⟩

end Sys2Proof.Machine

namespace Sys2Proof.Machine

/-! ### A retirement after something else (R129, R130) -/

/-- What a command answers after `u` frames it from `s`, where `u` is framed from `s`. -/
theorem State.changesOnly.frame_trans {s u t : State} {parts parts' : List Part} {words words' : List (Rg × Nat)}
    (h : s.changesOnly u parts words) (h' : u.frame t parts' words') : s.frame t (parts ++ parts') (words ++ words') := by
  obtain ⟨hq, hp, hw⟩ := h
  obtain ⟨⟨hq', hpins, hp'⟩, hw'⟩ := h'
  refine ⟨⟨hq'.trans hq, hpins, fun p hn => ?_⟩, fun r i hk => ?_⟩
  · rw [List.mem_append, not_or] at hn
    exact p.same_trans (hp p hn.1) (hp' p hn.2)
  · exact (hw' r i fun q hq => hk q (List.mem_append_right _ hq)).trans (hw r i fun q hq => hk q (List.mem_append_left _ hq))

/-- R129: fewer than 17 being retired, a retirement is all that happens. -/
theorem State.retire_effect {s : State} {e cause : Nat} {parts : List Part} (he : e < 528) (hr : s.engRetired e = false)
    (hn : s.get ENG_POOL.RETIRED < 16) (hparts : cause = 4 → Part.dev ∈ parts) :
    s.engineRetired (s.retire e cause).settle e cause parts [] := by
  have hmin : min 17 (s.get ENG_POOL.RETIRED + 1) ≠ 17 := by omega
  rw [State.retire_eq cause he hr, State.cond, if_neg (by simpa using hmin)]
  exact State.engineRetired_retired [] he hn hparts

/-- Keys of the words of the inputs, of ENG_CMD and of the count of corrected data words: none of those that a retirement or a loop
program uses. -/
abbrev loopKey (k : Nat) : Prop := (0x110000 ≤ k ∧ k < 0x120000) ∨ k = 0x120804 ∨ k = 0x1208d8

section
variable {s u : State} {parts : List Part} {words : List (Rg × Nat)} (h : s.changesOnly u parts words)
  (hw : ∀ q ∈ words, loopKey (q.1.key q.2))
include h hw

/-- The word of a channel's engine is none of those words. -/
theorem State.changesOnly.chmap_eq {c : Nat} (hc : c < 512) : u.rd .ENG_CHMAP c = s.rd .ENG_CHMAP c := by
  have kmap : Rg.ENG_CHMAP.key c = 0x120000 + 4 * c := rfl
  exact h.rd_eq fun q hq => by
    have := hw q hq
    omega

theorem State.changesOnly.engineOf_eq {c : Nat} (hc : c < 512) : u.engineOf c = s.engineOf c :=
  congrArg ENG_CHMAP.ENGIDX.of (h.chmap_eq hw hc)

theorem State.changesOnly.channelOf_eq (hn : Part.chans ∉ parts) (e : Nat) : u.channelOf e = s.channelOf e :=
  List.find?_congr fun c hc => by rw [h.engineOf_eq hw (List.mem_range.mp hc), h.chan_eq hn]

/-- The words of the pool and of its counters read as before. -/
theorem State.changesOnly.pool_eq {r : Rg} {i : Nat} (hr : 0x120808 ≤ r.key i) (hr' : r.key i < 0x1208d8) : u.rd r i = s.rd r i :=
  h.rd_eq fun q hq => by
    have := hw q hq
    omega

theorem State.changesOnly.poolRetired_eq : u.get ENG_POOL.RETIRED = s.get ENG_POOL.RETIRED :=
  congrArg ENG_POOL.RETIRED.of (h.pool_eq hw (r := .ENG_POOL) (by decide) (by decide))

theorem State.changesOnly.spareFree_eq : u.get ENG_SPARE_FREE.BITS = s.get ENG_SPARE_FREE.BITS :=
  congrArg ENG_SPARE_FREE.BITS.of (h.pool_eq hw (r := .ENG_SPARE_FREE) (by decide) (by decide))

theorem State.changesOnly.spareFor_eq (e : Nat) : u.spareFor e = s.spareFor e := by
  unfold State.spareFor
  rw [h.spareFree_eq hw]

theorem State.changesOnly.stillRetired_eq {e : Nat} (he : e < 528) : u.engRetired e = s.engRetired e :=
  h.engRetired_eq he fun q hq => by
    have := hw q hq
    omega

/-- What is counted in a word of the pool from `u` is counted from `s`. -/
theorem State.changesOnly.poolCounted {r : Rg} {t : State} {n : Nat} (hlo : 0x120808 ≤ r.key 0) (hhi : r.key 0 < 0x1208d8)
    (hc : u.counted t r 0 n) : s.counted t r 0 n := by
  rw [State.counted, ← h.pool_eq hw hlo hhi]
  exact hc

/-- R129: a retirement after something that keeps the channels and the posts. -/
theorem State.changesOnly.retire_effect {e cause : Nat} (hchans : Part.chans ∉ parts) (hposts : Part.posts ∉ parts) (he : e < 528)
    (hr : s.engRetired e = false) (hn : s.get ENG_POOL.RETIRED < 16) (h4 : cause ≠ 4) :
    s.engineRetired (u.retire e cause).settle e cause parts words := by
  obtain ⟨hmark, hall, hone, hpool, hpost, hrest⟩ := State.retire_effect (s := u) (parts := []) he
    ((h.stillRetired_eq hw he).trans hr) ((h.poolRetired_eq hw).symm ▸ hn) (fun h => absurd h h4)
  refine ⟨hmark, h.poolCounted hw (by decide) (by decide) hall, ?_, ?_, ?_, ?_, h.frame_trans hrest.right⟩
  · cases hc : retireCounter cause with
    | none => trivial
    | some r =>
      have hr := retireCounter_key hc
      rw [hc] at hone
      exact h.poolCounted hw (by omega) (by omega) hone
  · rw [hpool, h.poolRetired_eq hw]
  · rw [hpost, h.part .posts hposts]
  · rw [h.channelOf_eq hw hchans, h.spareFor_eq hw e] at hrest
    cases hc : s.channelOf e with
    | none =>
      rw [hc] at hrest
      exact hrest.left.trans (h.part .chans hchans)
    | some c =>
      rw [hc] at hrest
      obtain ⟨⟨honly, hserved⟩, -⟩ := hrest
      exact ⟨fun k hk => (honly k hk).trans (h.chan_eq hchans k), by rw [hserved, h.chan_eq hchans]⟩

end

/-! ### The spare of a takeover (R130) -/

/-- R139: an engine that has run or been loaded has other contents in its data memory, and nothing else has changed. -/
theorem State.runDmem_changesOnly (s : State) (e : Nat) {parts : List Part} (words : List (Rg × Nat)) (hd : Part.dmem ∈ parts)
    (hf : Part.free ∈ parts) : s.changesOnly (s.runDmem e) parts words := by
  have hdmem : s.changesOnly { s with dmem := Tab.set 0 s.dmem e s.free } parts words :=
    State.changesOnly_part .dmem words hd rfl rfl fun p hp => by cases p <;> simp_all [Part.same]
  exact hdmem.trans (State.changesOnly_free { s with dmem := Tab.set 0 s.dmem e s.free } (s.free + 1) words hf)

/-- R130: channel `c` on spare `e`, which is loaded. -/
def State.pointSpare (s : State) (c e : Nat) : State := (s.set ENG_CHMAP.ENGIDX e c).runDmem e

theorem State.pointSpare_changesOnly (s : State) (c e : Nat) {parts : List Part} (hd : Part.dmem ∈ parts) (hf : Part.free ∈ parts) :
    s.changesOnly (s.pointSpare c e) parts [(.ENG_CHMAP, c)] :=
  (s.changesOnly_set ENG_CHMAP.ENGIDX e c parts (by simp)).trans (State.runDmem_changesOnly _ e _ hd hf)

theorem State.pointSpare_rd (s : State) (c e : Nat) : (s.pointSpare c e).rd .ENG_CHMAP c = ENG_CHMAP.ENGIDX.put (s.rd .ENG_CHMAP c) e :=
  (State.mk_rd (s.set ENG_CHMAP.ENGIDX e c) ..).trans (s.rd_set_same ENG_CHMAP.ENGIDX e c rfl)

theorem State.pointSpare_dmem (s : State) (c e : Nat) : (s.pointSpare c e).dmem = (s.runDmem e).dmem
    ∧ (s.pointSpare c e).free = s.free + 1 :=
  ⟨rfl, rfl⟩

/-- R130: hardware points the channel to the loaded spare. -/
theorem exec_spareLoadComplete {s : State} {c : Nat} {k : Takeover} (hc : c < 512) (hk : (s.chan c).takeover = some k)
    (hl : k.loaded = false) : exec (.spareLoadComplete c) s
      = .next ((s.pointSpare c k.spare).setChan c { s.chan c with takeover := some { k with loaded := true } }).settle := by
  change onUnit c 512 s (match (s.chan c).takeover with
    | some t => if t.loaded then s else (s.pointSpare c t.spare).setChan c { s.chan c with takeover := some { t with loaded := true } }
    | none => s) = _
  rw [onUnit_next _ _ _ _ hc, hk]
  simp only [hl, Bool.false_eq_true, if_false]

theorem exec_spareLoadComplete_effect {s : State} {c : Nat} {k : Takeover} (hc : c < 512) (hk : (s.chan c).takeover = some k)
    (hl : k.loaded = false) :
    ∃ t, exec (.spareLoadComplete c) s = .next t
      ∧ t.rd .ENG_CHMAP c = ENG_CHMAP.ENGIDX.put (s.rd .ENG_CHMAP c) k.spare
      ∧ t.chan c = { s.chan c with takeover := some { k with loaded := true } }
      ∧ t.dmem = (s.runDmem k.spare).dmem ∧ t.free = s.free + 1
      ∧ s.onlyChan t c ∧ s.frame t [.chans, .dmem, .free] [(.ENG_CHMAP, c)] := by
  refine ⟨_, exec_spareLoadComplete hc hk hl, ?_⟩
  have hch := s.pointSpare_changesOnly c k.spare (parts := [.dmem, .free]) (by simp) (by simp)
  have hword := s.pointSpare_rd c k.spare
  obtain ⟨hdmem, hfree⟩ := s.pointSpare_dmem c k.spare
  generalize s.pointSpare c k.spare = u at *
  generalize { s.chan c with takeover := some { k with loaded := true } } = x
  refine ⟨?_, ?_, ?_, ?_, fun j hj => ?_, ?_⟩
  · rw [State.settle_rd_of, State.setChan_rd_of, hword]
  · rw [State.settle_chan_of, State.chan_setChan_same]
  · rw [State.settle_dmem, State.setChan_dmem, hdmem]
  · rw [State.settle_free, State.setChan_free, hfree]
  · rw [State.settle_chan_of, State.chan_setChan_ne _ _ (Ne.symm hj), hch.chan_eq (by simp)]
  · exact ((hch.mono (by simp) (by simp)).trans (State.changesOnly_setChan u c x _ (by simp))).frame

/-! ### ENG_CMD (R121, R134, R366) -/

/-- A field that holds a value already stays with it. -/
theorem Fld.put_put_same (f : Fld) (w : Word) (v : Nat) (h : f.ok = true) : f.put (f.put w v) v = f.put w v := by
  rw [Fld.put.eq_def f (f.put w v), f.of_put_same w v h]
  exact BitVec.sub_add_cancel _ _

/-- R332: a command bit that the word holds and its legality table rejects. -/
theorem State.bitCmd_rejected {s : State} {p : Port} {a : Nat} {w : Word} {bit e : Nat} {f : State → State}
    (h : bitOf w.toNat bit = true) : s.bitCmd p a w bit (some e) f = s.reject e p a := by
  simp [State.bitCmd, h]

/-- R366: the fields of a word that commands unit `k` by bit `b`. -/
theorem engWord_fields {b k : Nat} (hb : b = 30 ∨ b = 31) (hk : k < 1024) :
    ENG_CMD.IDX.of (BitVec.ofNat 32 (2 ^ b + k * 65536)) = k
      ∧ bitOf (BitVec.ofNat 32 (2 ^ b + k * 65536)).toNat 31 = decide (b = 31)
      ∧ bitOf (BitVec.ofNat 32 (2 ^ b + k * 65536)).toNat 30 = decide (b = 30) := by
  obtain rfl | rfl := hb <;> simp [Fld.of, bitsOf, bitOf] <;> omega

/-- R134: RETIRE names an engine, RESTART a channel. -/
theorem rangeOk_engCmd {w : Word} (hretire : bitOf w.toNat 31 = true → ENG_CMD.IDX.of w < 528)
    (hrestart : bitOf w.toNat 30 = true → ENG_CMD.IDX.of w < 512) : rangeOk .ENG_CMD w = true := by
  have hbit (f : Fld) (hf : f.hi = f.lo) : f.of w = 0 ∨ bitOf w.toNat f.lo = true := by
    simp only [Fld.of, bitsOf, bitOf, hf, beq_iff_eq, Nat.sub_self, Nat.zero_add, Nat.pow_one]
    omega
  have hR := (hbit ENG_CMD.RETIRE rfl).imp_right hretire
  have hS := (hbit ENG_CMD.RESTART rfl).imp_right hrestart
  change ((ENG_CMD.RETIRE.of w == 0 || decide (ENG_CMD.IDX.of w < 528))
    && (ENG_CMD.RESTART.of w == 0 || decide (ENG_CMD.IDX.of w < 512))) = true
  simp [hR, hS]

/-- R329: a word in range runs its commands once the key is spent. -/
theorem State.hostReg_engCmd {s : State} {p : Port} {w : Word} (hs : s.reaches p .ENG_CMD 0) (hok : rangeOk .ENG_CMD w = true) :
    ∃ d, s.hostReg p .ENG_CMD 0 w = State.engCmd { s with dev := d } p (Rg.ENG_CMD.key 0) w := by
  obtain ⟨d, hd⟩ := s.spendKey_eq p .ENG_CMD
  have hj : (s.spendKey p .ENG_CMD).judge .ENG_CMD w = none := by
    change orElse none (unless_ (rangeOk .ENG_CMD w) 4) = none
    rw [hok]
    rfl
  refine ⟨d, ?_⟩
  rw [State.hostReg_executed (by decide) (by decide) (by decide) hs hj, State.touched_uncovered _ (by decide), hd]
  rfl

/-- R366: the state in which a command of ENG_CMD is judged: the key is spent, and IDX is stored. -/
def State.engIdx (s : State) (d : Dev) (k : Nat) : State := State.set { s with dev := d } ENG_CMD.IDX k

theorem State.engIdx_changesOnly (s : State) (d : Dev) (k : Nat) : s.changesOnly (s.engIdx d k) [.dev] [(.ENG_CMD, 0)] :=
  (s.changesOnly_dev d _ (by simp)).set ENG_CMD.IDX k 0 (by simp)

theorem State.engIdx_rd (s : State) (d : Dev) (k : Nat) : (s.engIdx d k).rd .ENG_CMD = ENG_CMD.IDX.put (s.rd .ENG_CMD) k :=
  (State.rd_set_same _ ENG_CMD.IDX k 0 rfl).trans (by rw [State.mk_rd])

theorem State.engIdx_get (s : State) (d : Dev) {k : Nat} (hk : k < 1024) : (s.engIdx d k).get ENG_CMD.IDX = k :=
  (State.get_set_same _ ENG_CMD.IDX k 0 (by decide)).trans (Nat.mod_eq_of_lt hk)

theorem State.engIdx_mode (s : State) (d : Dev) (k : Nat) : (s.engIdx d k).mode = s.mode :=
  (s.engIdx_changesOnly d k).get_eq DEV_MODE.MODE (by decide)

theorem State.engIdx_key (k : Nat) : ∀ q ∈ [(Rg.ENG_CMD, k)], loopKey (q.1.key q.2) := by
  have kcmd : Rg.ENG_CMD.key k = 0x120804 + 0 * k := rfl
  simp only [List.forall_mem_singleton, kcmd]
  omega

section
variable {s : State} {p : Port} {e : Nat} (he : e < 528) (hs : s.reaches p .ENG_CMD 0)
include he hs

/-- R134: RETIRE is judged once IDX is stored. -/
theorem State.hostReg_retire : ∃ d, s.hostReg p .ENG_CMD 0 (BitVec.ofNat 32 (2 ^ 31 + e * 65536))
    = (s.engIdx d e).bitCmd p (Rg.ENG_CMD.key 0) (BitVec.ofNat 32 (2 ^ 31 + e * 65536)) 31 ((s.engIdx d e).judgeRetire e)
        fun s => s.retire e 6 := by
  obtain ⟨hidx, -, hoff⟩ := engWord_fields (b := 31) (k := e) (by simp) (by omega)
  obtain ⟨d, hd⟩ := State.hostReg_engCmd hs (rangeOk_engCmd (w := BitVec.ofNat 32 (2 ^ 31 + e * 65536)) (fun _ => hidx.symm ▸ he)
    fun h => absurd (hoff.symm.trans h) (by decide))
  refine ⟨d, ?_⟩
  rw [hd, State.engCmd, hidx]
  exact State.bitCmd_off (hoff.trans (by decide))

/-- R129: RETIRE in SERVICE while a spare is free. -/
theorem exec_engineRetireCommand_service (hm : s.mode = 10) (hr : s.engRetired e = false) (hfree : s.on ENG_SPARE_FREE.BITS = true)
    (hn : s.get ENG_POOL.RETIRED < 16) :
    ∃ t, exec (.engineRetireCommand p e) s = .next t ∧ t.get ENG_CMD.IDX = e ∧ s.engineRetired t e 6 [.dev] [(.ENG_CMD, 0)] := by
  obtain ⟨hidx, hbit, -⟩ := engWord_fields (b := 31) (k := e) (by simp) (by omega)
  obtain ⟨d, hreg⟩ := State.hostReg_retire he hs
  have hch := s.engIdx_changesOnly d e
  have hkey := State.engIdx_key 0
  have hon : (s.engIdx d e).on ENG_SPARE_FREE.BITS = true := (congrArg (· != 0) (hch.spareFree_eq hkey)).trans hfree
  have hret : (s.engIdx d e).engRetired e = false := (hch.stillRetired_eq hkey he).trans hr
  have hj : (s.engIdx d e).judgeRetire e = none := by
    simp [State.judgeRetire, unless_, s.engIdx_mode, hm, hret, hon]
  rw [hj, State.bitCmd_executed (hbit.trans (by decide))] at hreg
  refine ⟨_, (onUnit_next e 1024 s _ (by omega)).trans (congrArg (fun u => Host.Outcome.next (State.settle u)) hreg), ?_,
    hch.retire_effect hkey (by simp) (by simp) he hr hn (by decide)⟩
  obtain ⟨-, -, -, -, -, -, -, hwords⟩ := State.retire_effect (s := s.engIdx d e) (cause := 6) (parts := []) he hret
    ((hch.poolRetired_eq hkey).symm ▸ hn) (by decide)
  have kret : Rg.ENG_RETIRED.key (e / 32) = 0x120840 + 4 * (e / 32) := rfl
  refine (congrArg ENG_CMD.IDX.of (hwords .ENG_CMD 0 ?_)).trans (s.engIdx_get d (by omega))
  simp only [List.nil_append, List.forall_mem_cons, kret]
  exact ⟨by have kcmd : Rg.ENG_CMD.key 0 = 0x120804 := rfl; omega, by decide⟩

/-- R134: RETIRE outside SERVICE. -/
theorem exec_engineRetireCommand_rejected (hm : s.mode ≠ 10) :
    ∃ t, exec (.engineRetireCommand p e) s = .next t ∧ t.get ENG_CMD.IDX = e ∧ s.counted t .DEV_REJECT_CNT 0 1
      ∧ s.frame t [.dev] [(.ENG_CMD, 0), (.DEV_REJECT_CNT, 0), (.DEV_CMD_STATUS, 0)] := by
  obtain ⟨hidx, hbit, -⟩ := engWord_fields (b := 31) (k := e) (by simp) (by omega)
  obtain ⟨d, hreg⟩ := State.hostReg_retire he hs
  have hj : (s.engIdx d e).judgeRetire e = some 1 := by
    rw [State.judgeRetire, s.engIdx_mode, if_pos hm]
  rw [hj, State.bitCmd_rejected (hbit.trans (by decide))] at hreg
  have hch := s.engIdx_changesOnly d e
  obtain ⟨-, hcnt, hrej⟩ := (s.engIdx d e).reject_effect (reason := 1) p (Rg.ENG_CMD.key 0) (by decide)
  rw [State.counted, hch.rd_eq (by decide)] at hcnt
  refine ⟨_, (onUnit_next e 1024 s _ (by omega)).trans (congrArg (fun u => Host.Outcome.next (State.settle u)) hreg), ?_,
    State.counted_congr (State.settle_rd_of ..) hcnt, ((hch.mono (by simp) (by simp)).trans (hrej.mono (by simp) (by simp))).frame⟩
  rw [State.settle_get_of, hrej.get_eq _ (by decide), s.engIdx_get d (by omega)]

end

/-- R212: one word is one record. -/
theorem State.streamConfig_one (s : State) (key : Nat) (w : Word) :
    s.streamConfig [(key, w)] = s.streamEvent (.config 0 0 [(key, w)] true) :=
  rfl

section
variable {s : State} {p : Port} {c : Nat} (hc : c < 512) (hs : s.reaches p .ENG_CMD 0) (hl : s.liveOnly = none)
include hc hs hl

/-- R121: RESTART of a channel in a mode that takes it. -/
theorem State.hostReg_restart : ∃ d, s.hostReg p .ENG_CMD 0 (BitVec.ofNat 32 (2 ^ 30 + c * 65536))
    = (s.engIdx d c).restartCmd p (BitVec.ofNat 32 (2 ^ 30 + c * 65536)) := by
  obtain ⟨hidx, hoff, hbit⟩ := engWord_fields (b := 30) (k := c) (by simp) (by omega)
  obtain ⟨d, hd⟩ := State.hostReg_engCmd hs (rangeOk_engCmd (w := BitVec.ofNat 32 (2 ^ 30 + c * 65536))
    (fun h => absurd (hoff.symm.trans h) (by decide)) fun _ => hidx.symm ▸ hc)
  have hlive : (s.engIdx d c).liveOnly = none := by
    rw [← hl, State.liveOnly, State.liveOnly, State.isRun, State.isRun, s.engIdx_mode]
  have hskip := State.bitCmd_off (s := s.engIdx d c) (p := p) (a := Rg.ENG_CMD.key 0) (v := (s.engIdx d c).judgeRetire c)
    (f := fun s => s.retire c 6) (hoff.trans (by decide))
  refine ⟨d, ?_⟩
  rw [hd, State.engCmd, hidx]
  change ((s.engIdx d c).bitCmd p _ _ 31 ((s.engIdx d c).judgeRetire c) fun s => s.retire c 6).bitCmd p _ _ 30
    ((s.engIdx d c).bitCmd p _ _ 31 ((s.engIdx d c).judgeRetire c) fun s => s.retire c 6).liveOnly _ = _
  rw [hskip, hlive, State.bitCmd_executed (hbit.trans (by decide))]

/-- R121: the request waits for the boundary. -/
theorem exec_engineRestart_stored (hstr : (isHost p && s.pair.streaming) = false) :
    ∃ t, exec (.engineRestart p c) s = .next t
      ∧ t.rd .ENG_CMD = ENG_CMD.RESTART.put (ENG_CMD.IDX.put (s.rd .ENG_CMD) c) 1 ∧ s.frame t [.dev] [(.ENG_CMD, 0)] := by
  obtain ⟨hidx, -, -⟩ := engWord_fields (b := 30) (k := c) (by simp) (by omega)
  obtain ⟨d, hreg⟩ := State.hostReg_restart hc hs hl
  have hch := s.engIdx_changesOnly d c
  have hstr' : (isHost p && (s.engIdx d c).pair.streaming) = false := by
    rw [hch.part .pair (by simp)]
    exact hstr
  rw [State.restartCmd, if_neg (by rw [hstr']; decide), hidx] at hreg
  refine ⟨_, (onUnit_next c 1024 s _ (by omega)).trans (congrArg (fun u => Host.Outcome.next (State.settle u)) hreg), ?_,
    ((hch.set ENG_CMD.IDX c 0 (by simp)).set ENG_CMD.RESTART 1 0 (by simp)).frame⟩
  rw [State.settle_rd_of, State.rd_set_same _ _ _ _ rfl, State.rd_set_same _ _ _ _ rfl, s.engIdx_rd, Fld.put_put_same _ _ _ (by decide)]

/-- R212: while the active streams the request goes out in one record. -/
theorem exec_engineRestart_streamed (hstr : (isHost p && s.pair.streaming) = true) :
    ∃ t, exec (.engineRestart p c) s = .next t
      ∧ s.streamedWrite t (Rg.ENG_CMD.key 0) (BitVec.ofNat 32 (2 ^ 30 + c * 65536))
      ∧ t.rd .ENG_CMD = ENG_CMD.IDX.put (s.rd .ENG_CMD) c ∧ s.frame t [.dev, .pair] [(.ENG_CMD, 0)] := by
  obtain ⟨d, hreg⟩ := State.hostReg_restart hc hs hl
  have hexec : exec (.engineRestart p c) s = onUnit c 1024 s (s.hostReg p .ENG_CMD 0 (BitVec.ofNat 32 (2 ^ 30 + c * 65536))) := rfl
  generalize BitVec.ofNat 32 (2 ^ 30 + c * 65536) = w at hreg hexec ⊢
  have hch := s.engIdx_changesOnly d c
  have hpair : (s.engIdx d c).pair = s.pair := hch.part .pair (by simp)
  rw [State.restartCmd, if_pos (by rw [hpair, hstr]), State.streamConfig_one] at hreg
  rw [onUnit_next _ _ _ _ (by omega), hreg] at hexec
  refine ⟨_, hexec, ?_, ?_, ((hch.mono (by simp) (by simp)).trans (State.changesOnly_pair _ _ _ (by simp))).frame⟩
  · rw [State.streamedWrite, State.settle_pair, State.streamEvent, hpair]
  · rw [State.settle_rd_of, State.streamEvent, State.mk_rd, s.engIdx_rd]

end

/-- Settles O19: a loaded spare takes the channel's word, RETIRE is the retirement of O18 after IDX is stored, and RESTART is stored or
streamed. -/
theorem engineSparesAndCommands : Obligations.EngineSparesAndCommands := by
  unfold Obligations.EngineSparesAndCommands
  exact ⟨fun s c k hc hk hl => exec_spareLoadComplete_effect hc hk hl,
    fun s p e he hs => ⟨fun hm hr hfree hn => exec_engineRetireCommand_service he hs hm hr hfree hn,
      fun hm => exec_engineRetireCommand_rejected he hs hm⟩,
    fun s p c hc hs hl => ⟨fun hstr => exec_engineRestart_stored hc hs hl hstr, fun hstr => exec_engineRestart_streamed hc hs hl hstr⟩⟩

end Sys2Proof.Machine

namespace Sys2Proof.Machine

/-! ### What a loop program works from (R118, R122)

A reading changes its input, and an engine that runs its data memory. All that a program computes from reads the same before and after. -/

/-- Two states that differ only in parts and words differ so in either direction. -/
theorem State.changesOnly.symm {s t : State} {parts : List Part} {words : List (Rg × Nat)} (h : s.changesOnly t parts words) :
    t.changesOnly s parts words := by
  obtain ⟨hq, hp, hw⟩ := h
  exact ⟨hq.symm, fun p hn => by have := hp p hn; cases p <;> exact this.symm, fun r i hk => (hw r i hk).symm⟩

/-- R106, R118: an engine reads one of the 36 inputs. -/
theorem State.inputOf_lt {s : State} {c i : Nat} (h : s.inputOf c = some i) : i < 36 := by
  unfold State.inputOf at h
  split at h
  · obtain rfl := Option.some.inj h
    unfold State.xpInput bitsOf
    omega
  · split at h
    · obtain rfl := Option.some.inj h
      simp_all
    · cases h

section
variable {s u : State} {words : List (Rg × Nat)} (h : s.changesOnly u [.dmem, .refs, .free] words)
  (hw : ∀ q ∈ words, loopKey (q.1.key q.2))
include h hw

theorem State.changesOnly.loop_rd {r : Rg} {i : Nat} (hk : ¬ loopKey (r.key i)) : u.rd r i = s.rd r i :=
  h.rd_eq fun q hq heq => hk (heq ▸ hw q hq)

theorem State.changesOnly.loop_get (f : Fld) {i : Nat} (hk : ¬ loopKey (f.r.key i)) : u.get f i = s.get f i :=
  congrArg f.of (h.loop_rd hw hk)

theorem State.changesOnly.loop_param (c w : Nat) : u.param c w = s.param c w := by
  have kparam : Rg.PARAM.key (c * 512 + w) = 0x4000000 + 1 * (c * 512 + w) := rfl
  exact congrArg BitVec.toNat (h.loop_rd hw (by omega))

theorem State.changesOnly.loop_p0 {c : Nat} (hc : c < 512) : u.p0 c = s.p0 c := by
  have klo : Rg.CH_PNOM_LO.key c = 0x80004 + 0x400 * c := rfl
  have khi : Rg.CH_PNOM_HI.key c = 0x80008 + 0x400 * c := rfl
  rw [State.p0, State.p0, h.loop_rd hw (r := .CH_PNOM_HI) (by omega), h.loop_rd hw (r := .CH_PNOM_LO) (by omega)]

omit hw in
theorem State.changesOnly.loop_pair : u.pair = s.pair := h.part .pair (by simp)

omit hw in
theorem State.changesOnly.loop_tick : u.dev.tick = s.dev.tick := congrArg Dev.tick (h.part .dev (by simp))

omit hw in
theorem State.changesOnly.loop_chan (c : Nat) : u.chan c = s.chan c := h.chan_eq (by simp) c

section
variable {c : Nat} (hc : c < 512)
include hc

theorem State.changesOnly.loop_prog : u.prog c = s.prog c := congrArg ENG_CHMAP.PROG.of (h.chmap_eq hw hc)

theorem State.changesOnly.loop_sel : u.get ENG_CHMAP.SEL c = s.get ENG_CHMAP.SEL c := congrArg ENG_CHMAP.SEL.of (h.chmap_eq hw hc)

theorem State.changesOnly.loop_selValid : u.on ENG_CHMAP.SEL_VALID c = s.on ENG_CHMAP.SEL_VALID c :=
  congrArg (fun w => ENG_CHMAP.SEL_VALID.of w != 0) (h.chmap_eq hw hc)

omit hc in
theorem State.changesOnly.loop_xpInput (c : Nat) : u.xpInput c = s.xpInput c := by
  rw [State.xpInput, State.xpInput, h.loop_param hw]

theorem State.changesOnly.loop_inputOf : u.inputOf c = s.inputOf c := by
  rw [State.inputOf, State.inputOf, h.loop_prog hw hc, h.loop_sel hw hc, h.loop_selValid hw hc, h.loop_xpInput hw c]

theorem State.changesOnly.loop_freqProg : u.freqProg c = s.freqProg c := by
  rw [State.freqProg, State.freqProg, h.loop_prog hw hc]

theorem State.changesOnly.loop_offsetsDone : u.offsetsDone c = s.offsetsDone c := by
  have htwl : u.twl = s.twl := h.part .twl (by simp)
  rw [State.offsetsDone, State.offsetsDone, h.loop_sel hw hc, State.flow, State.flow, htwl]

theorem State.changesOnly.loop_measured (ph : Int) : u.measured c ph = s.measured c ph := by
  rw [State.measured, State.measured, h.loop_prog hw hc, h.loop_offsetsDone hw hc]

theorem State.changesOnly.loop_takesZero : u.takesZero c = s.takesZero c := by
  rw [State.takesZero, State.takesZero, h.loop_chan, h.loop_freqProg hw hc]

theorem State.changesOnly.loop_phaseError (zero ph : Int) : u.phaseError c zero ph = s.phaseError c zero ph := by
  rw [State.phaseError, State.phaseError, h.loop_prog hw hc, h.loop_freqProg hw hc, h.loop_param hw]

theorem State.changesOnly.loop_clampPeriod (p : Nat) : u.clampPeriod c p = s.clampPeriod c p := by
  rw [State.clampPeriod, State.clampPeriod, h.loop_chan, h.loop_p0 hw hc, h.loop_param hw, h.loop_param hw]

/-- R118: the source of a hybrid servo is a channel, by its nine bits. -/
theorem State.changesOnly.loop_hybridP : u.hybridP c = s.hybridP c := by
  have hsrc : bitsOf (s.param c 16) 24 16 < 512 := Nat.mod_lt _ (by decide)
  simp only [State.hybridP, h.loop_param hw, h.loop_p0 hw hsrc, h.loop_p0 hw hc, h.loop_chan]

theorem State.changesOnly.loop_servoResult (r : EngResult) (e : Int) : u.servoResult c r e = s.servoResult c r e := by
  simp only [State.servoResult, h.loop_param hw, h.loop_clampPeriod hw hc, h.loop_hybridP hw hc]

theorem State.changesOnly.loop_iterResult (r : EngResult) (e : Int) (fresh joins : Bool) :
    u.iterResult c r e fresh joins = s.iterResult c r e fresh joins := by
  simp only [State.iterResult, h.loop_chan, h.loop_clampPeriod hw hc, h.loop_p0 hw hc, h.loop_tick, h.loop_prog hw hc,
    h.loop_servoResult hw hc]

/-! What an iteration sees of its source -/

theorem State.changesOnly.loop_fromStream : u.fromStream c = s.fromStream c := by
  have hmode : u.mode = s.mode := h.loop_get hw DEV_MODE.MODE (by decide)
  have hrole : u.isStandby = s.isStandby := congrArg (· == 2) (h.loop_get hw PAIR_STS.ROLE (by decide))
  rw [State.fromStream, State.fromStream, State.isStep, State.isStep, h.loop_prog hw hc, hmode, hrole, h.loop_pair]

theorem State.changesOnly.loop_streamsFor : u.streamsFor c = s.streamsFor c := by
  rw [State.streamsFor, State.streamsFor, h.loop_fromStream hw hc, h.loop_prog hw hc, h.loop_pair]

omit hc in
theorem State.changesOnly.loop_interval (c : Nat) : u.interval c = s.interval c := by
  rw [State.interval, State.interval, h.loop_param hw]

omit hc in
theorem State.changesOnly.loop_streamFresh (c i : Nat) : u.streamFresh c i = s.streamFresh c i := by
  rw [State.streamFresh, State.streamFresh, h.loop_pair, h.loop_tick, h.loop_interval hw]

theorem State.changesOnly.loop_inputState {i : Nat} (hsts : u.rd .REF_STS i = s.rd .REF_STS i) : u.inputState c i = s.inputState c i := by
  rw [State.inputState, State.inputState, h.loop_streamsFor hw hc, h.loop_pair, State.get, hsts, ← State.get]

theorem State.changesOnly.loop_qualified {code : Nat} (hsts : code < 36 → u.rd .REF_STS code = s.rd .REF_STS code) :
    u.qualified c code = s.qualified c code := by
  have kflow : FLOW_STS.STATE.r.key (code - 64) = 0x130408 + 0x10 * (code - 64) := rfl
  rw [State.qualified, State.qualified, h.loop_get hw FLOW_STS.STATE (by omega)]
  split
  next hin => rw [h.loop_inputState hw hc (hsts hin)]
  next => rfl

variable (hsts : ∀ i, s.inputOf c = some i → u.rd .REF_STS i = s.rd .REF_STS i)
include hsts

/-- R123: an iteration measures alike where the word of its input reads alike. -/
theorem State.changesOnly.loop_iterFresh (rd : Reading) : u.iterFresh c rd = s.iterFresh c rd := by
  rw [State.iterFresh, State.iterFresh, h.loop_inputOf hw hc]
  cases hin : s.inputOf c with
  | none => simp only [h.loop_prog hw hc, h.loop_selValid hw hc, h.loop_offsetsDone hw hc]
  | some i =>
    have hstale : u.on REF_STS.STALE i = s.on REF_STS.STALE i := congrArg (fun w => REF_STS.STALE.of w != 0) (hsts i hin)
    simp only [State.inHit, h.loop_inputState hw hc (hsts i hin), h.loop_streamsFor hw hc, h.loop_streamFresh hw, hstale]

/-- R125: what an iteration works from is QUALIFIED alike where the word of its input reads alike. -/
theorem State.changesOnly.loop_iterQualified : u.iterQualified c = s.iterQualified c := by
  rw [State.iterQualified, State.iterQualified, h.loop_prog hw hc, h.loop_xpInput hw c, h.loop_sel hw hc, h.loop_selValid hw hc]
  split
  next hp => exact h.loop_qualified hw hc fun _ => hsts _ (if_pos hp)
  next hp =>
    cases hv : s.on ENG_CHMAP.SEL_VALID c with
    | false => rfl
    | true => exact h.loop_qualified hw hc fun hlt => hsts _ (by rw [State.inputOf, if_neg hp, hv, if_pos (by simpa using hlt)])

end

end

end Sys2Proof.Machine

namespace Sys2Proof.Machine

/-! ### A reading (R111) -/

/-- R111: whether reading `r` of input `i` is taken, and departs from the edge predicted. -/
def State.hitRead (s : State) (i : Nat) (r : Reading) : Bool :=
  Reading.isFresh r && !s.on REF_STS.STALE i && (s.refin i).gated && (s.refin i).lastTs.any fun last =>
    isHit (s.get REF_CFG.PREDIVM1 i + 1) (max 1 (s.get REF_FNOM.FNOM i)) (s.get REF_HIT.HIT_THR i)
      (signedOf 32 (s.get REF_FOFS.FOFS i)) last (r.ts + s.trimOfs)

/-- R106: a reading that is stale or brought no edge changes nothing. -/
theorem State.readInput_unread {s : State} {i : Nat} {r : Reading} (h : (Reading.isFresh r && !s.on REF_STS.STALE i) = false) :
    s.readInput i r = s :=
  if_pos (by cases hf : Reading.isFresh r <;> cases ht : s.on REF_STS.STALE i <;> simp_all)

/-- R111: the timestamp stands for the next reading; a hit is counted, and takes a QUALIFIED input to HIT. -/
theorem State.readInput_read {s : State} {i : Nat} {r : Reading} (h : (Reading.isFresh r && !s.on REF_STS.STALE i) = true) :
    s.readInput i r = (s.setRefin i { s.refin i with lastTs := some (r.ts + s.trimOfs) }).cond (s.hitRead i r) fun u =>
      (u.inc .REF_HIT_CNT i).cond ((u.inc .REF_HIT_CNT i).get REF_STS.STATE i == 4) fun u => u.moveRef i 5 := by
  obtain ⟨hfresh, hstale⟩ := Bool.and_eq_true_iff.mp h
  have htaken : (!Reading.isFresh r || s.on REF_STS.STALE i) = false := by simpa [hfresh] using hstale
  rw [State.readInput, htaken, State.hitRead, h, Bool.true_and]
  simp only [Bool.false_eq_true, if_false, State.cond, beq_iff_eq]

/-- R111: what a reading of input `i` changes. -/
abbrev readWords (i : Nat) : List (Rg × Nat) := [(.REF_STS, i), (.REF_HIT_CNT, i)]

theorem State.readInput_changesOnly (s : State) (i : Nat) (r : Reading) : s.changesOnly (s.readInput i r) [.refs] (readWords i) := by
  cases h : Reading.isFresh r && !s.on REF_STS.STALE i with
  | false =>
    rw [State.readInput_unread h]
    exact s.changesOnly_refl _ _
  | true =>
    rw [State.readInput_read h]
    have hset := State.changesOnly_setRefin s i { s.refin i with lastTs := some (r.ts + s.trimOfs) } (parts := [.refs])
      (readWords i) (by simp)
    refine hset.trans (State.changesOnly_cond ((State.changesOnly_inc _ _ _ _ (by simp)).trans (State.changesOnly_cond ?_)))
    exact (State.moveRef_changesOnly _ i 5 [.refs]).mono (by simp) (by simp [moveWords, moveCounts])

theorem State.readInput_sts (s : State) (i : Nat) (r : Reading) :
    (s.readInput i r).rd .REF_STS i
      = if s.hitRead i r && s.get REF_STS.STATE i == 4 then REF_STS.STATE.put (s.rd .REF_STS i) 5 else s.rd .REF_STS i := by
  obtain ⟨-, -, -, -, ksts, -, -, khit⟩ := Rg.refin_keys i
  have hmiss (h : (Reading.isFresh r && !s.on REF_STS.STALE i) = false) : s.hitRead i r = false := by simp [State.hitRead, h]
  cases h : Reading.isFresh r && !s.on REF_STS.STALE i with
  | false => rw [State.readInput_unread h, hmiss h, Bool.false_and, if_neg (by decide)]
  | true =>
    rw [State.readInput_read h]
    have hset : (s.setRefin i { s.refin i with lastTs := some (r.ts + s.trimOfs) }).rd .REF_STS i = s.rd .REF_STS i :=
      State.setRefin_rd_of ..
    generalize s.setRefin i { s.refin i with lastTs := some (r.ts + s.trimOfs) } = u at hset ⊢
    have hinc : (u.inc .REF_HIT_CNT i).rd .REF_STS i = s.rd .REF_STS i := (u.rd_inc_ne _ _ (by omega)).trans hset
    have hstate : (u.inc .REF_HIT_CNT i).get REF_STS.STATE i = s.get REF_STS.STATE i := congrArg REF_STS.STATE.of hinc
    cases s.hitRead i r with
    | false => exact hset
    | true =>
      simp only [State.cond, if_true, Bool.true_and, hstate]
      split
      · rw [State.moveRef_rd_sts, hinc]
      · exact hinc

/-- R111: a reading is judged alike where the words of its input read alike. -/
theorem State.changesOnly.hitRead_eq {s u : State} (h : s.changesOnly u [.dmem, .free] [(.ENG_DMEM_CORR_CNT, 0)]) {i : Nat} (hi : i < 36)
    (r : Reading) : u.hitRead i r = s.hitRead i r := by
  have hkey : ∀ q ∈ [(Rg.ENG_DMEM_CORR_CNT, 0)], 0x120000 ≤ q.1.key q.2 := by decide
  obtain ⟨kcfg, kfnom, -, khit, ksts, kfofs, -, -⟩ := Rg.refin_keys i
  have htrim : u.trimOfs = s.trimOfs := by
    rw [State.trimOfs, State.trimOfs, h.part .pair (by simp), h.get_eq _ (by decide)]
  have hrd {r : Rg} (hr : r.key i < 0x120000) : u.rd r i = s.rd r i := h.rd_eq fun q hq => by
    have := hkey q hq
    omega
  have hget (f : Fld) (hf : f.r.key i < 0x120000) : u.get f i = s.get f i := congrArg f.of (hrd hf)
  have hstale : u.on REF_STS.STALE i = s.on REF_STS.STALE i := congrArg (· != 0) (hget _ (by dsimp only; omega))
  rw [State.hitRead, State.hitRead, h.refin_eq (by simp), htrim, hstale, hget REF_CFG.PREDIVM1 (by dsimp only; omega),
    hget REF_FNOM.FNOM (by dsimp only; omega), hget REF_HIT.HIT_THR (by dsimp only; omega), hget REF_FOFS.FOFS (by dsimp only; omega)]

/-! ### The reading of an iteration (R106, R122) -/

/-- R106, R212: an iteration of channel `c` takes reading `rd` of its input, unless it works on the event stream's. -/
def State.takesReading (s : State) (c : Nat) (rd : Reading) : State :=
  if s.fromStream c then s else (s.inputOf c).elim s fun i => s.readInput i rd

/-- R122, R139: the engine of channel `c` has run. -/
def State.ranOnce (s : State) (c n : Nat) : State := (s.runDmem (s.engineOf c)).add .ENG_DMEM_CORR_CNT n

/-- R122: the engine of channel `c` has run on its reading. -/
def State.ranReading (s : State) (c : Nat) (rd : Reading) (n : Nat) : State := (s.ranOnce c n).takesReading c rd

/-- What an iteration writes beside its post. -/
def State.iterWords (s : State) (c : Nat) : List (Rg × Nat) := (.ENG_DMEM_CORR_CNT, 0) :: (s.inputOf c).elim [] readWords

theorem State.iterWords_loopKey {s : State} {c : Nat} : ∀ q ∈ s.iterWords c, loopKey (q.1.key q.2) := by
  unfold State.iterWords
  cases hin : s.inputOf c with
  | none => decide
  | some i =>
    have hi := State.inputOf_lt hin
    obtain ⟨-, -, -, -, ksts, -, -, khit⟩ := Rg.refin_keys i
    have kcorr : Rg.ENG_DMEM_CORR_CNT.key 0 = 0x1208d8 := rfl
    simp only [Option.elim, List.forall_mem_cons, ksts, khit, kcorr]
    exact ⟨by omega, by omega, by omega, by simp⟩

theorem State.ranOnce_changesOnly (s : State) (c n : Nat) : s.changesOnly (s.ranOnce c n) [.dmem, .free] [(.ENG_DMEM_CORR_CNT, 0)] :=
  (State.runDmem_changesOnly s (s.engineOf c) _ (by simp) (by simp)).trans (State.changesOnly_add _ _ n 0 _ (by simp))

theorem State.ranOnce_counted (s : State) (c n : Nat) : s.counted (s.ranOnce c n) .ENG_DMEM_CORR_CNT 0 n := by
  have hrun := (State.runDmem_changesOnly s (s.engineOf c) (parts := [.dmem, .free]) [] (by simp) (by simp)).rd_eq
    (r := .ENG_DMEM_CORR_CNT) (i := 0) (by simp)
  rw [State.counted, State.ranOnce, State.rd_add_same, hrun]

theorem State.takesReading_changesOnly (s : State) (c : Nat) (rd : Reading) :
    s.changesOnly (s.takesReading c rd) [.refs] ((s.inputOf c).elim [] readWords) := by
  unfold State.takesReading
  split
  next => exact s.changesOnly_refl _ _
  next =>
    cases s.inputOf c with
    | none => exact s.changesOnly_refl _ _
    | some i => exact s.readInput_changesOnly i rd

theorem State.takesReading_sts {s : State} {c i : Nat} (h : s.inputOf c = some i) (rd : Reading) :
    (s.takesReading c rd).rd .REF_STS i
      = if !s.fromStream c && (s.hitRead i rd && s.get REF_STS.STATE i == 4) then REF_STS.STATE.put (s.rd .REF_STS i) 5
        else s.rd .REF_STS i := by
  unfold State.takesReading
  cases s.fromStream c with
  | true => rfl
  | false =>
    simp only [h, Bool.false_eq_true, if_false, Option.elim, Bool.not_false, Bool.true_and]
    exact s.readInput_sts i rd

section
variable {s : State} {c : Nat} (hc : c < 512)
include hc

theorem State.ranOnce_inputOf (n : Nat) : (s.ranOnce c n).inputOf c = s.inputOf c :=
  ((s.ranOnce_changesOnly c n).mono (by simp) (by simp [State.iterWords])).loop_inputOf (words := s.iterWords c) State.iterWords_loopKey hc

/-- Everything an iteration changes before its post. -/
theorem State.ranReading_changesOnly (rd : Reading) (n : Nat) :
    s.changesOnly (s.ranReading c rd n) [.dmem, .refs, .free] (s.iterWords c) := by
  have hread := (s.ranOnce c n).takesReading_changesOnly c rd
  rw [State.ranOnce_inputOf hc] at hread
  exact ((s.ranOnce_changesOnly c n).mono (by simp) (by simp [State.iterWords])).trans
    (hread.mono (by simp) (by simp [State.iterWords]))

/-- R123: the reading leaves the count of the engine's run. -/
theorem State.ranReading_counted (rd : Reading) (n : Nat) : s.counted (s.ranReading c rd n) .ENG_DMEM_CORR_CNT 0 n := by
  refine State.counted_congr (((s.ranOnce c n).takesReading_changesOnly c rd).rd_eq ?_) (s.ranOnce_counted c n)
  rw [State.ranOnce_inputOf hc]
  cases hin : s.inputOf c with
  | none => simp
  | some i =>
    have hi := State.inputOf_lt hin
    obtain ⟨-, -, -, -, ksts, -, -, khit⟩ := Rg.refin_keys i
    have kcorr : Rg.ENG_DMEM_CORR_CNT.key 0 = 0x1208d8 := rfl
    simp only [Option.elim, List.forall_mem_cons]
    exact ⟨by omega, by omega, by simp⟩

/-- The run of the engine before the reading leaves the word of the input as the reading alone leaves it. -/
theorem State.ranReading_sts {i : Nat} (hin : s.inputOf c = some i) (rd : Reading) (n : Nat) :
    (s.ranReading c rd n).rd .REF_STS i = (s.takesReading c rd).rd .REF_STS i := by
  have hrun := s.ranOnce_changesOnly c n
  have hkeep : s.changesOnly (s.ranOnce c n) [.dmem, .refs, .free] (s.iterWords c) := hrun.mono (by simp) (by simp [State.iterWords])
  have hi := State.inputOf_lt hin
  obtain ⟨-, -, -, -, ksts, -, -, -⟩ := Rg.refin_keys i
  have kcorr : Rg.ENG_DMEM_CORR_CNT.key 0 = 0x1208d8 := rfl
  have hsts : (s.ranOnce c n).rd .REF_STS i = s.rd .REF_STS i := hrun.rd_eq (by simp only [List.forall_mem_singleton]; omega)
  have hstate : (s.ranOnce c n).get REF_STS.STATE i = s.get REF_STS.STATE i := congrArg REF_STS.STATE.of hsts
  rw [State.ranReading, State.takesReading_sts ((State.ranOnce_inputOf hc n).trans hin), State.takesReading_sts hin,
    hkeep.loop_fromStream State.iterWords_loopKey hc, hrun.hitRead_eq hi, hsts, hstate]

/-- What the reading shows, with the run of the engine and without it. -/
theorem State.ranReading_fresh (rd : Reading) (n : Nat) :
    (s.ranReading c rd n).iterFresh c rd = (s.takesReading c rd).iterFresh c rd
      ∧ (s.ranReading c rd n).iterQualified c = (s.takesReading c rd).iterQualified c := by
  have hread : s.changesOnly (s.takesReading c rd) [.dmem, .refs, .free] (s.iterWords c) :=
    (s.takesReading_changesOnly c rd).mono (by simp) (by simp [State.iterWords])
  have hboth := hread.symm.trans (State.ranReading_changesOnly hc rd n)
  have hsts : ∀ i, (s.takesReading c rd).inputOf c = some i →
      (s.ranReading c rd n).rd .REF_STS i = (s.takesReading c rd).rd .REF_STS i := fun i hin =>
    State.ranReading_sts hc ((hread.loop_inputOf State.iterWords_loopKey hc).symm.trans hin) rd n
  exact ⟨hboth.loop_iterFresh State.iterWords_loopKey hc hsts rd, hboth.loop_iterQualified State.iterWords_loopKey hc hsts⟩

end

end Sys2Proof.Machine

namespace Sys2Proof.Machine

/-! ### The exchanges that an iteration uses up (R159) -/

/-- R159: a flow whose exchanges completed in the scale of channel `c` are used up. -/
def Flow.spend (x : Flow) (c : Nat) : Flow := { x with done := x.done.filter (·.1 != c) }

theorem Flow.spend_spend (x : Flow) (c : Nat) : (x.spend c).spend c = x.spend c := by
  simp [Flow.spend, List.filter_filter]

theorem Flow.spend_reset (c : Nat) : Flow.reset.spend c = Flow.reset := rfl

/-- R159: the flows listed in `kvs` lose what they completed in the scale of channel `c`. -/
def State.spendFlows (s : State) (c : Nat) (kvs : Tab Flow) : State := kvs.foldl (fun s kv => s.setFlow kv.1 ((s.flow kv.1).spend c)) s

theorem State.spendFlows_changesOnly (s : State) (c : Nat) (kvs : Tab Flow) : s.changesOnly (s.spendFlows c kvs) [.twl] [] := by
  induction kvs generalizing s with
  | nil => exact s.changesOnly_refl _ _
  | cons kv kvs ih => exact (s.setFlow_changesOnly kv.1 _ [] (by simp)).trans (ih _)

/-- A flow that has lost them keeps the rest however often it is listed. -/
theorem State.spendFlows_spent (s : State) (c f : Nat) (kvs : Tab Flow) (h : (s.flow f).spend c = s.flow f) :
    (s.spendFlows c kvs).flow f = s.flow f := by
  induction kvs generalizing s with
  | nil => rfl
  | cons kv kvs ih =>
    have hone : (s.setFlow kv.1 ((s.flow kv.1).spend c)).flow f = s.flow f := by
      obtain rfl | hne := eq_or_ne kv.1 f
      · rw [State.flow_setFlow_same, h]
      · exact s.flow_setFlow_ne _ hne
    exact (ih _ (by rw [hone, h])).trans hone

theorem State.spendFlows_flow (s : State) (c f : Nat) (kvs : Tab Flow) (h : Tab.get .reset kvs f = s.flow f) :
    (s.spendFlows c kvs).flow f = (s.flow f).spend c := by
  induction kvs generalizing s with
  | nil => exact h.symm.trans (h ▸ (Flow.spend_reset c).symm)
  | cons kv kvs ih =>
    obtain rfl | hne := eq_or_ne kv.1 f
    · have hone := s.flow_setFlow_same kv.1 ((s.flow kv.1).spend c)
      exact (State.spendFlows_spent _ c kv.1 kvs (by rw [hone, Flow.spend_spend])).trans hone
    · have hone := s.flow_setFlow_ne ((s.flow kv.1).spend c) hne
      have htail : Tab.get .reset kvs f = s.flow f := (if_neg hne).symm.trans h
      exact (ih _ (htail.trans hone.symm)).trans (congrArg (Flow.spend · c) hone)

/-- R159: every flow has lost what it completed in the scale of channel `c`. -/
theorem State.spendExchanges_flow (s : State) (c f : Nat) : (s.spendExchanges c).flow f = (s.flow f).spend c :=
  s.spendFlows_flow c f s.twl.flows rfl

theorem State.spendExchanges_changesOnly (s : State) (c : Nat) : s.changesOnly (s.spendExchanges c) [.twl] [] :=
  s.spendFlows_changesOnly c s.twl.flows

/-! ### The post (R122) -/

/-- R122: a channel whose iteration has posted `q`. -/
def Chan.postedWith (x : Chan) (q : Posted) (zero : Int) (joins : Bool) (fresh : Option Nat) : Chan :=
  { x with posted := some q, restart := false, zero := zero, rezero := x.rezero && !joins, lastFresh := fresh }

section
variable (s : State) (c ofs : Nat) (q : Posted) (zero : Int) (joins : Bool)

theorem State.post_eq : s.post c ofs q zero joins
    = { (s.setChan c ((s.chan c).postedWith q zero joins
          (if q.fresh && s.iterQualified c then some s.dev.tick else (s.chan c).lastFresh))).spendExchanges c with
        posts := s.posts ++ [(ofs, s.engineOf c)] } := rfl

theorem State.post_changesOnly : s.changesOnly (s.post c ofs q zero joins) [.chans, .posts, .twl] [] := by
  rw [State.post_eq]
  exact ((State.changesOnly_setChan s c _ _ (by simp)).trans ((State.spendExchanges_changesOnly _ c).mono (by simp) (by simp))).trans
    (State.changesOnly_posts _ _ _ (by simp))

theorem State.post_effect :
    (s.post c ofs q zero joins).settle.chan c = (s.chan c).postedWith q zero joins
        (if q.fresh && s.iterQualified c then some s.dev.tick else (s.chan c).lastFresh)
      ∧ (s.post c ofs q zero joins).settle.posts = s.posts ++ [(ofs, s.engineOf c)]
      ∧ s.onlyChan (s.post c ofs q zero joins).settle c
      ∧ ∀ f, (s.post c ofs q zero joins).settle.flow f = (s.flow f).spend c := by
  have hpost := s.post_eq c ofs q zero joins
  generalize (s.chan c).postedWith q zero joins (if q.fresh && s.iterQualified c then some s.dev.tick
    else (s.chan c).lastFresh) = x at hpost ⊢
  have hspend := State.spendExchanges_changesOnly (s.setChan c x) c
  have hflow := State.spendExchanges_flow (s.setChan c x) c
  generalize (s.setChan c x).spendExchanges c = u at hpost hspend hflow
  rw [hpost]
  refine ⟨?_, State.settle_posts _, fun k hk => ?_, fun f => ?_⟩
  · rw [State.settle_chan_of, State.mk_chan, hspend.chan_eq (by simp), State.chan_setChan_same]
  · rw [State.settle_chan_of, State.mk_chan, hspend.chan_eq (by simp), State.chan_setChan_ne _ _ hk.symm]
  · exact (State.settle_flow _ _).trans (hflow f)

end

/-! ### An iteration (R122, R123, R129) -/

section
variable (s : State) (c : Nat) (r : EngResult)

/-- R115: the build-out zero of an iteration with result `r`. -/
def State.iterZero : Int := if s.takesZero c then s.measured c r.phase else (s.chan c).zero

/-- R122: its phase error. -/
def State.iterErr : Int := s.phaseError c (s.iterZero c r) (s.measured c r.phase)

/-- R122, R123: what it posts. -/
def State.iterRes (fresh : Bool) : EngResult := s.iterResult c r (s.iterErr c r) fresh (s.takesZero c)

/-- R122, R129: whether its period word passes the clamps. -/
def State.iterClamped (fresh : Bool) : Bool :=
  clampOk (s.p0 c) ((s.chan c).baseP (s.p0 c)) (s.iterRes c r fresh).p (bitsOf (s.param c 2) 31 16) (s.param c 7)

/-- R122, R129: what engine `e` of channel `c` does with its result: a retirement, or the post. -/
def State.concludes (e : Nat) (fresh : Bool) : State :=
  if 380 < r.offset then s.retire e 5
  else if !r.checkOk || !s.iterClamped c r fresh then s.retire e 3
  else s.post c r.offset ⟨s.iterRes c r fresh, s.iterErr c r, s.dev.tick + 1, fresh, false⟩ (s.iterZero c r) (s.takesZero c)

theorem State.iterate_concludes (rd : Reading) : s.iterate c rd r
    = (s.ranReading c rd r.corrected).concludes c r (s.engineOf c) ((s.ranReading c rd r.corrected).iterFresh c rd) := rfl

variable {s c r}

/-- R129: a post after offset 380. -/
theorem State.concludes_late (e : Nat) (fresh : Bool) (h : 380 < r.offset) : s.concludes c r e fresh = s.retire e 5 := if_pos h

/-- R129: a result that fails its check or its clamps. -/
theorem State.concludes_failed (e : Nat) {fresh : Bool} (h : r.offset ≤ 380) (hbad : (r.checkOk && s.iterClamped c r fresh) = false) :
    s.concludes c r e fresh = s.retire e 3 := by
  rw [State.concludes, if_neg (by omega), if_pos (by rw [← Bool.not_and, hbad]; rfl)]

/-- R122: a result that is in time and passes. -/
theorem State.concludes_posts (e : Nat) {fresh : Bool} (h : r.offset ≤ 380) (hok : (r.checkOk && s.iterClamped c r fresh) = true) :
    s.concludes c r e fresh = s.post c r.offset ⟨s.iterRes c r fresh, s.iterErr c r, s.dev.tick + 1, fresh, false⟩ (s.iterZero c r)
      (s.takesZero c) := by
  rw [State.concludes, if_neg (by omega), if_neg (by rw [← Bool.not_and, hok]; decide)]

end

section
variable {s u : State} {words : List (Rg × Nat)} (h : s.changesOnly u [.dmem, .refs, .free] words)
  (hw : ∀ q ∈ words, loopKey (q.1.key q.2)) {c : Nat} (hc : c < 512) (r : EngResult)
include h hw hc

theorem State.changesOnly.loop_iterZero : u.iterZero c r = s.iterZero c r := by
  rw [State.iterZero, State.iterZero, h.loop_takesZero hw hc, h.loop_measured hw hc, h.loop_chan]

theorem State.changesOnly.loop_iterErr : u.iterErr c r = s.iterErr c r := by
  rw [State.iterErr, State.iterErr, h.loop_iterZero hw hc, h.loop_measured hw hc, h.loop_phaseError hw hc]

theorem State.changesOnly.loop_iterRes (fresh : Bool) : u.iterRes c r fresh = s.iterRes c r fresh := by
  rw [State.iterRes, State.iterRes, h.loop_iterErr hw hc, h.loop_takesZero hw hc, h.loop_iterResult hw hc]

theorem State.changesOnly.loop_iterClamped (fresh : Bool) : u.iterClamped c r fresh = s.iterClamped c r fresh := by
  rw [State.iterClamped, State.iterClamped, h.loop_iterRes hw hc, h.loop_p0 hw hc, h.loop_chan, h.loop_param hw, h.loop_param hw]

end

/-- R122: an iteration is due only on an engine in service. -/
theorem State.iterationDue_unretired {s : State} {c : Nat} (h : s.iterationDue c = true) : s.engRetired (s.engineOf c) = false := by
  simp only [State.iterationDue, Bool.and_eq_true, Bool.not_eq_true'] at h
  obtain ⟨⟨⟨-, hr⟩, -⟩, -⟩ := h
  exact hr

section
variable {s : State} {c : Nat} (hc : c < 512) (hdue : s.iterationDue c = true) (rd : Reading) (r : EngResult)
include hc hdue

theorem exec_engineIteration : exec (.engineIteration c rd r) s
    = .next ((s.ranReading c rd r.corrected).concludes c r (s.engineOf c) ((s.takesReading c rd).iterFresh c rd)).settle := by
  change onUnit c 512 s (if s.iterationDue c then s.iterate c rd r else s) = _
  obtain ⟨hfresh, -⟩ := State.ranReading_fresh (s := s) hc rd r.corrected
  rw [onUnit_next _ _ _ _ hc, if_pos hdue, State.iterate_concludes, hfresh]

/-- R129: an iteration whose result retires the engine. -/
theorem exec_engineIteration_retires {cause : Nat} (h4 : cause ≠ 4) (he : s.engineOf c < 528) (hn : s.get ENG_POOL.RETIRED < 16)
    (hret : (s.ranReading c rd r.corrected).concludes c r (s.engineOf c) ((s.takesReading c rd).iterFresh c rd)
      = (s.ranReading c rd r.corrected).retire (s.engineOf c) cause) :
    ∃ t, exec (.engineIteration c rd r) s = .next t ∧ s.engineRetired t (s.engineOf c) cause [.dmem, .refs, .free] (s.iterWords c) := by
  refine ⟨_, exec_engineIteration hc hdue rd r, ?_⟩
  rw [hret]
  exact (State.ranReading_changesOnly hc rd r.corrected).retire_effect State.iterWords_loopKey (by simp) (by simp) he
    (State.iterationDue_unretired hdue) hn h4

/-- R122, R123: an iteration whose result passes. -/
theorem exec_engineIteration_posts (hin : r.offset ≤ 380)
    (hok : (r.checkOk && s.iterClamped c r ((s.takesReading c rd).iterFresh c rd)) = true) :
    ∃ t, exec (.engineIteration c rd r) s = .next t
      ∧ t.chan c = (s.chan c).postedWith
          ⟨s.iterRes c r ((s.takesReading c rd).iterFresh c rd), s.iterErr c r, s.dev.tick + 1,
            (s.takesReading c rd).iterFresh c rd, false⟩
          (s.iterZero c r) (s.takesZero c)
          (if (s.takesReading c rd).iterFresh c rd && (s.takesReading c rd).iterQualified c then some s.dev.tick else (s.chan c).lastFresh)
      ∧ t.posts = s.posts ++ [(r.offset, s.engineOf c)] ∧ s.onlyChan t c
      ∧ (∀ f, t.flow f = (s.flow f).spend c)
      ∧ s.counted t .ENG_DMEM_CORR_CNT 0 r.corrected
      ∧ s.frame t [.chans, .posts, .dmem, .refs, .twl, .free] (s.iterWords c) := by
  have hexec := exec_engineIteration hc hdue rd r
  have hch := State.ranReading_changesOnly (s := s) hc rd r.corrected
  have hcorr := State.ranReading_counted (s := s) hc rd r.corrected
  obtain ⟨-, hqual⟩ := State.ranReading_fresh (s := s) hc rd r.corrected
  generalize (s.takesReading c rd).iterFresh c rd = fresh at *
  generalize s.ranReading c rd r.corrected = v at *
  have hkey := State.iterWords_loopKey (s := s) (c := c)
  rw [State.concludes_posts _ hin (by rw [hch.loop_iterClamped hkey hc, hok]), hch.loop_iterRes hkey hc, hch.loop_iterErr hkey hc,
    hch.loop_tick, hch.loop_iterZero hkey hc, hch.loop_takesZero hkey hc] at hexec
  refine ⟨_, hexec, ?_⟩
  obtain ⟨hchan, hposts, honly, hflows⟩ := v.post_effect c r.offset
    ⟨s.iterRes c r fresh, s.iterErr c r, s.dev.tick + 1, fresh, false⟩ (s.iterZero c r) (s.takesZero c)
  have hpost := v.post_changesOnly c r.offset
    ⟨s.iterRes c r fresh, s.iterErr c r, s.dev.tick + 1, fresh, false⟩ (s.iterZero c r) (s.takesZero c)
  refine ⟨?_, ?_, fun k hk => ?_, fun f => ?_, ?_, ((hch.mono (by simp) (by simp)).trans (hpost.mono (by simp) (by simp))).frame⟩
  · rw [hchan, hch.loop_chan, hch.loop_tick, hqual]
  · rw [hposts, hch.part .posts (by simp), hch.engineOf_eq hkey hc]
  · rw [honly k hk, hch.loop_chan]
  · rw [hflows, State.flow, State.flow, hch.part .twl (by simp)]
  · exact State.counted_congr ((State.settle_rd_of ..).trans (hpost.rd_eq (by simp))) hcorr

end

/-- Settles O20: what a program computes reads the same after the engine's run and its reading, so the post and the two retirements are those
of the state before them. -/
theorem engineIterations : Obligations.EngineIterations := by
  unfold Obligations.EngineIterations
  intro s c rd r hc hdue u fresh joins ph zero err res ok words
  refine ⟨fun hin hok => exec_engineIteration_posts hc hdue rd r hin hok, fun he hn => ⟨fun hlate => ?_, fun hin hbad => ?_⟩⟩
  · exact exec_engineIteration_retires hc hdue rd r (by decide) he hn (State.concludes_late _ _ hlate)
  · have hch := State.ranReading_changesOnly (s := s) hc rd r.corrected
    exact exec_engineIteration_retires hc hdue rd r (by decide) he hn
      (State.concludes_failed _ hin (by rw [hch.loop_iterClamped State.iterWords_loopKey hc]; exact hbad))

end Sys2Proof.Machine

namespace Sys2Proof.Machine

/-! ### A message of the return lane (R147, R148) -/

/-- R148: the sequence check of a message counts a gap and keeps its number. -/
theorem State.rxSequence_effect (s : State) (n : Nat) :
    s.counted (s.rxSequence n) .TWL_RX_SEQGAP_CNT 0 (if s.twl.rxSeq.any fun q => (q + 1) % 65536 != n % 65536 then 1 else 0)
      ∧ (s.rxSequence n).twl = { s.twl with rxSeq := some (n % 65536) }
      ∧ s.changesOnly (s.rxSequence n) [.twl] [(.TWL_RX_SEQGAP_CNT, 0)] := by
  refine ⟨State.counted_congr (State.mk_rd ..) (s.cond_inc_counts _ _), ?_, ?_⟩
  · unfold State.rxSequence State.cond
    dsimp only
    split <;> simp
  · exact (State.changesOnly_cond (s.changesOnly_inc _ _ _ (by simp))).trans (State.changesOnly_twl _ _ _ (by simp))

section
variable {s : State} {os : List Octet} (cyc : Nat) (hr : s.rxReads = true) (hc : returnCrcOk os = true)
include hr hc

/-- R148: a message of unknown content counts once its sequence has been checked. -/
theorem State.rxMessage_unknown (hm : returnMsg os = .unknown) :
    s.rxMessage os cyc = (s.rxSequence (beAt os 1 2)).inc .TWL_RX_TYPE_CNT := by
  unfold State.rxMessage
  rw [if_neg (by simp [hr]), if_neg (by simp [hc])]
  dsimp only
  rw [hm]

/-- R148, R150: an ack is taken once its sequence has been checked. -/
theorem State.rxMessage_ack {tag status port ch : Nat} {ts : Timestamp} (hm : returnMsg os = .ack tag status port ch ts) :
    s.rxMessage os cyc = (s.rxSequence (beAt os 1 2)).rxAck tag status port ch ts := by
  unfold State.rxMessage
  rw [if_neg (by simp [hr]), if_neg (by simp [hc])]
  dsimp only
  rw [hm]

end

theorem exec_twlRxBadMessage_unknown {s : State} {body : BitVec 152} {crc : Word} (hr : s.rxReads = true)
    (hc : returnCrcOk (returnOctets body crc) = true) (hu : returnMsg (returnOctets body crc) = .unknown) :
    let n := beAt (returnOctets body crc) 1 2
    ∃ t, exec (.twlRxBadMessage body crc) s = .next t
      ∧ s.counted t .TWL_RX_TYPE_CNT 0 1
      ∧ s.counted t .TWL_RX_SEQGAP_CNT 0 (if s.twl.rxSeq.any fun q => (q + 1) % 65536 != n % 65536 then 1 else 0)
      ∧ t.twl = { s.twl with rxSeq := some (n % 65536) }
      ∧ s.frame t [.twl] [(.TWL_RX_TYPE_CNT, 0), (.TWL_RX_SEQGAP_CNT, 0)] := by
  obtain ⟨hgap, htwl, hch⟩ := s.rxSequence_effect (beAt (returnOctets body crc) 1 2)
  have hexec : exec (.twlRxBadMessage body crc) s
      = .next ((s.rxSequence (beAt (returnOctets body crc) 1 2)).inc .TWL_RX_TYPE_CNT).settle :=
    congrArg done (State.rxMessage_unknown 0 hr hc hu)
  refine ⟨_, hexec, ?_, State.counted_congr ?_ hgap, ?_, ((hch.mono (by simp) (by simp)).inc _ 0 (by simp)).frame⟩
  · rw [State.counted, State.settle_rd_of, State.rd_inc_same, hch.rd_eq (by decide)]
  · rw [State.settle_rd_of, State.rd_inc_ne _ _ _ (by decide)]
  · rw [State.settle_twl, State.inc_twl, htwl]

theorem exec_twlRxBadMessage_crc {s : State} {body : BitVec 152} {crc : Word} (hr : s.rxReads = true)
    (hc : returnCrcOk (returnOctets body crc) = false) :
    ∃ t, exec (.twlRxBadMessage body crc) s = .next t ∧ s.counted t .TWL_RX_CRC_CNT 0 1 ∧ s.frame t [] [(.TWL_RX_CRC_CNT, 0)] := by
  have hexec : exec (.twlRxBadMessage body crc) s = .next (s.inc .TWL_RX_CRC_CNT).settle :=
    congrArg done ((if_neg (by simp [hr])).trans (if_pos (by simp [hc])))
  refine ⟨_, hexec, State.counted_congr (State.settle_rd_of ..) (s.rd_inc_same _ _), (s.changesOnly_inc _ _ _ (by simp)).frame⟩

/-- R148: block lock returns, and the next message is not compared. -/
theorem exec_twlRxBlockLock_effect {s : State} (hl : s.rst.level < 4) (hs : s.rst.settled = true) (hsoft : bitOf (s.get RST_STS.SOFT) 0 = false) :
    ∃ t, exec .twlRxBlockLock s = .next t
      ∧ t.rd .TWL_STS = TWL_STS.RX_LOCK.put (s.rd .TWL_STS) 1 ∧ t.twl = { s.twl with rxSeq := none }
      ∧ s.frame t [.twl] [(.TWL_STS, 0)] := by
  have hexec : exec .twlRxBlockLock s = .next ({ s.set TWL_STS.RX_LOCK 1 with twl := { s.twl with rxSeq := none } } : State).settle :=
    congrArg done (if_neg (by simp [hs, hsoft]; omega))
  refine ⟨_, hexec, ?_, rfl, ((s.changesOnly_set TWL_STS.RX_LOCK 1 0 _ (by simp)).trans (State.changesOnly_twl _ _ _ (by simp))).frame⟩
  rw [State.settle_rd_of, State.mk_rd, s.rd_set_same _ _ _ rfl]

/-- R148: block lock is lost; under RX_EN the loss counts. -/
theorem exec_twlRxBlockLockLoss_effect {s : State} (hlock : s.on TWL_STS.RX_LOCK = true) :
    ∃ t, exec .twlRxBlockLockLoss s = .next t
      ∧ t.rd .TWL_STS = TWL_STS.RX_LOCK.put (s.rd .TWL_STS) 0
      ∧ s.counted t .TWL_RX_BLK_CNT 0 (if s.on TWL_CTL.RX_EN then 1 else 0)
      ∧ s.frame t [] [(.TWL_STS, 0), (.TWL_RX_BLK_CNT, 0)] := by
  have hexec : exec .twlRxBlockLockLoss s
      = .next ((s.set TWL_STS.RX_LOCK 0).cond (s.on TWL_CTL.RX_EN) (·.inc .TWL_RX_BLK_CNT)).settle := congrArg done (if_pos hlock)
  have hcnt := (s.set TWL_STS.RX_LOCK 0).cond_inc_counts (s.on TWL_CTL.RX_EN) .TWL_RX_BLK_CNT
  have hinc (parts : List Part) {words : List (Rg × Nat)} (hw : (Rg.TWL_RX_BLK_CNT, 0) ∈ words) :
      (s.set TWL_STS.RX_LOCK 0).changesOnly ((s.set TWL_STS.RX_LOCK 0).cond (s.on TWL_CTL.RX_EN) (·.inc .TWL_RX_BLK_CNT)) parts words :=
    State.changesOnly_cond (State.changesOnly_inc _ _ _ parts hw)
  refine ⟨_, hexec, ?_, ?_, ?_⟩
  · rw [State.settle_rd_of, (hinc [] (List.mem_singleton_self _)).rd_eq (by decide), s.rd_set_same _ _ _ rfl]
  · rw [State.counted, State.settle_rd_of, hcnt, s.rd_set_ne _ _ _ (by decide)]
  · exact ((s.changesOnly_set TWL_STS.RX_LOCK 0 0 _ (by simp)).trans (hinc _ (by simp))).frame

/-! ### An egress stamp in the scales of its users (R151, R152, R154) -/

/-- Two states in which a stamp converts alike: time, jumps and free values are the same. -/
def State.stampsAlike (s u : State) : Prop :=
  u.chans = s.chans ∧ u.dev = s.dev ∧ u.free = s.free ∧ u.twl.jump = s.twl.jump ∧ ∀ c, u.p0 c = s.p0 c

/-- The nominal period of a channel is read from the words at 4 and 8 of its page. -/
theorem State.p0_congr {s u : State} (h : ∀ (r : Rg) (i : Nat), r.key i % 0x400 = 4 ∨ r.key i % 0x400 = 8 → u.rd r i = s.rd r i) (c : Nat) :
    u.p0 c = s.p0 c := by
  have klo : Rg.CH_PNOM_LO.key c = 0x80004 + 0x400 * c := rfl
  have khi : Rg.CH_PNOM_HI.key c = 0x80008 + 0x400 * c := rfl
  rw [State.p0, State.p0, h _ _ (by omega), h _ _ (by omega)]

theorem State.stampsAlike.convDrop {s u : State} (h : s.stampsAlike u) :
    (s.inc .TWL_CONV_DROP_CNT).stampsAlike (u.inc .TWL_CONV_DROP_CNT) := by
  obtain ⟨hchans, hdev, hfree, hjump, hp0⟩ := h
  have kdrop : Rg.TWL_CONV_DROP_CNT.key 0 = 0x13005c := rfl
  have hinc (v : State) (c : Nat) : (v.inc .TWL_CONV_DROP_CNT).p0 c = v.p0 c :=
    State.p0_congr (fun _ _ hk => v.rd_inc_ne .TWL_CONV_DROP_CNT 0 (by omega)) c
  exact ⟨by simp [hchans], by simp [hdev], by simp [hfree], by simp [hjump], fun c => by rw [hinc, hinc, hp0]⟩

theorem State.stampsAlike.drawn {s u : State} (h : s.stampsAlike u) (n : Nat) : (s.drawNat n).2.stampsAlike (u.drawNat n).2 := by
  obtain ⟨hchans, hdev, hfree, hjump, hp0⟩ := h
  exact ⟨hchans, hdev, congrArg (· + 1) hfree, hjump, hp0⟩

section
variable {s u : State} (h : s.stampsAlike u) (c k : Nat)
include h

theorem State.stampsAlike.chan : u.chan c = s.chan c := by
  obtain ⟨hchans, -⟩ := h
  rw [State.chan, State.chan, hchans]

theorem State.stampsAlike.stampTime (t : Timestamp) : u.stampTime k t = s.stampTime k t := by
  simp only [State.stampTime, State.fullTs, h.chan]

theorem State.stampsAlike.jumped (st : Int) : u.jumped c k st = s.jumped c k st := by
  have hch := h.chan
  obtain ⟨-, hdev, -, hjump, hp0⟩ := h
  have hjumps : u.jumps = s.jumps := funext fun c => by rw [State.jumps, State.jumps, hdev, hjump]
  have hsince : u.sinceJump k = s.sinceJump k := funext fun j => by rw [State.sinceJump, State.sinceJump, hch, hdev, hp0]
  rw [State.jumped, State.jumped, hch, hjumps, hsince]

theorem State.stampsAlike.convertStamp (st : Nat) : u.convertStamp c k st = s.convertStamp c k st := by
  have hch := h.chan
  obtain ⟨-, -, -, -, hp0⟩ := h
  simp only [State.convertStamp, hch, hp0]

/-- R152: a stamp that is handed to channel `c` converts alike, and leaves the states alike. -/
theorem State.stampsAlike.takeStamp (valid : Bool) (t : Timestamp) :
    (u.takeStamp c k valid t).1 = (s.takeStamp c k valid t).1 ∧ (s.takeStamp c k valid t).2.stampsAlike (u.takeStamp c k valid t).2 := by
  have hdraw : (u.drawNat 2).1 = (s.drawNat 2).1 := by
    obtain ⟨-, -, hfree, -⟩ := h
    rw [State.drawNat, State.drawNat, hfree]
  unfold State.takeStamp
  dsimp only
  rw [h.stampTime, h.chan, h.jumped, h.convertStamp, hdraw]
  split
  · exact ⟨rfl, h⟩
  · split
    · exact ⟨rfl, h.convDrop⟩
    · split
      · exact ⟨rfl, h.convDrop⟩
      · exact ⟨rfl, h⟩
      · split
        · exact ⟨rfl, (h.drawn 2).convDrop⟩
        · exact ⟨rfl, h.drawn 2⟩

end

/-- R152: the stamp handed to the channels `cs` in turn, after the scales `acc` found before. -/
def State.stampsFor (s : State) (k : Nat) (valid : Bool) (t : Timestamp) (cs : List Nat) (acc : Stamps) : Stamps × State :=
  cs.foldl (fun r c =>
    let x := r.2.takeStamp c k valid t
    (x.1.elim r.1 fun v => r.1 ++ [(c, v)], x.2)) (acc, s)

theorem State.takeStamps_eq (s : State) (f k : Nat) (valid : Bool) (t : Timestamp) :
    s.takeStamps f k valid t = s.stampsFor k valid t (s.flowUsers f) [] := rfl

theorem State.stampsFor_congr {s u : State} (h : s.stampsAlike u) (k : Nat) (valid : Bool) (t : Timestamp) (cs : List Nat) (acc : Stamps) :
    (u.stampsFor k valid t cs acc).1 = (s.stampsFor k valid t cs acc).1 := by
  induction cs generalizing s u acc with
  | nil => rfl
  | cons c cs ih =>
    obtain ⟨htaken, halike⟩ := h.takeStamp c k valid t
    refine (ih halike _).trans ?_
    rw [htaken]
    rfl

/-- R151, R152: a stamp may count as discarded and take a free value. -/
theorem State.takeStamp_changesOnly (s : State) (c k : Nat) (valid : Bool) (t : Timestamp) :
    s.changesOnly (s.takeStamp c k valid t).2 [.free] [(.TWL_CONV_DROP_CNT, 0)] := by
  have hdrop : s.changesOnly (s.inc .TWL_CONV_DROP_CNT) [.free] [(.TWL_CONV_DROP_CNT, 0)] := s.changesOnly_inc _ _ _ (by simp)
  have hdraw : s.changesOnly (s.drawNat 2).2 [.free] [(.TWL_CONV_DROP_CNT, 0)] := s.changesOnly_free _ _ (by simp)
  unfold State.takeStamp
  dsimp only
  split
  · exact s.changesOnly_refl _ _
  · split
    · exact hdrop
    · split
      · exact hdrop
      · exact s.changesOnly_refl _ _
      · split
        · exact hdraw.inc _ _ (by simp)
        · exact hdraw

theorem State.takeStamps_changesOnly (s : State) (f k : Nat) (valid : Bool) (t : Timestamp) :
    s.changesOnly (s.takeStamps f k valid t).2 [.free] [(.TWL_CONV_DROP_CNT, 0)] := by
  have hall (cs : List Nat) : ∀ (u : State) (acc : Stamps),
      u.changesOnly (u.stampsFor k valid t cs acc).2 [.free] [(.TWL_CONV_DROP_CNT, 0)] := by
    induction cs with
    | nil => exact fun u _ => u.changesOnly_refl _ _
    | cons c cs ih => exact fun u acc => (u.takeStamp_changesOnly c k valid t).trans (ih _ _)
  exact hall _ s []

/-- R159: the offsets that complete the exchange of flow `f`. -/
def State.completed (s : State) (f : Nat) (x : Exchange) : Stamps :=
  x.t2.filterMap fun q => (exchangeOffset (s.flowPeerDelay f) (s.flowAsym f) x q.1).map fun o => (q.1, o)

/-- R158: what completes an exchange is read from the words of the flows and from the parameters. -/
theorem State.completed_congr {s u : State} (h : ∀ {r : Rg} {i : Nat}, 0x130400 ≤ r.info.base → u.rd r i = s.rd r i) (f : Nat) (x : Exchange) :
    u.completed f x = s.completed f x := by
  have hhome : u.flowHome f = s.flowHome f := congrArg FLOW_CFG.CHANNEL.of (h (r := .FLOW_CFG) (by decide))
  have hasym : u.flowAsym f = s.flowAsym f := congrArg (fun w => signedOf 24 (FLOW_ASYM.ASYM.of w) * 256) (h (r := .FLOW_ASYM) (by decide))
  have hpd : u.flowPeerDelay f = s.flowPeerDelay f := by
    rw [State.flowPeerDelay, State.flowPeerDelay, hhome, State.param, State.param, h (by decide)]
  rw [State.completed, State.completed, hpd, hasym]

/-! ### What a message of the return lane leaves to read (R148, R150) -/

section
variable {s u : State} (h : s.changesOnly u [.twl] [(.TWL_RX_SEQGAP_CNT, 0), (.TWL_ACK_DROP_CNT, 0)])
include h

theorem State.changesOnly.heard_rd {r : Rg} {i : Nat} (hgap : 0x130048 ≠ r.key i) (hdrop : 0x130054 ≠ r.key i) : u.rd r i = s.rd r i :=
  h.rd_eq (List.forall_mem_cons.mpr ⟨hgap, List.forall_mem_singleton.mpr hdrop⟩)

/-- The words of the flows stand above the counters of the return lane. -/
theorem State.changesOnly.heard_rd_above {r : Rg} {i : Nat} (hhigh : 0x130400 ≤ r.info.base) : u.rd r i = s.rd r i := by
  have hkey : r.info.base ≤ r.key i := Nat.le_add_right _ _
  exact h.heard_rd (by omega) (by omega)

theorem State.changesOnly.heard_flowHome (f : Nat) : u.flowHome f = s.flowHome f :=
  congrArg FLOW_CFG.CHANNEL.of (h.heard_rd_above (r := .FLOW_CFG) (by decide))

theorem State.changesOnly.heard_chmap {c : Nat} (hc : c < 512) : u.rd .ENG_CHMAP c = s.rd .ENG_CHMAP c := by
  have kmap : Rg.ENG_CHMAP.key c = 0x120000 + 4 * c := rfl
  exact h.heard_rd (by omega) (by omega)

theorem State.changesOnly.heard_mode : u.mode = s.mode := congrArg DEV_MODE.MODE.of (h.heard_rd (r := .DEV_MODE) (by decide) (by decide))

theorem State.changesOnly.heard_isStep : u.isStep = s.isStep := congrArg (· == 7) h.heard_mode

theorem State.changesOnly.heard_fromStream (f : Nat) : u.fromStream (u.flowHome f) = s.fromStream (s.flowHome f) := by
  have hprog : u.prog (s.flowHome f) = s.prog (s.flowHome f) := congrArg ENG_CHMAP.PROG.of (h.heard_chmap (FLOW_CFG.CHANNEL.of_lt _))
  have hrole : u.isStandby = s.isStandby :=
    congrArg (PAIR_STS.ROLE.of · == 2) (h.heard_rd (r := .PAIR_STS) (by decide) (by decide))
  rw [h.heard_flowHome, State.fromStream, State.fromStream, hprog, h.heard_isStep, hrole, h.heard_mode, h.part .pair (by simp)]

theorem State.changesOnly.heard_param (c w : Nat) : u.param c w = s.param c w :=
  congrArg BitVec.toNat (h.heard_rd_above (r := .PARAM) (by decide))

theorem State.changesOnly.heard_flowUsers (f : Nat) : u.flowUsers f = s.flowUsers f := by
  refine List.filter_congr fun c hc => ?_
  have hprog : u.prog c = s.prog c := congrArg ENG_CHMAP.PROG.of (h.heard_chmap (List.mem_range.mp hc))
  have hchan : u.get FLOW_CFG.CHANNEL f = s.get FLOW_CFG.CHANNEL f := h.heard_flowHome f
  have hentry : u.entry c = s.entry c := funext fun j => by rw [State.entry, State.entry, h.heard_param]
  rw [hprog, hchan, State.entries, State.entries, hentry]

theorem State.changesOnly.heard_stampsAlike (hjump : u.twl.jump = s.twl.jump) : s.stampsAlike u :=
  ⟨h.part .chans (by simp), h.part .dev (by simp), h.part .free (by simp), hjump,
    State.p0_congr fun _ _ hk => h.heard_rd (by omega) (by omega)⟩

theorem State.changesOnly.heard_takeStamps (hjump : u.twl.jump = s.twl.jump) (f k : Nat) (valid : Bool) (t : Timestamp) :
    (u.takeStamps f k valid t).1 = (s.takeStamps f k valid t).1 := by
  rw [State.takeStamps_eq, State.takeStamps_eq, h.heard_flowUsers]
  exact State.stampsFor_congr (h.heard_stampsAlike hjump) _ _ _ _ _

theorem State.changesOnly.heard_completed (f : Nat) (x : Exchange) : u.completed f x = s.completed f x :=
  State.completed_congr h.heard_rd_above f x

theorem State.changesOnly.heard_requestOut (hflows : u.twl.flows = s.twl.flows) (f seq : Nat) : u.requestOut f seq = s.requestOut f seq := by
  have hact : u.flowActive f = s.flowActive f :=
    State.flowActive_congr (h.heard_rd_above (by decide)) (h.heard_chmap (FLOW_CFG.CHANNEL.of_lt _))
  rw [State.requestOut, State.requestOut, hact, State.flow, State.flow, hflows]

end

/-! ### The request that a stamp belongs to (R150, R158, R159) -/

theorem State.missRequest_effect (s : State) (f : Nat) :
    (s.missRequest f).flow f = { s.flow f with exch := (s.flow f).exch.dropRequest } ∧ s.onlyFlow (s.missRequest f) f
      ∧ s.counted (s.missRequest f) .FLOW_MISS_CNT f 1 ∧ s.changesOnly (s.missRequest f) [.twl] [(.FLOW_MISS_CNT, f)] := by
  have hflow (k : Nat) : (s.missRequest f).flow k = (s.setFlow f { s.flow f with exch := (s.flow f).exch.dropRequest }).flow k := rfl
  refine ⟨?_, fun k hk => ?_, ?_, (s.setFlow_changesOnly f _ _ (by simp)).trans (State.changesOnly_inc _ .FLOW_MISS_CNT f _ (by simp))⟩
  · rw [hflow, State.flow_setFlow_same]
  · rw [hflow, State.flow_setFlow_ne _ _ hk.symm]
  · exact (s.setFlow f { s.flow f with exch := (s.flow f).exch.dropRequest }).rd_inc_same .FLOW_MISS_CNT f

/-- R159: a lost stamp ends the request that is out and has none yet. -/
theorem State.loseRequestStamp_out {s : State} {f seq : Nat} (ho : s.requestOut f seq = true) (h3 : (s.flow f).exch.t3 = []) :
    s.loseRequestStamp f seq = s.missRequest f := if_pos ⟨ho, h3⟩

theorem State.loseAck_request {s : State} {m : OutMsg} {f : Nat} (hk : m.kind = .delayReq f ∨ m.kind = .pdelayReq f) :
    s.loseAck m = s.loseRequestStamp f m.seqId := by
  obtain hk | hk := hk <;> rw [State.loseAck, hk]

theorem State.loseAck_other {s : State} {m : OutMsg} (hk : ∀ f, m.kind ≠ .delayReq f ∧ m.kind ≠ .pdelayReq f) : s.loseAck m = s := by
  unfold State.loseAck
  split
  · rename_i f he
    exact absurd he (hk f).1
  · rename_i f he
    exact absurd he (hk f).2
  · rfl

theorem State.tryComplete_open {s : State} {f : Nat} (h : s.completed f (s.flow f).exch = []) : s.tryComplete f = s :=
  if_pos (List.isEmpty_iff.mpr h)

theorem State.tryComplete_changesOnly (s : State) (f : Nat) : s.changesOnly (s.tryComplete f) [.twl] [] := by
  unfold State.tryComplete
  dsimp only
  split
  · exact s.changesOnly_refl _ _
  · exact s.setFlow_changesOnly f _ _ (by simp)

theorem State.tryComplete_onlyFlow (s : State) (f : Nat) : s.onlyFlow (s.tryComplete f) f := by
  intro k hk
  unfold State.tryComplete
  dsimp only
  split
  · rfl
  · exact s.flow_setFlow_ne _ hk.symm

theorem State.tryComplete_completes {s : State} {f : Nat} (h : s.completed f (s.flow f).exch ≠ []) :
    ((s.tryComplete f).flow f).done = s.completed f (s.flow f).exch ++ (s.flow f).done ∧ ((s.tryComplete f).flow f).exch.t1 = none
      ∧ ((s.tryComplete f).flow f).exch.t2 = [] := by
  have hset : s.tryComplete f = s.setFlow f { s.flow f with
      exch := if s.flowPeerDelay f then { (s.flow f).exch with t1 := none, t2 := [], cSync := 0 } else Exchange.empty
      done := s.completed f (s.flow f).exch ++ (s.flow f).done } := if_neg fun he => h (List.isEmpty_iff.mp he)
  rw [hset, State.flow_setFlow_same]
  dsimp only
  split <;> exact ⟨rfl, rfl, rfl⟩

/-- R158: the flow `f` has taken the stamp of its request. -/
def State.stamped (s : State) (f k : Nat) (t : Timestamp) : State :=
  (s.takeStamps f k true t).2.setFlow f { s.flow f with exch := { (s.flow f).exch with t3 := (s.takeStamps f k true t).1 } }

theorem State.stamped_changesOnly (s : State) (f k : Nat) (t : Timestamp) :
    s.changesOnly (s.stamped f k t) [.twl, .free] [(.TWL_CONV_DROP_CNT, 0)] :=
  ((s.takeStamps_changesOnly f k true t).mono (by simp) (by simp)).trans (State.setFlow_changesOnly _ _ _ _ (by simp))

theorem State.takeRequestStamp_out {s : State} {f seq : Nat} (k : Nat) (t : Timestamp) (ho : s.requestOut f seq = true) :
    s.takeRequestStamp f seq k t
      = if (s.takeStamps f k true t).1.isEmpty then (s.stamped f k t).missRequest f else (s.stamped f k t).tryComplete f := if_pos ho

theorem State.stamped_flow (s : State) (f k : Nat) (t : Timestamp) :
    (s.stamped f k t).flow f = { s.flow f with exch := { (s.flow f).exch with t3 := (s.takeStamps f k true t).1 } }
      ∧ s.onlyFlow (s.stamped f k t) f := by
  have htwl : (s.takeStamps f k true t).2.twl = s.twl := (s.takeStamps_changesOnly f k true t).part .twl (by simp)
  exact ⟨State.flow_setFlow_same _ _ _, fun j hj => (State.flow_setFlow_ne _ _ hj.symm).trans (by rw [State.flow, htwl, State.flow])⟩

/-- R158: what completes an exchange is the same once the stamp is taken. -/
theorem State.stamped_completed (s : State) (f k : Nat) (t : Timestamp) (x : Exchange) : (s.stamped f k t).completed f x = s.completed f x := by
  refine State.completed_congr (fun {r i} hbase => (s.stamped_changesOnly f k t).rd_eq (List.forall_mem_singleton.mpr ?_)) f x
  have hkey : r.info.base ≤ r.key i := Nat.le_add_right _ _
  have kdrop : Rg.TWL_CONV_DROP_CNT.key 0 = 0x13005c := rfl
  dsimp only
  omega

/-- R150, R152, R158, R159: the egress stamp of the request that flow `f` has out. -/
theorem State.takeRequestStamp_effect {s : State} {f seq : Nat} (k : Nat) (t : Timestamp) (ho : s.requestOut f seq = true) :
    let at_ := (s.takeStamps f k true t).1
    let x := { (s.flow f).exch with t3 := at_ }
    let u := s.takeRequestStamp f seq k t
    (at_ = [] → u.flow f = { s.flow f with exch := (s.flow f).exch.dropRequest })
      ∧ (at_ ≠ [] → s.completed f x = [] → u.flow f = { s.flow f with exch := x })
      ∧ (at_ ≠ [] → s.completed f x ≠ [] → (u.flow f).done = s.completed f x ++ (s.flow f).done ∧ (u.flow f).exch.t1 = none
          ∧ (u.flow f).exch.t2 = [])
      ∧ s.counted u .FLOW_MISS_CNT f (if at_ = [] then 1 else 0) ∧ s.onlyFlow u f
      ∧ s.changesOnly u [.twl, .free] [(.TWL_CONV_DROP_CNT, 0), (.FLOW_MISS_CNT, f)] := by
  dsimp only
  rw [State.takeRequestStamp_out k t ho]
  have hch := s.stamped_changesOnly f k t
  have hcomp := s.stamped_completed f k t
  obtain ⟨hflow, honly⟩ := s.stamped_flow f k t
  have kmiss : Rg.FLOW_MISS_CNT.key f = 0x13040c + 0x10 * f := rfl
  have kdrop : Rg.TWL_CONV_DROP_CNT.key 0 = 0x13005c := rfl
  have hmiss : (s.stamped f k t).rd .FLOW_MISS_CNT f = s.rd .FLOW_MISS_CNT f := hch.rd_eq (by simp only [List.forall_mem_singleton]; omega)
  generalize s.stamped f k t = u at *
  by_cases hat : (s.takeStamps f k true t).1 = []
  · obtain ⟨hm, hmo, hmc, hmch⟩ := u.missRequest_effect f
    simp only [hat, List.isEmpty_nil, if_true, ne_eq, not_true_eq_false, false_implies, true_implies, true_and]
    refine ⟨?_, ?_, fun j hj => (hmo j hj).trans (honly j hj), (hch.mono (by simp) (by simp)).trans (hmch.mono (by simp) (by simp))⟩
    · simp only [hm, hflow, Exchange.dropRequest]
    · rw [State.counted, hmiss] at hmc
      exact hmc
  · have hempty : (s.takeStamps f k true t).1.isEmpty = false := by simpa using hat
    simp only [hat, hempty, Bool.false_eq_true, if_false, ne_eq, not_false_eq_true, false_implies, true_implies, true_and]
    have hrest := u.tryComplete_changesOnly f
    refine ⟨fun hnone => ?_, fun hsome => ?_, ?_, fun j hj => (u.tryComplete_onlyFlow f j hj).trans (honly j hj),
      (hch.mono (by simp) (by simp)).trans (hrest.mono (by simp) (by simp))⟩
    · rw [State.tryComplete_open (by rw [hcomp, hflow]; exact hnone), hflow]
    · obtain ⟨hdone, ht1, ht2⟩ := State.tryComplete_completes (s := u) (f := f) (by rw [hcomp, hflow]; exact hsome)
      rw [hcomp, hflow] at hdone
      exact ⟨hdone, ht1, ht2⟩
    · exact State.counted_zero ((hrest.rd_eq (by simp)).trans hmiss)

/-! ### Acks and tags (R147, R148, R150) -/

/-- R148, R150: an ack that has been read: its sequence is checked, and one that does not stamp counts. -/
def State.heardAck (s : State) (n status : Nat) : State := (s.rxSequence n).cond (status != 0) (·.inc .TWL_ACK_DROP_CNT)

theorem State.heardAck_stamped (s : State) (n : Nat) : s.heardAck n 0 = s.rxSequence n := rfl

theorem State.heardAck_twl (s : State) (n status : Nat) : (s.heardAck n status).twl = { s.twl with rxSeq := some (n % 65536) } := by
  obtain ⟨-, htwl, -⟩ := s.rxSequence_effect n
  unfold State.heardAck State.cond
  split
  · rw [State.inc_twl, htwl]
  · exact htwl

theorem State.heardAck_changesOnly (s : State) (n status : Nat) :
    s.changesOnly (s.heardAck n status) [.twl] [(.TWL_RX_SEQGAP_CNT, 0), (.TWL_ACK_DROP_CNT, 0)] := by
  obtain ⟨-, -, hch⟩ := s.rxSequence_effect n
  exact (hch.mono (by simp) (by simp)).trans (State.changesOnly_cond (State.changesOnly_inc _ _ _ _ (by simp)))

theorem State.heardAck_counts (s : State) (n status : Nat) :
    s.counted (s.heardAck n status) .TWL_ACK_DROP_CNT 0 (if status = 0 then 0 else 1) := by
  obtain ⟨-, -, hch⟩ := s.rxSequence_effect n
  have hcnt := (s.rxSequence n).cond_inc_counts (status != 0) .TWL_ACK_DROP_CNT
  rw [State.counted, hch.rd_eq (by decide)] at hcnt
  have hif : (if (status != 0) = true then 1 else 0) = if status = 0 then 0 else 1 := by by_cases h : status = 0 <;> simp [h]
  rwa [hif] at hcnt

section
variable {s : State} {tag status port ch : Nat} {ts : Timestamp}

theorem State.rxAck_orphan {n : Nat} (htag : Tab.get none (s.heardAck n status).twl.tags tag = none) :
    (s.rxSequence n).rxAck tag status port ch ts = (s.heardAck n status).inc .TWL_ACK_ORPHAN_CNT := by
  unfold State.heardAck at *
  unfold State.rxAck
  dsimp only
  rw [htag]

theorem State.rxAck_lost {n : Nat} {e : TagEntry} (htag : Tab.get none (s.heardAck n status).twl.tags tag = some e)
    (h11 : (s.heardAck n status).mode ≠ 11) (hst : status ≠ 0) :
    (s.rxSequence n).rxAck tag status port ch ts = (s.heardAck n status).loseAck e.msg := by
  unfold State.heardAck at *
  unfold State.rxAck
  dsimp only
  rw [htag]
  exact (if_neg h11).trans (if_pos hst)

/-- R150: the stamp of a request goes to its flow. -/
theorem State.takeAck_request {m : OutMsg} {f : Nat} (hk : m.kind = .delayReq f ∨ m.kind = .pdelayReq f) :
    s.takeAck m port ch ts = s.takeRequestStamp f m.seqId ch ts := by
  obtain hk | hk := hk <;> rw [State.takeAck, hk]

theorem State.rxAck_request {f : Nat} {e : TagEntry} (htag : Tab.get none s.twl.tags tag = some e)
    (hk : e.msg.kind = .delayReq f ∨ e.msg.kind = .pdelayReq f) (h11 : s.mode ≠ 11) (hstep : s.isStep = false)
    (hfrom : s.fromStream (s.flowHome f) = false) (hstr : s.pair.streaming = false) :
    s.rxAck tag 0 port ch ts = s.takeRequestStamp f e.msg.seqId ch ts := by
  have hstamped : s.cond (0 != 0) (·.inc .TWL_ACK_DROP_CNT) = s := rfl
  have htake := State.takeAck_request (s := s) (port := port) (ch := ch) (ts := ts) hk
  unfold State.rxAck
  dsimp only
  rw [hstamped, htag]
  dsimp only
  rw [if_neg h11, if_neg (by simp)]
  obtain hk | hk := hk <;>
  · rw [hk]
    dsimp only
    rw [if_neg (by simp [hstep, hfrom]), if_neg (by simp [hstr]), htake]

end

section
variable {s : State} {ty : Octet} {q w1 w2 : BitVec 16} {st : BitVec 96} {crc : Word} {tag status port ch : Nat} {ts : Timestamp}
  (hr : s.rxReads = true) (hc : returnCrcOk (ackOctets ty q w1 w2 st crc) = true)
  (hm : returnMsg (ackOctets ty q w1 w2 st crc) = .ack tag status port ch ts)
include hr hc hm

/-- R150: what a stamped ack of the return lane does, once it has been read and its tag looked up. -/
theorem exec_twlStampAck : exec (.twlStampAck ty q w1 w2 st crc) s
    = done ((s.rxSequence (beAt (ackOctets ty q w1 w2 st crc) 1 2)).rxAck tag status port ch ts) :=
  congrArg done (State.rxMessage_ack 0 hr hc hm)

theorem exec_twlStampAck_orphan (htag : Tab.get none s.twl.tags tag = none) :
    exec (.twlStampAck ty q w1 w2 st crc) s
      = .next ((s.heardAck (beAt (ackOctets ty q w1 w2 st crc) 1 2) status).inc .TWL_ACK_ORPHAN_CNT).settle := by
  rw [exec_twlStampAck hr hc hm]
  exact congrArg done (State.rxAck_orphan (by rw [State.heardAck_twl]; exact htag))

theorem exec_twlStampAck_lost {e : TagEntry} (htag : Tab.get none s.twl.tags tag = some e) (h11 : s.mode ≠ 11) (hst : status ≠ 0) :
    exec (.twlStampAck ty q w1 w2 st crc) s
      = .next ((s.heardAck (beAt (ackOctets ty q w1 w2 st crc) 1 2) status).loseAck e.msg).settle := by
  rw [exec_twlStampAck hr hc hm]
  exact congrArg done (State.rxAck_lost (by rw [State.heardAck_twl]; exact htag) (by rwa [(s.heardAck_changesOnly _ status).heard_mode]) hst)

end

/-- R150, R211: the ack of a request goes to its flow where the unit takes its stamps itself. -/
theorem exec_twlStampAck_request {s : State} {ty : Octet} {q w1 w2 : BitVec 16} {st : BitVec 96} {crc : Word} {tag port ch f : Nat}
    {ts : Timestamp} {e : TagEntry} (hr : s.rxReads = true) (hc : returnCrcOk (ackOctets ty q w1 w2 st crc) = true)
    (hm : returnMsg (ackOctets ty q w1 w2 st crc) = .ack tag 0 port ch ts) (htag : Tab.get none s.twl.tags tag = some e)
    (hk : e.msg.kind = .delayReq f ∨ e.msg.kind = .pdelayReq f) (h11 : s.mode ≠ 11) (hstep : s.isStep = false)
    (hfrom : s.fromStream (s.flowHome f) = false) (hstr : s.pair.streaming = false) :
    exec (.twlStampAck ty q w1 w2 st crc) s
      = .next ((s.heardAck (beAt (ackOctets ty q w1 w2 st crc) 1 2) 0).takeRequestStamp f e.msg.seqId ch ts).settle := by
  rw [exec_twlStampAck hr hc hm]
  have hch := s.heardAck_changesOnly (beAt (ackOctets ty q w1 w2 st crc) 1 2) 0
  refine congrArg done (State.rxAck_request (s := s.rxSequence _) (by rw [← State.heardAck_stamped, State.heardAck_twl]; exact htag) hk
    (by rwa [← State.heardAck_stamped, hch.heard_mode]) ?_ ?_ ?_) <;> rw [← State.heardAck_stamped]
  · rwa [hch.heard_isStep]
  · rwa [hch.heard_fromStream]
  · rwa [hch.part .pair (by simp)]

/-- R150: an ack whose tag is not outstanding. -/
theorem exec_twlStampAck_orphan_effect {s : State} {ty : Octet} {q w1 w2 : BitVec 16} {st : BitVec 96} {crc : Word} {tag status port ch : Nat}
    {ts : Timestamp} (hr : s.rxReads = true) (hc : returnCrcOk (ackOctets ty q w1 w2 st crc) = true)
    (hm : returnMsg (ackOctets ty q w1 w2 st crc) = .ack tag status port ch ts) (htag : Tab.get none s.twl.tags tag = none) :
    ∃ t, exec (.twlStampAck ty q w1 w2 st crc) s = .next t
      ∧ s.counted t .TWL_ACK_ORPHAN_CNT 0 1 ∧ s.counted t .TWL_ACK_DROP_CNT 0 (if status = 0 then 0 else 1)
      ∧ t.twl = { s.twl with rxSeq := some (beAt (ackOctets ty q w1 w2 st crc) 1 2 % 65536) }
      ∧ s.frame t [.twl] [(.TWL_ACK_ORPHAN_CNT, 0), (.TWL_ACK_DROP_CNT, 0), (.TWL_RX_SEQGAP_CNT, 0)] := by
  refine ⟨_, exec_twlStampAck_orphan hr hc hm htag, ?_⟩
  generalize beAt (ackOctets ty q w1 w2 st crc) 1 2 = n
  have hch := s.heardAck_changesOnly n status
  refine ⟨?_, State.counted_congr ?_ (s.heardAck_counts n status), ?_, ((hch.mono (by simp) (by simp)).inc _ 0 (by simp)).frame⟩
  · rw [State.counted, State.settle_rd_of, State.rd_inc_same, hch.rd_eq (by decide)]
  · rw [State.settle_rd_of, State.rd_inc_ne _ _ _ (by decide)]
  · rw [State.settle_twl, State.inc_twl, State.heardAck_twl]

section
variable {s : State} {n status f seq : Nat} (ho : s.requestOut f seq = true)
include ho

theorem State.heardAck_requestOut : (s.heardAck n status).requestOut f seq = true :=
  ((s.heardAck_changesOnly n status).heard_requestOut (by rw [State.heardAck_twl]) f seq).trans ho

omit ho in
theorem State.heardAck_flow (k : Nat) : (s.heardAck n status).flow k = s.flow k := by rw [State.flow, State.heardAck_twl, State.flow]

omit ho in
theorem State.heardAck_rd_miss : (s.heardAck n status).rd .FLOW_MISS_CNT f = s.rd .FLOW_MISS_CNT f :=
  (s.heardAck_changesOnly n status).heard_rd_above (by decide)

/-- R150, R159: an ack that does not stamp ends the exchange of the request that is out. -/
theorem State.heardAck_lost_effect (hst : status ≠ 0) (h3 : (s.flow f).exch.t3 = []) :
    let t := ((s.heardAck n status).loseRequestStamp f seq).settle
    s.counted t .TWL_ACK_DROP_CNT 0 1 ∧ s.counted t .FLOW_MISS_CNT f 1
      ∧ t.flow f = { s.flow f with exch := (s.flow f).exch.dropRequest }
      ∧ s.onlyFlow t f ∧ s.frame t [.twl] [(.TWL_ACK_DROP_CNT, 0), (.TWL_RX_SEQGAP_CNT, 0), (.FLOW_MISS_CNT, f)] := by
  have hch := s.heardAck_changesOnly n status
  have hdrop := s.heardAck_counts n status
  have hmiss := s.heardAck_rd_miss (n := n) (status := status) (f := f)
  have hflow := s.heardAck_flow (n := n) (status := status)
  have kmiss : Rg.FLOW_MISS_CNT.key f = 0x13040c + 0x10 * f := rfl
  have kdrop : Rg.TWL_ACK_DROP_CNT.key 0 = 0x130054 := rfl
  dsimp only
  rw [State.loseRequestStamp_out (State.heardAck_requestOut ho) (by rw [hflow]; exact h3)]
  generalize s.heardAck n status = u at *
  obtain ⟨hm, hmo, hmc, hmch⟩ := u.missRequest_effect f
  rw [if_neg hst] at hdrop
  refine ⟨State.counted_congr ?_ hdrop, ?_, ?_, fun k hk => ?_, ((hch.mono (by simp) (by simp)).trans (hmch.mono (by simp) (by simp))).frame⟩
  · rw [State.settle_rd_of]
    exact hmch.rd_eq (by simp only [List.forall_mem_singleton]; omega)
  · rw [State.counted, hmiss] at hmc
    rw [State.counted, State.settle_rd_of, hmc]
  · rw [State.settle_flow, hm, hflow]
  · rw [State.settle_flow, hmo k hk, hflow]

/-- R150, R152, R158, R159: the ack of a request gives its flow the departure time. -/
theorem State.heardAck_taken_effect (ch : Nat) (ts : Timestamp) :
    let at_ := (s.takeStamps f ch true ts).1
    let x := { (s.flow f).exch with t3 := at_ }
    let t := ((s.heardAck n 0).takeRequestStamp f seq ch ts).settle
    (at_ = [] → t.flow f = { s.flow f with exch := (s.flow f).exch.dropRequest })
      ∧ (at_ ≠ [] → s.completed f x = [] → t.flow f = { s.flow f with exch := x })
      ∧ (at_ ≠ [] → s.completed f x ≠ [] → (t.flow f).done = s.completed f x ++ (s.flow f).done ∧ (t.flow f).exch.t1 = none
          ∧ (t.flow f).exch.t2 = [])
      ∧ s.counted t .FLOW_MISS_CNT f (if at_ = [] then 1 else 0) ∧ s.onlyFlow t f
      ∧ s.frame t [.twl, .free] [(.TWL_RX_SEQGAP_CNT, 0), (.TWL_CONV_DROP_CNT, 0), (.FLOW_MISS_CNT, f)] := by
  obtain ⟨-, -, hch⟩ := s.rxSequence_effect n
  have hheard := s.heardAck_changesOnly n 0
  have hflow := s.heardAck_flow (n := n) (status := 0)
  have hmiss := s.heardAck_rd_miss (n := n) (status := 0) (f := f)
  have hstamps := hheard.heard_takeStamps (by rw [State.heardAck_twl]) f ch true ts
  have hcomp (x : Exchange) := hheard.heard_completed f x
  obtain ⟨hnone, hopen, hdone, hcnt, honly, hleft⟩ := State.takeRequestStamp_effect ch ts (State.heardAck_requestOut (n := n) (status := 0) ho)
  dsimp only
  simp only [hstamps, hflow, hcomp, State.settle_flow] at hnone hopen hdone hcnt ⊢
  refine ⟨hnone, hopen, hdone, ?_, fun k hk => ?_, ((hch.mono (by simp) (by simp)).trans (hleft.mono (by simp) (by simp))).frame⟩
  · rw [State.counted, hmiss] at hcnt
    rw [State.counted, State.settle_rd_of, hcnt]
  · rw [State.settle_flow, honly k hk, hflow]

end

/-- R150: the state once `tag` is no longer outstanding. -/
def State.withoutTag (s : State) (tag : Nat) : State := { s with twl := { s.twl with tags := Tab.set none s.twl.tags tag none } }

theorem exec_stampTagExpired (s : State) (tag : Nat) : exec (.stampTagExpired tag) s
    = done ((Tab.get none s.twl.tags tag).elim (s.withoutTag tag) fun e => (s.withoutTag tag).loseAck e.msg) := rfl

theorem exec_stampTagExpired_other {s : State} {tag : Nat}
    (h : ∀ (f : Nat) (e : TagEntry), Tab.get none s.twl.tags tag = some e → e.msg.kind ≠ .delayReq f ∧ e.msg.kind ≠ .pdelayReq f) :
    ∃ t, exec (.stampTagExpired tag) s = .next t
      ∧ t.twl = { s.twl with tags := Tab.set none s.twl.tags tag none } ∧ s.frame t [.twl] [] := by
  have hstay : (Tab.get none s.twl.tags tag).elim (s.withoutTag tag) (fun e => (s.withoutTag tag).loseAck e.msg) = s.withoutTag tag := by
    cases htag : Tab.get none s.twl.tags tag with
    | none => rfl
    | some e => exact State.loseAck_other fun f => h f e htag
  rw [exec_stampTagExpired, hstay]
  exact ⟨_, rfl, rfl, (s.changesOnly_twl _ _ (by simp)).frame⟩

theorem exec_stampTagExpired_request {s : State} {tag f : Nat} {e : TagEntry} (htag : Tab.get none s.twl.tags tag = some e)
    (hk : e.msg.kind = .delayReq f ∨ e.msg.kind = .pdelayReq f) (ho : s.requestOut f e.msg.seqId = true) (h3 : (s.flow f).exch.t3 = []) :
    ∃ t, exec (.stampTagExpired tag) s = .next t
      ∧ t.twl.tags = Tab.set none s.twl.tags tag none ∧ t.flow f = { s.flow f with exch := (s.flow f).exch.dropRequest }
      ∧ s.counted t .FLOW_MISS_CNT f 1 ∧ s.onlyFlow t f ∧ s.frame t [.twl] [(.FLOW_MISS_CNT, f)] := by
  obtain ⟨hm, hmo, hmc, hmch⟩ := (s.withoutTag tag).missRequest_effect f
  have hlost : (s.withoutTag tag).loseAck e.msg = (s.withoutTag tag).missRequest f :=
    (State.loseAck_request hk).trans (State.loseRequestStamp_out ho h3)
  rw [exec_stampTagExpired, htag, Option.elim_some, hlost]
  refine ⟨_, rfl, rfl, (State.settle_flow ..).trans hm, State.counted_congr (State.settle_rd_of ..) hmc, fun k hk => ?_,
    ((s.changesOnly_twl _ _ (by simp)).trans hmch).frame⟩
  exact (State.settle_flow ..).trans (hmo k hk)

/-- Settles O21: what is counted on the way to the tag is read neither by the conversion of the stamp nor by the exchange that it completes. -/
theorem returnLaneAndAcks : Obligations.ReturnLaneAndAcks := by
  unfold Obligations.ReturnLaneAndAcks
  refine ⟨⟨fun s body crc hr => ⟨exec_twlRxBadMessage_unknown hr, exec_twlRxBadMessage_crc hr⟩,
    fun s => exec_twlRxBlockLock_effect, fun s => exec_twlRxBlockLockLoss_effect⟩, ?_,
    fun s tag => ⟨exec_stampTagExpired_other, fun f e => exec_stampTagExpired_request⟩⟩
  intro s ty q w1 w2 st crc tag status port ch ts os hr hc hm
  refine ⟨exec_twlStampAck_orphan_effect hr hc hm, fun f e htag hk h11 ho => ⟨fun hst h3 => ?_, fun hst hstep hfrom hstr => ?_⟩⟩
  · exact ⟨_, (exec_twlStampAck_lost hr hc hm htag h11 hst).trans (by rw [State.loseAck_request hk]), State.heardAck_lost_effect ho hst h3⟩
  · subst hst
    exact ⟨_, exec_twlStampAck_request hr hc hm htag hk h11 hstep hfrom hstr, State.heardAck_taken_effect ho ch ts⟩

end Sys2Proof.Machine

namespace Sys2Proof.Machine

/-! ### A message of an origin stream (R150, R156, R191) -/

/-- R156: stream `k` takes new numbers. -/
def State.withStream (s : State) (k : Nat) (x : Stream) : State :=
  { s with twl := { s.twl with streams := Tab.set .reset s.twl.streams k x } }

/-- R156, R191: the message that stream `k` sends to its port group, with the headers of the group's template. -/
def State.streamMsg (s : State) (k : Nat) (kind : MsgKind) (event oneStep : Bool) (body : List (Nat × Int)) : OutMsg :=
  let g := s.get ORIG_CFG.PGROUP k
  let m : OutMsg := ⟨kind, 0, s.get MIR_PGRP.LANE g, 0, s.get ORIG_CFG.CHANNEL k, 0, g, 0, oneStep, if event then 0 else 1, [],
    (30, (s.portId (64 + k) : Int)) :: body⟩
  { m with hdr := (s.fillTemplate (s.get MIR_PGRP.TPL g) m.payload event).1 }

/-- R191: whether a message of stream `k` may leave. -/
def State.streamSends (s : State) (k : Nat) : Bool :=
  s.groupUsed (s.get ORIG_CFG.PGROUP k) && s.canSend (s.get MIR_PGRP.LANE (s.get ORIG_CFG.PGROUP k))

/-- R191: a header that is filled in changes the identification counts only. -/
theorem State.fillTemplate_state (s : State) (t : Nat) (m : List Octet) (event : Bool) :
    ∃ ids, (s.fillTemplate t m event).2 = { s with twl := { s.twl with ipId := ids } } := by
  unfold State.fillTemplate
  dsimp only
  split
  · exact ⟨_, rfl⟩
  · exact ⟨_, rfl⟩
  · exact ⟨_, rfl⟩

/-- R191: a header depends on the words of its template and its identification count. -/
theorem State.fillTemplate_congr {s u : State} {t : Nat} (hctl : u.rd .TPL_CTL t = s.rd .TPL_CTL t)
    (hoct : ∀ j, u.rd .TPL_OCT j = s.rd .TPL_OCT j) (hid : u.twl.ipId = s.twl.ipId) (m : List Octet) (event : Bool) :
    (u.fillTemplate t m event).1 = (s.fillTemplate t m event).1 := by
  have hget (f : Fld) (hf : f.r = .TPL_CTL) : u.get f t = s.get f t := by rw [State.get, State.get, hf, hctl]
  have hoctet : u.tplOctet t = s.tplOctet t := funext fun j => by rw [State.tplOctet, State.tplOctet, hoct]
  have hos : u.tplOctets t = s.tplOctets t := by rw [State.tplOctets, State.tplOctets, hget TPL_CTL.LEN rfl, hoctet]
  unfold State.fillTemplate
  dsimp only
  rw [hget TPL_CTL.L3 rfl, hget TPL_CTL.L3_OFS rfl, hos, hid]
  split <;> rfl

section
variable (s : State) (k : Nat) (kind : MsgKind) (event oneStep : Bool) (body : List (Nat × Int))

theorem State.sendStream_leaves (h : s.streamSends k = true) :
    ∃ ids, s.sendStream k kind event oneStep body
      = ({ s with twl := { s.twl with ipId := ids } } : State).send (s.streamMsg k kind event oneStep body) := by
  obtain ⟨ids, hids⟩ := s.fillTemplate_state (s.get MIR_PGRP.TPL (s.get ORIG_CFG.PGROUP k))
    (s.streamMsg k kind event oneStep body).payload event
  refine ⟨ids, (if_pos h).trans ?_⟩
  rw [← hids]
  rfl

theorem State.sendStream_dropped (h : s.streamSends k = false) : s.sendStream k kind event oneStep body = s.inc .ORIG_DROP_CNT k :=
  if_neg (ne_true_of_eq_false h)

end

/-- R150: a message leaves under the next tag and number, whatever else of the block has changed before. -/
theorem State.send_sentMsg_of {s v : State} (m : OutMsg) (htag : v.twl.nextTag = s.twl.nextTag) (hseq : v.twl.laneSeq = s.twl.laneSeq)
    (hsent : v.twl.sent = s.twl.sent) (hdev : v.dev = s.dev) : s.sentMsg (v.send m) m := by
  have h := v.send_sentMsg m
  simpa only [State.sentMsg, htag, hseq, hsent, hdev] using h

section
variable {s u : State} {k : Nat} {x : Stream} (h : s.changesOnly u [.twl, .free] [(.ORIG_STS, k)])
  (htwl : u.twl = (s.withStream k x).twl) (hk : k < 64)
include h

theorem State.changesOnly.orig_rd {r : Rg} {i : Nat} (hne : 0x130808 + 0x10 * k ≠ r.key i) : u.rd r i = s.rd r i :=
  h.rd_eq (List.forall_mem_singleton.mpr hne)

theorem State.changesOnly.orig_cfg (f : Fld) (hf : f.r = .ORIG_CFG ∨ f.r = .ORIG_INT) : u.get f k = s.get f k := by
  have kcfg : Rg.ORIG_CFG.key k = 0x130800 + 0x10 * k := rfl
  have kint : Rg.ORIG_INT.key k = 0x130804 + 0x10 * k := rfl
  obtain hf | hf := hf <;> rw [State.get, State.get, hf, h.orig_rd (by omega)]

theorem State.changesOnly.orig_portId (n : Nat) : u.portId n = s.portId n := by
  rw [State.portId, State.portId, State.clockId, State.clockId, h.part .mgmt (by simp), h.part .fuse (by simp)]

include hk

/-- ORIG_STS stands below the words of the mirror lanes. -/
theorem State.changesOnly.orig_rd_mir {r : Rg} {i : Nat} (hhigh : 0x140000 ≤ r.key i) : u.rd r i = s.rd r i := h.orig_rd (by omega)

theorem State.changesOnly.orig_pgrp (f : Fld) (g : Nat) (hf : f.r = .MIR_PGRP) : u.get f g = s.get f g := by
  rw [State.get, State.get, hf, h.orig_rd_mir hk ((by decide : 0x140000 ≤ 0x140200).trans (Nat.le_add_right _ _))]

include htwl

theorem State.changesOnly.orig_canSend (l : Nat) : u.canSend l = s.canSend l := by
  have kpair : 0x140000 ≤ Rg.PAIR_STS.key 0 := by decide
  have kmode : Rg.DEV_MODE.key 0 < 0x130808 := by decide
  have hmode : u.mode = s.mode := congrArg DEV_MODE.MODE.of (h.orig_rd (r := .DEV_MODE) (by omega))
  have hrole : u.isStandby = s.isStandby := congrArg (PAIR_STS.ROLE.of · == 2) (h.orig_rd (r := .PAIR_STS) (by omega))
  have hen : u.get MIR_CTL.TX_EN = s.get MIR_CTL.TX_EN := congrArg MIR_CTL.TX_EN.of (h.orig_rd_mir hk (r := .MIR_CTL) (by decide))
  rw [State.canSend, State.canSend, State.mirTransmits, State.mirTransmits, hmode, hrole, State.laneSends, State.laneSends, hen, htwl,
    h.part .dev (by simp)]
  rfl

theorem State.changesOnly.orig_streamSends : u.streamSends k = s.streamSends k := by
  have hg := h.orig_cfg ORIG_CFG.PGROUP (.inl rfl)
  rw [State.streamSends, State.streamSends, hg, State.groupUsed, State.groupUsed, State.on, State.on, h.orig_pgrp hk _ _ rfl,
    h.orig_pgrp hk MIR_PGRP.LANE _ rfl, h.orig_canSend htwl hk]

theorem State.changesOnly.orig_streamMsg (kind : MsgKind) (event oneStep : Bool) (body : List (Nat × Int)) :
    u.streamMsg k kind event oneStep body = s.streamMsg k kind event oneStep body := by
  have ktpl (r : Rg) (hr : 0x140000 ≤ r.info.base) (i : Nat) : u.rd r i = s.rd r i := h.orig_rd_mir hk (hr.trans (Nat.le_add_right _ _))
  have hfill (t : Nat) (m : List Octet) : (u.fillTemplate t m event).1 = (s.fillTemplate t m event).1 :=
    State.fillTemplate_congr (ktpl _ (by decide) t) (ktpl _ (by decide)) (by rw [htwl]; rfl) m event
  unfold State.streamMsg
  dsimp only
  rw [hfill, h.orig_cfg ORIG_CFG.PGROUP (.inl rfl), h.orig_cfg ORIG_CFG.CHANNEL (.inl rfl), h.orig_portId,
    h.orig_pgrp hk MIR_PGRP.LANE _ rfl, h.orig_pgrp hk MIR_PGRP.TPL _ rfl]

/-- R150, R156: a message of a stream that may send. -/
theorem State.changesOnly.sendStream_leaves (hs : s.streamSends k = true) (kind : MsgKind) (event oneStep : Bool) (body : List (Nat × Int)) :
    let l := s.get MIR_PGRP.LANE (s.get ORIG_CFG.PGROUP k)
    let t := u.sendStream k kind event oneStep body
    s.sentMsg t (s.streamMsg k kind event oneStep body) ∧ t.twl.streams = Tab.set .reset s.twl.streams k x
      ∧ s.counted t .MIR_TX_FRAMES_CNT l 1 ∧ t.rd .ORIG_STS k = u.rd .ORIG_STS k
      ∧ u.changesOnly t [.twl] [(.MIR_TX_FRAMES_CNT, l)] := by
  obtain ⟨ids, hids⟩ := u.sendStream_leaves k kind event oneStep body ((h.orig_streamSends htwl hk).trans hs)
  have ksts : Rg.ORIG_STS.key k = 0x130808 + 0x10 * k := rfl
  have hlane : (s.streamMsg k kind event oneStep body).lane = s.get MIR_PGRP.LANE (s.get ORIG_CFG.PGROUP k) := rfl
  dsimp only
  rw [hids, h.orig_streamMsg htwl hk]
  refine ⟨State.send_sentMsg_of _ (by rw [htwl]; rfl) (by rw [htwl]; rfl) (by rw [htwl]; rfl) (h.part .dev (by simp)), ?_, ?_, ?_, ?_⟩
  · simp only [State.send, htwl]
    rfl
  · rw [State.counted, ← hlane, ← h.orig_rd_mir hk ((by decide : 0x140000 ≤ 0x140124).trans (Nat.le_add_right _ _))]
    exact u.rd_inc_same _ _
  · exact State.send_rd_ne _ _ (Rg.txFrames_key_ne _ (by omega))
  · exact (u.changesOnly_twl _ _ (by simp)).trans (State.send_changesOnly _ _ (by simp) (by simp [hlane]))

/-- R191: a message of a stream that may not send. -/
theorem State.changesOnly.sendStream_dropped (hs : s.streamSends k = false) (kind : MsgKind) (event oneStep : Bool) (body : List (Nat × Int)) :
    let t := u.sendStream k kind event oneStep body
    s.counted t .ORIG_DROP_CNT k 1 ∧ t.twl.sent = s.twl.sent ∧ u.changesOnly t [] [(.ORIG_DROP_CNT, k)] := by
  have kdrop : Rg.ORIG_DROP_CNT.key k = 0x13080c + 0x10 * k := rfl
  dsimp only
  rw [u.sendStream_dropped k kind event oneStep body ((h.orig_streamSends htwl hk).trans hs)]
  refine ⟨?_, by rw [State.inc_twl, htwl]; rfl, u.changesOnly_inc _ _ _ (by simp)⟩
  rw [State.counted, State.rd_inc_same, h.orig_rd (by omega)]

end

/-! ### Sync and Announce (R156, R157) -/

/-- R156: stream `k` once it has used up the number of a Sync. -/
def State.syncNumbered (s : State) (k : Nat) : Stream :=
  { streamOf s.twl.streams k with syncSeq := ((streamOf s.twl.streams k).syncSeq + 1) % 65536 }

/-- R156: stream `k` once it has used up the number of an Announce. -/
def State.announceNumbered (s : State) (k : Nat) : Stream :=
  { streamOf s.twl.streams k with annSeq := ((streamOf s.twl.streams k).annSeq + 1) % 65536 }

/-- R156: the fields of a Sync of stream `k`. -/
def State.syncBody (s : State) (k : Nat) : List (Nat × Int) :=
  [(1, ((streamOf s.twl.streams k).syncSeq : Int)), (10, signedOf 4 (s.get ORIG_INT.LOG_SYNC k)), (13, (s.get ORIG_CFG.DOMAIN k : Int))]

/-- R156: an enabled stream sends its Sync under the number that it then leaves behind. -/
theorem exec_originSyncDue {s : State} {k : Nat} (hk : k < 64) (hen : s.on ORIG_CFG.EN k = true) (hm : s.mirTransmits = true) :
    exec (.originSyncDue k) s
      = .next ((s.withStream k (s.syncNumbered k)).sendStream k (.sync k) true (s.on ORIG_CFG.ONESTEP k) (s.syncBody k)).settle :=
  (onUnit_next k 64 s _ hk).trans (congrArg done (if_pos (by simp [hen, hm])))

theorem State.withStream_changesOnly (s : State) (k : Nat) (x : Stream) {parts : List Part} (words : List (Rg × Nat)) (h : Part.twl ∈ parts) :
    s.changesOnly (s.withStream k x) parts words := s.changesOnly_twl _ words h

section
variable {s : State} {k : Nat} (hk : k < 64) (hen : s.on ORIG_CFG.EN k = true) (hm : s.mirTransmits = true)
include hk hen hm

theorem exec_originSyncDue_leaves (hs : s.streamSends k = true) :
    let l := s.get MIR_PGRP.LANE (s.get ORIG_CFG.PGROUP k)
    ∃ t, exec (.originSyncDue k) s = .next t
      ∧ s.sentMsg t (s.streamMsg k (.sync k) true (s.on ORIG_CFG.ONESTEP k) (s.syncBody k))
      ∧ t.twl.streams = Tab.set .reset s.twl.streams k (s.syncNumbered k)
      ∧ s.counted t .MIR_TX_FRAMES_CNT l 1 ∧ s.frame t [.twl] [(.MIR_TX_FRAMES_CNT, l)] := by
  dsimp only
  obtain ⟨hsent, hstreams, hcnt, -, hch⟩ := (s.withStream_changesOnly k (s.syncNumbered k) [(.ORIG_STS, k)] (parts := [.twl, .free])
    (by simp)).sendStream_leaves rfl hk hs (.sync k) true (s.on ORIG_CFG.ONESTEP k) (s.syncBody k)
  have hexec := exec_originSyncDue hk hen hm
  refine ⟨_, hexec, State.sentMsg_congr hsent rfl rfl (by rw [State.settle_twl]) (by rw [State.settle_twl]), ?_, ?_, ?_⟩
  · rw [State.settle_twl, hstreams]
  · exact State.counted_congr (State.settle_rd_of ..) hcnt
  · exact ((s.withStream_changesOnly k _ _ (by simp)).trans hch).frame

theorem exec_originSyncDue_dropped (hs : s.streamSends k = false) :
    ∃ t, exec (.originSyncDue k) s = .next t
      ∧ s.counted t .ORIG_DROP_CNT k 1 ∧ t.twl.sent = s.twl.sent ∧ s.frame t [.twl] [(.ORIG_DROP_CNT, k)] := by
  have hexec := exec_originSyncDue hk hen hm
  obtain ⟨hcnt, hsent, hch⟩ := (s.withStream_changesOnly k (s.syncNumbered k) [(.ORIG_STS, k)] (parts := [.twl, .free])
    (by simp)).sendStream_dropped rfl hk hs (.sync k) true (s.on ORIG_CFG.ONESTEP k) (s.syncBody k)
  exact ⟨_, hexec, State.counted_congr (State.settle_rd_of ..) hcnt, by rw [State.settle_twl, hsent],
    ((s.withStream_changesOnly k _ _ (by simp)).trans (hch.mono (by simp) (by simp))).frame⟩

end

/-- R157: stepsRemoved of an Announce of channel `c`. -/
def State.stepsRemoved (s : State) (c : Nat) : Nat :=
  match s.parent c with
  | some a => a.steps + 1
  | none => 0

/-- R157, R166: stream `k` shows what it announces, when that may leave. -/
def State.showAnnounced (s : State) (k : Nat) : State :=
  s.cond (s.streamSends k) fun u =>
    (u.set ORIG_STS.CLASS (s.clockClass (s.get ORIG_CFG.CHANNEL k) (s.get ORIG_CFG.PROFILE k)) k).set ORIG_STS.STEPS
      (min 255 (s.stepsRemoved (s.get ORIG_CFG.CHANNEL k))) k

/-- R156, R157: the fields of an Announce that the stream itself gives. -/
def State.announceBody (s : State) (k : Nat) : List (Nat × Int) :=
  let c := s.get ORIG_CFG.CHANNEL k
  [(1, ((streamOf s.twl.streams k).annSeq : Int)), (5, (s.clockClass c (s.get ORIG_CFG.PROFILE k) : Int)), (6, (s.stepsRemoved c : Int)),
    (10, signedOf 4 (s.get ORIG_INT.LOG_ANN k)), (13, (s.get ORIG_CFG.DOMAIN k : Int))]

theorem State.showAnnounced_changesOnly (s : State) (k : Nat) (parts : List Part) {words : List (Rg × Nat)} (h : (Rg.ORIG_STS, k) ∈ words) :
    s.changesOnly (s.showAnnounced k) parts words :=
  State.changesOnly_cond ((s.changesOnly_set ORIG_STS.CLASS _ k parts h).set ORIG_STS.STEPS _ k h)

/-- R156: the grandmaster fields take free values and change nothing else. -/
theorem State.gmFields_state (s : State) (k : Nat) : ∃ n, (s.gmFields k).2 = { s with free := n } := by
  unfold State.gmFields
  dsimp only
  split
  · exact ⟨_, rfl⟩
  · exact ⟨_, rfl⟩

section
variable {s u : State} {k : Nat} {x : Stream} (h : s.changesOnly u [.twl] [(.ORIG_STS, k)])
  (htwl : u.twl = (s.withStream k x).twl) (hk : k < 64)
include h htwl hk

theorem State.changesOnly.orig_parent {c : Nat} (hc : c < 512) : u.parent c = s.parent c := by
  have kmap : Rg.ENG_CHMAP.key c = 0x120000 + 4 * c := rfl
  have hmap : u.rd .ENG_CHMAP c = s.rd .ENG_CHMAP c := h.rd_eq (List.forall_mem_singleton.mpr (by
    have ksts : Rg.ORIG_STS.key k = 0x130808 + 0x10 * k := rfl
    dsimp only
    omega))
  have hget (f : Fld) (hf : f.r = .ENG_CHMAP) : u.get f c = s.get f c := by rw [State.get, State.get, hf, hmap]
  rw [State.parent, State.parent, State.prog, State.prog, hget _ rfl, State.on, State.on, hget _ rfl, hget ENG_CHMAP.SEL rfl, State.flow,
    State.flow, htwl]
  rfl

theorem State.changesOnly.orig_gmFields : (u.gmFields k).1 = (s.gmFields k).1 := by
  have hfree : u.free = s.free := h.part .free (by simp)
  have hch : s.changesOnly u [.twl, .free] [(.ORIG_STS, k)] := h.mono (by simp) (by simp)
  have hchan := hch.orig_cfg ORIG_CFG.CHANNEL (.inl rfl)
  have hid : u.clockId = s.clockId := by rw [State.clockId, State.clockId, h.part .mgmt (by simp), h.part .fuse (by simp)]
  have hparent : u.parent (s.get ORIG_CFG.CHANNEL k) = s.parent (s.get ORIG_CFG.CHANNEL k) :=
    h.orig_parent htwl hk (ORIG_CFG.CHANNEL.of_lt _)
  unfold State.gmFields State.drawNat State.drawWord
  dsimp only
  rw [hchan, hparent, hfree, hid, hch.orig_cfg ORIG_INT.PRIO1 (.inr rfl), hch.orig_cfg ORIG_INT.PRIO2 (.inr rfl)]
  split <;> rfl

end

/-- R156: the grandmaster fields of a stream whose channel has a parent. -/
theorem State.gmFields_parent {s : State} {k : Nat} {a : Announce} (h : s.parent (s.get ORIG_CFG.CHANNEL k) = some a) :
    (s.gmFields k).1.take 5
      = [(7, (a.prio1 : Int)), (8, (a.prio2 : Int)), (9, (a.gmId : Int)), (15, (a.accuracy : Int)), (16, (a.variance : Int))] := by
  unfold State.gmFields State.drawNat State.drawWord
  dsimp only
  rw [h]
  rfl

/-- R156: the grandmaster fields of a stream whose channel has none. -/
theorem State.gmFields_own {s : State} {k : Nat} (h : s.parent (s.get ORIG_CFG.CHANNEL k) = none) :
    (s.gmFields k).1.take 3 = [(7, (s.get ORIG_INT.PRIO1 k : Int)), (8, (s.get ORIG_INT.PRIO2 k : Int)), (9, (s.clockId : Int))] := by
  unfold State.gmFields State.drawNat State.drawWord
  dsimp only
  rw [h]
  rfl

/-- R156: what a stream has shown and numbered before its Announce leaves. -/
theorem State.showAnnounced_withStream (s : State) (k : Nat) (x : Stream) :
    ((s.showAnnounced k).withStream k x).twl = (s.withStream k x).twl
      ∧ s.changesOnly ((s.showAnnounced k).withStream k x) [.twl] [(.ORIG_STS, k)] := by
  have htwl := (s.showAnnounced_changesOnly k [] (words := [(.ORIG_STS, k)]) (by simp)).part .twl (by simp)
  exact ⟨by rw [State.withStream, State.withStream, htwl],
    (s.showAnnounced_changesOnly k _ (by simp)).trans (State.withStream_changesOnly _ k x _ (by simp))⟩

section
variable {s : State} {k : Nat} (hk : k < 64) (hen : s.on ORIG_CFG.EN k = true) (hm : s.mirTransmits = true)
include hk hen hm

/-- R156, R157: an enabled stream sends its Announce once it shows it, under the number that it then leaves behind; its body is that of
the state before. -/
theorem exec_originAnnounceDue :
    ∃ n, exec (.originAnnounceDue k) s
      = .next (({ (s.showAnnounced k).withStream k (s.announceNumbered k) with free := n } : State).sendStream k (.announce k) false false
          (s.announceBody k ++ (s.gmFields k).1)).settle := by
  obtain ⟨htwl, hch⟩ := s.showAnnounced_withStream k (s.announceNumbered k)
  have hch' : s.changesOnly ((s.showAnnounced k).withStream k (s.announceNumbered k)) [.twl, .free] [(.ORIG_STS, k)] := hch.mono (by simp) (by simp)
  obtain ⟨n, hn⟩ := ((s.showAnnounced k).withStream k (s.announceNumbered k)).gmFields_state k
  refine ⟨n, ?_⟩
  rw [← hn, ← hch.orig_gmFields htwl hk, State.announceBody, ← hch'.orig_cfg ORIG_INT.LOG_ANN (.inr rfl),
    ← hch'.orig_cfg ORIG_CFG.DOMAIN (.inl rfl)]
  exact (onUnit_next k 64 s _ hk).trans (congrArg done (if_pos (by simp [hen, hm])))

theorem exec_originAnnounceDue_leaves (hs : s.streamSends k = true) :
    let l := s.get MIR_PGRP.LANE (s.get ORIG_CFG.PGROUP k)
    let c := s.get ORIG_CFG.CHANNEL k
    ∃ t, exec (.originAnnounceDue k) s = .next t
      ∧ t.rd .ORIG_STS k = ORIG_STS.STEPS.put (ORIG_STS.CLASS.put (s.rd .ORIG_STS k) (s.clockClass c (s.get ORIG_CFG.PROFILE k)))
          (min 255 (s.stepsRemoved c))
      ∧ s.sentMsg t (s.streamMsg k (.announce k) false false (s.announceBody k ++ (s.gmFields k).1))
      ∧ t.twl.streams = Tab.set .reset s.twl.streams k (s.announceNumbered k)
      ∧ s.counted t .MIR_TX_FRAMES_CNT l 1 ∧ s.frame t [.twl, .free] [(.MIR_TX_FRAMES_CNT, l), (.ORIG_STS, k)] := by
  obtain ⟨n, hexec⟩ := exec_originAnnounceDue hk hen hm
  dsimp only
  obtain ⟨htwl, hch⟩ := s.showAnnounced_withStream k (s.announceNumbered k)
  have hfree : s.changesOnly ({ (s.showAnnounced k).withStream k (s.announceNumbered k) with free := n } : State) [.twl, .free] [(.ORIG_STS, k)] :=
    (hch.mono (by simp) (by simp)).trans (State.changesOnly_free _ n _ (by simp))
  obtain ⟨hsent, hstreams, hcnt, hsts, hleft⟩ := hfree.sendStream_leaves htwl hk hs (.announce k) false false
    (s.announceBody k ++ (s.gmFields k).1)
  refine ⟨_, hexec, ?_, State.sentMsg_congr hsent rfl rfl (by rw [State.settle_twl]) (by rw [State.settle_twl]), ?_, ?_, ?_⟩
  · rw [State.settle_rd_of, hsts, State.mk_rd, State.withStream, State.mk_rd, State.showAnnounced, hs, State.cond, if_pos rfl,
      State.rd_set_same _ _ _ _ rfl, State.rd_set_same _ _ _ _ rfl]
  · rw [State.settle_twl, hstreams]
  · exact State.counted_congr (State.settle_rd_of ..) hcnt
  · exact ((hfree.mono (by simp) (by simp)).trans (hleft.mono (by simp) (by simp))).frame

theorem exec_originAnnounceDue_dropped (hs : s.streamSends k = false) :
    ∃ t, exec (.originAnnounceDue k) s = .next t
      ∧ s.counted t .ORIG_DROP_CNT k 1 ∧ t.twl.sent = s.twl.sent ∧ s.frame t [.twl, .free] [(.ORIG_DROP_CNT, k)] := by
  obtain ⟨n, hexec⟩ := exec_originAnnounceDue hk hen hm
  have hshow : s.showAnnounced k = s := by rw [State.showAnnounced, hs, State.cond, if_neg (by simp)]
  rw [hshow] at hexec
  have hch (words : List (Rg × Nat)) : s.changesOnly ({ s.withStream k (s.announceNumbered k) with free := n } : State) [.twl, .free] words :=
    (s.withStream_changesOnly k _ words (by simp)).trans (State.changesOnly_free _ n _ (by simp))
  obtain ⟨hcnt, hsent, hleft⟩ := (hch [(.ORIG_STS, k)]).sendStream_dropped rfl hk hs (.announce k) false false
    (s.announceBody k ++ (s.gmFields k).1)
  exact ⟨_, hexec, State.counted_congr (State.settle_rd_of ..) hcnt, by rw [State.settle_twl, hsent],
    ((hch _).trans (hleft.mono (by simp) (by simp))).frame⟩

end

/-- Settles O23: neither what the stream shows and numbers nor the free values of its grandmaster fields touch what its message is made of, nor
whether it may leave. -/
theorem originStreams : Obligations.OriginStreams := by
  unfold Obligations.OriginStreams
  intro s k hk hen hm g l c q cls steps sync ann
  refine ⟨fun hg hc => ?_, fun hs => ⟨exec_originSyncDue_dropped hk hen hm hs, exec_originAnnounceDue_dropped hk hen hm hs⟩⟩
  have hs : s.streamSends k = true := by rw [State.streamSends, hg, hc]; rfl
  obtain ⟨t, hexec, hsts, hsent, hrest⟩ := exec_originAnnounceDue_leaves hk hen hm hs
  exact ⟨exec_originSyncDue_leaves hk hen hm hs, t, hexec, hsts, hsent, fun _ => State.gmFields_parent, State.gmFields_own, hrest⟩

end Sys2Proof.Machine

namespace Sys2Proof.Machine

/-! ### Quality levels: what a group sends, and silence (R160, R161) -/

/-- R160: an input that has not been heard for 5 s loses its level, outside TEST and the unit in step, while nothing streams. -/
theorem exec_esmcQlTimeout_effect {s : State} {i : Nat} (hi : i < 32) (hen : s.on ESMC_MAP.EN i = true) (h0 : s.mode ≠ 0)
    (hstep : s.isStep = false) (h11 : s.mode ≠ 11) (hstr : s.pair.streaming = false) (ht : Tab.get 0 s.twl.qlTick i ≠ s.dev.tick + 1) :
    ∃ t, exec (.esmcQlTimeout i) s = .next t
      ∧ t.rd .ESMC_MAP i = ESMC_MAP.NOQL.put (s.rd .ESMC_MAP i) 1 ∧ s.counted t .ESMC_TIMEOUT_CNT 0 1
      ∧ s.frame t [] [(.ESMC_MAP, i), (.ESMC_TIMEOUT_CNT, 0)] := by
  have kmap : Rg.ESMC_MAP.key i = 0x130c00 + 4 * i := rfl
  have kcnt : Rg.ESMC_TIMEOUT_CNT.key 0 = 0x130cc4 := rfl
  have hne : Rg.ESMC_TIMEOUT_CNT.key 0 ≠ Rg.ESMC_MAP.key i := by omega
  have hinc := s.changesOnly_inc .ESMC_TIMEOUT_CNT 0 [] (words := [(.ESMC_MAP, i), (.ESMC_TIMEOUT_CNT, 0)]) (by simp)
  have hstep' : (s.inc .ESMC_TIMEOUT_CNT).isStep = false :=
    (congrArg (· == 7) (s.get_inc_ne .ESMC_TIMEOUT_CNT 0 DEV_MODE.MODE 0 (by decide))).trans hstep
  have hexec : exec (.esmcQlTimeout i) s = .next ((s.inc .ESMC_TIMEOUT_CNT).set ESMC_MAP.NOQL 1 i).settle := by
    refine (onUnit_next i 32 s _ hi).trans (congrArg done ?_)
    rw [if_neg (by simp [hen, h0, h11, ht])]
    simp only [hstep', State.inc_pair, hstr, Bool.false_eq_true, if_false]
  refine ⟨_, hexec, ?_, ?_, (hinc.set ESMC_MAP.NOQL 1 i (by simp)).frame⟩
  · rw [State.settle_rd_of, State.rd_set_same _ _ _ _ rfl, s.rd_inc_ne _ _ hne]
  · rw [State.counted, State.settle_rd_of, State.rd_set_ne _ _ _ _ hne.symm, s.rd_inc_same]

/-- R150: a message stays the one that left first, and its tag outstanding, when another leaves after it. -/
theorem State.sentMsg.send {s u : State} {m : OutMsg} (h : s.sentMsg u m) (hlen : u.twl.sent.length = s.twl.sent.length + 1)
    (htag : u.twl.nextTag ≠ s.twl.nextTag) (m' : OutMsg) : s.sentMsg (u.send m') m := by
  obtain ⟨hsent, htags⟩ := h
  refine ⟨(List.take_append_of_le_length (by omega)).trans hsent, ?_⟩
  simp only [State.send]
  rw [Tab.get_set_ne _ _ _ htag]
  exact htags

/-- R161: a group that has sent its PDU. -/
def State.esmcSent (s : State) (k : Nat) (kind : MsgKind) : State :=
  (((s.esmcDrawn k).send (s.esmcPdu k kind)).inc .ESMC_TX_CNT).noteSentQl k (s.txQl k)

section
variable (s : State) (k : Nat) (kind : MsgKind)

theorem State.esmcSent_eq : ∃ n, s.esmcSent k kind = ((({ s with free := n } : State).send (s.esmcPdu k kind)).inc .ESMC_TX_CNT).noteSentQl k
    (s.txQl k) := by
  obtain ⟨n, hn⟩ := s.esmcDrawn_eq k
  exact ⟨n, by rw [State.esmcSent, hn]⟩

theorem State.esmcSent_sentMsg : s.sentMsg (s.esmcSent k kind) (s.esmcPdu k kind) := by
  obtain ⟨n, hn⟩ := s.esmcSent_eq k kind
  rw [hn]
  exact State.sentMsg_congr (State.send_sentMsg _ _) rfl rfl rfl rfl

theorem State.esmcSent_nextTag : (s.esmcSent k kind).twl.nextTag = (s.twl.nextTag + 1) % 65536 := by
  obtain ⟨n, hn⟩ := s.esmcSent_eq k kind
  rw [hn]
  rfl

theorem State.esmcSent_sent_length : (s.esmcSent k kind).twl.sent.length = s.twl.sent.length + 1 := by
  obtain ⟨n, hn⟩ := s.esmcSent_eq k kind
  rw [hn]
  exact State.send_sent_length { s with free := n } (s.esmcPdu k kind)

theorem State.esmcSent_lastQl : (streamOf (s.esmcSent k kind).twl.esmc k).lastQl = some (s.txQl k) := by
  simp [State.esmcSent, State.noteSentQl, streamOf]

theorem State.esmcSent_changesOnly : s.changesOnly (s.esmcSent k kind) [.twl, .free]
    [(.MIR_TX_FRAMES_CNT, s.get MIR_PGRP.LANE (s.get ESMC_TX.PGROUP k)), (.ESMC_TX_CNT, 0)] := by
  obtain ⟨n, hn⟩ := s.esmcSent_eq k kind
  rw [hn]
  exact (((s.changesOnly_free n _ (by simp)).trans (State.send_changesOnly _ _ (by simp) (by simp [State.esmcPdu]))).inc _ _ (by simp)).trans
    (State.changesOnly_twl _ _ _ (by simp))

end

/-- A conditional change is made or not. -/
theorem State.cond_eq_or (s : State) (b : Bool) (f : State → State) : s.cond b f = f s ∨ s.cond b f = s := by
  cases b
  · exact .inr rfl
  · exact .inl rfl

/-- R161: after its PDU a group sends nothing more, or the do-not-use PDU on the same lane. -/
theorem State.sendEsmc_cases {s : State} {k : Nat} (kind : MsgKind) (hg : s.groupUsed (s.get ESMC_TX.PGROUP k) = true)
    (hc : s.canSend (s.get MIR_PGRP.LANE (s.get ESMC_TX.PGROUP k)) = true) :
    s.sendEsmc k kind = s.esmcSent k kind
      ∨ ∃ m : OutMsg, m.lane = s.get MIR_PGRP.LANE (s.get ESMC_TX.PGROUP k)
        ∧ s.sendEsmc k kind = ((s.esmcSent k kind).send m).inc .ESMC_TX_CNT := by
  unfold State.sendEsmc
  dsimp only
  rw [if_pos (by rw [hg, hc]; rfl)]
  split
  · exact (State.cond_eq_or _ _ _).symm.imp id fun h => ⟨_, rfl, h⟩
  · exact .inl rfl

/-- R161: whether or not a do-not-use PDU follows, the group's own PDU has left. -/
theorem State.sendEsmc_sends {s : State} {k : Nat} (kind : MsgKind) (hg : s.groupUsed (s.get ESMC_TX.PGROUP k) = true)
    (hc : s.canSend (s.get MIR_PGRP.LANE (s.get ESMC_TX.PGROUP k)) = true) :
    s.sentMsg (s.sendEsmc k kind) (s.esmcPdu k kind) ∧ (streamOf (s.sendEsmc k kind).twl.esmc k).lastQl = some (s.txQl k)
      ∧ s.changesOnly (s.sendEsmc k kind) [.twl, .free]
          [(.MIR_TX_FRAMES_CNT, s.get MIR_PGRP.LANE (s.get ESMC_TX.PGROUP k)), (.ESMC_TX_CNT, 0)] := by
  have hch := s.esmcSent_changesOnly k kind
  obtain he | ⟨m, hlane, he⟩ := State.sendEsmc_cases kind hg hc
  · rw [he]
    exact ⟨s.esmcSent_sentMsg k kind, s.esmcSent_lastQl k kind, hch⟩
  · have hsent := (s.esmcSent_sentMsg k kind).send (s.esmcSent_sent_length k kind) (by rw [State.esmcSent_nextTag]; omega) m
    rw [he]
    exact ⟨State.sentMsg_congr hsent rfl rfl (by rw [State.inc_twl]) (by rw [State.inc_twl]), s.esmcSent_lastQl k kind,
      (hch.trans (State.send_changesOnly _ m (by simp) (by simp [hlane]))).inc _ _ (by simp)⟩

/-- R161: the events of an enabled group send its PDU. -/
theorem exec_esmcSend {s : State} {k : Nat} {event : Bool} (hen : s.on ESMC_TX.EN k = true) (hm : s.mirTransmits = true)
    (hql : event = true → (streamOf s.twl.esmc k).lastQl ≠ some (s.txQl k)) :
    exec (if event then .esmcEventPduSend k else .esmcInfoPduDue k) s
      = onUnit k 8 s (s.sendEsmc k (if event then .esmcEvent k else .esmcInfo k)) := by
  cases event with
  | false => exact congrArg (onUnit k 8 s) (if_pos (by simp [hen, hm]))
  | true => exact congrArg (onUnit k 8 s) (if_pos (by simp [hen, hm, hql rfl]))

/-- Settles O24: a silent input loses its level; the PDU of a group leaves first, and the do-not-use PDU behind it disturbs neither its
place nor its tag. -/
theorem qualityMessages : Obligations.QualityMessages := by
  unfold Obligations.QualityMessages
  refine ⟨fun s i hi hen h0 hstep h11 hstr ht => exec_esmcQlTimeout_effect hi hen h0 hstep h11 hstr ht,
    fun s k event hk hen hm hg hc hql => ?_⟩
  obtain ⟨hsent, hlast, hch⟩ := State.sendEsmc_sends (if event then .esmcEvent k else .esmcInfo k) hg hc
  rw [exec_esmcSend hen hm hql]
  refine ⟨_, onUnit_next k 8 s _ hk, ?_, ?_, fun hq => ?_, hch.frame⟩
  · have hmsg := State.sentMsg_congr (t := (s.sendEsmc k (if event then .esmcEvent k else .esmcInfo k)).settle) hsent rfl rfl
      (by rw [State.settle_twl]) (by rw [State.settle_twl])
    simpa [State.esmcPdu] using hmsg
  · rw [State.settle_twl]
    exact hlast
  · obtain ⟨t, he, hlen, hcnt, -⟩ := onUnit_sendEsmc_effect (if event then .esmcEvent k else .esmcInfo k) hk hg hc hq
    cases (onUnit_next k 8 s _ hk).symm.trans he
    exact ⟨hlen, hcnt⟩

end Sys2Proof.Machine

namespace Sys2Proof.Machine

/-! ### Block lock of a mirror lane (R167, R168, R186) -/

/-- A bit of a bitmap reads as it was set. -/
theorem State.get_setBit_same (s : State) (f : Fld) {k : Nat} (b : Bool) (i : Nat) (h : f.ok = true) (hk : k < f.hi - f.lo + 1) :
    (s.setBit f k b i).get f i = withBit (s.get f i) k b :=
  (s.get_set_same f _ i h).trans (Nat.mod_eq_of_lt (withBit_lt b (f.of_lt _) hk))

theorem State.get_setBit_apart (s : State) (f g : Fld) (k : Nat) (b : Bool) (i : Nat) (h : f.ok = true) (hg : g.ok = true) (hr : f.r = g.r)
    (ha : f.apart g = true) : (s.setBit f k b i).get g i = s.get g i := s.get_set_apart f g _ i h hg hr ha

/-- R167, R168: the loss of block lock clears both bits of the lane, and is counted. -/
theorem exec_mirBlockLockLoss_effect {s : State} {l : Nat} (hl : l < 4) (h0 : s.mode ≠ 0) (h11 : s.mode ≠ 11)
    (hlock : bitOf (s.get MIR_STS.BLOCK_LOCK) l = true) :
    ∃ t, exec (.mirBlockLockLoss l) s = .next t
      ∧ t.get MIR_STS.BLOCK_LOCK = withBit (s.get MIR_STS.BLOCK_LOCK) l false
      ∧ t.get MIR_STS.SEQ_SYNC = withBit (s.get MIR_STS.SEQ_SYNC) l false ∧ s.counted t .MIR_BLK_CNT l 1
      ∧ s.frame t [] [(.MIR_STS, 0), (.MIR_BLK_CNT, l)] := by
  have kcnt : Rg.MIR_BLK_CNT.key l = 0x140110 + 0x40 * l := rfl
  have ksts : Rg.MIR_STS.key 0 = 0x140008 := rfl
  have hne : Rg.MIR_BLK_CNT.key l ≠ Rg.MIR_STS.key 0 := by omega
  have hexec : exec (.mirBlockLockLoss l) s
      = .next (((s.setBit MIR_STS.BLOCK_LOCK l false).setBit MIR_STS.SEQ_SYNC l false).inc .MIR_BLK_CNT l).settle :=
    (onUnit_next l 4 s _ hl).trans (congrArg done (if_pos ⟨h0, h11, hlock⟩))
  refine ⟨_, hexec, ?_, ?_, ?_, ?_⟩
  · rw [State.settle_get_of, State.get_inc_ne _ _ _ _ _ hne, State.get_setBit_apart _ MIR_STS.SEQ_SYNC MIR_STS.BLOCK_LOCK _ _ _ rfl rfl rfl rfl,
      s.get_setBit_same _ _ _ rfl hl]
  · rw [State.settle_get_of, State.get_inc_ne _ _ _ _ _ hne, State.get_setBit_same _ _ _ _ rfl hl,
      s.get_setBit_apart MIR_STS.BLOCK_LOCK MIR_STS.SEQ_SYNC _ _ _ rfl rfl rfl rfl]
  · rw [State.counted, State.settle_rd_of, State.rd_inc_same, State.rd_setBit_ne _ _ _ _ _ hne.symm, State.rd_setBit_ne _ _ _ _ _ hne.symm]
  · exact (((s.changesOnly_setBit MIR_STS.BLOCK_LOCK l false 0 _ (by simp)).trans
      (State.changesOnly_setBit _ MIR_STS.SEQ_SYNC l false 0 _ (by simp))).inc .MIR_BLK_CNT l (by simp)).frame

/-- R186: block lock returns, and the next frame of the lane sets its expected number. -/
theorem exec_mirBlockLockAcquired_effect {s : State} {l : Nat} (hl : l < 4) (h0 : s.mode ≠ 0) (h11 : s.mode ≠ 11)
    (hsoft : bitOf (s.get RST_STS.SOFT) 1 = false) :
    ∃ t, exec (.mirBlockLockAcquired l) s = .next t
      ∧ t.get MIR_STS.BLOCK_LOCK = withBit (s.get MIR_STS.BLOCK_LOCK) l true
      ∧ t.get MIR_STS.SEQ_SYNC = withBit (s.get MIR_STS.SEQ_SYNC) l false
      ∧ t.lane l = { s.lane l with fresh := true } ∧ s.onlyLane t l
      ∧ s.frame t [.intake] [(.MIR_STS, 0)] := by
  have hexec : exec (.mirBlockLockAcquired l) s = .next ((s.setBit MIR_STS.BLOCK_LOCK l true).freshLane l).settle :=
    (onUnit_next l 4 s _ hl).trans (congrArg done (if_neg (by simp [h0, h11, hsoft])))
  refine ⟨_, hexec, ?_, ?_, ?_, fun k hk => ?_, ?_⟩
  · rw [State.settle_get_of, State.freshLane, State.setLane, State.mk_get,
      State.get_setBit_apart _ MIR_STS.SEQ_SYNC MIR_STS.BLOCK_LOCK _ _ _ rfl rfl rfl rfl, s.get_setBit_same _ _ _ rfl hl]
  · rw [State.settle_get_of, State.freshLane, State.setLane, State.mk_get, State.get_setBit_same _ _ _ _ rfl hl,
      s.get_setBit_apart MIR_STS.BLOCK_LOCK MIR_STS.SEQ_SYNC _ _ _ rfl rfl rfl rfl]
  · rw [State.settle_lane, State.freshLane, State.lane_setLane_same]
    rfl
  · rw [State.settle_lane, State.freshLane, State.lane_setLane_ne _ _ hk.symm]
    rfl
  · exact (((s.changesOnly_setBit MIR_STS.BLOCK_LOCK l true 0 _ (by simp)).trans
      (State.changesOnly_setBit _ MIR_STS.SEQ_SYNC l false 0 _ (by simp))).trans (State.changesOnly_intake _ _ _ (by simp))).frame

/-! ### The arrival of a frame (R151, R168, R170, R186) -/

/-- The keys of the words of mirror lane `l`. -/
theorem Rg.mirLane_keys (l : Nat) : Rg.MIR_RX_FRAMES_CNT.key l = 0x140100 + 0x40 * l ∧ Rg.MIR_FCS_CNT.key l = 0x140104 + 0x40 * l
    ∧ Rg.MIR_RUNT_CNT.key l = 0x140108 + 0x40 * l ∧ Rg.MIR_GIANT_CNT.key l = 0x14010c + 0x40 * l
    ∧ Rg.MIR_FEC_CORR_CNT.key l = 0x140114 + 0x40 * l ∧ Rg.MIR_FEC_UNC_CNT.key l = 0x140118 + 0x40 * l :=
  ⟨rfl, rfl, rfl, rfl, rfl, rfl⟩

/-- R167, R193: the counters of FEC blocks of lane `l`. -/
def fecWords (l : Nat) : List (Rg × Nat) := [(.MIR_FEC_CORR_CNT, l), (.MIR_FEC_UNC_CNT, l)]

/-- The counters of FEC blocks stand at 0x114 and 0x118 of their lane. -/
theorem fecWords_key_ne {l i : Nat} {r : Rg} (hcorr : 0x140114 + 0x40 * l ≠ r.key i) (hunc : 0x140118 + 0x40 * l ≠ r.key i) :
    ∀ q ∈ fecWords l, q.1.key q.2 ≠ r.key i :=
  List.forall_mem_cons.mpr ⟨hcorr, List.forall_mem_singleton.mpr hunc⟩

section
variable (s : State) (l corr unc : Nat)

theorem State.fecBlocks_changesOnly : s.changesOnly (s.fecBlocks l corr unc) [] (fecWords l) :=
  State.changesOnly_cond ((s.changesOnly_add .MIR_FEC_CORR_CNT corr l _ (by simp [fecWords])).trans
    (State.changesOnly_add _ .MIR_FEC_UNC_CNT unc l _ (by simp [fecWords])))

theorem State.fecBlocks_counts : s.counted (s.fecBlocks l corr unc) .MIR_FEC_CORR_CNT l (if bitOf (s.get MIR_CTL.FEC_EN) l then corr else 0)
    ∧ s.counted (s.fecBlocks l corr unc) .MIR_FEC_UNC_CNT l (if bitOf (s.get MIR_CTL.FEC_EN) l then unc else 0) := by
  obtain ⟨-, -, -, -, kcorr, kunc⟩ := Rg.mirLane_keys l
  have hne : Rg.MIR_FEC_CORR_CNT.key l ≠ Rg.MIR_FEC_UNC_CNT.key l := by omega
  unfold State.fecBlocks State.cond
  split
  · exact ⟨State.counted_congr (State.rd_add_ne _ _ _ _ hne.symm) (s.rd_add_same _ _ _),
      by rw [State.counted, State.rd_add_same, s.rd_add_ne _ _ _ hne]⟩
  · exact ⟨State.counted_zero rfl, State.counted_zero rfl⟩

end

/-- R168, R170: what becomes of a frame that the lane accepts, once its FEC blocks are counted. -/
def State.judgeFrame (s : State) (l : Nat) (os : List Octet) : State :=
  if 2048 < os.length then s.inc .MIR_GIANT_CNT l
  else if !fcsOk os then s.inc .MIR_FCS_CNT l
  else if os.length < 80 then s.inc .MIR_RUNT_CNT l
  else (s.inc .MIR_RX_FRAMES_CNT l).enterFifo ⟨l, stampOf os, (os.drop 16).take (os.length - 20)⟩

theorem exec_mirrorFrameArrival_accepted {s : State} {l : Nat} (corr unc : Nat) (os : List Octet) (hl : l < 4) (ha : s.accepts l = true) :
    exec (.mirrorFrameArrival ⟨l, corr, unc⟩ os) s = .next ((s.fecBlocks l corr unc).judgeFrame l os).settle :=
  (onUnit_next l 4 s _ hl).trans (congrArg done (if_neg (by simp [ha])))

/-- R186: nothing is held, so a move of E releases nothing. -/
theorem LaneOrder.moveTo_empty {x : LaneOrder} (h : x.held = []) (e n : Nat) : ∃ e', (x.moveTo e n).1 = { x with expect := some e' } := by
  refine ⟨(e + n) % 65536, ?_⟩
  have hpassed : (List.range n).filterMap (fun j => x.held.find? (·.frame.stamp.seq == (e + j) % 65536)) = [] := by simp [h]
  simp only [LaneOrder.moveTo, hpassed]
  simp [h, drainHeld]

/-- R186: whether the next frame of a lane sets its expected number. -/
def LaneOrder.awaitsFirst (x : LaneOrder) : Bool := x.expect.isNone || x.fresh

theorem State.firstSeq_first {s : State} {l : Nat} (seq : Nat) (hheld : (s.lane l).held = []) (hf : (s.lane l).awaitsFirst = true) :
    s.firstSeq l seq = (s.setLane l { s.lane l with expect := some seq, fresh := false }).setBit MIR_STS.SEQ_SYNC l true := by
  obtain ⟨e', he⟩ := LaneOrder.moveTo_empty hheld ((s.lane l).expect.getD seq) 256
  have hcond : ¬ ((s.lane l).expect.isSome && !(s.lane l).fresh) = true := by
    simpa [LaneOrder.awaitsFirst, Decidable.imp_iff_not_or] using hf
  unfold State.firstSeq
  dsimp only
  rw [if_neg hcond, he]

theorem State.firstSeq_later {s : State} {l : Nat} (seq : Nat) (hf : (s.lane l).awaitsFirst = false) : s.firstSeq l seq = s := by
  have hcond : ((s.lane l).expect.isSome && !(s.lane l).fresh) = true := by
    simpa [LaneOrder.awaitsFirst, Option.isSome_iff_ne_none] using hf
  exact if_pos hcond

theorem State.firstSeq_changesOnly (s : State) (l seq : Nat) : s.changesOnly (s.firstSeq l seq) [.intake] [(.MIR_STS, 0)] := by
  unfold State.firstSeq
  dsimp only
  split
  · exact s.changesOnly_refl _ _
  · exact (s.changesOnly_intake _ _ (by simp)).trans (State.changesOnly_setBit _ MIR_STS.SEQ_SYNC l true 0 _ (by simp))

/-- R186: with no frame held, the lane's first frame sets its expected number and SEQ_SYNC. -/
theorem State.firstSeq_effect {s : State} {l : Nat} (seq : Nat) (hl : l < 4) (hheld : (s.lane l).held = []) :
    (s.firstSeq l seq).lane l = (if (s.lane l).awaitsFirst then { s.lane l with expect := some seq, fresh := false } else s.lane l)
      ∧ (s.firstSeq l seq).get MIR_STS.SEQ_SYNC
        = (if (s.lane l).awaitsFirst then withBit (s.get MIR_STS.SEQ_SYNC) l true else s.get MIR_STS.SEQ_SYNC)
      ∧ (s.firstSeq l seq).intake = { s.intake with lanes := (s.firstSeq l seq).intake.lanes }
      ∧ s.onlyLane (s.firstSeq l seq) l := by
  cases hf : (s.lane l).awaitsFirst with
  | true =>
    have hlane (u : State) (k : Nat) : (u.setBit MIR_STS.SEQ_SYNC l true).lane k = u.lane k := by rw [State.lane, State.setBit_intake, State.lane]
    rw [State.firstSeq_first seq hheld hf]
    refine ⟨?_, ?_, ?_, fun k hk => ?_⟩
    · rw [hlane, State.lane_setLane_same]
      rfl
    · rw [State.get_setBit_same _ _ _ _ rfl hl]
      rfl
    · rw [State.setBit_intake]
      rfl
    · rw [hlane, State.lane_setLane_ne _ _ hk.symm]
  | false =>
    rw [State.firstSeq_later seq hf]
    exact ⟨rfl, rfl, rfl, fun _ _ => rfl⟩

theorem State.enterFifo_full {s : State} (f : Frame) (h : 256 ≤ s.intake.fifo.length) : s.enterFifo f = s.inc .PARSE_INTAKE_OVF_CNT := if_pos h

theorem State.enterFifo_room {s : State} (f : Frame) (h : s.intake.fifo.length < 256) :
    s.enterFifo f = { s.firstSeq f.lane f.stamp.seq with
      intake := { (s.firstSeq f.lane f.stamp.seq).intake with fifo := s.intake.fifo ++ [f] } } := if_neg (by omega)

theorem State.enterFifo_changesOnly (s : State) (f : Frame) :
    s.changesOnly (s.enterFifo f) [.intake] [(.PARSE_INTAKE_OVF_CNT, 0), (.MIR_STS, 0)] := by
  unfold State.enterFifo
  split
  · exact s.changesOnly_inc _ _ _ (by simp)
  · exact ((s.firstSeq_changesOnly f.lane f.stamp.seq).mono (by simp) (by simp)).trans (State.changesOnly_intake _ _ _ (by simp))

/-- R168, R170: whichever check a frame fails, the counters of FEC blocks are not touched again. -/
theorem State.judgeFrame_changesOnly (s : State) (l : Nat) (os : List Octet) : s.changesOnly (s.judgeFrame l os) [.intake]
    [(.MIR_RX_FRAMES_CNT, l), (.MIR_FCS_CNT, l), (.MIR_RUNT_CNT, l), (.MIR_GIANT_CNT, l), (.PARSE_INTAKE_OVF_CNT, 0), (.MIR_STS, 0)] := by
  unfold State.judgeFrame
  split
  · exact s.changesOnly_inc _ _ _ (by simp)
  · split
    · exact s.changesOnly_inc _ _ _ (by simp)
    · split
      · exact s.changesOnly_inc _ _ _ (by simp)
      · exact (s.changesOnly_inc .MIR_RX_FRAMES_CNT l _ (by simp)).trans ((State.enterFifo_changesOnly _ _).mono (by simp) (by simp))

section
variable {s : State} {l : Nat} (corr unc : Nat) {os : List Octet} (hl : l < 4) (ha : s.accepts l = true)
include hl ha

/-- R167, R193: the FEC blocks that come with an accepted frame count, whatever becomes of it. -/
theorem exec_mirrorFrameArrival_fec :
    ∃ t, exec (.mirrorFrameArrival ⟨l, corr, unc⟩ os) s = .next t
      ∧ s.counted t .MIR_FEC_CORR_CNT l (if bitOf (s.get MIR_CTL.FEC_EN) l then corr else 0)
      ∧ s.counted t .MIR_FEC_UNC_CNT l (if bitOf (s.get MIR_CTL.FEC_EN) l then unc else 0) := by
  obtain ⟨hcorr, hunc⟩ := s.fecBlocks_counts l corr unc
  obtain ⟨krx, kfcs, krunt, kgiant, kcorr, kunc⟩ := Rg.mirLane_keys l
  have kovf : Rg.PARSE_INTAKE_OVF_CNT.key 0 = 0x1500a8 := rfl
  have ksts : Rg.MIR_STS.key 0 = 0x140008 := rfl
  have hch := (s.fecBlocks l corr unc).judgeFrame_changesOnly l os
  refine ⟨_, exec_mirrorFrameArrival_accepted corr unc os hl ha, State.counted_congr ?_ hcorr, State.counted_congr ?_ hunc⟩ <;>
  · rw [State.settle_rd_of]
    exact hch.rd_eq (by simp only [List.forall_mem_cons]; simp; omega)

/-- R168: a frame that fails a check is counted there, and leaves nothing else. -/
theorem exec_mirrorFrameArrival_counted {r : Rg} (hj : ∀ u : State, u.judgeFrame l os = u.inc r l)
    (hne : ∀ q ∈ fecWords l, q.1.key q.2 ≠ r.key l) :
    ∃ t, exec (.mirrorFrameArrival ⟨l, corr, unc⟩ os) s = .next t ∧ s.counted t r l 1 ∧ s.frame t [] ((r, l) :: fecWords l) := by
  have hfec := s.fecBlocks_changesOnly l corr unc
  refine ⟨_, exec_mirrorFrameArrival_accepted corr unc os hl ha, ?_, ?_⟩ <;> rw [hj]
  · rw [State.counted, State.settle_rd_of, State.rd_inc_same, hfec.rd_eq hne]
  · exact ((hfec.mono (by simp) (by simp)).inc r l (by simp)).frame

section
variable (hlen : os.length ≤ 2048) (hfcs : fcsOk os = true) (hlong : 80 ≤ os.length)
include hlen hfcs hlong

omit hl ha in
theorem State.judgeFrame_passes (u : State) :
    u.judgeFrame l os = (u.inc .MIR_RX_FRAMES_CNT l).enterFifo ⟨l, stampOf os, (os.drop 16).take (os.length - 20)⟩ :=
  (if_neg (by omega)).trans ((if_neg (by simp [hfcs])).trans (if_neg (by omega)))

/-- R170: a frame that passes and finds 256 waiting. -/
theorem exec_mirrorFrameArrival_overflows (hfull : 256 ≤ s.intake.fifo.length) :
    ∃ t, exec (.mirrorFrameArrival ⟨l, corr, unc⟩ os) s = .next t
      ∧ s.counted t .MIR_RX_FRAMES_CNT l 1 ∧ s.counted t .PARSE_INTAKE_OVF_CNT 0 1
      ∧ s.frame t [] ([(.MIR_RX_FRAMES_CNT, l), (.PARSE_INTAKE_OVF_CNT, 0)] ++ fecWords l) := by
  have hfec := s.fecBlocks_changesOnly l corr unc
  obtain ⟨krx, -⟩ := Rg.mirLane_keys l
  have kovf : Rg.PARSE_INTAKE_OVF_CNT.key 0 = 0x1500a8 := rfl
  have hne : Rg.MIR_RX_FRAMES_CNT.key l ≠ Rg.PARSE_INTAKE_OVF_CNT.key 0 := by omega
  refine ⟨_, exec_mirrorFrameArrival_accepted corr unc os hl ha, ?_⟩
  rw [State.judgeFrame_passes hlen hfcs hlong, State.enterFifo_full _ (by rwa [State.inc_intake, hfec.part .intake (by simp)])]
  refine ⟨?_, ?_, ?_⟩
  · rw [State.counted, State.settle_rd_of, State.rd_inc_ne _ _ _ hne.symm, State.rd_inc_same,
      hfec.rd_eq (fecWords_key_ne (by omega) (by omega))]
  · rw [State.counted, State.settle_rd_of, State.rd_inc_same, State.rd_inc_ne _ _ _ hne,
      hfec.rd_eq (fecWords_key_ne (by omega) (by omega))]
  · exact (((hfec.mono (by simp) (by simp)).inc _ l (by simp)).inc _ 0 (by simp)).frame

/-- R151, R168, R170, R186: a frame that passes and finds room. -/
theorem exec_mirrorFrameArrival_enters (hroom : s.intake.fifo.length < 256) (hheld : (s.lane l).held = []) :
    ∃ t, exec (.mirrorFrameArrival ⟨l, corr, unc⟩ os) s = .next t
      ∧ s.counted t .MIR_RX_FRAMES_CNT l 1
      ∧ t.intake.fifo = s.intake.fifo ++ [⟨l, stampOf os, (os.drop 16).take (os.length - 20)⟩]
      ∧ t.lane l = (if (s.lane l).awaitsFirst then { s.lane l with expect := some (stampOf os).seq, fresh := false } else s.lane l)
      ∧ t.get MIR_STS.SEQ_SYNC
        = (if (s.lane l).awaitsFirst then withBit (s.get MIR_STS.SEQ_SYNC) l true else s.get MIR_STS.SEQ_SYNC)
      ∧ t.intake = { s.intake with fifo := t.intake.fifo, lanes := t.intake.lanes } ∧ s.onlyLane t l
      ∧ s.frame t [.intake] ([(.MIR_RX_FRAMES_CNT, l), (.MIR_STS, 0)] ++ fecWords l) := by
  have hfec := s.fecBlocks_changesOnly l corr unc
  obtain ⟨krx, -⟩ := Rg.mirLane_keys l
  have ksts : Rg.MIR_STS.key 0 = 0x140008 := rfl
  have hexec := exec_mirrorFrameArrival_accepted corr unc os hl ha
  rw [State.judgeFrame_passes hlen hfcs hlong] at hexec
  have hch : s.changesOnly ((s.fecBlocks l corr unc).inc .MIR_RX_FRAMES_CNT l) [] ((.MIR_RX_FRAMES_CNT, l) :: fecWords l) :=
    (hfec.mono (by simp) (by simp)).inc _ l (by simp)
  have hcnt : s.counted ((s.fecBlocks l corr unc).inc .MIR_RX_FRAMES_CNT l) .MIR_RX_FRAMES_CNT l 1 := by
    rw [State.counted, State.rd_inc_same, hfec.rd_eq (fecWords_key_ne (by omega) (by omega))]
  generalize (s.fecBlocks l corr unc).inc .MIR_RX_FRAMES_CNT l = u at *
  have hin : u.intake = s.intake := hch.part .intake (by simp)
  have hlanes (k : Nat) : u.lane k = s.lane k := by rw [State.lane, State.lane, hin]
  have hsts : u.rd .MIR_STS = s.rd .MIR_STS := hch.rd_eq (List.forall_mem_cons.mpr ⟨by dsimp only; omega, fecWords_key_ne (by omega) (by omega)⟩)
  have hsync : u.get MIR_STS.SEQ_SYNC = s.get MIR_STS.SEQ_SYNC := congrArg MIR_STS.SEQ_SYNC.of hsts
  obtain ⟨hlane, hget, hintake, honly⟩ := State.firstSeq_effect (s := u) (stampOf os).seq hl (by rw [hlanes, hheld])
  have hfirst := u.firstSeq_changesOnly l (stampOf os).seq
  rw [State.enterFifo_room _ (by rwa [hin])] at hexec
  refine ⟨_, hexec, ?_, ?_, ?_, ?_, ?_, fun k hk => ?_, ?_⟩
  · refine State.counted_congr ?_ hcnt
    rw [State.settle_rd_of, State.mk_rd]
    exact hfirst.rd_eq (by simp only [List.forall_mem_singleton]; omega)
  · rw [State.settle_intake, hin]
  · rw [State.settle_lane, ← hlanes]
    exact hlane
  · rw [State.settle_get_of, State.mk_get, hget, hlanes, hsync]
  · rw [State.settle_intake]
    dsimp only
    rw [hintake, hin]
  · rw [State.settle_lane, ← hlanes]
    exact honly k hk
  · exact (((hch.mono (by simp) (by simp)).trans (hfirst.mono (by simp) (by simp))).trans (State.changesOnly_intake _ _ _ (by simp))).frame

end

end

/-- Settles O25: an arriving frame meets giant, FCS and runt in turn; with no frame held its number only opens the order of its lane. -/
theorem framesAndBlockLock : Obligations.FramesAndBlockLock := by
  unfold Obligations.FramesAndBlockLock
  refine ⟨⟨fun s l hl h0 h11 hlock => exec_mirBlockLockLoss_effect hl h0 h11 hlock,
    fun s l hl h0 h11 hsoft => exec_mirBlockLockAcquired_effect hl h0 h11 hsoft⟩, fun s l corr unc os hl ha => ?_⟩
  obtain ⟨-, kfcs, krunt, kgiant, -⟩ := Rg.mirLane_keys l
  refine ⟨exec_mirrorFrameArrival_fec corr unc hl ha, fun hlong => ?_, fun hlen hfcs => ?_, fun hfcs hshort => ?_,
    fun hlen hfcs hlong => exec_mirrorFrameArrival_overflows corr unc hl ha hlen hfcs hlong,
    fun hlen hfcs hlong => exec_mirrorFrameArrival_enters corr unc hl ha hlen hfcs hlong⟩
  · exact exec_mirrorFrameArrival_counted corr unc hl ha (fun u => if_pos hlong) (fecWords_key_ne (by omega) (by omega))
  · exact exec_mirrorFrameArrival_counted corr unc hl ha (fun u => (if_neg (by omega)).trans (if_pos (by simp [hfcs])))
      (fecWords_key_ne (by omega) (by omega))
  · exact exec_mirrorFrameArrival_counted corr unc hl ha
      (fun u => (if_neg (by omega)).trans ((if_neg (by simp [hfcs])).trans (if_pos hshort)))
      (fecWords_key_ne (by omega) (by omega))

end Sys2Proof.Machine

namespace Sys2Proof.Machine

/-! ### The start of a pass (R170, R184) -/

/-- R184: a free parse lane takes pass `p`, once the intake is left at `x`. -/
theorem exec_parsePassStart_takes {s : State} {x : Intake} {p : Pass} (hpass : x.passes = s.intake.passes) (hlane : x.nextLane = s.intake.nextLane)
    (hexec : exec .parsePassStart s = done ({ s with intake := x }.startPass p)) :
    ∃ t, exec .parsePassStart s = .next t
      ∧ t.intake = { x with
          passes := Tab.set none s.intake.passes s.intake.nextLane (some p), nextLane := (s.intake.nextLane + 1) % 16 }
      ∧ s.frame t [.intake] [] := by
  refine ⟨_, hexec, ?_, (s.changesOnly_intake _ _ (by simp)).frame⟩
  rw [State.settle_intake, ← hpass, ← hlane]
  rfl

/-- Settles O26: a recirculated pass goes first; without one the oldest frame starts a first pass of the active generation. -/
theorem parsePassStarts : Obligations.ParsePassStarts := by
  unfold Obligations.ParsePassStarts
  intro s hruns hfree
  have hlane : ¬ (!s.intakeRuns || (s.passAt s.intake.nextLane).isSome) = true := by simp [hruns, hfree]
  refine ⟨fun p ps hrec => ?_, fun f fs hrec hfifo => ?_⟩
  · exact exec_parsePassStart_takes (x := { s.intake with recirc := ps }) rfl rfl
      (congrArg done ((if_neg hlane).trans (by rw [hrec])))
  · exact exec_parsePassStart_takes (x := { s.intake with fifo := fs }) rfl rfl
      (congrArg done ((if_neg hlane).trans (by rw [hrec, hfifo])))

end Sys2Proof.Machine

namespace Sys2Proof.Machine

/-! ### Policers and the slow path (R181, R189) -/

/-- R181: a policer writes its bucket. -/
theorem State.token_eq (s : State) (k rate burst : Nat) :
    ∃ bs, (s.token k rate burst).2 = { s with intake := { s.intake with buckets := bs } } := by
  unfold State.token
  exact ⟨_, rfl⟩

theorem State.token_changesOnly (s : State) (k rate burst : Nat) : s.changesOnly (s.token k rate burst).2 [.intake] [] := by
  obtain ⟨bs, he⟩ := s.token_eq k rate burst
  rw [he]
  exact s.changesOnly_intake _ _ (by simp)

theorem State.token_lane (s : State) (k rate burst l : Nat) : (s.token k rate burst).2.lane l = s.lane l := by
  obtain ⟨bs, he⟩ := s.token_eq k rate burst
  rw [he]
  rfl

theorem State.token_slow (s : State) (k rate burst : Nat) : (s.token k rate burst).2.intake.slow = s.intake.slow := by
  obtain ⟨bs, he⟩ := s.token_eq k rate burst
  rw [he]

/-- R181: what a policer answers is read from its bucket and the tick. -/
theorem State.token_congr {s u : State} (hb : u.intake.buckets = s.intake.buckets) (hd : u.dev = s.dev) (k rate burst : Nat) :
    (u.token k rate burst).1 = (s.token k rate burst).1 := by
  rw [State.token, State.token, hb, hd]

/-- R181, R189: the token that a frame of the unreserved share takes, and the state that it leaves. -/
abbrev State.slowToken (s : State) : Bool × State := s.token 1026 (s.get PARSE_SLOW_POL0.RATE) (s.get PARSE_SLOW_POL0.BURST)

/-- R189: an entry joins the slow-path queue behind the others. -/
def State.joinSlow (s : State) (e : SlowEntry) : State := { s with intake := { s.intake with slow := s.intake.slow ++ [e] } }

section
variable (s : State) (e : SlowEntry)

@[simp] theorem State.joinSlow_slow : (s.joinSlow e).intake.slow = s.intake.slow ++ [e] := rfl
@[simp] theorem State.joinSlow_lane (l : Nat) : (s.joinSlow e).lane l = s.lane l := rfl
@[simp] theorem State.joinSlow_rd (r : Rg) (i : Nat) : (s.joinSlow e).rd r i = s.rd r i := rfl
@[simp] theorem State.joinSlow_get (f : Fld) (i : Nat) : (s.joinSlow e).get f i = s.get f i := rfl
theorem State.joinSlow_changesOnly : s.changesOnly (s.joinSlow e) [.intake] [] := s.changesOnly_intake _ _ (by simp)

end

/-- The entries of the unreserved share fit the shown depth of 11 bits. -/
theorem State.get_slowDepth (s : State) {n : Nat} (h : n ≤ 960) : (s.set PARSE_SLOW_STS.DEPTH n).get PARSE_SLOW_STS.DEPTH = n :=
  (s.get_set_same _ _ _ rfl).trans (Nat.mod_eq_of_lt (Nat.lt_of_le_of_lt h (by decide)))

/-- R189: the unreserved share has a token and room. -/
theorem State.slowAdmit_enters {s : State} (cause : Nat) (f : Frame) (hroom : s.intake.slow.length < 960) (htoken : s.slowToken.1 = true) :
    s.slowAdmit cause false f
      = ((s.slowToken.2.inc .PARSE_SLOW_CNT).set PARSE_SLOW_STS.DEPTH (s.intake.slow.length + 1)).joinSlow ⟨cause, f⟩ := by
  have hslow : s.slowToken.2.intake.slow = s.intake.slow := s.token_slow _ _ _
  have hfull : ¬ 960 ≤ s.intake.slow.length := Nat.not_le.mpr hroom
  unfold State.slowAdmit
  simp only [Bool.false_eq_true, if_false, htoken, Bool.not_true, hslow, hfull, State.joinSlow]

/-- R189: a frame that the slow path takes is its last entry, counted and shown. -/
theorem State.slowAdmit_effect {s : State} (cause : Nat) (f : Frame) (hroom : s.intake.slow.length < 960) (htoken : s.slowToken.1 = true) :
    let t := s.slowAdmit cause false f
    t.intake.slow = s.intake.slow ++ [⟨cause, f⟩] ∧ s.counted t .PARSE_SLOW_CNT 0 1
      ∧ t.get PARSE_SLOW_STS.DEPTH = s.intake.slow.length + 1 ∧ (∀ l, t.lane l = s.lane l)
      ∧ s.changesOnly t [.intake] [(.PARSE_SLOW_CNT, 0), (.PARSE_SLOW_STS, 0)] := by
  rw [State.slowAdmit_enters cause f hroom htoken]
  have hpoliced : s.changesOnly s.slowToken.2 [.intake] [] := s.token_changesOnly _ _ _
  have hlane (l : Nat) : s.slowToken.2.lane l = s.lane l := s.token_lane _ _ _ l
  have hslow : s.slowToken.2.intake.slow = s.intake.slow := s.token_slow _ _ _
  generalize s.slowToken.2 = u at hpoliced hlane hslow ⊢
  dsimp only
  refine ⟨?_, ?_, ?_, fun l => ?_, ?_⟩
  · rw [State.joinSlow_slow, State.set_intake, State.inc_intake, hslow]
  · rw [State.counted, State.joinSlow_rd, State.rd_set_ne _ _ _ _ (by decide), State.rd_inc_same, hpoliced.rd_eq (by simp)]
  · rw [State.joinSlow_get, State.get_slowDepth _ hroom]
  · rw [State.joinSlow_lane, State.lane, State.set_intake, State.inc_intake]
    exact hlane l
  · exact (((hpoliced.mono (by simp) (by simp)).inc .PARSE_SLOW_CNT 0 (by simp)).set PARSE_SLOW_STS.DEPTH _ 0 (by simp)).trans
      ((State.joinSlow_changesOnly _ _).mono (by simp) (by simp))

/-! ### A message that reaches its engine (R154, R158, R211) -/

/-- R154, R158, R213: the words that a message towards the engine of flow `f` may write. -/
def engineWords (f : Nat) : List (Rg × Nat) :=
  [(.FLOW_STS, f), (.FLOW_MISS_CNT, f), (.TWL_CONV_DROP_CNT, 0), (.PAIR_EVQ_DROP_CNT, 0)]

/-- The words of a flow lie at 8 and 12 of its 16 octets; the counters of discarded stamps and of dropped events stand
outside the block of the frame intake. -/
theorem engineWords_key_ne {f : Nat} {r : Rg} {i : Nat} (hlow : 0x150000 ≤ r.key i ∧ r.key i < 0x160000) (hmod : r.key i % 16 < 8) :
    ∀ q ∈ engineWords f, q.1.key q.2 ≠ r.key i := by
  have ksts : Rg.FLOW_STS.key f = 0x130408 + 0x10 * f := rfl
  have kmiss : Rg.FLOW_MISS_CNT.key f = 0x13040c + 0x10 * f := rfl
  have kdrop : Rg.TWL_CONV_DROP_CNT.key 0 = 0x13005c := rfl
  have kevq : Rg.PAIR_EVQ_DROP_CNT.key 0 = 0x1600a0 := rfl
  refine List.forall_mem_cons.mpr ⟨?_, List.forall_mem_cons.mpr ⟨?_, List.forall_mem_cons.mpr ⟨?_, List.forall_mem_singleton.mpr ?_⟩⟩⟩ <;>
  · dsimp only
    omega

section
variable (s : State) (f : Nat)

theorem State.missExchange_changesOnly : s.changesOnly (s.missExchange f) [] [(.FLOW_MISS_CNT, f)] := s.changesOnly_inc _ _ _ (by simp)

theorem State.takeAnnounce_changesOnly (a : Announce) (log : Int) : s.changesOnly (s.takeAnnounce f a log) [.twl] [(.FLOW_STS, f)] :=
  (s.setFlow_changesOnly f _ _ (by simp)).trans (State.changesOnly_cond
    ((State.changesOnly_set _ FLOW_STS.CLASS _ f _ (by simp)).set FLOW_STS.STEPS _ f (by simp)))

theorem State.takeSync_changesOnly (st : Stamp) (m : List Octet) : s.changesOnly (s.takeSync f st m) [.twl, .free] (engineWords f) := by
  have hmiss (u : State) : u.changesOnly (u.missExchange f) [.twl, .free] (engineWords f) :=
    (u.missExchange_changesOnly f).mono (by simp) (by simp [engineWords])
  have htaken (u : State) : u.changesOnly (u.takeStamps f st.channel st.tsValid (stampTs st)).2 [.twl, .free] (engineWords f) :=
    (u.takeStamps_changesOnly f _ _ _).mono (by simp) (by simp [engineWords])
  unfold State.takeSync
  dsimp only
  refine State.changesOnly.trans ?_ ((State.tryComplete_changesOnly _ f).mono (by simp) (by simp))
  refine State.changesOnly.trans ?_ (State.setFlow_changesOnly _ f _ _ (by simp))
  exact ((State.changesOnly_cond (hmiss s)).trans (htaken _)).trans (State.changesOnly_cond (hmiss _))

theorem State.takePdelayResp_changesOnly (st : Stamp) (m : List Octet) :
    s.changesOnly (s.takePdelayResp f st m) [.twl, .free] (engineWords f) := by
  have htaken (x : Flow) : s.changesOnly ((s.takeStamps f st.channel st.tsValid (stampTs st)).2.setFlow f x) [.twl, .free] (engineWords f) :=
    ((s.takeStamps_changesOnly f _ _ _).mono (by simp) (by simp [engineWords])).trans (State.setFlow_changesOnly _ f _ _ (by simp))
  unfold State.takePdelayResp
  dsimp only
  split
  · obtain ⟨-, -, -, hmiss⟩ := State.missRequest_effect _ f
    exact (htaken _).trans (hmiss.mono (by simp) (by simp [engineWords]))
  · exact (htaken _).trans ((State.tryComplete_changesOnly _ f).mono (by simp) (by simp))

/-- R158: a message that may complete the exchange of its flow, where `b` says that the exchange takes it. -/
theorem State.completing_changesOnly (b : Bool) (x : Flow) :
    s.changesOnly (if b then (s.setFlow f x).tryComplete f else s) [.twl, .free] (engineWords f) := by
  split
  · exact (s.setFlow_changesOnly f x _ (by simp)).trans ((State.tryComplete_changesOnly _ f).mono (by simp) (by simp))
  · exact s.changesOnly_refl _ _

theorem State.takeFlowMessage_changesOnly (st : Stamp) (m : List Octet) :
    s.changesOnly (s.takeFlowMessage f st m) [.twl, .free] (engineWords f) := by
  unfold State.takeFlowMessage
  dsimp only
  split
  · exact (s.takeAnnounce_changesOnly f _ _).mono (by simp) (by simp [engineWords])
  · exact s.takeSync_changesOnly f st m
  · exact s.completing_changesOnly f _ _
  · exact s.completing_changesOnly f _ _
  · split
    · exact s.takePdelayResp_changesOnly f st m
    · exact s.changesOnly_refl _ _
  · exact s.completing_changesOnly f _ _
  · exact s.changesOnly_refl _ _

/-- R154: the shown state of a flow; one that is not active holds nothing. -/
theorem State.showFlow_changesOnly_any : s.changesOnly (s.showFlow f) [.twl] [(.FLOW_STS, f)] := by
  have hset (u : State) : u.changesOnly (u.set FLOW_STS.STATE (u.flowState f) f) [.twl] [(.FLOW_STS, f)] := u.changesOnly_set _ _ _ _ (by simp)
  unfold State.showFlow
  dsimp only
  split
  · exact hset s
  · exact (s.setFlow_changesOnly f .reset _ (by simp)).trans (hset _)

theorem State.streamMessage_changesOnly (st : Stamp) (os : List Octet) :
    s.changesOnly (s.streamMessage f st os) [.pair] [(.PAIR_EVQ_DROP_CNT, 0)] := by
  unfold State.streamMessage
  split
  · exact s.changesOnly_inc _ _ _ (by simp)
  · exact s.changesOnly_pair _ _ (by simp)

theorem State.toEngine_changesOnly (st : Stamp) (m : List Octet) : s.changesOnly (s.toEngine f st m) [.twl, .free, .pair] (engineWords f) := by
  unfold State.toEngine
  split
  · exact s.changesOnly_refl _ _
  · split
    · exact (s.streamMessage_changesOnly f st _).mono (by simp) (by simp [engineWords])
    · exact ((s.takeFlowMessage_changesOnly f st m).mono (by simp) (List.Subset.refl _)).trans
        ((State.showFlow_changesOnly_any _ f).mono (by simp) (by simp [engineWords]))

theorem State.keepHeader_changesOnly (fr : Frame) (kind body ip : Nat) : s.changesOnly (s.keepHeader f fr kind body ip) [.twl] [] := by
  unfold State.keepHeader
  split
  · exact s.setFlow_changesOnly f _ _ (by simp)
  · exact s.changesOnly_refl _ _

/-- R191, R211: what becomes of a delivered message of flow `f`, once it is counted. -/
theorem State.delivered_changesOnly (fr : Frame) (kind body ip : Nat) :
    s.changesOnly ((s.keepHeader f fr kind body ip).toEngine f fr.stamp (fr.os.drop body)) [.twl, .free, .pair] (engineWords f) :=
  ((s.keepHeader_changesOnly f fr kind body ip).mono (by simp) (by simp)).trans (State.toEngine_changesOnly _ f _ _)

end

/-! ### A delivery to a flow (R180, R181) -/

/-- R181: the token that a delivery to flow `flow` takes, and the state that it leaves. -/
abbrev State.flowToken (s : State) (flow : Nat) (m : List Octet) : Bool × State :=
  s.token (flow * 16 + ptpType m) (s.get PARSE_FLOW_POL.RATE) (s.get PARSE_FLOW_POL.BURST)

section
variable {s : State} {f : Frame} {flow body : Nat} (kind ip : Nat)

theorem State.deliver_policed (h : (s.flowToken flow (f.os.drop body)).1 = false) :
    s.deliver f 0 flow kind body ip = (s.flowToken flow (f.os.drop body)).2.inc .PARSE_FLOW_POLICE_CNT := by
  unfold State.deliver
  simp only [h, Bool.not_false, if_true]

theorem State.deliver_delivers (h : (s.flowToken flow (f.os.drop body)).1 = true) :
    s.deliver f 0 flow kind body ip
      = (((s.flowToken flow (f.os.drop body)).2.inc .PARSE_DELIVER_CNT).keepHeader flow f kind body ip).toEngine flow f.stamp (f.os.drop body) := by
  unfold State.deliver
  simp only [h, Bool.not_true, Bool.false_eq_true, if_false]

/-- R181: a delivery without a token is counted, and nothing of it reaches the flow. -/
theorem State.deliver_policed_effect (h : (s.flowToken flow (f.os.drop body)).1 = false) :
    let t := s.deliver f 0 flow kind body ip
    (∀ l, t.lane l = s.lane l) ∧ s.counted t .PARSE_FLOW_POLICE_CNT 0 1 ∧ s.changesOnly t [.intake] [(.PARSE_FLOW_POLICE_CNT, 0)] := by
  dsimp only
  rw [State.deliver_policed kind ip h]
  have hpoliced : s.changesOnly (s.flowToken flow (f.os.drop body)).2 [.intake] [] := s.token_changesOnly _ _ _
  have hlane (l : Nat) : (s.flowToken flow (f.os.drop body)).2.lane l = s.lane l := s.token_lane _ _ _ l
  generalize (s.flowToken flow (f.os.drop body)).2 = u at hpoliced hlane ⊢
  refine ⟨fun l => (State.add_lane u _ 1 0 l).trans (hlane l), ?_, (hpoliced.mono (by simp) (by simp)).inc _ 0 (by simp)⟩
  rw [State.counted, State.rd_inc_same, hpoliced.rd_eq (by simp)]

/-- R181, R186: a delivery with a token is counted, and the message goes to the engine of its flow. -/
theorem State.deliver_delivers_effect (h : (s.flowToken flow (f.os.drop body)).1 = true) :
    let t := s.deliver f 0 flow kind body ip
    (∀ l, t.lane l = s.lane l) ∧ s.counted t .PARSE_DELIVER_CNT 0 1 ∧ t.rd .PARSE_FLOW_POLICE_CNT = s.rd .PARSE_FLOW_POLICE_CNT := by
  dsimp only
  rw [State.deliver_delivers kind ip h]
  have hpoliced : s.changesOnly (s.flowToken flow (f.os.drop body)).2 [.intake] [] := s.token_changesOnly _ _ _
  have hlane (l : Nat) : (s.flowToken flow (f.os.drop body)).2.lane l = s.lane l := s.token_lane _ _ _ l
  generalize (s.flowToken flow (f.os.drop body)).2 = u at hpoliced hlane ⊢
  have hrest := (u.inc .PARSE_DELIVER_CNT).delivered_changesOnly flow f kind body ip
  refine ⟨fun l => ?_, ?_, ?_⟩
  · rw [State.lane, hrest.part .intake (by simp), State.inc_intake]
    exact hlane l
  · rw [State.counted, hrest.rd_eq (engineWords_key_ne (by decide) (by decide)), State.rd_inc_same, hpoliced.rd_eq (by simp)]
  · rw [hrest.rd_eq (engineWords_key_ne (by decide) (by decide)), State.rd_inc_ne _ _ _ (by decide), hpoliced.rd_eq (by simp)]

end

/-! ### The release of the oldest ready frame (R186) -/

theorem State.setLane_changesOnly (s : State) (l : Nat) (x : LaneOrder) : s.changesOnly (s.setLane l x) [.intake] [] :=
  s.changesOnly_intake _ _ (by simp)

/-- R186: the oldest ready frame leaves its lane, and is released. -/
theorem exec_frameRelease_oldest {s : State} {l : Nat} {d : Decided} {ds : List Decided} (hl : l < 4) (hready : (s.lane l).ready = d :: ds) :
    exec (.frameRelease l) s = .next ((s.setLane l { s.lane l with ready := ds }).release d).settle :=
  (onUnit_next l 4 s _ hl).trans (congrArg done (by dsimp only; rw [hready]))

section
variable {s : State} {d : Decided} (hcopies : d.copies = [])
include hcopies

theorem State.release_drop (hfate : d.fate = .drop) : s.release d = s := by simp only [State.release, hcopies, hfate, List.foldl_nil]

theorem State.release_slow {cause : Nat} {rsv : Bool} (hfate : d.fate = .slow cause rsv) : s.release d = s.slowAdmit cause rsv d.frame := by
  simp only [State.release, hcopies, hfate, List.foldl_nil]

theorem State.release_deliver {target flow kind body ip : Nat} (hfate : d.fate = .deliver target flow kind body ip) :
    s.release d = s.deliver d.frame target flow kind body ip := by
  simp only [State.release, hcopies, hfate, List.foldl_nil]

end

section
variable {s : State} {l : Nat} {d : Decided} {ds : List Decided} (hl : l < 4) (hready : (s.lane l).ready = d :: ds) (hcopies : d.copies = [])
include hl hready hcopies

/-- R186: a dropped frame leaves nothing but its place in the order. -/
theorem exec_frameRelease_drop (hfate : d.fate = .drop) :
    ∃ t, exec (.frameRelease l) s = .next t
      ∧ t.lane l = { s.lane l with ready := ds } ∧ s.onlyLane t l
      ∧ t.intake = { s.intake with lanes := t.intake.lanes } ∧ s.frame t [.intake] [] := by
  have hexec := exec_frameRelease_oldest hl hready
  rw [State.release_drop hcopies hfate] at hexec
  refine ⟨_, hexec, ?_, fun k hk => ?_, ?_, (s.setLane_changesOnly _ _).frame⟩
  · rw [State.settle_lane, State.lane_setLane_same]
  · rw [State.settle_lane, State.lane_setLane_ne _ _ hk.symm]
  · rw [State.settle_intake]
    rfl

/-- R189: the slow path takes a frame whose share has room and a token. -/
theorem exec_frameRelease_slow {cause : Nat} (hfate : d.fate = .slow cause false) (hroom : s.intake.slow.length < 960) (htoken : s.slowToken.1 = true) :
    ∃ t, exec (.frameRelease l) s = .next t
      ∧ t.intake.slow = s.intake.slow ++ [⟨cause, d.frame⟩] ∧ s.counted t .PARSE_SLOW_CNT 0 1
      ∧ t.get PARSE_SLOW_STS.DEPTH = s.intake.slow.length + 1 ∧ t.lane l = { s.lane l with ready := ds }
      ∧ s.frame t [.intake] [(.PARSE_SLOW_CNT, 0), (.PARSE_SLOW_STS, 0)] := by
  have hexec := exec_frameRelease_oldest hl hready
  rw [State.release_slow hcopies hfate] at hexec
  obtain ⟨hslow, hcnt, hdepth, hlane, hch⟩ := State.slowAdmit_effect (s := s.setLane l { s.lane l with ready := ds }) cause d.frame hroom
    ((State.token_congr rfl rfl _ _ _).trans htoken)
  refine ⟨_, hexec, ?_, State.counted_congr (State.settle_rd_of ..) hcnt, ?_, ?_,
    (((s.setLane_changesOnly _ _).mono (by simp) (by simp)).trans hch).frame⟩
  · rw [State.settle_intake, hslow]
    rfl
  · rw [State.settle_get_of, hdepth]
    rfl
  · rw [State.settle_lane, hlane, State.lane_setLane_same]

/-- R181: a delivery takes a token of its policer and is counted, or is policed. -/
theorem exec_frameRelease_deliver {flow kind body ip : Nat} (hfate : d.fate = .deliver 0 flow kind body ip) :
    ∃ t, exec (.frameRelease l) s = .next t
      ∧ t.lane l = { s.lane l with ready := ds }
      ∧ (if (s.flowToken flow (d.frame.os.drop body)).1 then
          s.counted t .PARSE_DELIVER_CNT 0 1 ∧ t.rd .PARSE_FLOW_POLICE_CNT = s.rd .PARSE_FLOW_POLICE_CNT
        else s.counted t .PARSE_FLOW_POLICE_CNT 0 1 ∧ s.frame t [.intake] [(.PARSE_FLOW_POLICE_CNT, 0)]) := by
  have hexec := exec_frameRelease_oldest hl hready
  rw [State.release_deliver hcopies hfate] at hexec
  have htoken : ((s.setLane l { s.lane l with ready := ds }).flowToken flow (d.frame.os.drop body)).1
      = (s.flowToken flow (d.frame.os.drop body)).1 := State.token_congr rfl rfl _ _ _
  refine ⟨_, hexec, ?_⟩
  cases hb : (s.flowToken flow (d.frame.os.drop body)).1 with
  | true =>
    obtain ⟨hlane, hcnt, hpolice⟩ := State.deliver_delivers_effect kind ip (htoken.trans hb)
    refine ⟨?_, State.counted_congr (State.settle_rd_of ..) hcnt, (State.settle_rd_of ..).trans hpolice⟩
    rw [State.settle_lane, hlane, State.lane_setLane_same]
  | false =>
    obtain ⟨hlane, hcnt, hch⟩ := State.deliver_policed_effect kind ip (htoken.trans hb)
    refine ⟨?_, State.counted_congr (State.settle_rd_of ..) hcnt, (((s.setLane_changesOnly _ _).mono (by simp) (by simp)).trans hch).frame⟩
    rw [State.settle_lane, hlane, State.lane_setLane_same]

end

/-- Settles O28: taking a frame out of its lane moves no bucket, so its policer answers as before, and a message on its way to an engine
writes no word of the frame intake. -/
theorem frameReleases : Obligations.FrameReleases := by
  unfold Obligations.FrameReleases
  exact fun s l d ds hl hready hcopies => ⟨exec_frameRelease_drop hl hready hcopies,
    fun cause => exec_frameRelease_slow hl hready hcopies,
    fun flow kind body ip => exec_frameRelease_deliver hl hready hcopies⟩

end Sys2Proof.Machine

namespace Sys2Proof.Machine

/-! ### Commands of the pair logic (R200) -/

theorem State.onPair_runs {s : State} (f : State → State) (hr : s.pairRuns = true) : s.onPair f = f s := if_pos hr

theorem State.onPeer_runs {s : State} (f : State → State) (hr : s.pairRuns = true) (hb : s.pair.helloBad = false) : s.onPeer f = f s :=
  if_pos (by rw [hr, hb]; rfl)

theorem State.changesOnly.pair {s t : State} {parts : List Part} {words : List (Rg × Nat)} (h : s.changesOnly t parts words) (x : Pair)
    (hp : Part.pair ∈ parts) : s.changesOnly { t with pair := x } parts words := h.trans (t.changesOnly_pair x words hp)

/-! ### Claims (R204, R205) -/

theorem State.tryClaim_waits {s : State} (h : s.pair.waitDone = false) : s.tryClaim = s := if_pos (by simp [h])

theorem State.tryForm_idle {s : State} (h : s.pair.forming = false) : s.tryForm = s := if_neg (by simp [h])

/-- R204: a running unit without a role takes the active one. -/
theorem State.tryClaim_claims {s : State} (hw : s.pair.waitDone = true) (hl : s.pair.peerLow = false) (hc : s.pair.claimWant = true)
    (hr : s.get PAIR_STS.ROLE = 0) (hrun : s.isRun = true) :
    s.tryClaim = { (s.set PAIR_STS.ROLE 1).set PAIR_STS.FORMED 1 with
      pair := { s.pair with drive := true, claimWant := false, forming := false } } := by
  unfold State.tryClaim
  rw [if_neg (by simp [hw, hl]), if_pos (by simp [hc, hr, hrun])]
  simp only [State.set_pair]

theorem State.isRun_live {s : State} (h : s.isRun = true) : s.liveModes = true := by
  simp only [State.isRun, Bool.and_eq_true, decide_eq_true_eq] at h
  simp only [State.liveModes, Bool.or_eq_true, Bool.and_eq_true, decide_eq_true_eq]
  omega

/-- R201, R279: a running unit that drives the line holds ACTIVE_N low. -/
theorem State.pinsOf_drives {s : State} (hrun : s.isRun = true) (hd : s.pair.drive = true) : s.pinsOf.activeLow = true := by
  have hlive := State.isRun_live hrun
  have hdev : s.pinDrive = .device := by
    simp only [State.isRun, Bool.and_eq_true, decide_eq_true_eq] at hrun
    exact if_pos (.inl (by omega))
  simp only [State.pinsOf, hdev, if_true, State.ownPins, State.drivesActive, hd, hlive, Bool.and_self]

theorem exec_claimWaitExpired_claims {s : State} (hr : s.pairRuns = true) (hl : s.pair.peerLow = false) (hc : s.pair.claimWant = true)
    (hrole : s.get PAIR_STS.ROLE = 0) (hrun : s.isRun = true) :
    ∃ t, exec .claimWaitExpired s = .next t
      ∧ t.rd .PAIR_STS = PAIR_STS.FORMED.put (PAIR_STS.ROLE.put (s.rd .PAIR_STS) 1) 1 ∧ t.pins.activeLow = true
      ∧ t.pair = { s.pair with waitDone := true, drive := true, claimWant := false, forming := false }
      ∧ s.frame t [.pair] [(.PAIR_STS, 0)] := by
  have hexec : exec .claimWaitExpired s = .next (State.settle { (s.set PAIR_STS.ROLE 1).set PAIR_STS.FORMED 1 with
      pair := { s.pair with waitDone := true, drive := true, claimWant := false, forming := false } }) :=
    congrArg done ((State.onPair_runs _ hr).trans ((if_neg (by simp [hl])).trans (State.tryClaim_claims rfl hl hc hrole hrun)))
  refine ⟨_, hexec, ?_, ?_, rfl,
    (((s.changesOnly_set PAIR_STS.ROLE 1 0 _ (by simp)).set PAIR_STS.FORMED 1 0 (by simp)).pair _ (by simp)).frame⟩
  · simp (disch := decide) only [State.settle_rd_of, State.mk_rd, State.rd_set_same]
  · rw [State.settle_pins]
    refine State.pinsOf_drives ?_ rfl
    simp (disch := decide) only [State.isRun, State.mode, State.mk_get, State.get_set_ne]
    exact hrun


theorem exec_claimWaitExpired_low {s : State} (hr : s.pairRuns = true) (hl : s.pair.peerLow = true) :
    ∃ t, exec .claimWaitExpired s = .next t ∧ s.frame t [] [] :=
  ⟨_, congrArg done ((State.onPair_runs _ hr).trans (if_pos hl)), (s.changesOnly_refl _ _).frame⟩

/-- R204, R205: the claim of the peer, seen first, makes the unit a standby. -/
theorem exec_activeNFall_effect {s : State} (hr : s.pairRuns = true) :
    ∃ t, exec .activeNFall s = .next t
      ∧ t.pair = (if s.pair.claimWant ∧ s.get PAIR_STS.ROLE = 0
          then { s.pair with peerLow := true, waitDone := false, claimWant := false, detachPend := true, epochDue := true }
          else { s.pair with peerLow := true, waitDone := false })
      ∧ s.frame t [.pair] [] := by
  have hexec : exec .activeNFall s = .next (if s.pair.claimWant = true ∧ s.get PAIR_STS.ROLE = 0
        then State.detach { s with pair := { s.pair with peerLow := true, waitDone := false, claimWant := false } }
        else ({ s with pair := { s.pair with peerLow := true, waitDone := false } } : State)).settle :=
    congrArg done (State.onPair_runs (s := { s with pair := { s.pair with peerLow := true, waitDone := false } }) _ hr)
  split_ifs at hexec with h
  · exact ⟨_, hexec, (if_pos h).symm, (s.changesOnly_pair _ _ (by simp)).frame⟩
  · exact ⟨_, hexec, (if_neg h).symm, (s.changesOnly_pair _ _ (by simp)).frame⟩

theorem exec_activeNRise_effect {s : State} (hr : s.pairRuns = true) :
    ∃ t, exec .activeNRise s = .next t
      ∧ t.rd .PAIR_STS = PAIR_STS.CLAIM_BLOCK.put (s.rd .PAIR_STS) 0
      ∧ t.pair = { s.pair with peerLow := false, waitDone := false } ∧ s.frame t [.pair] [(.PAIR_STS, 0)] := by
  refine ⟨_, congrArg done (State.onPair_runs _ hr), ?_, ?_,
    ((s.changesOnly_pair _ _ (by simp)).set PAIR_STS.CLAIM_BLOCK 0 0 (by simp)).frame⟩
  · simp (disch := decide) only [State.settle_rd_of, State.rd_set_same, State.mk_rd]
  · rw [State.settle_pair, State.set_pair]

section
variable {s : State} (hr : s.pairRuns = true) (hf : s.pair.forming = true) (hrun : s.isRun = true) (hrole : s.get PAIR_STS.ROLE = 0)
  (hlink : s.on PAIR_STS.LINK_UP = false) (halive : s.on PAIR_STS.PEER_ALIVE = false)
include hr hf hrun hrole hlink halive

/-- R205: without link and peer the end of FORM_WAIT lets ACTIVE_N decide. -/
theorem exec_formWaitExpired : exec .formWaitExpired s
    = .next (if s.pair.peerLow then s.detach else State.tryClaim { s with pair := { s.pair with claimWant := true } }).settle :=
  congrArg done ((State.onPair_runs _ hr).trans
    (if_pos ⟨hf, hrun, hrole, by simp [State.peerLinked, hlink], by simp [State.peerLives, halive]⟩))

theorem exec_formWaitExpired_low (hl : s.pair.peerLow = true) : ∃ t, exec .formWaitExpired s = .next t
    ∧ t.pair = { s.pair with detachPend := true, epochDue := true } ∧ s.frame t [.pair] [] := by
  have hexec := exec_formWaitExpired hr hf hrun hrole hlink halive
  rw [if_pos hl] at hexec
  exact ⟨_, hexec, rfl, (s.changesOnly_pair _ _ (by simp)).frame⟩

theorem exec_formWaitExpired_high (hl : s.pair.peerLow = false) (hw : s.pair.waitDone = false) : ∃ t, exec .formWaitExpired s = .next t
    ∧ t.pair = { s.pair with claimWant := true } ∧ s.frame t [.pair] [] := by
  have hexec := exec_formWaitExpired hr hf hrun hrole hlink halive
  rw [if_neg (by simp [hl]), State.tryClaim_waits (s := { s with pair := { s.pair with claimWant := true } }) hw] at hexec
  exact ⟨_, hexec, rfl, (s.changesOnly_pair _ _ (by simp)).frame⟩

end

/-- Settles O31: each event is one branch of its command; a claim is the first branch of `tryClaim`, and without the wait over it makes none. -/
theorem pairClaims : Obligations.PairClaims := by
  unfold Obligations.PairClaims
  exact fun s hr => ⟨exec_claimWaitExpired_claims hr, exec_claimWaitExpired_low hr, exec_activeNFall_effect hr, exec_activeNRise_effect hr,
    fun hf hrun hrole hlink halive => ⟨exec_formWaitExpired_low hr hf hrun hrole hlink halive,
      exec_formWaitExpired_high hr hf hrun hrole hlink halive⟩⟩

/-! ### The pair link (R208, R209, R228) -/

theorem State.abortEpoch_idle {s : State} (cause : Nat) (h : s.epochRuns = false) : s.abortEpoch cause = s := if_pos (by simp [h])

theorem State.abortEpoch_of_not_standby {s : State} (cause : Nat) (h : s.isStandby = false) : s.abortEpoch cause = s := if_pos (by simp [h])

theorem State.isStandby_of_isActive {s : State} (h : s.isActive = true) : s.isStandby = false := by
  simp_all [State.isActive, State.isStandby]

theorem State.isActive_of_isStandby {s : State} (h : s.isStandby = true) : s.isActive = false := by
  simp_all [State.isActive, State.isStandby]

/-- R203: while an input lives, so does the peer. -/
theorem State.checkDeath_of_heartbeat {s : State} (h : s.on PAIR_STS.HB0_OK = true ∨ s.on PAIR_STS.HB1_OK = true) : s.checkDeath = s := by
  obtain h | h := h
  · exact State.checkDeath_alive (k := 1) (by decide) h
  · exact State.checkDeath_alive (k := 0) (by decide) h

theorem exec_pairLinkUp_effect {s : State} (hr : s.pairRuns = true) (hl : s.on PAIR_STS.LINK_UP = false) (hf : s.pair.forming = false) :
    ∃ t, exec .pairLinkUp s = .next t
      ∧ t.rd .PAIR_STS = PAIR_STS.CLAIM_BLOCK.put (PAIR_STS.PEER_ALIVE.put (PAIR_STS.LINK_UP.put (s.rd .PAIR_STS) 1) 1) 0
      ∧ t.pair = { s.pair with leftOnEdge := false, epochDue := s.pair.epochDue || (s.isStandby && s.mode == 8) }
      ∧ s.frame t [.pair] [(.PAIR_STS, 0)] := by
  refine ⟨_, congrArg done ((State.onPair_runs _ hr).trans ((if_neg (by simp [hl])).trans (State.tryForm_idle (by simp only [State.set_pair, hf])))), ?_, ?_,
    ((((s.changesOnly_set PAIR_STS.LINK_UP 1 0 _ (by simp)).set PAIR_STS.PEER_ALIVE 1 0 (by simp)).set PAIR_STS.CLAIM_BLOCK 0 0
      (by simp)).pair _ (by simp)).frame⟩
  · simp (disch := decide) only [State.settle_rd_of, State.mk_rd, State.rd_set_same]
  · simp (disch := decide) only [State.settle_pair, State.set_pair, State.isStandby, State.mode, State.get_set_apart, State.get_set_ne]

/-- R209: the link down and its loss counted. -/
def State.linkDown (s : State) : State := (s.set PAIR_STS.LINK_UP 0).inc .PAIR_LINK_LOSS_CNT

theorem State.linkDown_changesOnly (s : State) : s.changesOnly s.linkDown [] [(.PAIR_STS, 0), (.PAIR_LINK_LOSS_CNT, 0)] :=
  (s.changesOnly_set PAIR_STS.LINK_UP 0 0 _ (by simp)).inc .PAIR_LINK_LOSS_CNT 0 (by simp)

theorem State.linkDown_rd (s : State) : s.linkDown.rd .PAIR_STS = PAIR_STS.LINK_UP.put (s.rd .PAIR_STS) 0 := by
  simp (disch := decide) only [State.linkDown, State.rd_inc_ne, State.rd_set_same]

theorem State.linkDown_counts (s : State) : s.counted s.linkDown .PAIR_LINK_LOSS_CNT 0 1 := by
  simp (disch := decide) only [State.counted, State.linkDown, State.rd_inc_same, State.rd_set_ne]

/-- The other flags of PAIR_STS stand. -/
theorem State.linkDown_get (s : State) {g : Fld} (hg : g.ok = true) (hr : g.r = .PAIR_STS) (ha : PAIR_STS.LINK_UP.apart g = true) :
    s.linkDown.get g = s.get g := by
  rw [State.linkDown, State.get_inc_ne _ _ _ _ _ (by rw [hr]; decide), s.get_set_apart _ _ _ _ (by decide) hg hr.symm ha]

theorem State.linkDown_pair (s : State) : s.linkDown.pair = s.pair := s.linkDown_changesOnly.part .pair (by simp)

theorem State.stopStream_changesOnly (s : State) : s.changesOnly s.stopStream [.pair] [] := s.changesOnly_pair _ _ (by simp)

theorem State.linkDown_heartbeat {s : State} (h : s.on PAIR_STS.HB0_OK = true ∨ s.on PAIR_STS.HB1_OK = true) :
    s.linkDown.on PAIR_STS.HB0_OK = true ∨ s.linkDown.on PAIR_STS.HB1_OK = true := by
  simpa only [State.on, s.linkDown_get (g := PAIR_STS.HB0_OK) (by decide) rfl (by decide),
    s.linkDown_get (g := PAIR_STS.HB1_OK) (by decide) rfl (by decide)] using h

theorem State.linkDown_isActive (s : State) : s.linkDown.isActive = s.isActive :=
  congrArg (· == 1) (s.linkDown_get (by decide) rfl (by decide))

theorem State.linkDown_isStandby (s : State) : s.linkDown.isStandby = s.isStandby :=
  congrArg (· == 2) (s.linkDown_get (by decide) rfl (by decide))

/-- R228: a standby holds STANDBY_STEP. -/
def State.holdLead (s : State) : State := { s with pair := { s.pair with holdStep := true, streamInputs := [], seen := [] } }

theorem State.holdLead_rd (s : State) (r : Rg) (i : Nat) : s.holdLead.rd r i = s.rd r i := State.mk_rd ..

theorem State.holdLead_on (s : State) (f : Fld) (i : Nat) : s.holdLead.on f i = s.on f i := State.mk_on ..

/-- R211, R228: the active stops the lead, a standby in step holds it. -/
def State.leadLost (s : State) : State :=
  if s.isActive then (s.stopStream.set PAIR_STS.IN_STEP 0).set PAIR_EPOCH_STS.PHASE 0
  else if s.isStep then s.holdLead
  else s

/-- R209: what the HELLO and the ROLE of the peer have shown counts no more. -/
def State.forgetPeer (s : State) : State := { s with pair := { s.pair with helloOk := false, peerRole := 0 } }

theorem State.linkLoss_up {s : State} (hl : s.on PAIR_STS.LINK_UP = true) :
    s.linkLoss = (s.linkDown.abortEpoch 1).leadLost.forgetPeer.checkDeath := if_pos hl

theorem State.forgetPeer_rd (s : State) (r : Rg) (i : Nat) : s.forgetPeer.rd r i = s.rd r i := State.mk_rd ..

theorem State.forgetPeer_get (s : State) (f : Fld) (i : Nat) : s.forgetPeer.get f i = s.get f i := State.mk_get ..

theorem State.forgetPeer_changesOnly (s : State) {parts : List Part} (words : List (Rg × Nat)) (h : Part.pair ∈ parts) :
    s.changesOnly s.forgetPeer parts words := s.changesOnly_pair _ words h

/-- Where no epoch of the unit aborts and what remains keeps a heartbeat, the loss is what the role makes of it. -/
theorem State.linkLoss_alive {s t : State} (hl : s.on PAIR_STS.LINK_UP = true) (habort : s.linkDown.abortEpoch 1 = s.linkDown)
    (hlost : s.linkDown.leadLost = t) (hhb : t.on PAIR_STS.HB0_OK = true ∨ t.on PAIR_STS.HB1_OK = true) : s.linkLoss = t.forgetPeer := by
  rw [State.linkLoss_up hl, habort, hlost]
  exact State.checkDeath_of_heartbeat hhb

section
variable {s : State} (hr : s.pairRuns = true) (b : Bool) (hl : s.on PAIR_STS.LINK_UP = true)
  (hhb : s.on PAIR_STS.HB0_OK = true ∨ s.on PAIR_STS.HB1_OK = true)
include hr hl hhb

/-- R211, R228: the active without its link no longer streams, and its standby is out of step. -/
theorem exec_pairLinkLoss_active (ha : s.isActive = true) :
    ∃ t, exec (.pairLinkLoss b) s = .next t
      ∧ t.rd .PAIR_STS = PAIR_STS.IN_STEP.put (PAIR_STS.LINK_UP.put (s.rd .PAIR_STS) 0) 0 ∧ t.get PAIR_EPOCH_STS.PHASE = 0
      ∧ s.counted t .PAIR_LINK_LOSS_CNT 0 1
      ∧ t.pair = { s.pair with
          streaming := false, streamInputs := [], seen := [], recopy := [], helloOk := false, peerRole := 0
          out := s.pair.out.filter fun r => !r.isEvent
          stream := s.pair.stream
            ++ (s.pair.out.filter PairRec.isTimed).map fun r => ⟨s.dev.tick + 1 + s.get HOP_CTL.PAIR_LEAD, r⟩ }
      ∧ s.frame t [.pair] [(.PAIR_STS, 0), (.PAIR_EPOCH_STS, 0), (.PAIR_LINK_LOSS_CNT, 0)] := by
  have hhb' : ((s.linkDown.stopStream.set PAIR_STS.IN_STEP 0).set PAIR_EPOCH_STS.PHASE 0).on PAIR_STS.HB0_OK = true
      ∨ ((s.linkDown.stopStream.set PAIR_STS.IN_STEP 0).set PAIR_EPOCH_STS.PHASE 0).on PAIR_STS.HB1_OK = true := by
    simp (disch := decide) only [State.on, State.get_set_apart, State.get_set_ne, State.stopStream, State.mk_get]
    exact State.linkDown_heartbeat hhb
  have hlost : s.linkLoss = _ := State.linkLoss_alive hl
    (State.abortEpoch_of_not_standby 1 (s.linkDown_isStandby.trans (State.isStandby_of_isActive ha)))
    (if_pos (s.linkDown_isActive.trans ha)) hhb'
  refine ⟨_, congrArg done ((State.onPair_runs _ hr).trans hlost), ?_, ?_, ?_, ?_,
    ((((s.linkDown_changesOnly.mono (by simp) (by simp)).trans ((State.stopStream_changesOnly _).mono (by simp) (by simp))).set
      PAIR_STS.IN_STEP 0 0 (by simp)).set PAIR_EPOCH_STS.PHASE 0 0 (by simp)).trans (State.forgetPeer_changesOnly _ _ (by simp)) |>.frame⟩
  · simp (disch := decide) only [State.settle_rd_of, State.forgetPeer_rd, State.rd_set_ne, State.rd_set_same, State.stopStream,
      State.mk_rd, State.linkDown_rd]
  · simp (disch := decide) only [State.settle_get_of, State.forgetPeer_get, State.get_set_same, Nat.zero_mod]
  · simp (disch := decide) only [State.counted, State.settle_rd_of, State.forgetPeer_rd, State.rd_set_ne, State.stopStream, State.mk_rd]
    exact s.linkDown_counts
  · have hlead : s.linkDown.get HOP_CTL.PAIR_LEAD = s.get HOP_CTL.PAIR_LEAD := s.linkDown_changesOnly.get_eq _ (by decide)
    have htick : s.linkDown.dev = s.dev := s.linkDown_changesOnly.part .dev (by simp)
    simp only [State.settle_pair, State.forgetPeer, State.set_pair, State.stopStream, State.linkDown_pair, hlead, htick]

/-- R228: a standby in step holds STANDBY_STEP. -/
theorem exec_pairLinkLoss_standby (hs : s.isStandby = true) (hstep : s.isStep = true) (he : s.epochRuns = false) :
    ∃ t, exec (.pairLinkLoss b) s = .next t
      ∧ t.rd .PAIR_STS = PAIR_STS.LINK_UP.put (s.rd .PAIR_STS) 0 ∧ s.counted t .PAIR_LINK_LOSS_CNT 0 1
      ∧ t.pair = { s.pair with holdStep := true, streamInputs := [], seen := [], helloOk := false, peerRole := 0 }
      ∧ s.frame t [.pair] [(.PAIR_STS, 0), (.PAIR_LINK_LOSS_CNT, 0)] := by
  have hstep' : s.linkDown.isStep = true := (congrArg (· == 7) (s.linkDown_changesOnly.get_eq DEV_MODE.MODE (by decide))).trans hstep
  have he' : s.linkDown.epochRuns = false := (congrArg (· != 0) (s.linkDown_changesOnly.get_eq PAIR_EPOCH_STS.PHASE (by decide))).trans he
  have hact : ¬ s.linkDown.isActive = true := by
    rw [s.linkDown_isActive, State.isActive_of_isStandby hs]
    decide
  have hlost : s.linkLoss = _ := State.linkLoss_alive hl (State.abortEpoch_idle 1 he') ((if_neg hact).trans (if_pos hstep'))
    (by rw [State.holdLead_on, State.holdLead_on]; exact State.linkDown_heartbeat hhb)
  refine ⟨_, congrArg done ((State.onPair_runs _ hr).trans hlost), ?_, ?_, ?_,
    (((s.linkDown_changesOnly.mono (by simp) (by simp)).trans (State.changesOnly_pair _ _ _ (by simp))).trans
      (State.forgetPeer_changesOnly _ _ (by simp))).frame⟩
  · rw [State.settle_rd_of, State.forgetPeer_rd, State.holdLead_rd, s.linkDown_rd]
  · rw [State.counted, State.settle_rd_of, State.forgetPeer_rd, State.holdLead_rd]
    exact s.linkDown_counts
  · simp only [State.settle_pair, State.forgetPeer, State.holdLead, State.linkDown_pair]

end

/-- R208, R209: a good frame counts the records that it does not know, a bad one counts once. -/
theorem exec_pairLaneFrameReceived_effect {s : State} {l : Nat} (tick epoch n : Nat) (crc same act : Bool) (hr : s.pairRuns = true) (hl : l < 4) :
    ∃ t, exec (.pairLaneFrameReceived l crc same tick epoch act n) s = .next t
      ∧ s.counted t .PAIR_RX_ERR_CNT 0 (if crc && same then n else 1)
      ∧ (crc = true → same = true → t.pair = { s.pair with
          frameRel := signedOf 40 (fieldOf 40 ((tick : Int) - s.dev.tick)), frameOwn := some s.dev.tick, frameAct := act
          frameEpoch := epoch % 256 })
      ∧ s.frame t (if crc && same then [.pair] else []) [(.PAIR_RX_ERR_CNT, 0)] := by
  have hexec (u : State) (h : _ = u) : exec (.pairLaneFrameReceived l crc same tick epoch act n) s = .next u.settle :=
    (onUnit_next l 4 s _ hl).trans (congrArg done ((if_pos (by rw [hr]; rfl)).trans h))
  cases hgood : crc && same with
  | true =>
    refine ⟨_, hexec _ (if_neg (by rw [← Bool.not_and, hgood]; decide)), ?_, fun _ _ => ?_,
      ((s.changesOnly_add .PAIR_RX_ERR_CNT n 0 _ (by simp)).pair _ (by simp)).frame⟩
    · exact State.counted_congr (State.settle_rd_of ..) (s.rd_add_same .PAIR_RX_ERR_CNT n 0)
    · simp only [State.settle_pair, State.add_pair, State.add_dev]
  | false =>
    refine ⟨_, hexec _ (if_pos (by rw [← Bool.not_and, hgood]; decide)), ?_, fun hc hs => ?_,
      (s.changesOnly_inc .PAIR_RX_ERR_CNT 0 _ (by simp)).frame⟩
    · exact State.counted_congr (State.settle_rd_of ..) (s.rd_inc_same .PAIR_RX_ERR_CNT 0)
    · simp [hc, hs] at hgood

/-- Settles O32: with a heartbeat the loss of the link is what the role makes of it; a lane frame counts what it does not take. -/
theorem pairLink : Obligations.PairLink := by
  unfold Obligations.PairLink
  exact fun s hr => ⟨exec_pairLinkUp_effect hr, fun b hl hhb => ⟨exec_pairLinkLoss_active hr b hl hhb, exec_pairLinkLoss_standby hr b hl hhb⟩,
    fun l tick epoch n crc same act hl => exec_pairLaneFrameReceived_effect tick epoch n crc same act hr hl⟩

end Sys2Proof.Machine

namespace Sys2Proof.Machine

/-! ### Records of the peer (R200, R205, R222, R223, R231, R233) -/

theorem State.tryEpoch_idle {s : State} (h : s.pair.epochDue = false) : s.tryEpoch = s := if_neg (by simp [h])

theorem State.tryEpoch_of_not_standby {s : State} (h : s.isStandby = false) : s.tryEpoch = s := if_neg (by simp [h])

theorem State.measureGrid_unpaced {s : State} (b : Int) (h : s.isStandby = false ∨ s.on PAIR_STS.PACED = false) : s.measureGrid b = s :=
  if_neg (by obtain h | h := h <;> simp [h])

/-- R200, R205: a unit that neither forms nor waits for a claim only notes the HELLO. -/
theorem exec_hello_effect {s : State} (pos revert : Bool) (pairId pref : Nat) (hash : Word) (hr : s.pairRuns = true) (hf : s.pair.forming = false)
    (hw : s.pair.waitDone = false) :
    let idOk := pairId == s.get PAIR_CFG.PAIR_ID && flag pos != s.get DEV_STRAP.POS
    let agree := pref == s.get PAIR_CFG.PREF && revert == s.on PAIR_CFG.REVERT
    ∃ t, exec (.hello pos pairId pref revert hash) s = .next t
      ∧ t.rd .PAIR_STS = PAIR_STS.PEER_ERR.put (s.rd .PAIR_STS) (flag (!idOk || !(hash == s.mgmt.hash) || !agree))
      ∧ t.pair = { s.pair with
          helloOk := idOk && hash == s.mgmt.hash, helloBad := !idOk
          prefAgreed := if idOk then agree else s.pair.prefAgreed
          helloMismatch := if idOk then !agree else s.pair.helloMismatch }
      ∧ s.frame t [.pair] [(.PAIR_STS, 0)] := by
  intro idOk agree
  have hidle (u : State) (huf : u.pair.forming = false) (huw : u.pair.waitDone = false) : u.tryForm.tryClaim = u := by
    rw [State.tryForm_idle huf, State.tryClaim_waits huw]
  refine ⟨_, congrArg done ((State.onPair_runs _ hr).trans (hidle _ ?_ ?_)), ?_, ?_,
    ((s.changesOnly_setB PAIR_STS.PEER_ERR _ 0 _ (by simp)).pair _ (by simp)).frame⟩
  · simp only [State.setB_pair, hf]
  · simp only [State.setB_pair, hw]
  · rw [State.settle_rd_of, State.mk_rd, s.rd_setB_same _ _ _ rfl]
  · simp only [State.settle_pair, State.setB_pair, idOk, agree]

/-- R205: what a ROLE record shows of the peer. -/
def State.peerShown (s : State) (code mode : Nat) : State :=
  { s.set PAIR_STS.PEER_MODE mode with pair := { (s.set PAIR_STS.PEER_MODE mode).pair with peerRole := code } }

theorem State.peerShown_rd (s : State) (code mode : Nat) : (s.peerShown code mode).rd .PAIR_STS = PAIR_STS.PEER_MODE.put (s.rd .PAIR_STS) mode := by
  rw [State.peerShown, State.mk_rd, s.rd_set_same _ _ _ rfl]

theorem State.peerShown_pair (s : State) (code mode : Nat) : (s.peerShown code mode).pair = { s.pair with peerRole := code } := by
  simp only [State.peerShown, State.set_pair]

theorem State.peerShown_changesOnly (s : State) (code mode : Nat) : s.changesOnly (s.peerShown code mode) [.pair] [(.PAIR_STS, 0)] :=
  (s.changesOnly_set PAIR_STS.PEER_MODE mode 0 _ (by simp)).pair _ (by simp)

theorem State.peerShown_role (s : State) (code mode : Nat) : (s.peerShown code mode).get PAIR_STS.ROLE = s.get PAIR_STS.ROLE := by
  simp (disch := decide) only [State.peerShown, State.mk_get, State.get_set_apart]

theorem State.peerShown_isActive (s : State) (code mode : Nat) : (s.peerShown code mode).isActive = s.isActive :=
  congrArg (· == 1) (s.peerShown_role code mode)

/-- R204, R205: what the unit takes from a ROLE record, once the grid is measured. -/
def State.takeRoleRecord (s : State) (code mode : Nat) (claim : Bool) (phase : Nat) : State :=
  if s.recordTick < s.pair.roleTick then s
  else (if (s.peerShown code mode).isActive then (s.peerShown code mode).roleToActive code mode claim phase
    else (s.peerShown code mode).roleToOther code mode).tryEpoch

theorem exec_role {s : State} (code mode : Nat) (claim : Bool) (phase : Nat) (b : Int) (hr : s.pairRuns = true) (hb : s.pair.helloBad = false) :
    exec (.role code mode claim phase b) s = .next ((s.measureGrid b).takeRoleRecord code mode claim phase).settle :=
  congrArg done (State.onPeer_runs _ hr hb)

/-- R205: a unit without a role or a standby, in no epoch and forming none, only notes the role and the mode of the peer. -/
theorem exec_role_other {s : State} (code mode phase : Nat) (b : Int) (claim : Bool) (hr : s.pairRuns = true) (hb : s.pair.helloBad = false)
    (ha : s.isActive = false) (hpaced : s.on PAIR_STS.PACED = false) (htick : s.pair.roleTick ≤ s.recordTick) (he : s.epochRuns = false)
    (hf : s.pair.forming = false) (hdue : s.pair.epochDue = false) :
    ∃ t, exec (.role code mode claim phase b) s = .next t
      ∧ t.rd .PAIR_STS = PAIR_STS.PEER_MODE.put (s.rd .PAIR_STS) mode
      ∧ t.pair = { s.pair with peerRole := code } ∧ s.frame t [.pair] [(.PAIR_STS, 0)] := by
  have hpair := s.peerShown_pair code mode
  have hother : (s.peerShown code mode).roleToOther code mode = s.peerShown code mode := by
    have he' : (s.peerShown code mode).epochRuns = false :=
      (congrArg (· != 0) ((s.peerShown_changesOnly code mode).get_eq PAIR_EPOCH_STS.PHASE (by decide))).trans he
    simp only [State.roleToOther, State.cond, he', Bool.false_and, Bool.false_eq_true, if_false]
    exact State.tryForm_idle (by rw [hpair, hf])
  have htaken : s.takeRoleRecord code mode claim phase = s.peerShown code mode := by
    rw [State.takeRoleRecord, if_neg (Nat.not_lt.mpr htick), if_neg (by simp [s.peerShown_isActive, ha]), hother,
      State.tryEpoch_idle (by rw [hpair, hdue])]
  have hexec := exec_role code mode claim phase b hr hb
  rw [State.measureGrid_unpaced b (.inr hpaced), htaken] at hexec
  refine ⟨_, hexec, ?_, ?_, (s.peerShown_changesOnly code mode).frame⟩
  · rw [State.settle_rd_of, s.peerShown_rd]
  · rw [State.settle_pair, hpair]

/-- R204, R211: the active that does not stream shows whether the peer is in step. -/
theorem exec_role_active {s : State} (code mode phase : Nat) (b : Int) (hr : s.pairRuns = true) (hb : s.pair.helloBad = false)
    (ha : s.isActive = true) (hstr : s.pair.streaming = false) (htick : s.pair.roleTick ≤ s.recordTick) :
    ∃ t, exec (.role code mode false phase b) s = .next t
      ∧ t.rd .PAIR_STS = PAIR_STS.IN_STEP.put (PAIR_STS.PEER_MODE.put (s.rd .PAIR_STS) mode) (flag (code == 2 && mode == 7))
      ∧ t.pair = { s.pair with peerRole := code } ∧ s.frame t [.pair] [(.PAIR_STS, 0)] := by
  have hstandby := State.isStandby_of_isActive ha
  have hactive : (s.peerShown code mode).roleToActive code mode false phase
      = (s.peerShown code mode).setB PAIR_STS.IN_STEP (code == 2 && mode == 7) := by
    simp only [State.roleToActive, State.cond, State.setB_pair, s.peerShown_pair, hstr, State.claimsMeet, State.revertAsked, Bool.false_and,
      Bool.false_eq_true, if_false]
  have hrole : ((s.peerShown code mode).setB PAIR_STS.IN_STEP (code == 2 && mode == 7)).isStandby = false := by
    simp (disch := decide) only [State.isStandby, State.setB, State.get_set_apart, s.peerShown_role]
    exact hstandby
  have htaken : s.takeRoleRecord code mode false phase = (s.peerShown code mode).setB PAIR_STS.IN_STEP (code == 2 && mode == 7) := by
    rw [State.takeRoleRecord, if_neg (Nat.not_lt.mpr htick), if_pos ((s.peerShown_isActive code mode).trans ha), hactive,
      State.tryEpoch_of_not_standby hrole]
  have hexec := exec_role code mode false phase b hr hb
  rw [State.measureGrid_unpaced b (.inl hstandby), htaken] at hexec
  refine ⟨_, hexec, ?_, ?_,
    ((s.peerShown_changesOnly code mode).trans (State.changesOnly_setB _ PAIR_STS.IN_STEP _ 0 _ (by simp))).frame⟩
  · rw [State.settle_rd_of, State.rd_setB_same _ _ _ _ rfl, s.peerShown_rd]
  · rw [State.settle_pair, State.setB_pair, s.peerShown_pair]

/-- R223: a YIELD of causes 1 to 4 has the standby take over at the next boundary. -/
theorem exec_yield_effect {s : State} (cause tick : Nat) (hr : s.pairRuns = true) (hb : s.pair.helloBad = false) (hs : s.isStandby = true)
    (hm : s.mode = 7 ∨ s.mode = 8) (he : s.epochRuns = false) :
    ∃ t, exec (.yield cause tick) s = .next t
      ∧ t.pair = (if 1 ≤ cause ∧ cause ≤ 4 then { s.pair with takeoverPend := true, peerRole := 0 } else s.pair)
      ∧ s.frame t [.pair] [] := by
  by_cases hc : 1 ≤ cause ∧ cause ≤ 4
  · have habort : s.cond (cause == 4) (·.abortEpoch 7) = s := by
      rw [State.cond, State.abortEpoch_idle 7 he, ite_self]
    have htaken : (let u := s.cond (cause == 4) (·.abortEpoch 7);
        ({ u with pair := { u.pair with takeoverPend := true, peerRole := 0 } } : State))
          = { s with pair := { s.pair with takeoverPend := true, peerRole := 0 } } := by rw [habort]
    refine ⟨_, congrArg done ((State.onPeer_runs _ hr hb).trans ((if_pos ⟨hs, hm, hc⟩).trans htaken)), ?_,
      (s.changesOnly_pair _ _ (by simp)).frame⟩
    rw [if_pos hc, State.settle_pair]
  · refine ⟨_, congrArg done ((State.onPeer_runs _ hr hb).trans (if_neg fun ⟨_, _, h⟩ => hc h)), ?_, (s.changesOnly_refl _ _).frame⟩
    rw [if_neg hc, State.settle_pair]

/-- R231: the channel of a RETIRE record is under repair. -/
theorem exec_retireRecord_effect {s : State} {c : Nat} (tick : Nat) (hr : s.pairRuns = true) (hb : s.pair.helloBad = false) (hc : c < 512)
    (hformed : s.on PAIR_STS.FORMED = true) (hstep : s.on PAIR_STS.IN_STEP = true) :
    ∃ t, exec (.retireRecord c tick) s = .next t
      ∧ t.pair = { s.pair with
          repair := (c, tick % 2 ^ 32) :: s.pair.repair.filter (·.1 != c)
          copied := s.pair.copied.filter (· != c), joined := s.pair.joined.filter (· != c) }
      ∧ s.frame t [.pair] [] :=
  ⟨_, (onUnit_next c 512 s _ hc).trans (congrArg done ((State.onPeer_runs _ hr hb).trans (if_pos ⟨hformed, .inl hstep⟩))), rfl,
    (s.changesOnly_pair _ _ (by simp)).frame⟩

/-- R233: a clone request is answered with as much as the link gives. -/
theorem exec_cloneRequest_effect {s : State} (pos : Bool) (die : Nat) (hr : s.pairRuns = true) (h3 : 3 ≤ s.mode) (h10 : s.mode ≤ 10)
    (hl : s.on PAIR_STS.LINK_UP = true) :
    ∃ t, exec (.cloneRequest pos die) s = .next t
      ∧ t.pair.out = s.pair.out ++ [.cloneData (Config.freeNat s.free % 1161)] ∧ t.free = s.free + 1
      ∧ t.pair = { s.pair with out := t.pair.out } ∧ s.frame t [.pair, .free] [] :=
  ⟨_, congrArg done ((State.onPair_runs _ hr).trans (if_pos ⟨h3, h10, hl⟩)), rfl, rfl, rfl,
    ((s.changesOnly_free _ _ (by simp)).pair _ (by simp)).frame⟩

theorem exec_cloneData_effect {s : State} (n : Nat) (h : s.cloneSeeks = true) :
    ∃ t, exec (.cloneData n) s = .next t ∧ t.rst = { s.rst with cloneSeen := true } ∧ s.frame t [.rst] [] :=
  ⟨_, congrArg done (if_pos h), rfl, (s.changesOnly_rst _ _ (by simp)).frame⟩

/-- Settles O33: with nothing due and no epoch running a record of the peer is one update of the pair's state, and at most a word. -/
theorem peerRecords : Obligations.PeerRecords := by
  unfold Obligations.PeerRecords
  exact fun s hr => ⟨fun pos revert pairId pref hash => exec_hello_effect pos revert pairId pref hash hr,
    fun hb => ⟨fun code mode phase b claim => exec_role_other code mode phase b claim hr hb,
      fun code mode phase b => exec_role_active code mode phase b hr hb, fun cause tick => exec_yield_effect cause tick hr hb,
      fun c tick => exec_retireRecord_effect tick hr hb⟩,
    fun pos die => exec_cloneRequest_effect pos die hr, fun n => exec_cloneData_effect n⟩

end Sys2Proof.Machine

namespace Sys2Proof.Machine

/-! ### Step digests (R219) -/

theorem exec_stepDigest_effect {s : State} (hr : s.pairRuns = true) (hf : s.on PAIR_STS.FORMED = true) (h0 : 0 ≤ s.activeTick)
    (h1000 : s.activeTick % 1000 = 0) :
    ∃ t, exec .stepDigest s = .next t
      ∧ (let qs := (List.range 512).map fun c => if s.digestSkips c s.activeTick.toNat then [] else s.chanDigest c
         let d : DigestRec := ⟨s.activeTick.toNat % 2 ^ 32, Config.digestCrc qs, s.pair.evidence,
           qs.map fun q => if q.isEmpty then 0 else Config.channelCrc q % 65536⟩
         t.pair = { s.pair with
           digests := d :: s.pair.digests.take 3, evidence := 0, out := s.pair.out ++ [.digest d.tick d.crc d.flags] })
      ∧ s.frame t [.pair] [] :=
  ⟨_, congrArg done ((State.onPair_runs _ hr).trans (if_pos ⟨hf, h0, h1000⟩)), State.settle_pair _, (s.changesOnly_pair _ _ (by simp)).frame⟩

theorem exec_stepDigest_other {s : State} (hr : s.pairRuns = true) (h1000 : s.activeTick % 1000 ≠ 0) :
    ∃ t, exec .stepDigest s = .next t ∧ s.frame t [] [] :=
  ⟨_, congrArg done ((State.onPair_runs _ hr).trans (if_neg fun ⟨_, _, h⟩ => h1000 h)), (s.changesOnly_refl _ _).frame⟩

/-! ### A divergence (R220, R221) -/

/-- R220: a divergence counted, recorded with what is judged of it, and logged. -/
def State.divergeNoted (s : State) (t : Nat) (ch : Option Nat) (judged : Nat) : State :=
  ((s.inc .PAIR_DIGEST_MISMATCH_CNT).wr .PAIR_DIV 0
    (BitVec.ofNat 32 (judged * 2 ^ 30 + flag ch.isSome * 2 ^ 29 + ch.getD 0 * 2 ^ 20 + t % 65536))).pairLog 10

/-- The words that the note of a divergence may write. -/
def divergeWords : List (Rg × Nat) := (.PAIR_DIV, 0) :: (.PAIR_DIGEST_MISMATCH_CNT, 0) :: logWords

theorem State.pairLog_changesOnly (s : State) (sub : Nat) : s.changesOnly (s.pairLog sub) [.mgmt, .free] logWords := s.log_changesOnly ..

section
variable (s : State) (t : Nat) (ch : Option Nat) (judged : Nat)

theorem State.divergeNoted_changesOnly : s.changesOnly (s.divergeNoted t ch judged) [.mgmt, .free] divergeWords :=
  ((s.changesOnly_inc .PAIR_DIGEST_MISMATCH_CNT 0 _ (by simp [divergeWords])).wr .PAIR_DIV 0 _ (by simp [divergeWords])).trans
    ((State.pairLog_changesOnly _ 10).mono (by simp) (by simp [divergeWords]))

theorem State.divergeNoted_rd : (s.divergeNoted t ch judged).rd .PAIR_DIV
    = BitVec.ofNat 32 (judged * 2 ^ 30 + flag ch.isSome * 2 ^ 29 + ch.getD 0 * 2 ^ 20 + t % 65536) := by
  rw [State.divergeNoted, (State.pairLog_changesOnly _ 10).rd_eq (by decide), State.rd_wr_same]

theorem State.divergeNoted_counts : s.counted (s.divergeNoted t ch judged) .PAIR_DIGEST_MISMATCH_CNT 0 1 := by
  rw [State.counted, State.divergeNoted, (State.pairLog_changesOnly _ 10).rd_eq (by decide), State.rd_wr_ne _ _ (by decide), State.rd_inc_same]

theorem State.divergeNoted_pair : (s.divergeNoted t ch judged).pair = s.pair := (s.divergeNoted_changesOnly t ch judged).part .pair (by simp)

theorem State.divergeNoted_isStandby : (s.divergeNoted t ch judged).isStandby = s.isStandby :=
  congrArg (· == 2) ((s.divergeNoted_changesOnly t ch judged).get_eq PAIR_STS.ROLE (by decide))

theorem State.divergeNoted_mode : (s.divergeNoted t ch judged).mode = s.mode :=
  (s.divergeNoted_changesOnly t ch judged).get_eq DEV_MODE.MODE (by decide)

theorem State.divergeNoted_epochRuns : (s.divergeNoted t ch judged).epochRuns = s.epochRuns :=
  congrArg (· != 0) ((s.divergeNoted_changesOnly t ch judged).get_eq PAIR_EPOCH_STS.PHASE (by decide))

end

/-- R221: what follows from a judgement: 1 for no unit at fault, 2 for the standby, 3 for the active. -/
def State.divergeActs (s : State) (judged : Nat) : State :=
  match judged, s.isStandby with
  | 2, true => s.enterBasic 7
  | 3, true => { s with pair := { s.pair with takeoverPend := true } }
  | 3, false => s.enterBasic 7
  | 1, true => s.cond s.isStep State.detach
  | _, _ => s

section
variable {s : State} (hs : s.isStandby = true)
include hs

/-- With no unit at fault a standby in step leaves it. -/
theorem State.divergeActs_none (hstep : s.isStep = true) : s.divergeActs 1 = s.detach := by
  unfold State.divergeActs
  simp only [hs, State.cond, if_pos hstep]

/-- A standby at fault enters BASIC. -/
theorem State.divergeActs_standby : s.divergeActs 2 = s.enterBasic 7 := by
  unfold State.divergeActs
  simp only [hs]

/-- A standby whose active is at fault takes over. -/
theorem State.divergeActs_active : s.divergeActs 3 = { s with pair := { s.pair with takeoverPend := true } } := by
  unfold State.divergeActs
  simp only [hs]

end

/-- R221: the judgement of a standby on its own evidence flags and those of the active. -/
def judgedByStandby (own peer : Nat) : Nat := if own % 16 != 0 then 2 else if peer % 16 != 0 then 3 else 1

section
variable {s : State} (hs : s.isStandby = true) (he : s.epochRuns = false) (t : Nat) (ch : Option Nat) {own peer j : Nat}

include he in
theorem State.divergeNoted_abortEpoch (cause : Nat) : (s.divergeNoted t ch j).abortEpoch cause = s.divergeNoted t ch j :=
  State.abortEpoch_idle cause ((s.divergeNoted_epochRuns t ch j).trans he)

include hs he

/-- A divergence is its note, then what the judgement brings. The last `match` is folded under its binders: with the noted state in the
place of its variable, the two forms of the `match` would be compared by evaluation. -/
theorem State.diverge_judged (hj : judgedByStandby own peer = j) : s.diverge t ch own peer = (s.divergeNoted t ch j).divergeActs j := by
  unfold State.diverge
  conv_lhs =>
    intro sb ac judged _ _ _
    change State.divergeActs _ judged
  dsimp only [-Nat.reducePow]
  rw [if_pos hs, if_pos hs, ← judgedByStandby, hj, ← State.divergeNoted, State.divergeNoted_abortEpoch he]
end


/-! ### The digest of the peer against the own one (R220, R232) -/

/-- R220: the last digest of the peer. -/
def State.notePeerDigest (s : State) (p : Nat × Word × Nat) : State := { s with pair := { s.pair with peerDigest := some p } }

/-- R232: one more digest has matched in the VERIFY phase. -/
def State.countVerified (s : State) : State := { s with pair := { s.pair with verified := s.pair.verified + 1 } }

/-- R232: enough digests have matched: the standby asks for the commit. -/
def State.askCommit (s : State) : State := (s.set PAIR_EPOCH_STS.PHASE 6).pairSend (.epochCommit (s.get PAIR_EPOCH_STS.EPOCH))

theorem State.askCommit_changesOnly (s : State) : s.changesOnly s.askCommit [.pair] [(.PAIR_EPOCH_STS, 0)] :=
  (s.changesOnly_set PAIR_EPOCH_STS.PHASE 6 0 _ (by simp)).pair _ (by simp)

theorem State.askCommit_phase (s : State) : s.askCommit.get PAIR_EPOCH_STS.PHASE = 6 := by
  rw [State.askCommit, State.pairSend, State.mk_get, s.get_set_same PAIR_EPOCH_STS.PHASE 6 0 (by decide)]
  rfl

theorem State.askCommit_pair (s : State) : s.askCommit.pair = { s.pair with out := s.pair.out ++ [.epochCommit (s.get PAIR_EPOCH_STS.EPOCH)] } := by
  simp only [State.askCommit, State.pairSend, State.set_pair]

section
variable {s : State} {k : Nat} {d : DigestRec} (hr : s.pairRuns = true) (hb : s.pair.helloBad = false) (hc : s.digestsCount = true)
  (hfind : s.pair.digests.find? (·.tick == k) = some d) (flags : Nat)
include hr hb hc hfind

theorem execDigest_verified (hs : s.isStandby = true) (h5 : s.get PAIR_EPOCH_STS.PHASE = 5) :
    exec (.digest k d.crc flags) s = done (let u := (s.notePeerDigest (k, d.crc, flags)).countVerified
      if s.get PAIR_EPOCH_CFG.VERIFY_N ≤ s.pair.verified + 1 then u.askCommit else u) := by
  refine congrArg done ((State.onPeer_runs _ hr hb).trans ?_)
  rw [hfind]
  dsimp only
  rw [if_neg (by simp [hc]), if_pos rfl, if_pos ⟨hs, h5⟩]
  rfl

theorem exec_digest_match (hs : s.isStandby = true) (h5 : s.get PAIR_EPOCH_STS.PHASE = 5) :
    ∃ t, exec (.digest k d.crc flags) s = .next t
      ∧ t.pair = { s.pair with
          peerDigest := some (k, d.crc, flags), verified := s.pair.verified + 1
          out := if s.get PAIR_EPOCH_CFG.VERIFY_N ≤ s.pair.verified + 1
            then s.pair.out ++ [.epochCommit (s.get PAIR_EPOCH_STS.EPOCH)] else s.pair.out }
      ∧ t.get PAIR_EPOCH_STS.PHASE = (if s.get PAIR_EPOCH_CFG.VERIFY_N ≤ s.pair.verified + 1 then 6 else 5)
      ∧ s.frame t [.pair] [(.PAIR_EPOCH_STS, 0)] := by
  have hexec := execDigest_verified hr hb hc hfind flags hs h5
  have hcount : s.changesOnly (s.notePeerDigest (k, d.crc, flags)).countVerified [.pair] [(.PAIR_EPOCH_STS, 0)] :=
    (s.changesOnly_pair _ _ (by simp)).pair _ (by simp)
  by_cases hn : s.get PAIR_EPOCH_CFG.VERIFY_N ≤ s.pair.verified + 1
  · simp only [if_pos hn] at hexec ⊢
    refine ⟨_, hexec, ?_, ?_, (hcount.trans (State.askCommit_changesOnly _)).frame⟩
    · rw [State.settle_pair, State.askCommit_pair]
      rfl
    · rw [State.settle_get_of, State.askCommit_phase]
  · simp only [if_neg hn] at hexec ⊢
    exact ⟨_, hexec, State.settle_pair _, (State.settle_get_of ..).trans h5, hcount.frame⟩

/-- R220: a mismatch starts the exchange of the channels' CRCs. -/
theorem exec_digest_mismatch {crc : Word} (hne : d.crc ≠ crc) :
    ∃ t, exec (.digest k crc flags) s = .next t
      ∧ t.pair = { s.pair with peerDigest := some (k, crc, flags), verified := 0, out := s.pair.out ++ [.chdig k d.chs] }
      ∧ s.frame t [.pair] [] := by
  refine ⟨_, congrArg done ((State.onPeer_runs _ hr hb).trans (?_ : _ = { s with pair := { s.pair with
    peerDigest := some (k, crc, flags), verified := 0, out := s.pair.out ++ [.chdig k d.chs] } })), State.settle_pair _, (s.changesOnly_pair _ _ (by simp)).frame⟩
  rw [hfind]
  dsimp only
  rw [if_neg (by simp [hc]), if_neg hne]
  rfl

end

/-! ### The channels' CRCs and a late digest (R220, R221) -/

/-- What a divergence that leaves the rest of the state to `x` shows. -/
theorem State.divergeNoted_shows {s : State} {e : Instr} {k : Nat} {ch : Option Nat} {j w : Nat} {x : Pair}
    (hw : j * 2 ^ 30 + flag ch.isSome * 2 ^ 29 + ch.getD 0 * 2 ^ 20 + k % 65536 = w) (hexec : exec e s = done { s.divergeNoted k ch j with pair := x }) :
    ∃ t, exec e s = .next t
      ∧ t.rd .PAIR_DIV = BitVec.ofNat 32 w ∧ s.counted t .PAIR_DIGEST_MISMATCH_CNT 0 1 ∧ t.pair = x ∧ s.frame t [.pair, .mgmt, .free] divergeWords := by
  have hnoted := (s.divergeNoted_changesOnly k ch j).mono (parts' := [.pair, .mgmt, .free]) (by simp) (List.Subset.refl divergeWords)
  refine ⟨_, hexec, ?_, State.counted_congr ?_ (s.divergeNoted_counts k ch j), State.settle_pair _, (hnoted.pair x (by simp)).frame⟩
  · rw [State.settle_rd_of, State.mk_rd, s.divergeNoted_rd, hw]
  · rw [State.settle_rd_of, State.mk_rd]

/-- R220: what CHDIG finds: the digests of both units, and the first channel `c` that differs and is not under repair. -/
structure State.chdigFinds (s : State) (k : Nat) (crcs : List Nat) (d : DigestRec) (p : Nat × Word × Nat) (c : Nat) : Prop where
  runs : s.pairRuns = true
  hello : s.pair.helloBad = false
  counts : s.digestsCount = true
  own : s.pair.digests.find? (·.tick == k) = some d
  peer : s.pair.peerDigest = some p
  tick : p.1 = k
  chan : ((List.range 512).find? fun c =>
    d.chs.getD c 0 != crcs.getD c 0 && !(s.pair.repair.any fun r => r.1 == c && decide (r.2 ≤ k))) = some c

section
variable {s : State} {k c : Nat} {crcs : List Nat} {d : DigestRec} {p : Nat × Word × Nat} (hf : s.chdigFinds k crcs d p c)
include hf

theorem exec_chdig_diverges : exec (.chdig k crcs) s = done (s.diverge k (some c) d.flags p.2.2) := by
  refine congrArg done ((State.onPeer_runs _ hf.runs hf.hello).trans ?_)
  rw [hf.own, hf.peer]
  dsimp only
  rw [if_neg (by simp [hf.counts, hf.tick]), hf.chan]

variable (hs : s.isStandby = true) (he : s.epochRuns = false)
include hs he

/-- R221: with no unit at fault the standby leaves step. -/
theorem exec_chdig_none (hstep : s.isStep = true) (hflags : d.flags % 16 = 0) (hpeer : p.2.2 % 16 = 0) :
    exec (.chdig k crcs) s = done { s.divergeNoted k (some c) 1 with pair := { s.pair with detachPend := true, epochDue := true } } := by
  rw [exec_chdig_diverges hf, State.diverge_judged hs he k (some c) (j := 1) (by simp [judgedByStandby, hflags, hpeer]),
    State.divergeActs_none ((s.divergeNoted_isStandby k (some c) 1).trans hs) (by rw [State.isStep, s.divergeNoted_mode]; exact hstep),
    State.detach, s.divergeNoted_pair]

/-- R221: the standby of an active at fault takes over. -/
theorem exec_chdig_active (hflags : d.flags % 16 = 0) (hpeer : p.2.2 % 16 ≠ 0) :
    exec (.chdig k crcs) s = done { s.divergeNoted k (some c) 3 with pair := { s.pair with takeoverPend := true } } := by
  rw [exec_chdig_diverges hf, State.diverge_judged hs he k (some c) (j := 3) (by simp [judgedByStandby, hflags, hpeer]),
    State.divergeActs_active ((s.divergeNoted_isStandby k (some c) 3).trans hs), s.divergeNoted_pair]

/-- R221: a standby at fault enters BASIC. -/
theorem exec_chdig_standby (hflags : d.flags % 16 ≠ 0) :
    exec (.chdig k crcs) s = done ((s.divergeNoted k (some c) 2).enterBasic 7) := by
  rw [exec_chdig_diverges hf, State.diverge_judged hs he k (some c) (j := 2) (by simp [judgedByStandby, hflags]),
    State.divergeActs_standby ((s.divergeNoted_isStandby k (some c) 2).trans hs)]

theorem exec_chdig_unflagged (hstep : s.isStep = true) (hflags : d.flags % 16 = 0) :
    ∃ t, exec (.chdig k crcs) s = .next t
      ∧ t.rd .PAIR_DIV = BitVec.ofNat 32 ((if p.2.2 % 16 = 0 then 1 else 3) * 2 ^ 30 + 2 ^ 29 + c * 2 ^ 20 + k % 65536)
      ∧ s.counted t .PAIR_DIGEST_MISMATCH_CNT 0 1
      ∧ t.pair = (if p.2.2 % 16 = 0 then { s.pair with detachPend := true, epochDue := true } else { s.pair with takeoverPend := true })
      ∧ s.frame t [.pair, .mgmt, .free] divergeWords := by
  by_cases hpeer : p.2.2 % 16 = 0
  · simp only [if_pos hpeer]
    exact State.divergeNoted_shows (by simp [flag]) (exec_chdig_none hf hs he hstep hflags hpeer)
  · simp only [if_neg hpeer]
    exact State.divergeNoted_shows (by simp [flag]) (exec_chdig_active hf hs he hflags hpeer)

theorem exec_chdig_flagged (hstep : s.isStep = true) (hflags : d.flags % 16 ≠ 0) :
    ∃ t, exec (.chdig k crcs) s = .next t
      ∧ t.rd .PAIR_DIV = BitVec.ofNat 32 (2 * 2 ^ 30 + 2 ^ 29 + c * 2 ^ 20 + k % 65536)
      ∧ s.counted t .PAIR_DIGEST_MISMATCH_CNT 0 1 ∧ s.fellToBasic t 7 [] [(.PAIR_DIV, 0), (.PAIR_DIGEST_MISMATCH_CNT, 0)] := by
  have hmode : (s.divergeNoted k (some c) 2).mode = 7 := by simpa [State.isStep, s.divergeNoted_mode] using hstep
  have hnoted := (s.divergeNoted_changesOnly k (some c) 2).mono (parts' := [] ++ basicParts)
    (words' := [(.PAIR_DIV, 0), (.PAIR_DIGEST_MISMATCH_CNT, 0)] ++ basicWords) (by decide) (by decide)
  obtain ⟨-, ws, -, hkeys, hbasic⟩ := State.enterBasic_effect (s := s.divergeNoted k (some c) 2) (cause := 7) (parts := [])
    (by decide) (by decide) (by omega) (by omega) (by omega)
  refine ⟨_, exec_chdig_standby hf hs he hflags, ?_, State.counted_congr ?_ (s.divergeNoted_counts k (some c) 2),
    State.fellToBasic_enterBasic (by decide) (by decide) hnoted ?_ (by omega) (by omega) (by omega)⟩
  · rw [State.settle_rd_of, hbasic.rd_eq (itemWords_key_ne (by decide) hkeys (by decide)), s.divergeNoted_rd]
    simp [flag]
  · rw [State.settle_rd_of, hbasic.rd_eq (itemWords_key_ne (by decide) hkeys (by decide))]
  · exact (s.divergeNoted_changesOnly k (some c) 2).get_eq CAL_STS.ITEM (by decide)

end

/-- R220: the digest of tick `d.tick` of the peer counts as come, late. -/
def State.missPeerDigest (s : State) (d : DigestRec) : State := (s.inc .PAIR_DIGEST_LATE_CNT).notePeerDigest (d.tick, d.crc, 0)

section
variable (s : State) (d : DigestRec)

theorem State.missPeerDigest_changesOnly : s.changesOnly (s.missPeerDigest d) [.pair] [(.PAIR_DIGEST_LATE_CNT, 0)] :=
  (s.changesOnly_inc .PAIR_DIGEST_LATE_CNT 0 _ (by simp)).pair _ (by simp)

theorem State.missPeerDigest_counts : s.counted (s.missPeerDigest d) .PAIR_DIGEST_LATE_CNT 0 1 := by
  rw [State.counted, State.missPeerDigest, State.notePeerDigest, State.mk_rd, State.rd_inc_same]

theorem State.missPeerDigest_pair : (s.missPeerDigest d).pair = { s.pair with peerDigest := some (d.tick, d.crc, 0) } := by
  simp only [State.missPeerDigest, State.notePeerDigest, State.inc_pair]

theorem State.missPeerDigest_isStandby : (s.missPeerDigest d).isStandby = s.isStandby :=
  congrArg (· == 2) ((s.missPeerDigest_changesOnly d).get_eq PAIR_STS.ROLE (by decide))

theorem State.missPeerDigest_isStep : (s.missPeerDigest d).isStep = s.isStep :=
  congrArg (· == 7) ((s.missPeerDigest_changesOnly d).get_eq DEV_MODE.MODE (by decide))

theorem State.missPeerDigest_epochRuns : (s.missPeerDigest d).epochRuns = s.epochRuns :=
  congrArg (· != 0) ((s.missPeerDigest_changesOnly d).get_eq PAIR_EPOCH_STS.PHASE (by decide))

end

section
variable {s : State} {d : DigestRec} (hr : s.pairRuns = true) (hc : s.digestsCount = true) (hd : s.pair.digests.head? = some d)
  (hhold : s.pair.holdStep = false) (hlate : s.ownTick d.tick + 8 ≤ s.dev.tick) (hp : s.pair.peerDigest = none)
include hr hc hd hhold hlate hp

/-- R220: a digest that has not come in time is a divergence, the peer's flags standing as 0. -/
theorem exec_digestLate_diverges : exec .digestLate s = done ((s.missPeerDigest d).diverge d.tick none d.flags 0) := by
  obtain ⟨ds, hds⟩ := List.head?_eq_some_iff.1 hd
  refine congrArg done ((State.onPair_runs _ hr).trans ?_)
  rw [hds]
  dsimp only
  rw [if_pos ⟨hc, by simp [hhold], hlate, by simp [hp]⟩]
  rfl

theorem exec_digestLate_effect (hstep : s.isStep = true) (hs : s.isStandby = true) (he : s.epochRuns = false) (hflags : d.flags % 16 = 0) :
    ∃ t, exec .digestLate s = .next t
      ∧ t.rd .PAIR_DIV = BitVec.ofNat 32 (2 ^ 30 + d.tick % 65536)
      ∧ s.counted t .PAIR_DIGEST_LATE_CNT 0 1 ∧ s.counted t .PAIR_DIGEST_MISMATCH_CNT 0 1
      ∧ t.pair = { s.pair with peerDigest := some (d.tick, d.crc, 0), detachPend := true, epochDue := true }
      ∧ s.frame t [.pair, .mgmt, .free]
          [(.PAIR_DIV, 0), (.PAIR_DIGEST_LATE_CNT, 0), (.PAIR_DIGEST_MISMATCH_CNT, 0), (.MGMT_LOG_OVW_CNT, 0), (.MGMT_LOG_LOST_CNT, 0)] := by
  have hexec := exec_digestLate_diverges hr hc hd hhold hlate hp
  have hmiss := s.missPeerDigest_changesOnly d
  have hs' := (s.missPeerDigest_isStandby d).trans hs
  have hstep' := (s.missPeerDigest_isStep d).trans hstep
  have hnoted := (s.missPeerDigest d).divergeNoted_changesOnly d.tick none 1
  rw [State.diverge_judged hs' ((s.missPeerDigest_epochRuns d).trans he) d.tick none (j := 1) (by simp [judgedByStandby, hflags]),
    State.divergeActs_none ((State.divergeNoted_isStandby ..).trans hs') (by rw [State.isStep, State.divergeNoted_mode]; exact hstep'),
    State.detach, State.divergeNoted_pair, State.missPeerDigest_pair] at hexec
  refine ⟨_, hexec, ?_, State.counted_congr ?_ (s.missPeerDigest_counts d), ?_, State.settle_pair _,
    (((hmiss.mono (by simp) (by simp)).trans (hnoted.mono (by simp) (by simp [divergeWords, logWords]))).pair _ (by simp)).frame⟩
  · rw [State.settle_rd_of, State.mk_rd, State.divergeNoted_rd]
    simp [flag]
  · rw [State.settle_rd_of, State.mk_rd, hnoted.rd_eq (by decide)]
  · rw [State.counted, State.settle_rd_of, State.mk_rd, State.divergeNoted_counts, hmiss.rd_eq (by decide)]

end

/-- Settles O35: the digest's formation, its comparison and the divergence, clause by clause; `diverge_judged` splits a divergence into its
note and what the judgement brings. -/
theorem digestStepsAndComparison : Obligations.DigestStepsAndComparison := by
  unfold Obligations.DigestStepsAndComparison
  refine ⟨fun s hr hf h0 => ⟨exec_stepDigest_effect hr hf h0, exec_stepDigest_other hr⟩, fun s k d hr hb hc hfind => ⟨fun flags => ?_, ?_, ?_⟩⟩
  · exact ⟨exec_digest_match hr hb hc hfind flags, fun _ => exec_digest_mismatch hr hb hc hfind flags⟩
  · intro c crcs p hp hk hstep hs he hch
    have hf : s.chdigFinds k crcs d p c := ⟨hr, hb, hc, hfind, hp, hk, hch⟩
    exact ⟨exec_chdig_unflagged hf hs he hstep, exec_chdig_flagged hf hs he hstep⟩
  · exact fun hd hhold hlate hp => exec_digestLate_effect hr hc hd hhold hlate hp

end Sys2Proof.Machine

namespace Sys2Proof.Machine

/-! ### An epoch begins on the standby (R229) -/

/-- R229: what the start of an epoch resets, with the offer of it. -/
def State.startEpochPair (s : State) : Pair := { s.pair with
  epochDue := false, joined := [], copyPend := [], copyWords := [], verified := 0, rxSseq := none, stream := []
  cfgOpen := [], streamInputs := [], seen := [], out := s.pair.out ++ [.epochOffer ((s.get PAIR_EPOCH_STS.EPOCH + 1) % 65536)] }

/-- R229: the words of an epoch that starts. -/
def State.startEpochWords (s : State) : State :=
  (((s.set PAIR_EPOCH_STS.EPOCH ((s.get PAIR_EPOCH_STS.EPOCH + 1) % 65536)).set PAIR_EPOCH_STS.PHASE 1).set PAIR_EPOCH_STS.JOINED 0).set
    PAIR_CMD.RESYNC 0

theorem State.startEpochWords_changesOnly (s : State) : s.changesOnly s.startEpochWords [] [(.PAIR_EPOCH_STS, 0), (.PAIR_CMD, 0)] :=
  (((s.changesOnly_set _ _ 0 _ (by simp)).set _ 1 0 (by simp)).set _ 0 0 (by simp)).set _ 0 0 (by simp)

theorem State.startEpoch_eq (s : State) : s.startEpoch = { s.startEpochWords with pair := s.startEpochPair } := by
  have hpair : s.startEpochWords.pair = s.pair := by simp only [State.startEpochWords, State.set_pair]
  rw [State.startEpochPair, ← hpair]
  rfl

/-- R229: an epoch is due. -/
def State.dueEpoch (s : State) : State := { s with pair := { s.pair with epochDue := true } }

theorem State.dueEpoch_get (s : State) (f : Fld) (i : Nat) : s.dueEpoch.get f i = s.get f i := State.mk_get ..

theorem State.dueEpoch_rd (s : State) (r : Rg) (i : Nat) : s.dueEpoch.rd r i = s.rd r i := State.mk_rd ..

/-- R229: what a standby in STANDBY_DETACHED waits for before it starts an epoch. -/
structure State.epochReady (s : State) : Prop where
  standby : s.isStandby = true
  mode : s.mode = 8
  link : s.on PAIR_STS.LINK_UP = true
  alive : s.on PAIR_STS.PEER_ALIVE = true
  hello : s.pair.helloBad = false
  role : s.pair.peerRole = 1
  peer : s.get PAIR_STS.PEER_MODE ≠ 10
  idle : s.epochRuns = false
  stays : s.pair.detachPend = false
  passive : s.pair.takeoverPend = false

theorem State.tryEpoch_ready {s : State} (hdue : s.pair.epochDue = true) (h : s.epochReady) : s.tryEpoch = s.startEpoch := by
  obtain ⟨hs, hm, hl, ha, hb, hrole, hpeer, hidle, hstay, hpass⟩ := h
  refine if_pos ?_
  simp [hdue, hs, hm, State.peerLinked, hl, State.peerLives, ha, hb, hrole, hpeer, hidle, hstay, hpass]

theorem State.epochReady.due {s : State} (h : s.epochReady) : s.dueEpoch.epochReady where
  standby := (congrArg (· == 2) (s.dueEpoch_get ..)).trans h.standby
  mode := (s.dueEpoch_get ..).trans h.mode
  link := (congrArg (· != 0) (s.dueEpoch_get ..)).trans h.link
  alive := (congrArg (· != 0) (s.dueEpoch_get ..)).trans h.alive
  hello := h.hello
  role := h.role
  peer := by rw [s.dueEpoch_get]; exact h.peer
  idle := (congrArg (· != 0) (s.dueEpoch_get ..)).trans h.idle
  stays := h.stays
  passive := h.passive

theorem exec_epochRetryDue_effect {s : State} {n : Nat} (hr : s.pairRuns = true) (hn : s.get PAIR_EPOCH_STS.EPOCH = n) (h : s.epochReady) :
    ∃ t, exec .epochRetryDue s = .next t
      ∧ t.get PAIR_EPOCH_STS.EPOCH = (n + 1) % 65536 ∧ t.get PAIR_EPOCH_STS.PHASE = 1 ∧ t.get PAIR_EPOCH_STS.JOINED = 0
      ∧ t.pair = { s.pair with
          epochDue := false, joined := [], copyPend := [], copyWords := [], verified := 0, rxSseq := none, stream := []
          cfgOpen := [], streamInputs := [], seen := [], out := s.pair.out ++ [.epochOffer ((n + 1) % 65536)] }
      ∧ t.rd .PAIR_CMD = PAIR_CMD.RESYNC.put (s.rd .PAIR_CMD) 0
      ∧ s.frame t [.pair] [(.PAIR_EPOCH_STS, 0), (.PAIR_CMD, 0)] := by
  have hstart : s.dueEpoch.tryEpoch = { s.dueEpoch.startEpochWords with pair := s.dueEpoch.startEpochPair } :=
    (State.tryEpoch_ready rfl h.due).trans (State.startEpoch_eq _)
  refine ⟨_, congrArg done ((State.onPair_runs _ hr).trans ((if_pos ⟨h.standby, h.mode⟩).trans hstart)), ?_, ?_, ?_, ?_, ?_,
    (((s.changesOnly_pair _ _ (by simp)).trans (s.dueEpoch.startEpochWords_changesOnly.mono (by simp) (by simp))).pair _ (by simp)).frame⟩
  · simp (disch := decide) only [State.settle_get_of, State.mk_get, State.startEpochWords, State.get_set_ne, State.get_set_apart,
      State.get_set_same, s.dueEpoch_get, hn]
    exact Nat.mod_mod_of_dvd _ (Nat.dvd_refl _)
  · simp (disch := decide) only [State.settle_get_of, State.mk_get, State.startEpochWords, State.get_set_ne, State.get_set_apart,
      State.get_set_same]
    rfl
  · simp (disch := decide) only [State.settle_get_of, State.mk_get, State.startEpochWords, State.get_set_ne, State.get_set_same, Nat.zero_mod]
  · rw [State.settle_pair, State.startEpochPair, s.dueEpoch_get, hn]
    rfl
  · simp (disch := decide) only [State.settle_rd_of, State.mk_rd, State.startEpochWords, State.rd_set_same, State.rd_set_ne, s.dueEpoch_rd]

/-! ### PACE (R216, R217, R229) -/

theorem State.epochIs_eq {s : State} {n p : Nat} (hs : s.isStandby = true) (hn : s.get PAIR_EPOCH_STS.EPOCH = n)
    (hp : s.get PAIR_EPOCH_STS.PHASE = p) : s.epochIs n p = true := by
  simp only [State.epochIs, hs, hn, hp, beq_self_eq_true, Bool.and_self]

theorem State.get_wr_ne (s : State) {r : Rg} {i : Nat} (w : Word) (f : Fld) (j : Nat) (h : r.key i ≠ f.r.key j) :
    (s.wr r i w).get f j = s.get f j := congrArg f.of (s.rd_wr_ne w h)

/-- R217, R229: START begins the pacing, the trim at zero. -/
def State.startPace (s : State) : State :=
  ((((s.set PAIR_EPOCH_STS.PHASE 2).set PAIR_STS.PACED 1).wr .PAIR_TRIM 0 0).wr .PAIR_PHASE 0 0).set PAIR_STS.TRIM_HELD 0

theorem exec_epochStart_effect {s : State} {n : Nat} (hr : s.pairRuns = true) (hb : s.pair.helloBad = false) (hs : s.isStandby = true)
    (hn : s.get PAIR_EPOCH_STS.EPOCH = n) (k : Nat) (h1 : s.get PAIR_EPOCH_STS.PHASE = 1) :
    ∃ t, exec (.epochStart n k) s = .next t
      ∧ t.get PAIR_EPOCH_STS.PHASE = 2 ∧ t.rd .PAIR_STS = PAIR_STS.TRIM_HELD.put (PAIR_STS.PACED.put (s.rd .PAIR_STS) 1) 0
      ∧ t.rd .PAIR_TRIM = 0 ∧ t.rd .PAIR_PHASE = 0 ∧ t.pair = { s.pair with trimAcc := 0, alignRun := 0 }
      ∧ s.frame t [.pair] [(.PAIR_EPOCH_STS, 0), (.PAIR_STS, 0), (.PAIR_TRIM, 0), (.PAIR_PHASE, 0)] := by
  refine ⟨_, congrArg done ((State.onPeer_runs _ hr hb).trans ((if_pos (State.epochIs_eq hs hn h1)).trans
    (rfl : _ = { s.startPace with pair := { s.startPace.pair with trimAcc := 0, alignRun := 0 } }))), ?_, ?_, ?_, ?_, ?_,
    ((((((s.changesOnly_set _ 2 0 _ (by simp)).set _ 1 0 (by simp)).wr _ 0 _ (by simp)).wr _ 0 _ (by simp)).set _ 0 0 (by simp)).pair _ (by simp)).frame⟩
  · simp (disch := decide) only [State.settle_get_of, State.mk_get, State.startPace, State.get_set_ne, State.get_wr_ne, State.get_set_same]
    rfl
  · simp (disch := decide) only [State.settle_rd_of, State.mk_rd, State.startPace, State.rd_set_same, State.rd_wr_ne, State.rd_set_ne]
  · simp (disch := decide) only [State.settle_rd_of, State.mk_rd, State.startPace, State.rd_wr_same, State.rd_wr_ne, State.rd_set_ne]
  · simp (disch := decide) only [State.settle_rd_of, State.mk_rd, State.startPace, State.rd_wr_same, State.rd_set_ne]
  · simp only [State.settle_pair, State.startPace, State.set_pair, State.wr_pair]

/-- R216, R229: the grid measured, the link delay with it. -/
def State.gridMeasured (s : State) (g : Int) (d : Nat) : State :=
  (((s.set PAIR_GRID.G (fieldOf 16 g)).set PAIR_GRID.LINKDLY (min d 65535)).set PAIR_STS.GRID_OK 1).set PAIR_EPOCH_STS.PHASE 3

theorem State.gridMeasured_pair (s : State) (g : Int) (d : Nat) : (s.gridMeasured g d).pair = s.pair := by
  simp only [State.gridMeasured, State.set_pair]

theorem exec_epochPaceComplete_effect {s : State} (hr : s.pairRuns = true) (hs : s.isStandby = true) (g : Int) (d : Nat)
    (h2 : s.get PAIR_EPOCH_STS.PHASE = 2) (hg : g.natAbs ≤ 12) :
    ∃ t, exec (.epochPaceComplete g d) s = .next t
      ∧ t.get PAIR_EPOCH_STS.PHASE = 3 ∧ t.rd .PAIR_STS = PAIR_STS.GRID_OK.put (s.rd .PAIR_STS) 1
      ∧ t.get PAIR_GRID.G = fieldOf 16 g ∧ t.get PAIR_GRID.LINKDLY = min d 65535
      ∧ t.rd .PAIR_REL = BitVec.ofInt 32 s.pair.frameRel ∧ t.pair = { s.pair with rel := s.pair.frameRel }
      ∧ s.frame t [.pair] [(.PAIR_EPOCH_STS, 0), (.PAIR_STS, 0), (.PAIR_GRID, 0), (.PAIR_REL, 0)] := by
  have hfield : fieldOf 16 g < 2 ^ 16 := by unfold fieldOf; omega
  refine ⟨_, congrArg done ((State.onPair_runs _ hr).trans ((if_pos ⟨hs, h2, hg⟩).trans
      (congrArg (State.setRel (s.gridMeasured g d)) (congrArg Pair.frameRel (s.gridMeasured_pair g d))))), ?_, ?_, ?_, ?_, ?_, ?_,
    ((((((s.changesOnly_set _ _ 0 _ (by simp)).set _ _ 0 (by simp)).set _ 1 0 (by simp)).set _ 3 0 (by simp)).wr _ 0 _ (by simp)).pair _ (by simp)).frame⟩
  · simp (disch := decide) only [State.settle_get_of, State.setRel, State.mk_get, State.get_wr_ne, State.gridMeasured, State.get_set_same]
    rfl
  · simp (disch := decide) only [State.settle_rd_of, State.setRel, State.mk_rd, State.rd_wr_ne, State.gridMeasured, State.rd_set_ne, State.rd_set_same]
  · simp (disch := decide) only [State.settle_get_of, State.setRel, State.mk_get, State.get_wr_ne, State.gridMeasured, State.get_set_ne,
      State.get_set_apart, State.get_set_same]
    exact Nat.mod_eq_of_lt hfield
  · simp (disch := decide) only [State.settle_get_of, State.setRel, State.mk_get, State.get_wr_ne, State.gridMeasured, State.get_set_ne,
      State.get_set_same]
    exact Nat.mod_eq_of_lt (by change min d 65535 < 65536; omega)
  · rw [State.settle_rd_of, State.setRel, State.mk_rd, State.rd_wr_same]
  · simp only [State.settle_pair, State.setRel, s.gridMeasured_pair]

/-! ### STATIC: the configuration copy (R229) -/

theorem exec_copy_static {s : State} (hr : s.pairRuns = true) (hb : s.pair.helloBad = false) (hs : s.isStandby = true) {c : Nat} (k : Nat)
    (d : ChanCopy) (hc : c < 512) (h3 : s.get PAIR_EPOCH_STS.PHASE = 3) :
    ∃ t, exec (.copy c k d) s = .next t
      ∧ t.pair = { s.pair with copyWords := s.pair.copyWords ++ d.words } ∧ s.frame t [.pair] [] :=
  ⟨_, (onUnit_next c 512 s _ hc).trans (congrArg done ((State.onPeer_runs _ hr hb).trans ((if_neg (by simp [hs])).trans (if_pos h3)))),
    State.settle_pair _, (s.changesOnly_pair _ _ (by simp)).frame⟩

/-- R230: the copy of a channel stops the posting of its results. -/
theorem exec_copy_channel {s : State} (hr : s.pairRuns = true) (hb : s.pair.helloBad = false) (hs : s.isStandby = true) {c : Nat} (k : Nat)
    (d : ChanCopy) (hc : c < 512) (h4 : 4 ≤ s.get PAIR_EPOCH_STS.PHASE) :
    ∃ t, exec (.copy c k d) s = .next t
      ∧ t.chan c = { s.chan c with posted := none } ∧ s.onlyChan t c
      ∧ t.pair = { s.pair with
          copyPend := c :: s.pair.copyPend.filter (· != c), joined := s.pair.joined.filter (· != c) }
      ∧ s.frame t [.chans, .pair] [] := by
  refine ⟨_, (onUnit_next c 512 s _ hc).trans (congrArg done ((State.onPeer_runs _ hr hb).trans
    ((if_neg (by simp [hs])).trans ((if_neg (by omega)).trans (if_pos (.inl h4)))))), ?_, ?_, ?_,
    ((s.changesOnly_setChan c _ _ (by simp)).pair _ (by simp)).frame⟩
  · exact s.chan_setChan_same c _
  · exact fun c' hne => s.chan_setChan_ne _ (Ne.symm hne)
  · simp only [State.settle_pair, State.setChan_pair]

/-! ### ACK, handover, revert wait and cold window (R225, R226, R227, R232) -/

section
variable {s : State} (hr : s.pairRuns = true)
include hr

theorem exec_epochAck_effect {n : Nat} (hb : s.pair.helloBad = false) (hs : s.isStandby = true) (hn : s.get PAIR_EPOCH_STS.EPOCH = n) (k : Nat)
    (h6 : s.get PAIR_EPOCH_STS.PHASE = 6) (hcommit : s.pair.commitAt = none) :
    ∃ t, exec (.epochAck n k) s = .next t
      ∧ t.pair = { s.pair with commitAt := some (max (s.dev.tick + 1) (s.ownTick k)) } ∧ s.frame t [.pair] [] :=
  ⟨_, congrArg done ((State.onPeer_runs _ hr hb).trans (if_pos ⟨State.epochIs_eq hs hn h6, by simp [hcommit]⟩)), State.settle_pair _,
    (s.changesOnly_pair _ _ (by simp)).frame⟩

theorem exec_epochHandover_effect {n : Nat} (hb : s.pair.helloBad = false) (hs : s.isStandby = true) (hn : s.get PAIR_EPOCH_STS.EPOCH = n)
    (k : Nat) (hstep : s.isStep = true) :
    ∃ t, exec (.epochHandover ((n + 1) % 65536) k) s = .next t
      ∧ t.pair = { s.pair with handoverAt := some (max (s.dev.tick + 1) (s.ownTick k)), handoverOld := false }
      ∧ s.frame t [.pair] [] :=
  ⟨_, congrArg done ((State.onPeer_runs _ hr hb).trans (if_pos ⟨hs, hstep, by rw [hn]⟩)), State.settle_pair _,
    (s.changesOnly_pair _ _ (by simp)).frame⟩

theorem exec_revertWaitExpired_effect (hs : s.isStandby = true) (hstep : s.isStep = true) (hrev : s.on PAIR_CFG.REVERT = true)
    (hpref : s.preferred = true) (hmis : s.pair.helloMismatch = false) (hhold : s.pair.holdStep = false) :
    ∃ t, exec .revertWaitExpired s = .next t ∧ t.pair = { s.pair with revertAsk := true } ∧ s.frame t [.pair] [] :=
  ⟨_, congrArg done ((State.onPair_runs _ hr).trans (if_pos ⟨hstep, hs, hrev, hpref, by simp [hmis], by simp [hhold]⟩)), State.settle_pair _,
    (s.changesOnly_pair _ _ (by simp)).frame⟩

theorem exec_coldWindowExpired_effect :
    ∃ t, exec .coldWindowExpired s = .next t
      ∧ t.rd .PAIR_STS = PAIR_STS.COLD.put (s.rd .PAIR_STS) 0 ∧ t.pair = { s.pair with coldChans := [] }
      ∧ s.frame t [.pair] [(.PAIR_STS, 0)] := by
  refine ⟨_, congrArg done (State.onPair_runs _ hr), ?_, ?_, ((s.changesOnly_set _ 0 0 _ (by simp)).pair _ (by simp)).frame⟩
  · simp (disch := decide) only [State.settle_rd_of, State.mk_rd, State.rd_set_same]
  · simp only [State.settle_pair]

end

end Sys2Proof.Machine

namespace Sys2Proof.Machine

/-! ### An epoch that aborts on the standby (R232) -/

/-- R232: the abort counted with its cause, no phase runs, the unit no longer paced. -/
def State.abortWords (s : State) (cause : Nat) : State :=
  ((((((s.inc .PAIR_EPOCH_ABORT_CNT).set PAIR_EPOCH_STS.LAST_ABORT cause).set PAIR_EPOCH_STS.PHASE 0).set PAIR_EPOCH_STS.JOINED 0).set
    PAIR_STS.PACED 0).set PAIR_STS.GRID_OK 0).set PAIR_STS.ALIGNED 0

/-- R232: the joined channels return to the unit's own inputs. -/
def State.rejoinJoined (s : State) : State := s.pair.joined.foldl (fun s c => s.rejoin c) s

/-- R232: the peer is told of the abort, the link being up. -/
def State.tellAbort (s : State) : State := s.cond (s.on PAIR_STS.LINK_UP) (·.pairSend (.epochAbort (s.get PAIR_EPOCH_STS.EPOCH)))

/-- R232: what the epoch has gathered is gone. -/
def State.dropEpoch (s : State) : State := { s with pair := { s.pair with
  joined := [], copyPend := [], copyWords := [], verified := 0, stream := [], cfgOpen := [], streamInputs := [], seen := [], rxSseq := none } }

theorem State.abortEpoch_runs {s : State} (hs : s.isStandby = true) (he : s.epochRuns = true) (hc : s.pair.commitAt = none) (cause : Nat) :
    s.abortEpoch cause = (s.abortWords cause).rejoinJoined.tellAbort.dropEpoch.pairLog 2 :=
  (if_neg (by simp [hs, he, hc])).trans rfl

/-- What a step for each entry of a list changes is what one of the steps may change. -/
theorem State.foldl_changesOnly {α : Type} {f : State → α → State} {l : List α} {parts : List Part} {words : List (Rg × Nat)}
    (h : ∀ a ∈ l, ∀ u : State, u.changesOnly (f u a) parts words) (s : State) : s.changesOnly (l.foldl f s) parts words := by
  induction l generalizing s with
  | nil => exact s.changesOnly_refl _ _
  | cons a l ih => exact (h a List.mem_cons_self s).trans (ih (fun b hb => h b (List.mem_cons_of_mem a hb)) (f s a))

section
variable (s : State) (c : Nat)

theorem State.rejoin_changesOnly : s.changesOnly (s.rejoin c) [.chans] [] := by
  cases h : s.freqProg c with
  | true =>
    rw [State.rejoin, h]
    exact s.changesOnly_setChan c _ _ (by simp)
  | false =>
    rw [State.rejoin, h]
    exact s.changesOnly_refl _ _

theorem State.rejoin_freqProg (c' : Nat) : (s.rejoin c).freqProg c' = s.freqProg c' := by
  simp only [State.freqProg, State.prog, (s.rejoin_changesOnly c).get_eq ENG_CHMAP.PROG (i := c') (by simp)]

theorem State.rejoin_chan (c' : Nat) :
    (s.rejoin c).chan c' = if c' = c ∧ s.freqProg c' = true then (s.chan c').join true else s.chan c' := by
  by_cases hc : c' = c
  · subst hc
    cases h : s.freqProg c' with
    | true => rw [State.rejoin, h, if_pos ⟨rfl, rfl⟩]; exact s.chan_setChan_same c' _
    | false => rw [State.rejoin, h, if_neg (by simp)]; rfl
  · rw [if_neg fun h => hc h.1, State.rejoin]
    cases s.freqProg c with
    | true => exact s.chan_setChan_ne _ (Ne.symm hc)
    | false => rfl

/-- To join twice is to join once. -/
theorem Chan.join_ite (x : Chan) (p q : Prop) [Decidable p] [Decidable q] :
    (if p then (if q then x.join true else x).join true else if q then x.join true else x) = if q ∨ p then x.join true else x := by
  have hjoin : (x.join true).join true = x.join true := rfl
  by_cases hp : p <;> by_cases hq : q <;> simp only [hp, hq, hjoin, if_true, if_false, or_true, or_false]

theorem State.foldl_rejoin_chan (cs : List Nat) : (cs.foldl (fun s c => s.rejoin c) s).chan c
    = if c ∈ cs ∧ s.freqProg c = true then (s.chan c).join true else s.chan c := by
  induction cs generalizing s with
  | nil => simp
  | cons a cs ih =>
    rw [List.foldl_cons, ih, s.rejoin_freqProg, s.rejoin_chan, Chan.join_ite]
    exact if_congr (by rw [List.mem_cons, or_and_right]) rfl rfl

end

section
variable (s : State) (cause : Nat)

theorem State.abortWords_changesOnly :
    s.changesOnly (s.abortWords cause) [] [(.PAIR_STS, 0), (.PAIR_EPOCH_STS, 0), (.PAIR_EPOCH_ABORT_CNT, 0)] :=
  ((((((s.changesOnly_inc _ 0 _ (by simp)).set _ _ 0 (by simp)).set _ _ 0 (by simp)).set _ _ 0 (by simp)).set _ _ 0 (by simp)).set _ _ 0
    (by simp)).set _ _ 0 (by simp)

theorem State.abortWords_pair : (s.abortWords cause).pair = s.pair := (s.abortWords_changesOnly cause).part .pair (by simp)

theorem State.tellAbort_changesOnly : s.changesOnly s.tellAbort [.pair] [] := by
  obtain h | h := s.cond_eq_or (s.on PAIR_STS.LINK_UP) (·.pairSend (.epochAbort (s.get PAIR_EPOCH_STS.EPOCH)))
  · rw [State.tellAbort, h]
    exact s.changesOnly_pair _ _ (by simp)
  · rw [State.tellAbort, h]
    exact s.changesOnly_refl _ _

theorem State.rejoinJoined_changesOnly : s.changesOnly s.rejoinJoined [.chans] [] := State.foldl_changesOnly (fun c _ u => u.rejoin_changesOnly c) s

/-- The abort after its words are written. -/
def State.abortRest : State := s.rejoinJoined.tellAbort.dropEpoch.pairLog 2

/-- Beside its words, an abort changes the channels and the pair's state, and makes an entry of the log. -/
theorem State.abortRest_changesOnly : s.changesOnly s.abortRest [.chans, .pair, .mgmt, .free] [(.MGMT_LOG_OVW_CNT, 0), (.MGMT_LOG_LOST_CNT, 0)] :=
  (((s.rejoinJoined_changesOnly.mono (by simp) (by simp)).trans ((State.tellAbort_changesOnly _).mono (by simp) (by simp))).pair _ (by simp)).trans
    ((State.pairLog_changesOnly _ 2).mono (by simp) (by simp [logWords]))

theorem State.abortRest_chan (c : Nat) : s.abortRest.chan c
    = if c ∈ s.pair.joined ∧ s.freqProg c = true then { s.chan c with rezero := true } else s.chan c := by
  rw [State.abortRest, (State.pairLog_changesOnly _ 2).chan_eq (by simp)]
  exact ((State.tellAbort_changesOnly _).chan_eq (by simp) c).trans (s.foldl_rejoin_chan c _)

/-- R232: what an abort leaves of the pair's state. -/
def State.abortedPair : Pair := { s.pair with
  joined := [], copyPend := [], copyWords := [], verified := 0, stream := [], cfgOpen := [], streamInputs := [], seen := [], rxSseq := none
  out := if s.on PAIR_STS.LINK_UP then s.pair.out ++ [.epochAbort (s.get PAIR_EPOCH_STS.EPOCH)] else s.pair.out }

theorem State.abortRest_pair : s.abortRest.pair = s.abortedPair := by
  have hpair : s.rejoinJoined.pair = s.pair := s.rejoinJoined_changesOnly.part .pair (by simp)
  have hlink := s.rejoinJoined_changesOnly.on_eq PAIR_STS.LINK_UP (i := 0) (by decide)
  have hepoch := s.rejoinJoined_changesOnly.get_eq PAIR_EPOCH_STS.EPOCH (i := 0) (by decide)
  rw [State.abortRest, (State.pairLog_changesOnly _ 2).part .pair (by simp), State.dropEpoch, State.tellAbort, hlink, hepoch, State.abortedPair]
  cases s.on PAIR_STS.LINK_UP with
  | true => simp only [State.cond, State.pairSend, hpair, if_true]
  | false => simp [State.cond, hpair]

/-- R232: the fields that an abort writes. -/
theorem State.abortWords_get (hcause : cause < 8) :
    (s.abortWords cause).get PAIR_EPOCH_STS.PHASE = 0 ∧ (s.abortWords cause).get PAIR_EPOCH_STS.JOINED = 0
      ∧ (s.abortWords cause).get PAIR_EPOCH_STS.LAST_ABORT = cause
      ∧ (s.abortWords cause).get PAIR_EPOCH_STS.EPOCH = s.get PAIR_EPOCH_STS.EPOCH
      ∧ s.counted (s.abortWords cause) .PAIR_EPOCH_ABORT_CNT 0 1 ∧ (s.abortWords cause).get PAIR_STS.PACED = 0
      ∧ (s.abortWords cause).get PAIR_STS.GRID_OK = 0 ∧ (s.abortWords cause).get PAIR_STS.ALIGNED = 0 := by
  refine ⟨?_, ?_, ?_, ?_, ?_, ?_, ?_, ?_⟩
  · simp (disch := decide) only [State.abortWords, State.get_set_ne, State.get_set_apart, State.get_set_same, Nat.zero_mod]
  · simp (disch := decide) only [State.abortWords, State.get_set_ne, State.get_set_same, Nat.zero_mod]
  · simp (disch := decide) only [State.abortWords, State.get_set_ne, State.get_set_apart, State.get_set_same]
    exact Nat.mod_eq_of_lt hcause
  · simp (disch := decide) only [State.abortWords, State.get_set_ne, State.get_set_apart]
    exact s.get_inc_ne _ 0 PAIR_EPOCH_STS.EPOCH 0 (by decide)
  · simp (disch := decide) only [State.counted, State.abortWords, State.rd_set_ne, State.rd_inc_same]
  · simp (disch := decide) only [State.abortWords, State.get_set_apart, State.get_set_same, Nat.zero_mod]
  · simp (disch := decide) only [State.abortWords, State.get_set_apart, State.get_set_same, Nat.zero_mod]
  · simp (disch := decide) only [State.abortWords, State.get_set_same, Nat.zero_mod]

end

theorem State.abortEpoch_aborted {s : State} (hs : s.isStandby = true) (he : s.epochRuns = true) (hc : s.pair.commitAt = none)
    (hj : s.pair.joined.all (· < 512) = true) {cause : Nat} (hcause : cause < 8) : s.epochAborted (s.abortEpoch cause).settle cause [] [] := by
  generalize hu : s.abortWords cause = u
  have hwords := s.abortWords_changesOnly cause
  have hget := s.abortWords_get cause hcause
  have hpair := s.abortWords_pair cause
  rw [State.abortEpoch_runs hs he hc cause, ← State.abortRest]
  rw [hu] at hwords hget hpair ⊢
  obtain ⟨hphase, hjoined, hlast, hepoch, hcnt, hpaced, hgrid, haligned⟩ := hget
  have hrest := u.abortRest_changesOnly
  have hchan (c : Nat) : u.chan c = s.chan c := hwords.chan_eq (by simp) c
  have hfreq (c : Nat) (hin : c ∈ s.pair.joined) : u.freqProg c = s.freqProg c := by
    have hlt : c < 512 := of_decide_eq_true (List.all_eq_true.1 hj c hin)
    simp only [State.freqProg, State.prog, hwords.get_eq ENG_CHMAP.PROG (i := c) (Rg.key_ne_window (by decide) (by decide) hlt)]
  have hrpair : u.abortRest.settle.pair = u.abortedPair := (State.settle_pair _).trans u.abortRest_pair
  refine ⟨?_, ?_, ?_, ?_, ?_, ?_, ?_, ?_, fun c => ?_, ?_, ?_, ?_, ?_, ?_, fun hl => ?_,
    ((hwords.mono (by simp) (by simp)).trans (hrest.mono (by simp) (by simp))).frame⟩
  · rw [State.settle_get_of, hrest.get_eq _ (by decide), hphase]
  · rw [State.settle_get_of, hrest.get_eq _ (by decide), hjoined]
  · rw [State.settle_get_of, hrest.get_eq _ (by decide), hlast]
  · rw [State.settle_get_of, hrest.get_eq _ (by decide), hepoch]
  · exact State.counted_congr ((State.settle_rd_of ..).trans (hrest.rd_eq (by decide))) hcnt
  · rw [State.settle_on_of, hrest.on_eq _ (by decide), State.on, hpaced]; rfl
  · rw [State.settle_on_of, hrest.on_eq _ (by decide), State.on, hgrid]; rfl
  · rw [State.settle_on_of, hrest.on_eq _ (by decide), State.on, haligned]; rfl
  · refine (u.abortRest_chan c).trans ?_
    rw [hchan, hpair]
    exact if_congr (and_congr_right fun hin => by rw [hfreq c hin]) rfl rfl
  · rw [hrpair, State.abortedPair]
  · rw [hrpair, State.abortedPair]
  · rw [hrpair, State.abortedPair]
  · rw [hrpair, State.abortedPair]
  · rw [hrpair, State.abortedPair]
  · rw [State.settle_on_of, hrest.on_eq _ (by decide)] at hl
    simp only [hrpair, State.abortedPair, hl, if_true, hpair, hepoch]

section
variable {s : State} (hr : s.pairRuns = true) (hs : s.isStandby = true) (he : s.epochRuns = true) (hc : s.pair.commitAt = none)
  (hj : s.pair.joined.all (· < 512) = true)
include hr hs he hc hj

theorem exec_epochTimeout_effect : ∃ t, exec .epochTimeout s = .next t ∧ s.epochAborted t 5 [] [] :=
  ⟨_, congrArg done (State.onPair_runs _ hr), State.abortEpoch_aborted hs he hc hj (by decide)⟩

/-- R232: the record carries no cause: a free one is recorded. -/
theorem exec_epochAbort_standby {n : Nat} (hb : s.pair.helloBad = false) (hn : s.get PAIR_EPOCH_STS.EPOCH = n) :
    ∃ t, exec (.epochAbort n) s = .next t ∧ s.epochAborted t (Config.freeNat s.free % 8) [.free] [] := by
  refine ⟨_, congrArg done ((State.onPeer_runs _ hr hb).trans ((if_pos ⟨he, hn⟩).trans (if_pos hs))), ?_⟩
  obtain ⟨hphase, hjoined, hlast, hepoch, hcnt, hpaced, hgrid, haligned, hchan, hj', hpend, hstream, hseen, hin, hout, hframe⟩ :=
    State.abortEpoch_aborted (s := (s.drawNat 8).2) hs he hc hj (cause := (s.drawNat 8).1) (Nat.mod_lt _ (by decide))
  have hfree : s.changesOnly (s.drawNat 8).2 [.free] [] := s.changesOnly_free _ _ (by simp)
  exact ⟨hphase, hjoined, hlast, hepoch, hcnt, hpaced, hgrid, haligned, hchan, hj', hpend, hstream, hseen, hin, hout, hfree.frame_trans hframe⟩

theorem exec_epochStaticComplete_failed (h3 : s.get PAIR_EPOCH_STS.PHASE = 3) :
    ∃ t, exec (.epochStaticComplete false) s = .next t ∧ s.epochAborted t 6 [] [] :=
  ⟨_, congrArg done ((State.onPair_runs _ hr).trans ((if_pos ⟨hs, h3⟩).trans (if_neg (by decide)))),
    State.abortEpoch_aborted hs he hc hj (by decide)⟩

end

end Sys2Proof.Machine

namespace Sys2Proof.Machine

/-! ### STATIC ends: the configuration copy takes its place (R229) -/

/-- Words are named by their keys. -/
theorem State.changesOnly.of_keys {s t : State} {parts : List Part} {words words' : List (Rg × Nat)} (h : s.changesOnly t parts words)
    (hk : ∀ q ∈ words, ∃ q' ∈ words', q'.1.key q'.2 = q.1.key q.2) : s.changesOnly t parts words' :=
  have ⟨hq, hparts, hwords⟩ := h
  ⟨hq, hparts, fun r i hne => hwords r i fun q hin e =>
    have ⟨q', hin', hkey⟩ := hk q hin
    hne q' hin' (hkey.trans e)⟩

theorem State.putCfg_changesOnly (s : State) (k : Nat) (w : Word) {words : List (Rg × Nat)} (h : ∀ q, Rg.ofKey k = some q → q ∈ words) :
    s.changesOnly (s.putCfg k w) [] words := by
  unfold State.putCfg
  cases hk : Rg.ofKey k with
  | none => exact s.changesOnly_refl _ _
  | some q => exact s.changesOnly_wr q.1 q.2 _ _ (h q hk)

theorem State.putCopy_changesOnly (s : State) (k : Nat) (w : Word) {words : List (Rg × Nat)} (h : ∀ q, Rg.ofKey k = some q → q ∈ words) :
    s.changesOnly (s.putCopy k w) [] words := by
  unfold State.putCopy
  split
  next i hk =>
    exact ((s.changesOnly_set PARSE_BANK_STS.GEN _ 0 _ (by simp)).set PARSE_BANK_STS.ACTIVE _ 0 (by simp)).of_keys
      (words := [(.PARSE_BANK_STS, 0)]) fun q hq => ⟨_, h _ hk, by rw [List.mem_singleton.1 hq]; simp [Rg.key, Rg.info, Info.status]⟩
  next r i _ hk =>
    obtain hc | hc := s.cond_eq_or r.copied (·.putCfg k w)
    · rw [hc]
      exact s.putCfg_changesOnly k w h
    · rw [hc]
      exact s.changesOnly_refl _ _
  next => exact s.changesOnly_refl _ _

/-- R229: the words of the configuration copy take their places. -/
def State.putCopies (s : State) : State := s.pair.copyWords.foldl (fun s w => s.putCopy w.1 w.2) s

theorem State.putCopies_changesOnly (s : State) : s.changesOnly s.putCopies [] (s.pair.copyWords.filterMap fun w => Rg.ofKey w.1) :=
  State.foldl_changesOnly (fun a ha u => u.putCopy_changesOnly a.1 a.2 fun _ hq => List.mem_filterMap.2 ⟨a, ha, hq⟩) s

theorem exec_epochStaticComplete_effect {s : State} (hr : s.pairRuns = true) (hs : s.isStandby = true) (h3 : s.get PAIR_EPOCH_STS.PHASE = 3) :
    ∃ t, exec (.epochStaticComplete true) s = .next t
      ∧ t.get PAIR_EPOCH_STS.PHASE = 4 ∧ t.pair = { s.pair with copyWords := [] }
      ∧ s.frame t [.pair] ((.PAIR_EPOCH_STS, 0) :: s.pair.copyWords.filterMap fun w => Rg.ofKey w.1) := by
  have hcopies := s.putCopies_changesOnly
  have hpair : s.putCopies.pair = s.pair := hcopies.part .pair (by simp)
  refine ⟨_, congrArg done ((State.onPair_runs _ hr).trans ((if_pos ⟨hs, h3⟩).trans ((if_pos rfl).trans
    (rfl : _ = { s.putCopies.set PAIR_EPOCH_STS.PHASE 4 with pair := { (s.putCopies.set PAIR_EPOCH_STS.PHASE 4).pair with copyWords := [] } })))), ?_, ?_,
    (((hcopies.mono (by simp) (List.subset_cons_self _ _)).set PAIR_EPOCH_STS.PHASE 4 0 (by simp)).pair _ (by simp)).frame⟩
  · rw [State.settle_get_of, State.mk_get, State.get_set_same _ _ _ _ (by decide)]
    rfl
  · simp only [State.settle_pair, State.set_pair, hpair]

/-! ### A copy is replayed (R230, R231) -/

theorem State.stepPins_changesOnly (s : State) (c : Nat) (d : Int) : s.changesOnly (s.stepPins c d) [.outs, .pps] [] := by
  refine State.changesOnly.trans (State.upto_changesOnly (fun n _ u => ?_) s) (State.upto_changesOnly (fun m _ u => ?_) _)
  · by_cases h : (u.out n).src = c ∧ u.get OUT_STS.STATE n = 2
    · rw [if_pos h]
      exact u.changesOnly_setOut n _ _ (by simp)
    · rw [if_neg h]
      exact u.changesOnly_refl _ _
  · by_cases h : (u.ppsPin m).src = c ∧ bitOf (u.get OUT_PPS_STS.RUN) m = true
    · rw [if_pos h]
      exact u.changesOnly_setPps m _ _ (by simp)
    · rw [if_neg h]
      exact u.changesOnly_refl _ _

theorem State.checkpoint_changesOnly (s : State) (c : Nat) (ws : List (Nat × Word)) :
    s.changesOnly (s.checkpoint c ws) [] (ws.map fun w => (.PARAM, c * 512 + w.1)) := by
  refine State.foldl_changesOnly (fun w hw u => ?_) s
  by_cases h : 32 ≤ w.1 ∧ w.1 < 128
  · rw [if_pos h]
    exact u.changesOnly_wr _ _ _ _ (List.mem_map_of_mem hw)
  · rw [if_neg h]
    exact u.changesOnly_refl _ _

section
variable (s : State) (c : Nat) (d : ChanCopy)

/-- R230: the channel's state is installed, the pins following the step of its time. -/
def State.installChan : State :=
  let u := s.stepPins c ((d.time : Int) - (s.chan c).time)
  u.setChan c ((u.chan c).install d (u.ownTick d.t0) u.msyn.mcc)

/-- R230: the words of a channel's copy take their places. -/
def State.installWords : State := (d.words.foldl (fun s w => s.putCfg w.1 w.2) s).checkpoint c d.checkpoint

theorem State.installWords_changesOnly : s.changesOnly (s.installWords c d) [] (copiedWords c d) :=
  ((State.foldl_changesOnly (fun a ha u => u.putCfg_changesOnly a.1 a.2 fun _ hq => List.mem_filterMap.2 ⟨a, ha, hq⟩) s).mono (List.Subset.refl _)
      (List.subset_append_left _ _)).trans
    ((State.checkpoint_changesOnly _ c d.checkpoint).mono (List.Subset.refl _) (List.subset_append_right _ _))

theorem State.installChan_changesOnly : s.changesOnly (s.installChan c d) [.chans, .outs, .pps] [] :=
  ((s.stepPins_changesOnly c _).mono (by simp) (by simp)).trans (State.changesOnly_setChan _ c _ _ (by simp))

theorem State.installChan_chan : (s.installChan c d).chan c = (s.chan c).install d (s.ownTick d.t0) s.msyn.mcc := by
  have hstep := s.stepPins_changesOnly c ((d.time : Int) - (s.chan c).time)
  have hdev : (s.stepPins c ((d.time : Int) - (s.chan c).time)).dev = s.dev := hstep.part .dev (by simp)
  have hpair : (s.stepPins c ((d.time : Int) - (s.chan c).time)).pair = s.pair := hstep.part .pair (by simp)
  have hown : (s.stepPins c ((d.time : Int) - (s.chan c).time)).ownTick d.t0 = s.ownTick d.t0 := by
    simp only [State.ownTick, State.activeTick, hdev, hpair]
  rw [State.installChan, State.chan_setChan_same, hstep.chan_eq (by simp), hown, hstep.part .msyn (by simp)]

theorem State.installChan_onlyChan : s.onlyChan (s.installChan c d) c := fun k hk =>
  (State.chan_setChan_ne _ _ (Ne.symm hk)).trans ((s.stepPins_changesOnly c _).chan_eq (by simp) k)

theorem State.installCopy_eq : s.installCopy c d = (s.installChan c d).installWords c d := rfl

theorem State.installCopy_changesOnly : s.changesOnly (s.installCopy c d) [.chans, .outs, .pps] (copiedWords c d) :=
  ((s.installChan_changesOnly c d).mono (by simp) (by simp)).trans (((s.installChan c d).installWords_changesOnly c d).mono (by simp) (by simp))

theorem State.installCopy_chan : (s.installCopy c d).chan c = (s.chan c).install d (s.ownTick d.t0) s.msyn.mcc := by
  rw [s.installCopy_eq, ((s.installChan c d).installWords_changesOnly c d).chan_eq (by simp), s.installChan_chan]

theorem State.installCopy_onlyChan : s.onlyChan (s.installCopy c d) c := fun k hk =>
  (((s.installChan c d).installWords_changesOnly c d).chan_eq (by simp) k).trans (s.installChan_onlyChan c d k hk)

end

/-- R231: a channel under repair whose copy has been replayed is repaired. -/
def State.unrepair (s : State) (c : Nat) : State :=
  if s.pair.repair.any (·.1 == c) then
    { s.inc .PAIR_REPAIR_CNT with pair := { s.pair with
        repair := s.pair.repair.filter (·.1 != c), copied := s.pair.copied.filter (· != c) } }
  else s

/-- R229: the standby has replayed the copy of channel `c`. -/
def State.noteReplayed (s : State) (c : Nat) : State := { s with pair := { s.pair with
  copyPend := s.pair.copyPend.filter (· != c), joined := c :: s.pair.joined.filter (· != c) } }

/-- R229: the count of joined channels shows, and with the last one VERIFY begins. -/
def State.countJoined (s : State) : State :=
  if s.epochRuns then
    let n := s.pair.joined.length
    let s := s.set PAIR_EPOCH_STS.JOINED n
    if n = 512 ∧ s.get PAIR_EPOCH_STS.PHASE = 4 then
      { s.set PAIR_EPOCH_STS.PHASE 5 with pair := { s.pair with verified := 0 } }
    else s
  else s

theorem State.unrepair_changesOnly (s : State) (c : Nat) : s.changesOnly (s.unrepair c) [.pair] [(.PAIR_REPAIR_CNT, 0)] := by
  by_cases h : s.pair.repair.any (·.1 == c) = true
  · rw [State.unrepair, if_pos h]
    exact (s.changesOnly_inc .PAIR_REPAIR_CNT 0 _ (by simp)).pair _ (by simp)
  · rw [State.unrepair, if_neg h]
    exact s.changesOnly_refl _ _

/-- A repair leaves the lists of the epoch. -/
theorem State.unrepair_joins (s : State) (c : Nat) :
    (s.unrepair c).pair.joined = s.pair.joined ∧ (s.unrepair c).pair.copyPend = s.pair.copyPend := by
  by_cases h : s.pair.repair.any (·.1 == c) = true
  · rw [State.unrepair, if_pos h]
    exact ⟨rfl, rfl⟩
  · rw [State.unrepair, if_neg h]
    exact ⟨rfl, rfl⟩

theorem State.countJoined_effect (s : State) : s.changesOnly s.countJoined [.pair] [(.PAIR_EPOCH_STS, 0)]
    ∧ s.countJoined.pair.joined = s.pair.joined ∧ s.countJoined.pair.copyPend = s.pair.copyPend := by
  have hset := s.changesOnly_set PAIR_EPOCH_STS.JOINED s.pair.joined.length 0 [.pair] (words := [(.PAIR_EPOCH_STS, 0)]) (by simp)
  unfold State.countJoined
  by_cases he : s.epochRuns = true
  · rw [if_pos he]
    dsimp only
    by_cases hn : s.pair.joined.length = 512 ∧ (s.set PAIR_EPOCH_STS.JOINED s.pair.joined.length).get PAIR_EPOCH_STS.PHASE = 4
    · rw [if_pos hn]
      exact ⟨(hset.set PAIR_EPOCH_STS.PHASE 5 0 (by simp)).pair _ (by simp), by rw [State.set_pair], by rw [State.set_pair]⟩
    · rw [if_neg hn]
      exact ⟨hset, by rw [State.set_pair], by rw [State.set_pair]⟩
  · rw [if_neg he]
    exact ⟨s.changesOnly_refl _ _, rfl, rfl⟩

theorem exec_channelJoinComplete_standby {s : State} (hr : s.pairRuns = true) (hs : s.isStandby = true) {c : Nat} (d : ChanCopy) (hc : c < 512)
    (hpend : c ∈ s.pair.copyPend) :
    exec (.channelJoinComplete c d) s = done (((s.installCopy c d).noteReplayed c).unrepair c).countJoined :=
  (onUnit_next c 512 s _ hc).trans (congrArg done ((State.onPair_runs _ hr).trans
    ((if_neg (by simp [State.isActive_of_isStandby hs])).trans (if_pos ⟨hs, List.contains_iff_mem.2 hpend⟩))))

theorem exec_channelJoinComplete_effect {s : State} (hr : s.pairRuns = true) (hs : s.isStandby = true) {c : Nat} (d : ChanCopy) (hc : c < 512)
    (hpend : c ∈ s.pair.copyPend) :
    ∃ t, exec (.channelJoinComplete c d) s = .next t
      ∧ t.chan c = (s.chan c).install d (s.ownTick d.t0) s.msyn.mcc
      ∧ s.onlyChan t c ∧ t.pair.joined = c :: s.pair.joined.filter (· != c)
      ∧ t.pair.copyPend = s.pair.copyPend.filter (· != c)
      ∧ s.frame t [.chans, .outs, .pps, .pair] ((.PAIR_EPOCH_STS, 0) :: (.PAIR_REPAIR_CNT, 0) :: copiedWords c d) := by
  have hinst := s.installCopy_changesOnly c d
  have hpair : (s.installCopy c d).pair = s.pair := hinst.part .pair (by simp)
  have hjoins := ((s.installCopy c d).noteReplayed c).unrepair_joins c
  have hnote := (s.installCopy c d).changesOnly_pair ((s.installCopy c d).noteReplayed c).pair (parts := [.pair]) [(.PAIR_REPAIR_CNT, 0)] (by simp)
  obtain ⟨hcount, hjoined, hcopy⟩ := (((s.installCopy c d).noteReplayed c).unrepair c).countJoined_effect
  have hrest : (s.installCopy c d).changesOnly (((s.installCopy c d).noteReplayed c).unrepair c).countJoined [.pair]
      [(.PAIR_EPOCH_STS, 0), (.PAIR_REPAIR_CNT, 0)] :=
    ((hnote.trans (State.unrepair_changesOnly _ c)).mono (by simp) (by simp)).trans (hcount.mono (by simp) (by simp))
  refine ⟨_, exec_channelJoinComplete_standby hr hs d hc hpend, ?_, fun k hk => ?_, ?_, ?_,
    ((hinst.mono (by simp) (by intro q hq; simp [hq])).trans (hrest.mono (by simp) (by simp))).frame⟩
  · exact (hrest.chan_eq (by simp) c).trans (s.installCopy_chan c d)
  · exact (hrest.chan_eq (by simp) k).trans (s.installCopy_onlyChan c d k hk)
  · rw [State.settle_pair, hjoined, hjoins.1, ← hpair]
    rfl
  · rw [State.settle_pair, hcopy, hjoins.2, ← hpair]
    rfl

/-- Settles O36: each event of the standby's epoch by the branch of its command that the phase opens; an abort is one effect, whatever
brings it. -/
theorem standbyEpochs : Obligations.StandbyEpochs := by
  unfold Obligations.StandbyEpochs
  intro s n hr hb hs hn
  refine ⟨fun hm hl ha hrole hpeer he hd ht => exec_epochRetryDue_effect hr hn ⟨hs, hm, hl, ha, hb, hrole, hpeer, he, hd, ht⟩,
    exec_epochStart_effect hr hb hs hn, exec_epochPaceComplete_effect hr hs, fun c k d hc => exec_copy_static hr hb hs k d hc,
    exec_epochStaticComplete_effect hr hs, fun c k d hc => exec_copy_channel hr hb hs k d hc,
    fun c d hc _ hpend _ => exec_channelJoinComplete_effect hr hs d hc hpend, exec_epochAck_effect hr hb hs hn,
    fun he hc hj => ⟨exec_epochTimeout_effect hr hs he hc hj, exec_epochAbort_standby hr hs he hc hj hb hn,
      exec_epochStaticComplete_failed hr hs he hc hj⟩,
    exec_epochHandover_effect hr hb hs hn, exec_revertWaitExpired_effect hr hs, exec_coldWindowExpired_effect hr⟩

end Sys2Proof.Machine

namespace Sys2Proof.Machine

/-! ### The active's side of an epoch (R229, R232) -/

section
variable {s : State} {n : Nat} (hr : s.pairRuns = true) (hb : s.pair.helloBad = false) (ha : s.isActive = true)
include hr hb ha

theorem exec_epochOffer_effect (hlt : n < 65536) (hrun : s.isRun = true) (hl : s.on PAIR_STS.LINK_UP = true) :
    ∃ t, exec (.epochOffer n) s = .next t
      ∧ t.get PAIR_EPOCH_STS.EPOCH = n ∧ t.get PAIR_EPOCH_STS.PHASE = 2 ∧ t.rd .PAIR_STS = PAIR_STS.IN_STEP.put (s.rd .PAIR_STS) 0
      ∧ t.pair = { s.pair with
          streaming := true, commitAt := none, wordNext := 0, copyNext := 0, recopy := [], joined := [], copied := []
          out := s.pair.out ++ [.epochStart n ((s.dev.tick + 1) % 2 ^ 32)] }
      ∧ s.frame t [.pair] [(.PAIR_EPOCH_STS, 0), (.PAIR_STS, 0)] := by
  refine ⟨_, congrArg done ((State.onPeer_runs _ hr hb).trans (if_pos ⟨ha, hrun, hl⟩)), ?_, ?_, ?_, ?_,
    ((((s.changesOnly_set _ n 0 _ (by simp)).set _ 2 0 (by simp)).set _ 0 0 (by simp)).pair _ (by simp)).frame⟩
  · simp (disch := decide) only [State.settle_get_of, State.mk_get, State.get_set_ne, State.get_set_apart, State.get_set_same]
    exact Nat.mod_eq_of_lt hlt
  · simp (disch := decide) only [State.settle_get_of, State.mk_get, State.get_set_ne, State.get_set_same]
    rfl
  · simp (disch := decide) only [State.settle_rd_of, State.mk_rd, State.rd_set_same, State.rd_set_ne]
  · simp only [State.settle_pair, State.set_pair, State.set_dev]

variable (hn : s.get PAIR_EPOCH_STS.EPOCH = n)
include hn

theorem exec_epochCommit_effect (hstream : s.pair.streaming = true) :
    ∃ t, exec (.epochCommit n) s = .next t
      ∧ t.pair = { s.pair with
          commitAt := some (s.dev.tick + 3), out := s.pair.out ++ [.epochAck n ((s.dev.tick + 3) % 2 ^ 32)] }
      ∧ s.frame t [.pair] [] :=
  ⟨_, congrArg done ((State.onPeer_runs _ hr hb).trans (if_pos ⟨ha, hstream, hn⟩)), State.settle_pair _,
    (s.changesOnly_pair _ _ (by simp)).frame⟩

theorem exec_epochAbort_active (he : s.epochRuns = true) :
    ∃ t, exec (.epochAbort n) s = .next t
      ∧ t.get PAIR_EPOCH_STS.PHASE = 0 ∧ s.counted t .PAIR_EPOCH_ABORT_CNT 0 1 ∧ t.pair = { s.pair with commitAt := none }
      ∧ s.frame t [.pair, .free] [(.PAIR_EPOCH_STS, 0), (.PAIR_EPOCH_ABORT_CNT, 0)] := by
  have hfree : s.changesOnly (s.drawNat 8).2 [.pair, .free] [(.PAIR_EPOCH_STS, 0), (.PAIR_EPOCH_ABORT_CNT, 0)] := s.changesOnly_free _ _ (by simp)
  refine ⟨_, congrArg done ((State.onPeer_runs _ hr hb).trans ((if_pos ⟨he, hn⟩).trans (if_neg (by simp [State.isStandby_of_isActive ha])))),
    ?_, ?_, ?_,
    ((((hfree.inc _ 0 (by simp)).set _ _ 0 (by simp)).set _ 0 0 (by simp)).pair _ (by simp)).frame⟩
  · simp (disch := decide) only [State.settle_get_of, State.mk_get, State.get_set_same, Nat.zero_mod]
  · simp (disch := decide) only [State.counted, State.settle_rd_of, State.mk_rd, State.rd_set_ne, State.rd_inc_same, State.drawNat]
  · simp only [State.settle_pair, State.set_pair, State.inc_pair, State.drawNat]

end

/-! ### A planned handover (R226, R234) -/

theorem State.setPort_tick (s : State) (p : Port) (x : PortSt) : (s.setPort p x).dev.tick = s.dev.tick := by
  cases p <;> rfl

/-- A spent key shows in the ports only. -/
theorem State.spendKey_dev (s : State) (p : Port) (r : Rg) : ∃ d : Dev, s.spendKey p r = { s with dev := d } ∧ d.tick = s.dev.tick := by
  obtain ⟨d, hd⟩ := s.spendKey_eq p r
  refine ⟨d, hd, ?_⟩
  have htick : (s.spendKey p r).dev.tick = s.dev.tick := by
    obtain h | h := s.cond_eq_or (r.info.guard && isHost p) (·.closeKey p)
    · rw [State.spendKey, h]
      exact s.setPort_tick p _
    · rw [State.spendKey, h]
  rw [← htick, hd]

/-- R234: the word of HANDOVER runs HANDOVER where its verdict allows it. -/
theorem State.effect_handover {s : State} (p : Port) (a : Nat) (hj : s.judgePairCmd 31 = none) :
    s.effect p a .PAIR_CMD 0 (BitVec.ofNat 32 (2 ^ 31)) = s.pairCmd 31 := by
  have hw : (BitVec.ofNat 32 (2 ^ 31)).toNat = 2 ^ 31 := by decide
  show [31, 30, 29, 28].foldl (fun s b => s.bitCmd p a (BitVec.ofNat 32 (2 ^ 31)) b (s.judgePairCmd b) fun s => s.pairCmd b) s = _
  rw [List.foldl_cons, hj, State.bitCmd_executed (by rw [hw]; decide), List.foldl_cons, State.bitCmd_off (by rw [hw]; decide),
    List.foldl_cons, State.bitCmd_off (by rw [hw]; decide), List.foldl_cons, State.bitCmd_off (by rw [hw]; decide), List.foldl_nil]

theorem State.pairCmd_handover (s : State) : s.pairCmd 31 = (s.set PAIR_CMD.HANDOVER 1).grantHandover := by
  unfold State.pairCmd
  split
  case h_1 => rfl
  case h_2 h => cases h
  case h_3 h => cases h
  case h_4 h _ _ => exact absurd rfl h

/-- R226: what a grant leaves of the pair's state. -/
def State.grantedPair (s : State) : Pair := { s.pair with
  handoverAt := some (s.dev.tick + 1 + s.get HOP_CTL.PAIR_LEAD + 2), handoverOld := true
  out := s.pair.out ++ [.epochHandover ((s.get PAIR_EPOCH_STS.EPOCH + 1) % 65536) ((s.dev.tick + 1 + s.get HOP_CTL.PAIR_LEAD + 2) % 2 ^ 32)] }

theorem State.grantHandover_grants {s : State} (h : s.pair.handoverAt = none) : s.grantHandover = { s with pair := s.grantedPair } :=
  (if_neg (by simp [h])).trans rfl

theorem exec_handover_effect {s : State} {p : Port} (hs : s.reaches p .PAIR_CMD 0) (hrun : s.isRun = true) (hstep : s.peerInStep = true)
    (hnone : s.pair.handoverAt = none) :
    ∃ t, exec (.handover p) s = .next t
      ∧ t.pair = s.grantedPair
      ∧ t.rd .PAIR_CMD = PAIR_CMD.HANDOVER.put (s.rd .PAIR_CMD) 1 ∧ s.frame t [.pair, .dev] [(.PAIR_CMD, 0)] := by
  obtain ⟨d, hd, htick⟩ := s.spendKey_dev p .PAIR_CMD
  generalize hu : ({ s with dev := d } : State) = u at hd
  have hdev : s.changesOnly u [.dev] [] := hu ▸ s.changesOnly_dev d _ (by simp)
  have hpair : u.pair = s.pair := hdev.part .pair (by simp)
  have hutick : u.dev.tick = s.dev.tick := by rw [← hu]; exact htick
  have hrun' : u.isRun = true := by rw [State.isRun, State.mode, hdev.get_eq DEV_MODE.MODE (by decide)]; exact hrun
  have hstep' : u.peerInStep = true := by
    rw [State.peerInStep, State.isActive, hdev.get_eq PAIR_STS.ROLE (by decide), hdev.on_eq PAIR_STS.IN_STEP (by decide)]
    exact hstep
  have hj : u.judgePairCmd 31 = none := by simp [State.judgePairCmd, hrun', hstep', unless_]
  have hexec : s.hostReg p .PAIR_CMD 0 (BitVec.ofNat 32 (2 ^ 31))
      = { u.set PAIR_CMD.HANDOVER 1 with pair := (u.set PAIR_CMD.HANDOVER 1).grantedPair } := by
    rw [State.hostReg_executed (by decide) (by decide) (by decide) hs (by rfl), State.touched_uncovered _ (by decide), hd,
      State.effect_handover p _ hj, State.pairCmd_handover, State.grantHandover_grants (by rw [State.set_pair, hpair, hnone])]
  refine ⟨_, congrArg done hexec, ?_, ?_,
    (((hdev.mono (parts' := [.pair, .dev]) (words' := [(.PAIR_CMD, 0)]) (by simp) (by simp)).set PAIR_CMD.HANDOVER 1 0 (by simp)).pair _ (by simp)).frame⟩
  · simp (disch := decide) only [State.settle_pair, State.grantedPair, State.set_pair, State.set_dev, State.get_set_ne, hpair, hutick,
      hdev.get_eq HOP_CTL.PAIR_LEAD (i := 0) (by decide), hdev.get_eq PAIR_EPOCH_STS.EPOCH (i := 0) (by decide)]
  · simp (disch := decide) only [State.settle_rd_of, State.mk_rd, State.rd_set_same, hdev.rd_eq (r := .PAIR_CMD) (i := 0) (by decide)]

/-! ### A channel under repair joins on the active (R231) -/

/-- R229: the active, streaming to a peer out of step, lists channel `c` as joined. -/
def State.listJoined (s : State) (c : Nat) : State := s.cond (s.pair.streaming && !s.peerInStep) fun s =>
  { s with pair := { s.pair with joined := c :: s.pair.joined.filter (· != c) } }

theorem State.listJoined_eq (s : State) (c : Nat) : s.listJoined c = { s with pair := { s.pair with
    joined := if s.pair.streaming && !s.peerInStep then c :: s.pair.joined.filter (· != c) else s.pair.joined } } := by
  cases h : s.pair.streaming && !s.peerInStep with
  | true => rw [State.listJoined, h]; rfl
  | false => rw [State.listJoined, h]; rfl

theorem exec_channelJoinComplete_active {s : State} (hr : s.pairRuns = true) (ha : s.isActive = true) {c : Nat} (d : ChanCopy) (hc : c < 512)
    (hcopied : c ∈ s.pair.copied) (hrepair : s.pair.repair.any (·.1 == c) = true) :
    ∃ t, exec (.channelJoinComplete c d) s = .next t
      ∧ s.counted t .PAIR_REPAIR_CNT 0 1
      ∧ t.pair = { s.pair with
          repair := s.pair.repair.filter (·.1 != c), copied := s.pair.copied.filter (· != c)
          joined := if s.pair.streaming && !s.peerInStep then c :: s.pair.joined.filter (· != c) else s.pair.joined }
      ∧ s.frame t [.pair] [(.PAIR_REPAIR_CNT, 0)] := by
  have hin : (s.listJoined c).pair.copied.contains c = true := by rw [s.listJoined_eq]; exact List.contains_iff_mem.2 hcopied
  have hany : (s.listJoined c).pair.repair.any (·.1 == c) = true := by rw [s.listJoined_eq]; exact hrepair
  have hlist : s.changesOnly (s.listJoined c) [.pair] [(.PAIR_REPAIR_CNT, 0)] := by
    rw [s.listJoined_eq]
    exact s.changesOnly_pair _ _ (by simp)
  have hunrepair : (s.listJoined c).unrepair c = _ := if_pos hany
  refine ⟨_, (onUnit_next c 512 s _ hc).trans (congrArg done ((State.onPair_runs _ hr).trans ((if_pos ha).trans ((if_pos hin).trans hunrepair)))),
    ?_, ?_, ((hlist.inc _ 0 (by simp)).pair _ (by simp)).frame⟩
  · rw [State.counted, State.settle_rd_of, State.mk_rd, State.rd_inc_same, s.listJoined_eq, State.mk_rd]
  · simp only [State.settle_pair, s.listJoined_eq]

/-- Settles O37: each command by the branch that its hypotheses open; HANDOVER reaches the word of PAIR_CMD, whose verdict allows it. -/
theorem activeEpochs : Obligations.ActiveEpochs := by
  unfold Obligations.ActiveEpochs
  intro s n hr hb ha
  refine ⟨exec_epochOffer_effect hr hb ha, fun hn => ⟨exec_epochCommit_effect hr hb ha hn, exec_epochAbort_active hr hb ha hn, ?_⟩,
    fun c d hc hcopied hrepair => exec_channelJoinComplete_active hr ha d hc hcopied hrepair⟩
  intro p hs hrun hstep hnone
  rw [← hn]
  exact exec_handover_effect hs hrun hstep hnone

end Sys2Proof.Machine

namespace Sys2Proof.Machine

theorem State.changesOnly.cal {s t : State} {parts : List Part} {words : List (Rg × Nat)} (h : s.changesOnly t parts words) (x : Cal)
    (hp : Part.cal ∈ parts) : s.changesOnly { t with cal := x } parts words := h.trans (t.changesOnly_cal x words hp)

/-! ### Flags of a word that has been set -/

theorem State.on_set_same (s : State) (f : Fld) (v i : Nat) (h : f.ok = true) :
    (s.set f v i).on f i = (v % 2 ^ (f.hi - f.lo + 1) != 0) := congrArg (· != 0) (s.get_set_same f v i h)

theorem State.on_set_apart (s : State) (f g : Fld) (v i : Nat) (h : f.ok = true) (hg : g.ok = true) (hr : f.r = g.r) (ha : f.apart g = true) :
    (s.set f v i).on g i = s.on g i := congrArg (· != 0) (s.get_set_apart f g v i h hg hr ha)

theorem State.on_set_ne (s : State) (f g : Fld) (v i j : Nat) (h : f.r.key i ≠ g.r.key j) : (s.set f v i).on g j = s.on g j :=
  congrArg (· != 0) (s.get_set_ne f g v i j h)

/-! ### Triggers of a rotation (R244, R245) -/

theorem State.calTrigger_rotating {s : State} (h : s.on CAL_STS.ROTATING = true) : s.calTrigger = s.set CAL_STS.PENDING 1 := if_pos h

/-- R245: with no rotation running a trigger makes one due, unless one is pending already. -/
theorem State.calTrigger_resting {s : State} (h : s.on CAL_STS.ROTATING = false) :
    s.calTrigger = { s with cal := if s.on CAL_STS.PENDING then s.cal else { s.cal with startDue := true } } := by
  cases hp : s.on CAL_STS.PENDING with
  | true => simp [State.calTrigger, State.cond, h, hp]
  | false => simp [State.calTrigger_due h hp]

/-- R245: a trigger makes a rotation due, or, while one runs, one further rotation pending. -/
theorem State.calTrigger_effect (s : State) :
    s.calTrigger.rd .CAL_STS = (if s.on CAL_STS.ROTATING then CAL_STS.PENDING.put (s.rd .CAL_STS) 1 else s.rd .CAL_STS)
      ∧ s.calTrigger.cal = (if s.on CAL_STS.ROTATING || s.on CAL_STS.PENDING then s.cal else { s.cal with startDue := true })
      ∧ s.changesOnly s.calTrigger [.cal] [(.CAL_STS, 0)] := by
  cases hr : s.on CAL_STS.ROTATING with
  | true =>
    rw [State.calTrigger_rotating hr]
    exact ⟨s.rd_set_same _ _ _ rfl, s.set_cal _ _ _, s.changesOnly_set _ _ _ _ (by simp)⟩
  | false =>
    rw [State.calTrigger_resting hr]
    exact ⟨s.mk_rd .., rfl, s.changesOnly_cal _ _ (by simp)⟩

/-- R244: a period that runs out triggers. -/
theorem exec_calPeriodExpired_triggers {s : State} (hm : s.calModes = true) (ha : s.on CAL_CTL.AUTO = true) (hp : s.on CAL_CTL.PERIOD = true) :
    exec .calPeriodExpired s = done s.calTrigger := congrArg done (if_pos ⟨hm, ha, hp⟩)

/-- R244: a check that finds a sensor apart from its reference is counted and triggers. -/
theorem exec_calTemperatureCheck_triggers {s : State} (hm : s.calModes = true) (ha : s.on CAL_CTL.AUTO = true)
    (h : s.dev.tick % 100000 = 0 ∧ (List.range 8).any (fun k => s.tempApart (s.temp k) (s.cal.tempRef.getD k 0) 1) = true) :
    exec .calTemperatureCheck s = done (s.inc .CAL_TRIG_TEMP_CNT).calTrigger := congrArg done (if_pos ⟨hm, ha, h⟩)

/-- R244, R245: a trigger behind `n` counts of the temperature checks. -/
theorem State.triggered_effect {s u : State} {n : Nat} (hu : s.changesOnly u [] [(.CAL_TRIG_TEMP_CNT, 0)])
    (hn : s.counted u .CAL_TRIG_TEMP_CNT 0 n) :
    s.counted u.calTrigger.settle .CAL_TRIG_TEMP_CNT 0 n
      ∧ u.calTrigger.settle.rd .CAL_STS = (if s.on CAL_STS.ROTATING then CAL_STS.PENDING.put (s.rd .CAL_STS) 1 else s.rd .CAL_STS)
      ∧ u.calTrigger.settle.cal = (if s.on CAL_STS.ROTATING || s.on CAL_STS.PENDING then s.cal else { s.cal with startDue := true })
      ∧ s.frame u.calTrigger.settle [.cal] [(.CAL_STS, 0), (.CAL_TRIG_TEMP_CNT, 0)] := by
  obtain ⟨hrd, hcal, honly⟩ := u.calTrigger_effect
  have hr : u.on CAL_STS.ROTATING = s.on CAL_STS.ROTATING := hu.on_eq _ (by decide)
  have hp : u.on CAL_STS.PENDING = s.on CAL_STS.PENDING := hu.on_eq _ (by decide)
  refine ⟨State.counted_congr ?_ hn, ?_, ?_, ((hu.mono (by simp) (by simp)).trans (honly.mono (by simp) (by simp))).frame⟩
  · rw [State.settle_rd_of, honly.rd_eq (by decide)]
  · rw [State.settle_rd_of, hrd, hr, hu.rd_eq (by decide)]
  · rw [State.settle_cal, hcal, hr, hp, hu.part .cal (by simp)]

theorem exec_calTrigger_effect {s : State} (hm : s.calModes = true) {i : Instr} (hi : i ∈ [Instr.calPeriodExpired, Instr.calTemperatureCheck])
    (ha : s.on CAL_CTL.AUTO = true) (hp : i = .calPeriodExpired → s.on CAL_CTL.PERIOD = true)
    (ht : i = .calTemperatureCheck →
      s.dev.tick % 100000 = 0 ∧ (List.range 8).any (fun k => s.tempApart (s.temp k) (s.cal.tempRef.getD k 0) 1) = true) :
    ∃ t, exec i s = .next t
      ∧ s.counted t .CAL_TRIG_TEMP_CNT 0 (if i = .calTemperatureCheck then 1 else 0)
      ∧ t.rd .CAL_STS = (if s.on CAL_STS.ROTATING then CAL_STS.PENDING.put (s.rd .CAL_STS) 1 else s.rd .CAL_STS)
      ∧ t.cal = (if s.on CAL_STS.ROTATING || s.on CAL_STS.PENDING then s.cal else { s.cal with startDue := true })
      ∧ s.frame t [.cal] [(.CAL_STS, 0), (.CAL_TRIG_TEMP_CNT, 0)] := by
  simp only [List.mem_cons, List.not_mem_nil, or_false] at hi
  obtain rfl | rfl := hi
  · exact ⟨_, exec_calPeriodExpired_triggers hm ha (hp rfl), State.triggered_effect (s.changesOnly_refl _ _) (State.counted_zero rfl)⟩
  · exact ⟨_, exec_calTemperatureCheck_triggers hm ha (ht rfl),
      State.triggered_effect (s.changesOnly_inc _ _ _ (by simp)) (s.rd_inc_same _ _)⟩

/-! ### CAL_CMD (R255) -/

/-- R255: a write of CAL_CMD runs its bits, RUN first. -/
theorem State.hostReg_calCmd {s : State} {p : Port} (w : Word) (hs : s.reaches p .CAL_CMD 0) :
    s.hostReg p .CAL_CMD 0 w = (let u := s.bitCmd p (Rg.CAL_CMD.key 0) w 0 s.judgeRun fun s => s.calRunCmd p (Rg.CAL_CMD.key 0)
      u.bitCmd p (Rg.CAL_CMD.key 0) w 1 u.judgeStore fun s => s.calStoreCmd p (Rg.CAL_CMD.key 0)) := by
  have hspend := s.spendKey_unguarded p (r := .CAL_CMD) rfl
  rw [State.hostReg_executed (by decide) (by decide) (by decide) hs (by rfl), hspend, State.touched_uncovered _ (by decide)]
  rfl

theorem State.calModes_mode {s : State} (h : s.calModes = true) : s.mode ≠ 1 ∧ s.mode ≠ 2 ∧ s.mode ≠ 11 := by
  simp only [State.calModes, Bool.or_eq_true, Bool.and_eq_true, decide_eq_true_eq, beq_iff_eq] at h
  omega

theorem State.hostReg_calRun {s : State} {p : Port} (hm : s.calModes = true) (hs : s.reaches p .CAL_CMD 0) :
    s.hostReg p .CAL_CMD 0 1 = s.calRunCmd p (Rg.CAL_CMD.key 0) := by
  have hj : s.judgeRun = none := by simp [State.judgeRun, unless_, hm]
  rw [State.hostReg_calCmd 1 hs, hj, State.bitCmd_executed (by decide)]
  exact State.bitCmd_off (by decide)

/-- R244, R255: with no rotation running RUN reads 1 and is a trigger. -/
theorem exec_calRun_starts {s : State} {p : Port} (hm : s.calModes = true) (hs : s.reaches p .CAL_CMD 0) (hr : s.on CAL_STS.ROTATING = false) :
    ∃ t, exec (.calRun p) s = .next t
      ∧ t.on CAL_CMD.RUN = true ∧ t.cal = (if s.on CAL_STS.PENDING then s.cal else { s.cal with startDue := true })
      ∧ s.frame t [.cal] [(.CAL_CMD, 0)] := by
  have hu : s.changesOnly (s.set CAL_CMD.RUN 1) [.cal] [(.CAL_CMD, 0)] := s.changesOnly_set _ _ _ _ (by simp)
  have hrun : (s.set CAL_CMD.RUN 1).on CAL_STS.ROTATING = false := (hu.on_eq _ (by decide)).trans hr
  have hm2 : (s.set CAL_CMD.RUN 1).mode ≠ 2 := by
    rw [State.mode, hu.get_eq DEV_MODE.MODE (by decide)]
    exact (State.calModes_mode hm).2.1
  have hcmd : s.calRunCmd p (Rg.CAL_CMD.key 0) = { s.set CAL_CMD.RUN 1 with
      cal := if s.on CAL_STS.PENDING then s.cal else { s.cal with startDue := true } } := by
    refine (if_neg (by simp [hrun, hm2])).trans ?_
    rw [State.calTrigger_resting hrun, hu.on_eq CAL_STS.PENDING (by decide), State.set_cal]
  refine ⟨_, congrArg done ((State.hostReg_calRun hm hs).trans hcmd), ?_, by rw [State.settle_cal], (hu.cal _ (by simp)).frame⟩
  rw [State.settle_on_of, State.mk_on, State.on_set_same _ _ _ _ (by decide)]
  rfl

/-- R332: a deferred item is recorded as such. -/
theorem State.defer_reason (s : State) (p : Port) (a : Nat) : (s.defer p a).get DEV_CMD_STATUS.REASON = 8 := by
  have hcode : portCode p < 4 := by cases p <;> decide
  have haddr : a % 2 ^ 24 < 2 ^ 24 := Nat.mod_lt _ (by decide)
  rw [State.defer, State.get_inc_ne _ _ _ _ _ (by decide), State.get, State.record, State.rd_wr_same]
  simp only [Fld.of, bitsOf, BitVec.toNat_ofNat]
  omega

/-- R255: while a rotation runs RUN reads 1, makes one further rotation pending and is deferred. -/
theorem exec_calRun_deferred {s : State} {p : Port} (hm : s.calModes = true) (hs : s.reaches p .CAL_CMD 0) (hr : s.on CAL_STS.ROTATING = true) :
    ∃ t, exec (.calRun p) s = .next t
      ∧ t.on CAL_CMD.RUN = true ∧ t.on CAL_STS.PENDING = true ∧ t.get DEV_CMD_STATUS.REASON = 8 ∧ s.counted t .DEV_DEFER_CNT 0 1
      ∧ s.frame t [] [(.CAL_CMD, 0), (.CAL_STS, 0), (.DEV_CMD_STATUS, 0), (.DEV_DEFER_CNT, 0)] := by
  have hrun : (s.set CAL_CMD.RUN 1).on CAL_STS.ROTATING = true := (s.on_set_ne _ _ _ _ _ (by decide)).trans hr
  have hcmd : s.calRunCmd p (Rg.CAL_CMD.key 0) = ((s.set CAL_CMD.RUN 1).set CAL_STS.PENDING 1).defer p (Rg.CAL_CMD.key 0) :=
    if_pos (by simp [hrun])
  have hd := ((s.set CAL_CMD.RUN 1).set CAL_STS.PENDING 1).defer_changesOnly p (Rg.CAL_CMD.key 0)
  refine ⟨_, congrArg done ((State.hostReg_calRun hm hs).trans hcmd), ?_, ?_, ?_, ?_,
    (((s.changesOnly_set CAL_CMD.RUN 1 0 _ (by simp)).set CAL_STS.PENDING 1 0 (by simp)).trans (hd.mono (by simp) (by simp))).frame⟩
  · rw [State.settle_on_of, hd.on_eq _ (by decide), State.on_set_ne _ _ _ _ _ _ (by decide), State.on_set_same _ _ _ _ (by decide)]
    rfl
  · rw [State.settle_on_of, hd.on_eq _ (by decide), State.on_set_same _ _ _ _ (by decide)]
    rfl
  · rw [State.settle_get_of, State.defer_reason]
  · rw [State.counted, State.settle_rd_of, ((s.set CAL_CMD.RUN 1).set CAL_STS.PENDING 1).defer_counts, State.rd_set_ne _ _ _ _ (by decide),
      State.rd_set_ne _ _ _ _ (by decide)]

/-! ### The rotation and its slots (R241, R245, R246) -/

/-- R245: what the start of a rotation takes: the sensor readings as its reference, and item 0 as its next. -/
def State.rotationBegun (s : State) : Cal := { s.cal with startDue := false, nextItem := some 0, tempRef := (List.range 8).map s.temp }

/-- R245, R255: what the start of a rotation shows: a further trigger stays pending, else RUN has been answered. -/
def State.rotationShown (s : State) : State :=
  (s.set CAL_STS.ROTATING 1).cond (!(s.cal.startDue && s.on CAL_STS.PENDING)) fun s => (s.set CAL_STS.PENDING 0).set CAL_CMD.RUN 0

theorem State.rotationShown_changesOnly (s : State) : s.changesOnly s.rotationShown [] [(.CAL_STS, 0), (.CAL_CMD, 0)] :=
  (s.changesOnly_set CAL_STS.ROTATING 1 0 _ (by simp)).trans
    (State.changesOnly_cond ((State.changesOnly_set _ CAL_STS.PENDING 0 0 _ (by simp)).set CAL_CMD.RUN 0 0 (by simp)))

theorem State.rotationShown_shows (s : State) :
    let further := s.cal.startDue && s.on CAL_STS.PENDING
    s.rotationShown.rd .CAL_STS = (if further then CAL_STS.ROTATING.put (s.rd .CAL_STS) 1
        else CAL_STS.PENDING.put (CAL_STS.ROTATING.put (s.rd .CAL_STS) 1) 0)
      ∧ s.rotationShown.on CAL_CMD.RUN = (further && s.on CAL_CMD.RUN) := by
  cases hf : s.cal.startDue && s.on CAL_STS.PENDING with
  | true =>
    rw [State.rotationShown, hf]
    exact ⟨s.rd_set_same _ _ _ rfl, s.on_set_ne _ _ _ _ _ (by decide)⟩
  | false =>
    rw [State.rotationShown, hf]
    refine ⟨?_, State.on_set_same _ _ _ _ (by decide)⟩
    exact (State.rd_set_ne _ _ _ _ (by decide)).trans ((State.rd_set_same _ _ _ _ rfl).trans
      (congrArg (CAL_STS.PENDING.put · 0) (s.rd_set_same _ _ _ rfl)))

theorem State.rotationShown_begun (s : State) : s.rotationShown.rotationBegun = s.rotationBegun := by
  have hu := s.rotationShown_changesOnly
  have htemp : s.rotationShown.temp = s.temp :=
    funext fun k => congrArg (signedOf 16) (hu.get_eq MGMT_TEMP.TEMP fun q hq => Nat.ne_of_lt (by
      have hkey : Rg.MGMT_TEMP.key k = 0x170040 + 4 * k := rfl
      simp only [List.mem_cons, List.not_mem_nil, or_false] at hq
      obtain rfl | rfl := hq <;> exact Nat.lt_of_lt_of_le (by decide) (Nat.le_add_right _ _)))
  rw [State.rotationBegun, htemp, hu.part .cal (by simp)]
  rfl

theorem exec_calRotationStart_effect {s : State} (hm : s.calModes = true) (hdue : s.cal.startDue = true ∨ s.on CAL_STS.PENDING = true)
    (hr : s.on CAL_STS.ROTATING = false) :
    ∃ t, exec .calRotationStart s = .next t
      ∧ (let further := s.cal.startDue && s.on CAL_STS.PENDING
         t.rd .CAL_STS = (if further then CAL_STS.ROTATING.put (s.rd .CAL_STS) 1
             else CAL_STS.PENDING.put (CAL_STS.ROTATING.put (s.rd .CAL_STS) 1) 0)
           ∧ t.on CAL_CMD.RUN = (further && s.on CAL_CMD.RUN))
      ∧ t.cal = s.rotationBegun ∧ s.frame t [.cal] [(.CAL_STS, 0), (.CAL_CMD, 0)] := by
  have he : exec .calRotationStart s = done { s.rotationShown with cal := s.rotationShown.rotationBegun } :=
    congrArg done (if_pos ⟨hdue, by simp [hr], .inl hm⟩)
  rw [s.rotationShown_begun] at he
  exact ⟨_, he, s.rotationShown_shows, rfl, ((s.rotationShown_changesOnly.mono (by simp) (by simp)).cal _ (by simp)).frame⟩

/-- R241: the slot of an item opens with nothing measured. -/
def State.slotOpened (s : State) : Cal := { s.cal with
  itemMcc := s.msyn.mcc, measured := none, hopDiscard := false, outcome := 0, nextItem := none }

theorem exec_calItemStart {s : State} {k : Nat} (hr : s.on CAL_STS.ROTATING = true) (hi : s.get CAL_STS.ITEM = 0xFF)
    (hl : s.on MSYN_STS.LOCK = true) (hn : s.cal.nextItem = some k) :
    exec .calItemStart s = done ((s.set CAL_STS.PAUSED 0).startItem k) := by
  refine congrArg done ((if_pos ⟨hr, hi, hl⟩).trans ?_)
  rw [hn]

/-- R246: the slot of item `k`, if it is a TDC's, sets or clears that TDC's stale state. -/
def State.tdcStale (s : State) (k : Nat) (b : Bool) : State := s.cond (decide (1 ≤ k) && decide (k ≤ 36)) (·.setStale (k - 1) b)

/-- The words that it writes. -/
def tdcWords (k : Nat) : List (Rg × Nat) := if 1 ≤ k ∧ k ≤ 36 then [(.REF_STS, k - 1)] else []

theorem State.tdcStale_tdc (s : State) {k : Nat} (b : Bool) (h : 1 ≤ k ∧ k ≤ 36) : s.tdcStale k b = s.setStale (k - 1) b := by
  simp [State.tdcStale, State.cond, h]

theorem State.tdcStale_other (s : State) {k : Nat} (b : Bool) (h : ¬ (1 ≤ k ∧ k ≤ 36)) : s.tdcStale k b = s := by
  simp only [State.tdcStale, State.cond, Bool.and_eq_true, decide_eq_true_eq, if_neg h]

theorem State.tdcStale_changesOnly (s : State) (k : Nat) (b : Bool) : s.changesOnly (s.tdcStale k b) [] (tdcWords k) := by
  by_cases h : 1 ≤ k ∧ k ≤ 36
  · rw [s.tdcStale_tdc b h, tdcWords, if_pos h]
    exact s.changesOnly_setB _ _ _ _ (by simp)
  · rw [s.tdcStale_other b h]
    exact s.changesOnly_refl _ _

theorem State.tdcStale_on (s : State) {k : Nat} (b : Bool) (h1 : 1 ≤ k) (h36 : k ≤ 36) : (s.tdcStale k b).on REF_STS.STALE (k - 1) = b := by
  rw [s.tdcStale_tdc b ⟨h1, h36⟩]
  exact (State.on_set_same _ _ _ _ (by decide)).trans (by cases b <;> rfl)

theorem tdcWords_key (k : Nat) : ∀ q ∈ tdcWords k, q.1.key q.2 = 0x110010 + 0x20 * (k - 1) := by
  intro q hq
  unfold tdcWords at hq
  split at hq
  · rw [List.mem_singleton.mp hq]
    rfl
  · exact absurd hq List.not_mem_nil

/-- A word apart from the status words of the inputs is none of them. -/
theorem tdcWords_key_ne {k n : Nat} (h : n < 0x110010 ∨ n % 0x20 ≠ 0x10) : ∀ q ∈ tdcWords k, q.1.key q.2 ≠ n := fun q hq => by
  rw [tdcWords_key k q hq]
  omega

theorem State.slotOpened_set (s : State) (f : Fld) (v i : Nat) : (s.set f v i).slotOpened = s.slotOpened := by
  simp only [State.slotOpened, State.set_cal, State.set_msyn]

/-- R241, R248: the slot of an item opens; that of a slice that awaits its swap is skipped. -/
theorem State.startItem_opens {s : State} {k : Nat} (hs : s.cal.swapPend.any (·.1 == k - 37) = false) :
    s.startItem k = State.tdcStale { s.set CAL_STS.ITEM k with cal := s.slotOpened } k true := by
  unfold State.startItem State.slotOpened
  simp only [State.set_cal, State.set_msyn, hs, Bool.false_eq_true, and_false, if_false]
  split
  next h => rw [State.tdcStale_tdc _ _ h]
  next h => rw [State.tdcStale_other _ _ h]

theorem exec_calItemStart_effect {s : State} {k : Nat} (hr : s.on CAL_STS.ROTATING = true) (hi : s.get CAL_STS.ITEM = 0xFF)
    (hl : s.on MSYN_STS.LOCK = true) (hn : s.cal.nextItem = some k) (hs : s.cal.swapPend.any (·.1 == k - 37) = false) :
    ∃ t, exec .calItemStart s = .next t
      ∧ t.rd .CAL_STS = CAL_STS.ITEM.put (CAL_STS.PAUSED.put (s.rd .CAL_STS) 0) k
      ∧ t.cal = s.slotOpened
      ∧ (1 ≤ k → k ≤ 36 → t.on REF_STS.STALE (k - 1) = true)
      ∧ s.frame t [.cal] ((.CAL_STS, 0) :: tdcWords k) := by
  have hopen : (s.set CAL_STS.PAUSED 0).startItem k
      = State.tdcStale { (s.set CAL_STS.PAUSED 0).set CAL_STS.ITEM k with cal := s.slotOpened } k true := by
    rw [State.startItem_opens (by rw [State.set_cal, hs]), State.slotOpened_set]
  have hu : s.changesOnly { (s.set CAL_STS.PAUSED 0).set CAL_STS.ITEM k with cal := s.slotOpened } [.cal] [(.CAL_STS, 0)] :=
    ((s.changesOnly_set CAL_STS.PAUSED 0 0 _ (by simp)).set CAL_STS.ITEM k 0 (by simp)).cal _ (by simp)
  have hstale := State.tdcStale_changesOnly { (s.set CAL_STS.PAUSED 0).set CAL_STS.ITEM k with cal := s.slotOpened } k true
  refine ⟨_, (exec_calItemStart hr hi hl hn).trans (congrArg done hopen), ?_, ?_, fun h1 h36 => State.tdcStale_on _ _ h1 h36,
    ((hu.mono (by simp) (by simp)).trans (hstale.mono (by simp) (by simp))).frame⟩
  · rw [State.settle_rd_of, hstale.rd_eq (tdcWords_key_ne (.inl (by decide))), State.mk_rd, State.rd_set_same _ _ _ _ rfl,
      State.rd_set_same _ _ _ _ rfl]
  · exact hstale.part .cal (by simp)

/-! ### The end of a slot (R38, R240, R245, R246, R249) -/

/-- R38, R240: the check of the tuning word shows whether it lies outside its margin, and counts it where it does. -/
theorem State.masterCheck_effect (s : State) (tune : Nat) :
    (s.masterCheck tune).on MSYN_STS.BAND_MARGIN = outsideMargin tune
      ∧ (s.masterCheck tune).rd .MSYN_ACQ = (if outsideMargin tune then MSYN_ACQ.MARGIN.put (s.rd .MSYN_ACQ) (min 63 (s.get MSYN_ACQ.MARGIN + 1))
          else s.rd .MSYN_ACQ)
      ∧ s.changesOnly (s.masterCheck tune) [] [(.MSYN_STS, 0), (.MSYN_ACQ, 0)] := by
  unfold State.masterCheck
  cases ho : outsideMargin tune with
  | true =>
    refine ⟨?_, ?_, (s.changesOnly_set MSYN_STS.BAND_MARGIN 1 0 _ (by simp)).set MSYN_ACQ.MARGIN _ 0 (by simp)⟩
    · exact (State.on_set_ne _ _ _ _ _ _ (by decide)).trans (s.on_set_same _ _ _ (by decide))
    · refine (State.rd_set_same _ _ _ _ rfl).trans ?_
      rw [s.rd_set_ne MSYN_STS.BAND_MARGIN 1 0 (by decide)]
      rfl
  | false => exact ⟨s.on_set_same _ _ _ (by decide), s.rd_set_ne _ _ _ (by decide), s.changesOnly_set _ _ _ _ (by simp)⟩

/-- R240: the slot of the master check ends with its check made, on the word of that moment where no measurement came. -/
def State.slotChecked (s : State) (k : Nat) : State := s.cond (k == 0 && s.cal.outcome == 0) fun s => s.masterCheck (s.get MSYN_TUNE.TUNE)

theorem State.slotChecked_other (s : State) {k : Nat} (h : k = 0 → s.cal.outcome ≠ 0) : s.slotChecked k = s := by
  have hb : (k == 0 && s.cal.outcome == 0) = false := by simpa using h
  rw [State.slotChecked, hb]
  rfl

/-- R249: the slot of item `k` ends with the blend of a TDC. -/
def State.tdcBlends (s : State) (k : Nat) : Bool :=
  decide (1 ≤ k) && decide (k ≤ 36) && s.cal.outcome == 1 && s.enginesRun && s.on REF_CFG.EN (k - 1)

def State.tdcBlended (s : State) (k : Nat) : State := s.cond (s.tdcBlends k) (·.startTdcBlend (k - 1))

/-- What the slot of item `k` leaves: no item in progress, and the next one. -/
def State.slotClosed (s : State) (k : Nat) : State := { s.set CAL_STS.ITEM 0xFF with cal := { s.cal with
  measured := none, hopDiscard := false, outcome := 0, tdcOld := [], nextItem := if k = 164 then none else some (k + 1) } }

theorem exec_calItemEnd {s : State} {k : Nat} (hk : s.get CAL_STS.ITEM = k) (hlt : k < 0xFF) :
    exec .calItemEnd s = done (let u := (((s.slotChecked k).tdcStale k false).tdcBlended k).slotClosed k
      if k = 164 then u.endRotation else u) := by
  subst hk
  exact congrArg done (if_neg (Nat.ne_of_lt hlt))

theorem State.tdcStale_tdcBlends (s : State) (k : Nat) (b : Bool) : (s.tdcStale k b).tdcBlends k = s.tdcBlends k := by
  have h := s.tdcStale_changesOnly k b
  have hen : (s.tdcStale k b).on REF_CFG.EN (k - 1) = s.on REF_CFG.EN (k - 1) := by
    have hkey : Rg.REF_CFG.key (k - 1) = 0x110000 + 0x20 * (k - 1) := rfl
    exact h.on_eq REF_CFG.EN (tdcWords_key_ne (.inr (by rw [hkey]; omega)))
  have hrun : (s.tdcStale k b).enginesRun = s.enginesRun := by
    rw [State.enginesRun, State.liveModes, State.mode, h.get_eq DEV_MODE.MODE (tdcWords_key_ne (.inl (by decide))), h.part .dev (by simp)]
    rfl
  rw [State.tdcBlends, hen, hrun, h.part .cal (by simp)]
  rfl

theorem State.tdcBlended_effect (s : State) (k : Nat) :
    let bs := if s.tdcBlends k then s.cal.blends ++ [⟨255 + k, 0, 0, s.cal.tdcOld⟩] else s.cal.blends
    (s.tdcBlended k).rd .CAL_STS = (if s.tdcBlends k then CAL_STS.BLENDS.put (s.rd .CAL_STS) bs.length else s.rd .CAL_STS)
      ∧ (s.tdcBlended k).cal = { s.cal with blends := bs } ∧ s.changesOnly (s.tdcBlended k) [.cal] [(.CAL_STS, 0)] := by
  cases hb : s.tdcBlends k with
  | false =>
    rw [State.tdcBlended, hb]
    exact ⟨rfl, rfl, s.changesOnly_refl _ _⟩
  | true =>
    have h1 : 1 ≤ k := by
      simp only [State.tdcBlends, Bool.and_eq_true, decide_eq_true_eq] at hb
      omega
    have hk : 256 + (k - 1) = 255 + k := by omega
    have he : s.tdcBlended k = State.showBlends { s with cal := { s.cal with blends := s.cal.blends ++ [⟨255 + k, 0, 0, s.cal.tdcOld⟩] } } := by
      rw [State.tdcBlended, hb, ← hk]
      rfl
    rw [he, State.showBlends]
    refine ⟨?_, State.set_cal _ _ _ _, (s.changesOnly_cal _ _ (by simp)).set _ _ _ (by simp)⟩
    rw [State.rd_set_same _ _ _ _ rfl, State.mk_rd]
    rfl

theorem State.slotClosed_changesOnly (s : State) (k : Nat) : s.changesOnly (s.slotClosed k) [.cal] [(.CAL_STS, 0)] :=
  (s.changesOnly_set _ _ _ _ (by simp)).cal _ (by simp)

theorem State.slotClosed_cal (s : State) (k : Nat) : (s.slotClosed k).cal = { s.cal with
    measured := none, hopDiscard := false, outcome := 0, tdcOld := [], nextItem := if k = 164 then none else some (k + 1) } := .trans (.refl _) rfl

theorem State.slotClosed_rd (s : State) (k : Nat) : (s.slotClosed k).rd .CAL_STS = CAL_STS.ITEM.put (s.rd .CAL_STS) 0xFF := by
  rw [State.slotClosed, State.mk_rd, State.rd_set_same _ _ _ _ rfl]

/-- R240: the slot of the master check ends without a measurement. -/
theorem exec_calItemEnd_master {s : State} (hk : s.get CAL_STS.ITEM = 0) (ho : s.cal.outcome = 0) :
    ∃ t, exec .calItemEnd s = .next t
      ∧ (let out := outsideMargin (s.get MSYN_TUNE.TUNE)
         t.on MSYN_STS.BAND_MARGIN = out
           ∧ t.rd .MSYN_ACQ = (if out then MSYN_ACQ.MARGIN.put (s.rd .MSYN_ACQ) (min 63 (s.get MSYN_ACQ.MARGIN + 1)) else s.rd .MSYN_ACQ))
      ∧ t.get CAL_STS.ITEM = 0xFF ∧ t.cal.nextItem = some 1 ∧ s.frame t [.cal] [(.CAL_STS, 0), (.MSYN_STS, 0), (.MSYN_ACQ, 0)] := by
  have hc : s.slotChecked 0 = s.masterCheck (s.get MSYN_TUNE.TUNE) := by simp [State.slotChecked, State.cond, ho]
  have he : exec .calItemEnd s = done ((s.masterCheck (s.get MSYN_TUNE.TUNE)).slotClosed 0) := by
    rw [exec_calItemEnd hk (by decide), hc]
    rfl
  obtain ⟨hmargin, hacq, hcheck⟩ := s.masterCheck_effect (s.get MSYN_TUNE.TUNE)
  have hclose := (s.masterCheck (s.get MSYN_TUNE.TUNE)).slotClosed_changesOnly 0
  refine ⟨_, he, ⟨?_, ?_⟩, ?_, rfl, ((hcheck.mono (by simp) (by simp)).trans (hclose.mono (by simp) (by simp))).frame⟩
  · rw [State.settle_on_of, hclose.on_eq _ (by decide), hmargin]
  · rw [State.settle_rd_of, hclose.rd_eq (by decide), hacq]
  · rw [State.settle_get_of, State.slotClosed, State.mk_get, State.get_set_same _ CAL_STS.ITEM 0xFF 0 (by decide)]
    rfl

/-- R245, R246, R249: the slot of any other item ends, a TDC's with its blend. -/
theorem exec_calItemEnd_next {s : State} {k : Nat} (hlt : k < 164) (hk : s.get CAL_STS.ITEM = k) (h0 : k = 0 → s.cal.outcome ≠ 0) :
    let bs := if s.tdcBlends k then s.cal.blends ++ [⟨255 + k, 0, 0, s.cal.tdcOld⟩] else s.cal.blends
    ∃ t, exec .calItemEnd s = .next t
      ∧ t.rd .CAL_STS = CAL_STS.ITEM.put (if s.tdcBlends k then CAL_STS.BLENDS.put (s.rd .CAL_STS) bs.length else s.rd .CAL_STS) 0xFF
      ∧ t.cal = { s.cal with
          measured := none, hopDiscard := false, outcome := 0, tdcOld := [], nextItem := some (k + 1), blends := bs }
      ∧ (1 ≤ k → k ≤ 36 → t.on REF_STS.STALE (k - 1) = false)
      ∧ s.frame t [.cal] ((.CAL_STS, 0) :: tdcWords k) := by
  have he : exec .calItemEnd s = done (((s.tdcStale k false).tdcBlended k).slotClosed k) := by
    rw [exec_calItemEnd hk (by omega), s.slotChecked_other h0]
    exact congrArg done (if_neg (Nat.ne_of_lt hlt))
  have hstale := s.tdcStale_changesOnly k false
  obtain ⟨hrd, hcal, hblend⟩ := (s.tdcStale k false).tdcBlended_effect k
  have hclose := ((s.tdcStale k false).tdcBlended k).slotClosed_changesOnly k
  have hold : (s.tdcStale k false).cal = s.cal := hstale.part .cal (by simp)
  rw [State.tdcStale_tdcBlends, hold] at hrd hcal
  refine ⟨_, he, ?_, ?_, fun h1 h36 => ?_,
    ((hstale.mono (by simp) (by simp)).trans ((hblend.mono (by simp) (by simp)).trans (hclose.mono (by simp) (by simp)))).frame⟩
  · rw [State.settle_rd_of, State.slotClosed_rd, hrd, hstale.rd_eq (tdcWords_key_ne (.inl (by decide)))]
  · rw [State.settle_cal, State.slotClosed, hcal, if_neg (Nat.ne_of_lt hlt)]
  · have hne : ∀ q ∈ [(Rg.CAL_STS, 0)], q.1.key q.2 ≠ Rg.REF_STS.key (k - 1) := Rg.key_ne_below (by decide)
    rw [State.settle_on_of, hclose.on_eq _ hne, hblend.on_eq _ hne, State.tdcStale_on _ _ h1 h36]

theorem State.storeIfDue_resting {s : State} (h : s.cal.intervalDue = false) : s.storeIfDue = s := by
  rw [State.storeIfDue, h]
  rfl

/-- R24: a rotation that ends outside SELFCAL is none that SELFCAL waits for. -/
theorem State.selfcal_undone {s : State} (h : s.mode ≠ 2) :
    { s with rst := { s.rst with selfcalDone := s.rst.selfcalDone || s.mode == 2 } } = s := by
  rw [beq_false_of_ne h, Bool.or_false]

/-- R245, R252: with no store due by its interval, a rotation that ends outside SELFCAL is shown as ended and counted. -/
theorem State.endRotation_effect {s : State} (hm : s.mode ≠ 2) (hd : s.cal.intervalDue = false) :
    s.endRotation = (s.set CAL_STS.ROTATING 0).inc .CAL_ROT_CNT := by
  have hmode : ((s.set CAL_STS.ROTATING 0).inc .CAL_ROT_CNT).mode ≠ 2 := by
    rwa [State.mode, State.get_inc_ne _ _ _ _ _ (by decide), State.get_set_ne _ _ _ _ _ _ (by decide)]
  exact (congrArg State.storeIfDue (State.selfcal_undone hmode)).trans (State.storeIfDue_resting (by rw [State.inc_cal, State.set_cal, hd]))

/-- R245: item 164 has neither check nor TDC, and its end is that of the rotation. -/
theorem exec_calItemEnd_endRotation {s : State} (hk : s.get CAL_STS.ITEM = 164) (hm : (s.slotClosed 164).mode ≠ 2)
    (hd : s.cal.intervalDue = false) : exec .calItemEnd s = done (((s.slotClosed 164).set CAL_STS.ROTATING 0).inc .CAL_ROT_CNT) := by
  have hlate : ¬ (1 ≤ 164 ∧ 164 ≤ 36) := by decide
  have hblend : s.tdcBlended 164 = s := by simp [State.tdcBlended, State.tdcBlends, State.cond]
  have hclosed : ((s.slotChecked 164).tdcStale 164 false).tdcBlended 164 = s := by
    rw [s.slotChecked_other (fun h => absurd h (by decide)), s.tdcStale_other false hlate, hblend]
  have hdue : (s.slotClosed 164).cal.intervalDue = false := by rw [State.slotClosed_cal, hd]
  rw [exec_calItemEnd hk (by decide), hclosed, ← State.endRotation_effect hm hdue]
  exact congrArg done (if_pos (Eq.refl 164))

/-- R245: item 164 ends, and with it the rotation. -/
theorem exec_calItemEnd_last {s : State} (hm : s.calModes = true) (hk : s.get CAL_STS.ITEM = 164) (hd : s.cal.intervalDue = false) :
    ∃ t, exec .calItemEnd s = .next t
      ∧ t.rd .CAL_STS = CAL_STS.ROTATING.put (CAL_STS.ITEM.put (s.rd .CAL_STS) 0xFF) 0 ∧ s.counted t .CAL_ROT_CNT 0 1
      ∧ t.cal = { s.cal with measured := none, hopDiscard := false, outcome := 0, tdcOld := [], nextItem := none }
      ∧ s.frame t [.cal] [(.CAL_STS, 0), (.CAL_ROT_CNT, 0)] := by
  have hclose := s.slotClosed_changesOnly 164
  have hmode : (s.slotClosed 164).mode ≠ 2 := by
    rw [State.mode, hclose.get_eq DEV_MODE.MODE (by decide)]
    exact (State.calModes_mode hm).2.1
  have he := exec_calItemEnd_endRotation hk hmode hd
  refine ⟨_, he, ?_, ?_, ?_, (((hclose.mono (by simp) (by simp)).set _ _ _ (by simp)).inc _ _ (by simp)).frame⟩
  · rw [State.settle_rd_of, State.rd_inc_ne _ _ _ (by decide), State.rd_set_same _ _ _ _ rfl, State.slotClosed_rd]
  · rw [State.counted, State.settle_rd_of, State.rd_inc_same, State.rd_set_ne _ _ _ _ (by decide), hclose.rd_eq (by decide)]
  · rw [State.settle_cal, State.inc_cal, State.set_cal, State.slotClosed, if_pos (Eq.refl 164)]

/-- Settles O39: one lemma for each event of a rotation. -/
theorem calibrationRotation : Obligations.CalibrationRotation := by
  unfold Obligations.CalibrationRotation
  intro s hm
  refine ⟨fun i hi ha hp ht => exec_calTrigger_effect hm hi ha hp ht,
    fun p _ hs => ⟨exec_calRun_starts hm hs, exec_calRun_deferred hm hs⟩,
    exec_calRotationStart_effect hm,
    fun k _ hr hi hl hn hsw => exec_calItemStart_effect hr hi hl hn hsw,
    exec_calItemEnd_master,
    fun k hlt hk h0 => exec_calItemEnd_next hlt hk h0,
    exec_calItemEnd_last hm⟩

end Sys2Proof.Machine

namespace Sys2Proof.Machine

/-! ### The limits of a measured table (R242) -/

/-- R242: the widths are those between the neighbours of the table. -/
theorem tapWidths_all (q : Int → Bool) (ps : List Nat) :
    (tapWidths ps).all q = (List.range (ps.length - 1)).all fun k => q ((ps.getD (k + 1) 0 : Int) - ps.getD k 0) := by
  induction ps with
  | nil => rfl
  | cons a t ih =>
    cases t with
    | nil => rfl
    | cons b t =>
      rw [tapWidths, List.all_cons, ih, List.length_cons, List.length_cons, Nat.add_sub_cancel, Nat.add_sub_cancel, List.length_cons,
        List.range_succ_eq_map, List.all_cons, List.all_map]
      rfl

theorem calTaps_length (tdc : Bool) (m : CalMeasure) : (calTaps tdc m).length = 256 := by rw [calTaps, List.length_map, List.length_range]

/-- R239: the first `k` bins sum bin by bin. -/
theorem sum_take_eq_sum_getD (l : List Nat) (k : Nat) : (l.take k).sum = ((List.range k).map fun j => l.getD j 0).sum := by
  induction k with
  | zero => rfl
  | succ k ih =>
    have hbin : (l[k]?.toList).sum = l.getD k 0 := by
      rw [List.getD_eq_getElem?_getD]
      cases l[k]? <;> simp
    rw [List.take_add_one, List.sum_append, ih, hbin, List.range_succ, List.map_append, List.sum_append]
    rfl

theorem tapCount_eq_countBelow (tdc : Bool) (half : List Nat) (k : Nat) : tapCount tdc half k = countBelow tdc half k := by
  cases tdc with
  | false => rfl
  | true => exact sum_take_eq_sum_getD half k

theorem foldl_max_le {α : Type} (f : α → Nat) (l : List α) (b m : Nat) :
    l.foldl (fun x k => max x (f k)) b ≤ m ↔ b ≤ m ∧ ∀ k ∈ l, f k ≤ m := by
  induction l generalizing b with
  | nil => simp
  | cons a t ih => rw [List.foldl_cons, ih, max_le_iff, List.forall_mem_cons, and_assoc]

/-- R242: the two halves differ at most by `m` where they do so at every position. -/
theorem halvesApart_le (tdc : Bool) (c : CalMeasure) (m : Nat) :
    halvesApart tdc c ≤ m ↔ ∀ k ∈ List.range 256, ((countBelow tdc c.odd k : Int) - countBelow tdc c.even k).natAbs ≤ m := by
  have h := foldl_max_le (fun k => ((tapCount tdc c.odd k : Int) - tapCount tdc c.even k).natAbs) (List.range 256) 0 m
  simp only [tapCount_eq_countBelow, Nat.zero_le, true_and] at h
  rw [halvesApart]
  simp only [tapCount_eq_countBelow]
  exact h

/-- A difference in fs with its allowance is within a limit where the difference is within a bound. -/
theorem within_limit_iff {limit n d : Nat} (h : 20 ≤ limit) : 78125 * d + 20 * n ≤ limit * n ↔ d ≤ (limit - 20) * n / 78125 := by
  have hn : limit * n = (limit - 20) * n + 20 * n := by rw [← Nat.add_mul, Nat.sub_add_cancel h]
  rw [Nat.le_div_iff_mul_le (by decide), hn]
  omega

/-- R242: the residual INL is within its limit where every position is. -/
theorem inl_within_iff {limit : Nat} (h : 20 ≤ limit) (tdc : Bool) (m : CalMeasure) (n : Nat) :
    78125 * halvesApart tdc m + 20 * n ≤ limit * n
      ↔ ((List.range 256).all fun k =>
        decide (78125 * ((countBelow tdc m.odd k : Int) - countBelow tdc m.even k).natAbs + 20 * n ≤ limit * n)) = true := by
  simp only [within_limit_iff h, halvesApart_le, List.all_eq_true, decide_eq_true_eq]

theorem monotonic_eq (tdc : Bool) (m : CalMeasure) :
    ((tapWidths (calTaps tdc m)).all fun d => decide (0 < d))
      = (List.range 255).all fun k => decide ((calTaps tdc m).getD k 0 < (calTaps tdc m).getD (k + 1) 0) := by
  rw [tapWidths_all, calTaps_length]
  refine congrArg (List.range 255).all (funext fun k => decide_eq_decide.mpr ?_)
  omega

theorem widths_eq (tdc : Bool) (m : CalMeasure) :
    ((tapWidths (calTaps tdc m)).all fun d => decide (150 * 32768 ≤ d * 78125) && decide (d * 78125 ≤ 500 * 32768))
      = (List.range 255).all fun k => decide ((calTaps tdc m).getD k 0 * 78125 + 150 * 32768 ≤ (calTaps tdc m).getD (k + 1) 0 * 78125)
          && decide ((calTaps tdc m).getD (k + 1) 0 * 78125 ≤ (calTaps tdc m).getD k 0 * 78125 + 500 * 32768) := by
  rw [tapWidths_all, calTaps_length]
  refine congrArg (List.range 255).all (funext fun k => congrArg₂ (· && ·) (decide_eq_decide.mpr ?_) (decide_eq_decide.mpr ?_)) <;> omega

/-- R242: the verdict on the INL fails where a position does. -/
theorem inl_apart_iff {limit : Nat} (h : 20 ≤ limit) (tdc : Bool) (m : CalMeasure) (n : Nat) :
    limit * n < 78125 * halvesApart tdc m + 20 * n
      ↔ (!(List.range 256).all fun k =>
        decide (78125 * ((countBelow tdc m.odd k : Int) - countBelow tdc m.even k).natAbs + 20 * n ≤ limit * n)) = true := by
  rw [Bool.not_eq_true', ← Bool.not_eq_true, ← inl_within_iff h, Nat.not_le]

theorem not_within_iff {p q : Prop} [Decidable p] [Decidable q] : (!(decide p && decide q)) = true ↔ ¬ (p ∧ q) := by
  rw [← Bool.decide_and, Bool.not_eq_true', decide_eq_false_iff_not]

/-- R242: the verdict names the first limit that fails. -/
theorem calVerdict_eq_failedLimit (tdc : Bool) (m : CalMeasure) : calVerdict tdc m = failedLimit tdc m := by
  unfold calVerdict failedLimit
  dsimp only
  refine if_congr (by rw [monotonic_eq]) rfl (if_congr (by rw [widths_eq]) rfl ?_)
  cases tdc with
  | true =>
    simp only [if_true, reduceCtorEq, false_and, if_false, true_and]
    exact if_congr not_within_iff rfl (if_congr (inl_apart_iff (limit := 500) (by decide) true m 40000) rfl rfl)
  | false =>
    simp only [if_false, false_and, true_and, Bool.false_eq_true]
    exact if_congr not_within_iff rfl (if_congr (inl_apart_iff (limit := 400) (by decide) false m m.samples) rfl rfl)

end Sys2Proof.Machine

namespace Sys2Proof.Machine

/-! ### Tables and their records (R242, R243, R247, R258) -/

theorem Rg.tap_key (i : Nat) : Rg.TAP.key i = 0x9000000 + i := congrArg (0x9000000 + ·) (Nat.one_mul i)

theorem Rg.calrec_key (i : Nat) : Rg.CALREC.key i = 0x900a000 + i := congrArg (0x900a000 + ·) (Nat.one_mul i)

theorem Rg.outSts_key (n : Nat) : Rg.OUT_STS.key n = 0x10000c + 0x10 * n := rfl

/-- A word written once in a fold over the indices below `n`. -/
theorem State.rd_upto_wr {n : Nat} (r : Rg) (at_ : Nat → Nat) (v : Nat → Word) (hkey : ∀ i j, i ≠ j → r.key (at_ i) ≠ r.key (at_ j)) (s : State)
    {i : Nat} (hi : i < n) : (State.upto n (fun k s => s.wr r (at_ k) (v k)) s).rd r (at_ i) = v i := by
  induction n with
  | zero => omega
  | succ n ih =>
    rw [State.upto_succ]
    by_cases he : i = n
    · rw [he, State.rd_wr_same]
    · rw [State.rd_wr_ne _ _ (hkey n i (Ne.symm he)), ih (by omega)]

/-- The words of table `t`. -/
def tableWords (t : Nat) : List (Rg × Nat) := (List.range 128).map fun w => (.TAP, t * 128 + w)

theorem State.putTaps_changesOnly (s : State) (t : Nat) (taps : List Nat) : s.changesOnly (s.putTaps t taps) [] (tableWords t) :=
  State.upto_changesOnly (fun k hk u => u.changesOnly_wr .TAP _ _ _ (by simp [tableWords, hk])) s

theorem State.putTaps_rd (s : State) (t : Nat) (taps : List Nat) {w : Nat} (hw : w < 128) :
    (s.putTaps t taps).rd .TAP (t * 128 + w)
      = BitVec.ofNat 32 (taps.getD (2 * w) 0 % 65536 + taps.getD (2 * w + 1) 0 % 65536 * 65536) :=
  State.rd_upto_wr .TAP (fun w => t * 128 + w) _ (fun i j hij => by rw [Rg.tap_key, Rg.tap_key]; omega) s hw

/-- A word below the tables is none of theirs. -/
theorem tableWords_key_ne {t n : Nat} (h : n < 0x9000000 ∨ 0x9000000 + (t + 1) * 128 ≤ n) : ∀ q ∈ tableWords t, q.1.key q.2 ≠ n := by
  intro q hq
  obtain ⟨w, hw, rfl⟩ := List.mem_map.mp hq
  rw [List.mem_range] at hw
  rw [Rg.tap_key]
  omega

/-! #### The stale bit of a slice (R247) -/

/-- A TDC's table has no stale bit. -/
theorem State.markStale_tdc (s : State) {t : Nat} (h : 256 ≤ t) : s.markStale t = s := if_neg (Nat.not_lt.mpr h)

/-- A slice's table has the stale bit of its record, which its output shows while it drives it. -/
theorem State.markStale_slice (s : State) {t : Nat} (h : t < 256) :
    s.markStale t = (let u := s.wr .CALREC (t * 4 + 3) (BitVec.ofNat 32 (withBit (s.calRec t 3) 29 (s.sliceStale t)))
      u.setB OUT_STS.CALSTALE (bitOf (u.calRec (2 * (t / 2) + u.get OUT_STS.SLICE (t / 2)) 3) 29) (t / 2)) := if_pos h

theorem State.markStale_changesOnly (s : State) (t : Nat) : s.changesOnly (s.markStale t) [] [(.OUT_STS, t / 2), (.CALREC, t * 4 + 3)] := by
  by_cases h : t < 256
  · rw [s.markStale_slice h]
    exact (s.changesOnly_wr _ _ _ _ (by simp)).trans (State.changesOnly_setB _ _ _ _ _ (by simp))
  · rw [s.markStale_tdc (Nat.not_lt.mp h)]
    exact s.changesOnly_refl _ _

theorem State.markStale_rd (s : State) {t : Nat} (h : t < 256) :
    (s.markStale t).rd .CALREC (t * 4 + 3) = BitVec.ofNat 32 (withBit (s.calRec t 3) 29 (s.sliceStale t)) := by
  have hne : Rg.OUT_STS.key (t / 2) ≠ Rg.CALREC.key (t * 4 + 3) := by
    rw [Rg.outSts_key, Rg.calrec_key]
    omega
  rw [s.markStale_slice h]
  exact (State.rd_setB_ne _ OUT_STS.CALSTALE _ _ hne).trans (s.rd_wr_same ..)

/-- R243: the alert shows whether an object's rejections in a row stand at 3. -/
theorem State.calAlert_effect (s : State) :
    s.calAlert.on CAL_STS.ALERT = ((List.range 292).any fun t => bitsOf (s.calRec t 3) 25 24 == 3)
      ∧ s.calAlert.rd .CAL_STS = CAL_STS.ALERT.put (s.rd .CAL_STS) (s.calAlert.get CAL_STS.ALERT)
      ∧ s.changesOnly s.calAlert [] [(.CAL_STS, 0)] := by
  have hget : s.calAlert.get CAL_STS.ALERT = flag ((List.range 292).any fun t => bitsOf (s.calRec t 3) 25 24 == 3) :=
    (s.get_set_same CAL_STS.ALERT _ 0 (by decide)).trans (Nat.mod_eq_of_lt (Nat.lt_of_le_of_lt (flag_le _) (by decide)))
  refine ⟨?_, ?_, s.changesOnly_setB _ _ _ _ (by simp)⟩
  · rw [State.on, hget]
    cases (List.range 292).any fun t => bitsOf (s.calRec t 3) 25 24 == 3 <;> rfl
  · rw [hget]
    exact s.rd_set_same CAL_STS.ALERT _ 0 rfl

end Sys2Proof.Machine

namespace Sys2Proof.Machine

/-! ### Acceptance (R242, R248) -/

/-- R237: an item measures one of the 292 tables. -/
theorem State.itemTable_lt (s : State) {k : Nat} (h : k ≤ 164) : s.itemTable k < 292 := by
  have hs : s.get OUT_STS.SLICE (k - 37) < 2 := OUT_STS.SLICE.of_lt _
  unfold State.itemTable
  split <;> omega

theorem exec_calItemAccept {s : State} {m : CalMeasure} {k : Nat} (hk : s.get CAL_STS.ITEM = k) (hm : s.cal.measured = some m) :
    exec .calItemAccept s = done (if failedLimit (decide (k ≤ 36)) m = 0 then s.acceptTable k m
      else s.rejectTable k (failedLimit (decide (k ≤ 36)) m)) := by
  subst hk
  refine congrArg done ?_
  rw [hm]
  dsimp only
  rw [calVerdict_eq_failedLimit]
  split
  next h => rw [h, if_pos rfl]
  next h => rw [if_neg h]

/-- R258: the record of table `t` that sensor `sen` serves, measured now. -/
def State.recordPut (s : State) (t sen : Nat) (w0 : Word) : State :=
  let s := s.wr .CALREC (t * 4) w0
  let s := s.wr .CALREC (t * 4 + 1) (BitVec.ofNat 32 s.dev.tick)
  let s := s.wr .CALREC (t * 4 + 2) (BitVec.ofNat 32 (s.get MGMT_TEMP.TEMP sen * 65536 + sen * 256))
  s.wr .CALREC (t * 4 + 3) 0x80000000#32

def recordWords (t : Nat) : List (Rg × Nat) := [(.CALREC, t * 4), (.CALREC, t * 4 + 1), (.CALREC, t * 4 + 2), (.CALREC, t * 4 + 3)]

theorem State.recordPut_changesOnly (s : State) (t sen : Nat) (w0 : Word) : s.changesOnly (s.recordPut t sen w0) [] (recordWords t) :=
  ((((s.changesOnly_wr _ _ _ _ (by simp [recordWords])).wr _ _ _ (by simp [recordWords])).wr _ _ _ (by simp [recordWords])).wr _ _ _
    (by simp [recordWords]))

theorem Rg.calrec_key_ne {i j : Nat} (h : i ≠ j) : Rg.CALREC.key i ≠ Rg.CALREC.key j := by
  rw [Rg.calrec_key, Rg.calrec_key]
  omega

theorem State.recordPut_rd (s : State) {t sen : Nat} (w0 : Word) (hs : sen < 8) :
    (s.recordPut t sen w0).rd .CALREC (t * 4) = w0
      ∧ (s.recordPut t sen w0).rd .CALREC (t * 4 + 1) = BitVec.ofNat 32 s.dev.tick
      ∧ (s.recordPut t sen w0).rd .CALREC (t * 4 + 2) = BitVec.ofNat 32 (s.get MGMT_TEMP.TEMP sen * 65536 + sen * 256)
      ∧ (s.recordPut t sen w0).rd .CALREC (t * 4 + 3) = 0x80000000#32 := by
  have ktemp : Rg.MGMT_TEMP.key sen = 0x170040 + 4 * sen := rfl
  have htemp (u : State) (i : Nat) (w : Word) : (u.wr .CALREC i w).get MGMT_TEMP.TEMP sen = u.get MGMT_TEMP.TEMP sen :=
    congrArg MGMT_TEMP.TEMP.of (u.rd_wr_ne w (by rw [Rg.calrec_key, ktemp]; omega))
  have hne (u : State) {i j : Nat} (w : Word) (h : i ≠ j) : (u.wr .CALREC i w).rd .CALREC j = u.rd .CALREC j :=
    u.rd_wr_ne w (Rg.calrec_key_ne h)
  refine ⟨?_, ?_, ?_, State.rd_wr_same ..⟩
  · rw [State.recordPut, hne _ _ (by omega), hne _ _ (by omega), hne _ _ (by omega), State.rd_wr_same]
  · rw [State.recordPut, hne _ _ (by omega), hne _ _ (by omega), State.rd_wr_same, State.wr_dev]
  · rw [State.recordPut, hne _ _ (by omega), State.rd_wr_same, htemp, htemp]

/-- R242, R248: the words of an accepted table and its record. -/
def State.tableFiled (s : State) (k : Nat) (m : CalMeasure) : State :=
  ((s.inc .CAL_ITEM_OK_CNT).putTaps (s.itemTable k) (calTaps (decide (k ≤ 36)) m)).recordPut (s.itemTable k) (calSensor (s.itemTable k))
    (BitVec.ofNat 32 (calInl (decide (k ≤ 36)) m % 65536 * 65536 + calSpan (decide (k ≤ 36)) m % 65536))

theorem State.acceptTable_eq (s : State) (k : Nat) (m : CalMeasure) :
    s.acceptTable k m = (let u := (s.tableFiled k m).markStale (s.itemTable k)
      { u.calAlert with cal := { u.cal with
        measured := none, outcome := 1, acceptedSince := true, tdcOld := if decide (k ≤ 36) then s.tapsOf (s.itemTable k) else []
        swapPend := if 37 ≤ k then u.cal.swapPend ++ [(k - 37, m.delta)] else u.cal.swapPend } }) := rfl

theorem calSensor_lt {t : Nat} (h : t < 292) : calSensor t < 8 := by
  unfold calSensor
  split <;> omega

/-- R247: equal temperatures are not apart. -/
theorem State.tempApart_self (s : State) (a : Int) (n : Nat) : s.tempApart a a n = false := by
  simp [State.tempApart]

theorem recordTemp_bits {temp sen : Nat} (ht : temp < 65536) (hs : sen < 8) :
    bitsOf (BitVec.ofNat 32 (temp * 65536 + sen * 256)).toNat 31 16 = temp := by
  rw [BitVec.toNat_ofNat, bitsOf]
  omega

/-- R247: a table measured now is not stale. -/
theorem State.recordPut_fresh (s : State) {t : Nat} (w0 : Word) (h : t < 292) : (s.recordPut t (calSensor t) w0).sliceStale t = false := by
  have hs := calSensor_lt h
  obtain ⟨-, -, h2, h3⟩ := s.recordPut_rd (t := t) w0 hs
  have htemp : (s.recordPut t (calSensor t) w0).temp (calSensor t) = s.temp (calSensor t) := by
    have hne : ∀ q ∈ recordWords t, q.1.key q.2 ≠ Rg.MGMT_TEMP.key (calSensor t) := by
      have ktemp : Rg.MGMT_TEMP.key (calSensor t) = 0x170040 + 4 * calSensor t := rfl
      simp only [recordWords, List.forall_mem_cons, Rg.calrec_key, ktemp]
      refine ⟨?_, ?_, ?_, ?_, by simp⟩ <;> omega
    rw [State.temp, (s.recordPut_changesOnly t _ w0).get_eq MGMT_TEMP.TEMP hne, State.temp]
  rw [State.sliceStale, State.calRec, State.calRec, h2, h3, recordTemp_bits (temp := s.get MGMT_TEMP.TEMP _) (MGMT_TEMP.TEMP.of_lt _) hs, htemp, State.temp,
    State.tempApart_self]
  decide

theorem State.markStale_fresh {s : State} {t : Nat} (hw : s.rd .CALREC (t * 4 + 3) = 0x80000000#32) (hf : s.sliceStale t = false) :
    (s.markStale t).rd .CALREC (t * 4 + 3) = 0x80000000#32 := by
  by_cases ht : t < 256
  · rw [s.markStale_rd ht, State.calRec, hw, hf]
    decide
  · rw [s.markStale_tdc (Nat.not_lt.mp ht), hw]

/-- The words that the acceptance of table `t` writes. -/
def acceptWords (t : Nat) : List (Rg × Nat) :=
  [(.CAL_STS, 0), (.CAL_ITEM_OK_CNT, 0), (.OUT_STS, t / 2), (.CALREC, t * 4), (.CALREC, t * 4 + 1), (.CALREC, t * 4 + 2), (.CALREC, t * 4 + 3)]
    ++ tableWords t

theorem State.tableFiled_changesOnly (s : State) (k : Nat) (m : CalMeasure) :
    s.changesOnly (s.tableFiled k m) [] (acceptWords (s.itemTable k)) :=
  ((s.changesOnly_inc _ _ _ (by simp)).trans ((State.putTaps_changesOnly ..).mono (by simp) (List.subset_append_right _ _))).trans
    ((State.recordPut_changesOnly ..).mono (by simp) (by simp [recordWords]))

/-- R242, R243, R247: what follows the words of an accepted table changes its stale bit and the alert. -/
theorem State.calAlert_markStale_changesOnly (s : State) (t : Nat) :
    s.changesOnly (s.markStale t).calAlert [] [(.OUT_STS, t / 2), (.CALREC, t * 4 + 3), (.CAL_STS, 0)] := by
  obtain ⟨-, -, halert⟩ := (s.markStale t).calAlert_effect
  exact ((s.markStale_changesOnly t).mono (by simp) (by simp)).trans (halert.mono (by simp) (by simp))

theorem markedWords_key_ne {t : Nat} (ht : t < 292) {n : Nat} (h : 0x40008 < n ∧ n < 0x10000c ∨ 0x101240 ≤ n) (hr : n ≠ 0x900a000 + (t * 4 + 3)) :
    ∀ q ∈ [(Rg.OUT_STS, t / 2), (.CALREC, t * 4 + 3), (.CAL_STS, 0)], q.1.key q.2 ≠ n := by
  have kcal : Rg.CAL_STS.key 0 = 0x40008 := rfl
  simp only [List.forall_mem_cons, Rg.outSts_key, Rg.calrec_key, kcal]
  refine ⟨?_, hr.symm, ?_, by simp⟩ <;> omega

/-- R242, R248: the words of an accepted table, its record and its counter. -/
theorem State.tableFiled_rd (s : State) {k : Nat} (m : CalMeasure) (hk : k ≤ 164) :
    let t := s.itemTable k
    let taps := calTaps (decide (k ≤ 36)) m
    let u := s.tableFiled k m
    (∀ w, w < 128 → u.rd .TAP (t * 128 + w)
        = BitVec.ofNat 32 (taps.getD (2 * w) 0 % 65536 + taps.getD (2 * w + 1) 0 % 65536 * 65536))
      ∧ u.rd .CALREC (t * 4) = BitVec.ofNat 32 (calInl (decide (k ≤ 36)) m % 65536 * 65536 + calSpan (decide (k ≤ 36)) m % 65536)
      ∧ u.rd .CALREC (t * 4 + 1) = BitVec.ofNat 32 s.dev.tick
      ∧ u.rd .CALREC (t * 4 + 2) = BitVec.ofNat 32 (s.get MGMT_TEMP.TEMP (calSensor t) * 65536 + calSensor t * 256)
      ∧ u.rd .CALREC (t * 4 + 3) = 0x80000000#32 ∧ u.sliceStale t = false
      ∧ u.rd .CAL_STS = s.rd .CAL_STS ∧ s.counted u .CAL_ITEM_OK_CNT 0 1 := by
  intro t taps u
  have ht := s.itemTable_lt hk
  have hput := (s.inc .CAL_ITEM_OK_CNT).putTaps_changesOnly t taps
  have hdev : ((s.inc .CAL_ITEM_OK_CNT).putTaps t taps).dev = s.dev := (hput.part .dev (by simp)).trans (s.inc_dev ..)
  have htemp : ((s.inc .CAL_ITEM_OK_CNT).putTaps t taps).get MGMT_TEMP.TEMP (calSensor t) = s.get MGMT_TEMP.TEMP (calSensor t) := by
    have ktemp : Rg.MGMT_TEMP.key (calSensor t) = 0x170040 + 4 * calSensor t := rfl
    have hs : calSensor t < 8 := calSensor_lt ht
    have hcnt : Rg.CAL_ITEM_OK_CNT.key 0 < 0x170040 := by decide
    rw [hput.get_eq MGMT_TEMP.TEMP (tableWords_key_ne (.inl (by rw [ktemp]; omega))),
      s.get_inc_ne _ _ _ _ (by rw [ktemp]; omega)]
  have hrec := ((s.inc .CAL_ITEM_OK_CNT).putTaps t taps).recordPut_changesOnly t (calSensor t)
    (BitVec.ofNat 32 (calInl (decide (k ≤ 36)) m % 65536 * 65536 + calSpan (decide (k ≤ 36)) m % 65536))
  have hrecord {n : Nat} (h : n < 0x900a000) : ∀ q ∈ recordWords t, q.1.key q.2 ≠ n := by
    simp only [recordWords, List.forall_mem_cons, Rg.calrec_key]
    refine ⟨?_, ?_, ?_, ?_, by simp⟩ <;> omega
  obtain ⟨h0, h1, h2, h3⟩ := ((s.inc .CAL_ITEM_OK_CNT).putTaps t taps).recordPut_rd (t := t)
    (BitVec.ofNat 32 (calInl (decide (k ≤ 36)) m % 65536 * 65536 + calSpan (decide (k ≤ 36)) m % 65536)) (calSensor_lt ht)
  rw [hdev] at h1
  rw [htemp] at h2
  refine ⟨fun w hw => ?_, h0, h1, h2, h3, State.recordPut_fresh _ _ ht, ?_, ?_⟩
  · exact (hrec.rd_eq (hrecord (by rw [Rg.tap_key]; omega))).trans (State.putTaps_rd _ _ _ hw)
  · exact (hrec.rd_eq (hrecord (by decide))).trans ((hput.rd_eq (tableWords_key_ne (.inl (by decide)))).trans (s.rd_inc_ne _ _ (by decide)))
  · have hcnt : u.rd .CAL_ITEM_OK_CNT = (s.inc .CAL_ITEM_OK_CNT).rd .CAL_ITEM_OK_CNT :=
      (hrec.rd_eq (hrecord (by decide))).trans (hput.rd_eq (tableWords_key_ne (.inl (by decide))))
    rw [State.counted, hcnt, State.rd_inc_same]

/-- R242, R248: a table that meets every limit is taken with its record, and its item has ended well. -/
theorem exec_calItemAccept_accepts {s : State} {m : CalMeasure} {k : Nat} (hk : s.get CAL_STS.ITEM = k) (hmax : k ≤ 164)
    (hm : s.cal.measured = some m) (hv : failedLimit (decide (k ≤ 36)) m = 0) :
    let x := s.itemTable k
    let taps := calTaps (decide (k ≤ 36)) m
    let sen := calSensor x
    ∃ t, exec .calItemAccept s = .next t
      ∧ (∀ w, w < 128 → t.rd .TAP (x * 128 + w)
          = BitVec.ofNat 32 (taps.getD (2 * w) 0 % 65536 + taps.getD (2 * w + 1) 0 % 65536 * 65536))
      ∧ t.rd .CALREC (x * 4) = BitVec.ofNat 32
          (calInl (decide (k ≤ 36)) m % 65536 * 65536 + calSpan (decide (k ≤ 36)) m % 65536)
      ∧ t.rd .CALREC (x * 4 + 1) = BitVec.ofNat 32 s.dev.tick
      ∧ t.rd .CALREC (x * 4 + 2) = BitVec.ofNat 32 (s.get MGMT_TEMP.TEMP sen * 65536 + sen * 256)
      ∧ t.rd .CALREC (x * 4 + 3) = 0x80000000#32
      ∧ t.rd .CAL_STS = CAL_STS.ALERT.put (s.rd .CAL_STS) (t.get CAL_STS.ALERT) ∧ s.counted t .CAL_ITEM_OK_CNT 0 1
      ∧ t.cal = { s.cal with
          measured := none, outcome := 1, acceptedSince := true, tdcOld := if k ≤ 36 then s.tapsOf x else []
          swapPend := if 37 ≤ k then s.cal.swapPend ++ [(k - 37, m.delta)] else s.cal.swapPend }
      ∧ s.frame t [.cal] (acceptWords x) := by
  intro x taps sen
  have hx : x < 292 := s.itemTable_lt hmax
  obtain ⟨htaps, h0, h1, h2, h3, hfresh, hsts, hcnt⟩ := s.tableFiled_rd m hmax
  have hfiled := s.tableFiled_changesOnly k m
  have hstale := (s.tableFiled k m).markStale_changesOnly x
  obtain ⟨-, halert, hshown⟩ := ((s.tableFiled k m).markStale x).calAlert_effect
  have hmark := (s.tableFiled k m).calAlert_markStale_changesOnly x
  have hcal : ((s.tableFiled k m).markStale (s.itemTable k)).cal = s.cal := (hstale.part .cal (by simp)).trans (hfiled.part .cal (by simp))
  have hkeep {r : Rg} {i : Nat} (h : 0x40008 < r.key i ∧ r.key i < 0x10000c ∨ 0x101240 ≤ r.key i) (hr : r.key i ≠ 0x900a000 + (x * 4 + 3)) :
      ((s.tableFiled k m).markStale x).calAlert.rd r i = (s.tableFiled k m).rd r i := hmark.rd_eq (markedWords_key_ne hx h hr)
  refine ⟨_, (exec_calItemAccept hk hm).trans (congrArg done ((if_pos hv).trans (s.acceptTable_eq k m))),
    fun w hw => ?_, ?_, ?_, ?_, ?_, ?_, ?_, ?_, ?_⟩
  · rw [State.settle_rd_of, State.mk_rd, hkeep (by rw [Rg.tap_key]; omega) (by rw [Rg.tap_key]; omega), htaps w hw]
  · rw [State.settle_rd_of, State.mk_rd, hkeep (by rw [Rg.calrec_key]; omega) (by rw [Rg.calrec_key]; omega), h0]
  · rw [State.settle_rd_of, State.mk_rd, hkeep (by rw [Rg.calrec_key]; omega) (by rw [Rg.calrec_key]; omega), h1]
  · rw [State.settle_rd_of, State.mk_rd, hkeep (by rw [Rg.calrec_key]; omega) (by rw [Rg.calrec_key]; omega), h2]
  · have hne : ∀ q ∈ [(Rg.CAL_STS, 0)], q.1.key q.2 ≠ Rg.CALREC.key (x * 4 + 3) := Rg.key_ne_below (by decide)
    rw [State.settle_rd_of, State.mk_rd, hshown.rd_eq hne, State.markStale_fresh h3 hfresh]
  · have hne : ∀ q ∈ [(Rg.OUT_STS, x / 2), (.CALREC, x * 4 + 3)], q.1.key q.2 ≠ Rg.CAL_STS.key 0 := by
      have kcal : Rg.CAL_STS.key 0 = 0x40008 := rfl
      simp only [List.forall_mem_cons, Rg.outSts_key, Rg.calrec_key, kcal]
      refine ⟨?_, ?_, by simp⟩ <;> omega
    rw [State.settle_rd_of, State.mk_rd, State.settle_get_of, State.mk_get, halert, hstale.rd_eq hne, hsts]
  · refine State.counted_congr ?_ hcnt
    rw [State.settle_rd_of, State.mk_rd, hkeep (by decide) ?_]
    exact Nat.ne_of_lt (Nat.lt_of_lt_of_le (by decide) (Nat.le_add_right _ _))
  · dsimp only [State.settle]
    simp only [hcal, decide_eq_true_eq, x]
  · have hmarked := hmark.mono (parts' := [.cal]) (words' := acceptWords x) (by simp) (by simp [acceptWords])
    exact (((hfiled.mono (by simp) (List.Subset.refl _)).trans hmarked).cal _ (by simp)).frame

end Sys2Proof.Machine

namespace Sys2Proof.Machine

/-! ### Rejection (R243) -/

theorem failedLimit_le (tdc : Bool) (m : CalMeasure) : failedLimit tdc m ≤ 4 := by
  rw [failedLimit]
  dsimp only
  split_ifs <;> decide

/-- R243, R258: the limit and the rejections in a row, put into word 3 of a record. -/
def rejectedWord (w v : Nat) : Nat :=
  w - bitsOf w 25 24 * 2 ^ 24 - bitsOf w 28 26 * 2 ^ 26 + min 3 (bitsOf w 25 24 + 1) * 2 ^ 24 + v * 2 ^ 26

theorem rejectedWord_shows {w v : Nat} (hw : w < 2 ^ 32) (hv : v ≤ 4) :
    bitsOf (rejectedWord w v) 25 24 = min 3 (bitsOf w 25 24 + 1) ∧ bitsOf (rejectedWord w v) 28 26 = v ∧ rejectedWord w v < 2 ^ 32 := by
  simp only [rejectedWord, bitsOf]
  omega

/-- Bit 29 is no bit of the rejections, and none of the limit. -/
theorem bitsOf_withBit_29 (w : Nat) (b : Bool) :
    bitsOf (withBit w 29 b) 25 24 = bitsOf w 25 24 ∧ bitsOf (withBit w 29 b) 28 26 = bitsOf w 28 26 := by
  unfold withBit
  split
  · exact ⟨rfl, rfl⟩
  next h =>
    cases b with
    | true =>
      simp only [bitsOf, if_true]
      omega
    | false =>
      simp only [bitOf, beq_false, Bool.not_eq_true', beq_eq_false_iff_ne, ne_eq, not_not] at h
      simp only [bitsOf, if_false, Bool.false_eq_true]
      omega

/-- R247: the stale bit of a record leaves its limit and its rejections. -/
theorem State.markStale_rejections (s : State) (t : Nat) :
    bitsOf ((s.markStale t).calRec t 3) 25 24 = bitsOf (s.calRec t 3) 25 24 ∧ bitsOf ((s.markStale t).calRec t 3) 28 26 = bitsOf (s.calRec t 3) 28 26 := by
  by_cases ht : t < 256
  · have hlt : withBit (s.calRec t 3) 29 (s.sliceStale t) < 2 ^ 32 := withBit_lt _ (BitVec.isLt _) (by decide)
    have hrec : (s.markStale t).calRec t 3 = withBit (s.calRec t 3) 29 (s.sliceStale t) := by
      rw [State.calRec, s.markStale_rd ht, BitVec.toNat_ofNat, Nat.mod_eq_of_lt hlt]
    rw [hrec]
    exact bitsOf_withBit_29 _ _
  · rw [s.markStale_tdc (Nat.not_lt.mp ht)]
    exact ⟨rfl, rfl⟩

/-- R243: a rejection counted, and put into the record of table `t`. -/
def State.rejectionPut (s : State) (t v : Nat) : State :=
  (s.inc (calRejCounter v)).wr .CALREC (t * 4 + 3) (BitVec.ofNat 32 (rejectedWord (s.calRec t 3) v))

theorem State.rejectTable_eq (s : State) (k v : Nat) : s.rejectTable k v = (let u := s.rejectionPut (s.itemTable k) v
    { (u.markStale (s.itemTable k)).calAlert with cal := { u.cal with measured := none, outcome := 2 } }) := rfl

theorem calRejCounter_key (v : Nat) : 0x40048 ≤ (calRejCounter v).key 0 ∧ (calRejCounter v).key 0 ≤ 0x40054 := by
  unfold calRejCounter
  split <;> decide

/-- The words that a rejection writes. -/
def rejectWords (t v : Nat) : List (Rg × Nat) := [(.CAL_STS, 0), (calRejCounter v, 0), (.OUT_STS, t / 2), (.CALREC, t * 4 + 3)]

theorem State.rejectionPut_effect (s : State) {t v : Nat} (hv : v ≤ 4) :
    s.counted (s.rejectionPut t v) (calRejCounter v) 0 1
      ∧ bitsOf ((s.rejectionPut t v).calRec t 3) 25 24 = min 3 (bitsOf (s.calRec t 3) 25 24 + 1)
      ∧ bitsOf ((s.rejectionPut t v).calRec t 3) 28 26 = v ∧ s.changesOnly (s.rejectionPut t v) [] (rejectWords t v) := by
  obtain ⟨hrun, hlimit, hlt⟩ := rejectedWord_shows (w := s.calRec t 3) (BitVec.isLt _) hv
  have hrec : (s.rejectionPut t v).calRec t 3 = rejectedWord (s.calRec t 3) v := by
    rw [State.calRec, State.rejectionPut, State.rd_wr_same, BitVec.toNat_ofNat, Nat.mod_eq_of_lt hlt]
  have hkey := calRejCounter_key v
  rw [hrec]
  refine ⟨?_, hrun, hlimit, (s.changesOnly_inc _ _ _ (by simp [rejectWords])).wr _ _ _ (by simp [rejectWords])⟩
  rw [State.counted, State.rejectionPut, State.rd_wr_ne _ _ (by rw [Rg.calrec_key]; omega), State.rd_inc_same]

/-- A record does not follow from the parts beside the registers. -/
theorem State.calRec_settle_cal (s : State) (y : Cal) (t w : Nat) : (State.settle { s with cal := y }).calRec t w = s.calRec t w := by
  rw [State.calRec, State.calRec, State.settle_rd_of, State.mk_rd]

/-- R243: a table that fails a limit is discarded, and its item has ended. -/
theorem exec_calItemAccept_rejects {s : State} {m : CalMeasure} {k : Nat} (hk : s.get CAL_STS.ITEM = k) (hmax : k ≤ 164)
    (hm : s.cal.measured = some m) (hv : failedLimit (decide (k ≤ 36)) m ≠ 0) :
    let x := s.itemTable k
    let v := failedLimit (decide (k ≤ 36)) m
    ∃ t, exec .calItemAccept s = .next t
      ∧ s.counted t (calRejCounter v) 0 1
      ∧ bitsOf (t.calRec x 3) 25 24 = min 3 (bitsOf (s.calRec x 3) 25 24 + 1) ∧ bitsOf (t.calRec x 3) 28 26 = v
      ∧ (bitsOf (t.calRec x 3) 25 24 = 3 → t.on CAL_STS.ALERT = true)
      ∧ t.cal = { s.cal with measured := none, outcome := 2 }
      ∧ s.frame t [.cal] (rejectWords x v) := by
  intro x v
  have hx : x < 292 := s.itemTable_lt hmax
  have hkey := calRejCounter_key v
  obtain ⟨hcnt, hrun, hlimit, hput⟩ := s.rejectionPut_effect (t := x) (failedLimit_le (decide (k ≤ 36)) m)
  obtain ⟨hrun', hlimit'⟩ := (s.rejectionPut x v).markStale_rejections x
  obtain ⟨halert, -, hshown⟩ := ((s.rejectionPut x v).markStale x).calAlert_effect
  have hmark := (s.rejectionPut x v).calAlert_markStale_changesOnly x
  have hcal : (s.rejectionPut (s.itemTable k) v).cal = s.cal := hput.part .cal (by simp)
  have hrec : ((s.rejectionPut x v).markStale x).calAlert.calRec x 3 = ((s.rejectionPut x v).markStale x).calRec x 3 :=
    congrArg BitVec.toNat (hshown.rd_eq (Rg.key_ne_below (by decide)))
  refine ⟨_, (exec_calItemAccept hk hm).trans (congrArg done ((if_neg hv).trans (s.rejectTable_eq k _))), ?_, ?_, ?_, ?_, ?_, ?_⟩
  · refine State.counted_congr ?_ hcnt
    rw [State.settle_rd_of, State.mk_rd]
    exact hmark.rd_eq (markedWords_key_ne hx (by omega) (by omega))
  · rw [State.calRec_settle_cal, hrec, hrun', hrun]
  · rw [State.calRec_settle_cal, hrec, hlimit', hlimit]
  · rw [State.calRec_settle_cal, hrec, State.settle_on_of, State.mk_on, halert]
    exact fun h3 => List.any_eq_true.mpr ⟨x, List.mem_range.mpr hx, beq_iff_eq.mpr h3⟩
  · dsimp only [State.settle]
    rw [hcal]
  · have hmarked := hmark.mono (parts' := [.cal]) (words' := rejectWords x v) (by simp) (by simp [rejectWords])
    exact (((hput.mono (by simp) (List.Subset.refl _)).trans hmarked).cal _ (by simp)).frame

end Sys2Proof.Machine

namespace Sys2Proof.Machine

/-! ### Measurements, swaps and blends (R238 to R240, R248, R249) -/

/-- R240: the measurement of the master check is its averaged tuning word. -/
theorem exec_calMeasureComplete_master {s : State} (m : CalMeasure) (hk : s.get CAL_STS.ITEM = 0) (ho : s.cal.outcome = 0)
    (hm : s.cal.measured = none) :
    ∃ t, exec (.calMeasureComplete m) s = .next t
      ∧ t.on MSYN_STS.BAND_MARGIN = outsideMargin (m.tune % 2 ^ 20) ∧ t.cal = { s.cal with outcome := 2 }
      ∧ s.frame t [.cal] [(.MSYN_STS, 0), (.MSYN_ACQ, 0)] := by
  obtain ⟨hmargin, -, hcheck⟩ := s.masterCheck_effect (m.tune % 2 ^ 20)
  exact ⟨_, congrArg done ((if_neg (by simp [hk, ho, hm])).trans (if_pos hk)), hmargin, rfl,
    ((hcheck.mono (by simp) (List.Subset.refl _)).cal _ (by simp)).frame⟩

/-- R238, R239: the measurement of a table waits for its limits. -/
theorem exec_calMeasureComplete_table {s : State} {m : CalMeasure} {k : Nat} (hk : s.get CAL_STS.ITEM = k) (h1 : 1 ≤ k) (hmax : k ≤ 164)
    (ho : s.cal.outcome = 0) (hm : s.cal.measured = none) (hd : s.cal.hopDiscard = false) :
    ∃ t, exec (.calMeasureComplete m) s = .next t ∧ t.cal = { s.cal with measured := some m } ∧ s.frame t [.cal] [] := by
  have hopen : ¬ (s.get CAL_STS.ITEM = 0xFF ∨ s.cal.outcome ≠ 0 ∨ s.cal.measured.isSome = true) := by
    rw [hk, ho, hm]
    rintro (h | h | h)
    · omega
    · exact h rfl
    · cases h
  exact ⟨_, congrArg done ((if_neg hopen).trans ((if_neg (by omega)).trans (if_neg (by simp [hd])))), rfl,
    (s.changesOnly_cal _ _ (by simp)).frame⟩

/-- R249: the blends run as CAL_STS shows them. -/
theorem State.showBlends_effect (s : State) :
    s.showBlends.cal = s.cal ∧ s.showBlends.rd .CAL_STS = CAL_STS.BLENDS.put (s.rd .CAL_STS) s.cal.blends.length
      ∧ s.changesOnly s.showBlends [] [(.CAL_STS, 0)] :=
  ⟨s.set_cal .., s.rd_set_same _ _ _ rfl, s.changesOnly_set _ _ _ _ (by simp)⟩

/-- R249: one step of every blend; a blend ends at its step 80. -/
def steppedBlends (bs : List Blend) : List Blend := (bs.map fun b => { b with step := b.step + 1 }).filter fun b => decide (b.step < 80)

theorem exec_calBlendStep_steps {s : State} (h0 : s.mode ≠ 0) (h11 : s.mode ≠ 11) :
    ∃ t, exec .calBlendStep s = .next t ∧ t.cal = { s.cal with blends := steppedBlends s.cal.blends }
      ∧ t.rd .CAL_STS = CAL_STS.BLENDS.put (s.rd .CAL_STS) t.cal.blends.length ∧ s.frame t [.cal] [(.CAL_STS, 0)] := by
  obtain ⟨hcal, hrd, honly⟩ := State.showBlends_effect { s with cal := { s.cal with blends := steppedBlends s.cal.blends } }
  refine ⟨_, congrArg done (if_neg (by simp [h0, h11])), hcal, ?_,
    ((s.changesOnly_cal _ _ (by simp)).trans (honly.mono (by simp) (List.Subset.refl _))).frame⟩
  exact hrd.trans (congrArg (fun x : Cal => CAL_STS.BLENDS.put (s.rd .CAL_STS) x.blends.length) hcal.symm)

/-- R248: the idle slice of output `n`. -/
def State.idleSlice (s : State) (n : Nat) : Nat := 1 - s.get OUT_STS.SLICE n

/-- R247, R248: the words of output `n` whose slices swap: it shows whether the new one is stale. -/
def State.sliceShown (s : State) (n : Nat) : State :=
  (s.set OUT_STS.SLICE (s.idleSlice n) n).setB OUT_STS.CALSTALE (bitOf (s.calRec (2 * n + s.idleSlice n) 3) 29) n

theorem State.sliceShown_effect (s : State) (n : Nat) :
    (s.sliceShown n).get OUT_STS.SLICE n = s.idleSlice n ∧ (s.sliceShown n).get OUT_STS.STATE n = s.get OUT_STS.STATE n
      ∧ (s.sliceShown n).cal = s.cal ∧ s.changesOnly (s.sliceShown n) [.cal] [(.OUT_STS, n)] := by
  have hlt : s.idleSlice n < 2 := Nat.lt_of_le_of_lt (Nat.sub_le _ _) (by decide)
  refine ⟨?_, ?_, ?_, (s.changesOnly_set _ _ _ _ (by simp)).trans (State.changesOnly_setB _ OUT_STS.CALSTALE _ n _ (by simp))⟩
  · rw [State.sliceShown, State.setB, State.get_set_apart _ OUT_STS.CALSTALE OUT_STS.SLICE _ n (by decide) (by decide) rfl (by decide),
      s.get_set_same OUT_STS.SLICE _ n (by decide)]
    exact Nat.mod_eq_of_lt hlt
  · rw [State.sliceShown, State.setB, State.get_set_apart _ OUT_STS.CALSTALE OUT_STS.STATE _ n (by decide) (by decide) rfl (by decide),
      s.get_set_apart OUT_STS.SLICE OUT_STS.STATE _ n (by decide) (by decide) rfl (by decide)]
  · rw [State.sliceShown, State.setB_cal, State.set_cal]

/-- R248: the slices of output `n` have swapped. -/
def State.sliceSwapped (s : State) (n : Nat) : State :=
  { s.sliceShown n with cal := { (s.sliceShown n).cal with swapPend := (s.sliceShown n).cal.swapPend.filter (·.1 != n) } }

theorem State.sliceSwapped_effect (s : State) (n : Nat) :
    (s.sliceSwapped n).get OUT_STS.SLICE n = s.idleSlice n ∧ (s.sliceSwapped n).get OUT_STS.STATE n = s.get OUT_STS.STATE n
      ∧ (s.sliceSwapped n).cal = { s.cal with swapPend := s.cal.swapPend.filter (·.1 != n) }
      ∧ s.changesOnly (s.sliceSwapped n) [.cal] [(.OUT_STS, n)] := by
  obtain ⟨hslice, hstate, hcal, honly⟩ := s.sliceShown_effect n
  rw [State.sliceSwapped, State.mk_get, State.mk_get, hcal]
  exact ⟨hslice, hstate, rfl, honly.cal _ (by simp)⟩

theorem exec_sliceSwap {s : State} {n : Nat} {d : Int} (hn : n < 128) (h : s.cal.swapPend.find? (·.1 == n) = some (n, d)) :
    exec (.sliceSwap n) s = done (if (s.sliceSwapped n).get OUT_STS.STATE n = 2 then
      State.showBlends { s.sliceSwapped n with
        cal := { (s.sliceSwapped n).cal with blends := (s.sliceSwapped n).cal.blends ++ [⟨2 * n + s.idleSlice n, 0, d, []⟩] } }
      else s.sliceSwapped n) := by
  refine (onUnit_next _ _ _ _ hn).trans (congrArg done ?_)
  rw [h]
  rfl

/-- R248, R249: a slice that waits takes over; that of a running output blends. -/
theorem exec_sliceSwap_effect {s : State} {n : Nat} {d : Int} (hn : n < 128) (h : s.cal.swapPend.find? (·.1 == n) = some (n, d)) :
    ∃ t, exec (.sliceSwap n) s = .next t ∧ t.get OUT_STS.SLICE n = 1 - s.get OUT_STS.SLICE n
      ∧ t.cal = { s.cal with
          swapPend := s.cal.swapPend.filter (·.1 != n)
          blends := if s.get OUT_STS.STATE n = 2
            then s.cal.blends ++ [⟨2 * n + (1 - s.get OUT_STS.SLICE n), 0, d, []⟩] else s.cal.blends }
      ∧ s.frame t [.cal] [(.OUT_STS, n), (.CAL_STS, 0)] := by
  obtain ⟨hslice, hstate, hcal, honly⟩ := s.sliceSwapped_effect n
  have he := exec_sliceSwap hn h
  rw [hstate] at he
  by_cases hrun : s.get OUT_STS.STATE n = 2
  · obtain ⟨hcal', -, hshow⟩ := State.showBlends_effect { s.sliceSwapped n with
      cal := { (s.sliceSwapped n).cal with blends := (s.sliceSwapped n).cal.blends ++ [⟨2 * n + s.idleSlice n, 0, d, []⟩] } }
    have hne : ∀ q ∈ [(Rg.CAL_STS, 0)], q.1.key q.2 ≠ OUT_STS.SLICE.r.key n := Rg.key_ne_below (by decide)
    rw [if_pos hrun] at he
    refine ⟨_, he, ?_, ?_, (((honly.mono (List.Subset.refl _) (by simp)).cal _ (by simp)).trans (hshow.mono (by simp) (by simp))).frame⟩
    · rw [State.settle_get_of, hshow.get_eq OUT_STS.SLICE hne, State.mk_get, hslice, State.idleSlice]
    · rw [State.settle_cal, hcal', hcal, if_pos hrun, State.idleSlice]
  · rw [if_neg hrun] at he
    refine ⟨_, he, hslice, ?_, (honly.mono (List.Subset.refl _) (by simp)).frame⟩
    rw [State.settle_cal, hcal, if_neg hrun]

/-- Settles O40: the verdict names the first limit that fails, and one lemma for each event of a table. -/
theorem calibrationTables : Obligations.CalibrationTables := by
  unfold Obligations.CalibrationTables
  refine ⟨fun s m => exec_calMeasureComplete_master m, fun s m k hk h1 hmax => ⟨exec_calMeasureComplete_table hk h1 hmax, fun hm => ?_⟩,
    fun s n d => exec_sliceSwap_effect, fun s => exec_calBlendStep_steps⟩
  exact ⟨exec_calItemAccept_accepts hk hmax hm, exec_calItemAccept_rejects hk hmax hm⟩

end Sys2Proof.Machine

namespace Sys2Proof.Machine

/-! ### The slot that a store writes (R251, R252, R258) -/

theorem Tab.filterMap_erase {α β : Type} {f : Nat × α → Option β} {k : Nat} (h : ∀ v, f (k, v) = none) (t : Tab α) :
    (Tab.erase t k).filterMap f = t.filterMap f := by
  induction t with
  | nil => rfl
  | cons x t ih =>
    obtain ⟨j, v⟩ := x
    rw [Tab.erase]
    split
    next hj => rw [ih, List.filterMap_cons, hj, h]
    next => rw [List.filterMap_cons, List.filterMap_cons, ih]

theorem Tab.filterMap_insert {α β : Type} {f : Nat × α → Option β} {k : Nat} (h : ∀ v, f (k, v) = none) (t : Tab α) (v : α) :
    (Tab.insert t k v).filterMap f = t.filterMap f := by
  induction t with
  | nil => rw [Tab.insert, List.filterMap_cons, h]
  | cons x t ih =>
    obtain ⟨j, w⟩ := x
    rw [Tab.insert]
    split
    next => rw [List.filterMap_cons, h]
    next => rw [List.filterMap_cons, List.filterMap_cons, ih]

/-- What is picked out of a table does not follow from a key of which nothing is picked. -/
theorem Tab.filterMap_set {α β : Type} [DecidableEq α] {f : Nat × α → Option β} {k : Nat} (h : ∀ v, f (k, v) = none) (d : α) (t : Tab α) (v : α) :
    (Tab.set d t k v).filterMap f = t.filterMap f := by
  rw [Tab.set]
  split
  · exact Tab.filterMap_erase h t
  · rw [Tab.filterMap_insert h, Tab.filterMap_erase h]

/-- The word of the tables in use, or of their records, that stands at a key. -/
def State.calWordAt (s : State) (k : Nat) : Option (Nat × Word) :=
  match Rg.ofKey k with
  | some (.TAP, i) => some (i, s.rd .TAP i)
  | some (.CALREC, i) => some (0xA000 + i, s.rd .CALREC i)
  | _ => none

theorem State.calWords_eq (s : State) : s.calWords = s.regs.filterMap fun kw => s.calWordAt kw.1 := rfl

/-- A word below the tables is no word of a slot. -/
theorem State.calWords_wr (s : State) (r : Rg) (i : Nat) (w : Word) (hr : Rg.ofKey (r.key i) = some (r, i)) (hk : r.key i < 0x9000000) :
    (s.wr r i w).calWords = s.calWords := by
  have hne {q : Rg} {j : Nat} (hq : 0x9000000 ≤ q.key j) : (s.wr r i w).rd q j = s.rd q j :=
    s.rd_wr_ne w (Nat.ne_of_lt (Nat.lt_of_lt_of_le hk hq))
  have htap (j : Nat) : (s.wr r i w).rd .TAP j = s.rd .TAP j := hne (by rw [Rg.tap_key]; omega)
  have hrec (j : Nat) : (s.wr r i w).rd .CALREC j = s.rd .CALREC j := hne (by rw [Rg.calrec_key]; omega)
  have hat (k : Nat) : (s.wr r i w).calWordAt k = s.calWordAt k := by
    unfold State.calWordAt
    simp only [htap, hrec]
  have hnone (v : Word) : s.calWordAt (r.key i, v).1 = none := by
    unfold State.calWordAt
    rw [hr]
    split
    next hj =>
      cases hj
      rw [Rg.tap_key] at hk
      omega
    next hj =>
      cases hj
      rw [Rg.calrec_key] at hk
      omega
    next => rfl
  rw [State.calWords_eq, State.calWords_eq]
  simp only [hat]
  exact Tab.filterMap_set (f := fun kw => s.calWordAt kw.1) hnone _ _ _

theorem State.newSlot_congr {s t : State} (hq : t.cal.highSeq = s.cal.highSeq) (hf : t.fuse = s.fuse) (hw : t.calWords = s.calWords) :
    t.newSlot = s.newSlot := by
  unfold State.newSlot
  rw [hq, hf, hw]

theorem State.newSlot_set (s : State) (f : Fld) (v i : Nat) (hr : Rg.ofKey (f.r.key i) = some (f.r, i)) (hk : f.r.key i < 0x9000000) :
    (s.set f v i).newSlot = s.newSlot :=
  State.newSlot_congr (by rw [State.set_cal]) (s.set_fuse ..) (s.calWords_wr _ _ _ hr hk)

theorem State.newSlot_cal (s : State) {x : Cal} (h : x.highSeq = s.cal.highSeq) : State.newSlot { s with cal := x } = s.newSlot :=
  State.newSlot_congr h rfl rfl

/-! ### The start of a store (R252, R253) -/

/-- R252: the working slot that a store replaces holds `c`. -/
def Cal.putSlot (x : Cal) (c : CalSlot) : Cal := if x.highSlot = 1 then { x with slotB := c } else { x with slotA := c }

theorem State.putSlot_eq (s : State) (c : CalSlot) : s.putSlot c = { s with cal := s.cal.putSlot c } := by
  unfold State.putSlot Cal.putSlot
  split <;> rfl

theorem Cal.putSlot_highSlot (x : Cal) (c : CalSlot) : (x.putSlot c).highSlot = x.highSlot := by
  unfold Cal.putSlot
  split <;> rfl

/-- R252: what a store that starts holds of `image`, the slot it will write. -/
def Cal.storeStarted (x : Cal) (image : CalSlot) : Cal := { x with storeOp := 1, abandonDue := false, image := image }.putSlot erasedSlot

/-- R252: a store may start. -/
structure State.storeFree (s : State) : Prop where
  warning : s.on MGMT_STS.PFW = false
  storing : s.on CAL_STS.STORING = false
  update : s.updateWrites = false
  reset : s.on RST_STS.L1M = false

/-- R252: a store may start whatever CAL_CMD reads and calibration holds beside its registers. -/
theorem State.storeFree.congr {s t : State} (h : s.storeFree) (ht : s.changesOnly t [.cal] [(.CAL_CMD, 0)]) : t.storeFree := by
  obtain ⟨hp, hs, hu, hl⟩ := h
  refine ⟨(ht.on_eq _ (by decide)).trans hp, (ht.on_eq _ (by decide)).trans hs, ?_, (ht.on_eq _ (by decide)).trans hl⟩
  rw [State.updateWrites, ht.get_eq MGMT_UPD_STS.STATE (by decide)]
  exact hu

/-- R252, R253: a store that may start does so from the erase of its slot. -/
theorem State.startStore_effect {s : State} (h : s.storeFree) :
    s.startStore.rd .CAL_STS = CAL_STS.STORE_PEND.put (CAL_STS.STORING.put (s.rd .CAL_STS) 1) 0
      ∧ s.startStore.cal = s.cal.storeStarted s.newSlot ∧ s.changesOnly s.startStore [.cal] [(.CAL_STS, 0)] := by
  have hnew : ((s.set CAL_STS.STORING 1).set CAL_STS.STORE_PEND 0).newSlot = s.newSlot := by
    rw [State.newSlot_set _ _ _ _ (by decide) (by decide), State.newSlot_set _ _ _ _ (by decide) (by decide)]
  have he : s.startStore = { (s.set CAL_STS.STORING 1).set CAL_STS.STORE_PEND 0 with cal := s.cal.storeStarted s.newSlot } := by
    unfold State.startStore
    rw [h.storing, h.warning, h.update, h.reset]
    simp only [Bool.false_eq_true, Bool.or_self, if_false, State.putSlot_eq, hnew, State.set_cal]
    rfl
  rw [he]
  refine ⟨?_, rfl, ((s.changesOnly_set CAL_STS.STORING 1 0 _ (by simp)).set CAL_STS.STORE_PEND 0 0 (by simp)).cal _ (by simp)⟩
  rw [State.mk_rd, State.rd_set_same _ _ _ _ rfl, State.rd_set_same _ _ _ _ rfl]

end Sys2Proof.Machine

namespace Sys2Proof.Machine

/-- R252, R255: with no store running STORE reads 1 and starts one. -/
theorem exec_calStore_starts {s : State} {p : Port} (hf : s.storeFree) (hs : s.reaches p .CAL_CMD 0) (hm : s.calModes = true) :
    ∃ t, exec (.calStore p) s = .next t
      ∧ t.rd .CAL_STS = CAL_STS.STORE_PEND.put (CAL_STS.STORING.put (s.rd .CAL_STS) 1) 0 ∧ t.on CAL_CMD.STORE = true
      ∧ t.cal = s.cal.storeStarted s.newSlot ∧ s.frame t [.cal] [(.CAL_STS, 0), (.CAL_CMD, 0)] := by
  obtain ⟨hm1, hm2, hm11⟩ := State.calModes_mode hm
  have hj : s.judgeStore = none := by simp [State.judgeStore, unless_, hm1, hm2, hm11, hf.warning, hf.update]
  have hu : s.changesOnly (s.set CAL_CMD.STORE 1) [.cal] [(.CAL_CMD, 0)] := s.changesOnly_set _ _ _ _ (by simp)
  have hf' := hf.congr hu
  have hnew : (s.set CAL_CMD.STORE 1).newSlot = s.newSlot := State.newSlot_set _ _ _ _ (by decide) (by decide)
  have hcmd : s.hostReg p .CAL_CMD 0 2 = (s.set CAL_CMD.STORE 1).startStore := by
    have hoff : (s.bitCmd p (Rg.CAL_CMD.key 0) 2 0 s.judgeRun fun s => s.calRunCmd p (Rg.CAL_CMD.key 0)) = s := State.bitCmd_off (by decide)
    rw [State.hostReg_calCmd 2 hs, hoff]
    dsimp only
    rw [hj, State.bitCmd_executed (by decide)]
    exact if_neg (by simp [hf'.storing])
  obtain ⟨hrd, hcal, honly⟩ := State.startStore_effect hf'
  refine ⟨_, congrArg done hcmd, ?_, ?_, ?_, ((hu.mono (List.Subset.refl _) (by simp)).trans (honly.mono (List.Subset.refl _) (by simp))).frame⟩
  · rw [State.settle_rd_of, hrd, State.rd_set_ne _ _ _ _ (by decide)]
  · rw [State.settle_on_of, honly.on_eq _ (by decide), State.on_set_same _ _ _ _ (by decide)]
    rfl
  · rw [State.settle_cal, hcal, hnew, State.set_cal]

/-- R252, R253: the start of a store that calibration `x`, beside its registers, brings about. -/
theorem State.startStore_cal {s : State} (hf : s.storeFree) {x : Cal} (hx : x.highSeq = s.cal.highSeq) :
    (State.startStore { s with cal := x }).settle.rd .CAL_STS = CAL_STS.STORE_PEND.put (CAL_STS.STORING.put (s.rd .CAL_STS) 1) 0
      ∧ (State.startStore { s with cal := x }).settle.cal = x.storeStarted s.newSlot
      ∧ s.frame (State.startStore { s with cal := x }).settle [.cal] [(.CAL_STS, 0)] := by
  obtain ⟨hrd, hcal, honly⟩ := State.startStore_effect (hf.congr (s.changesOnly_cal x _ (by simp)))
  refine ⟨?_, ?_, ((s.changesOnly_cal x _ (by simp)).trans honly).frame⟩
  · rw [State.settle_rd_of, hrd, State.mk_rd]
  · rw [State.settle_cal, hcal, s.newSlot_cal hx]

theorem Cal.storeStarted_due (x : Cal) (image : CalSlot) :
    Cal.storeStarted { x with intervalDue := true } image = { x.storeStarted image with intervalDue := true } := by
  unfold Cal.storeStarted Cal.putSlot
  dsimp only
  split <;> rfl

theorem Cal.storeStarted_resumed (x : Cal) (image : CalSlot) :
    Cal.storeStarted { x with abandoned := false } image = { x.storeStarted image with abandoned := false } := by
  unfold Cal.storeStarted Cal.putSlot
  dsimp only
  split <;> rfl

/-- R252: the interval starts a store where a table has been accepted since the last, and no rotation runs. -/
theorem exec_calStoreIntervalExpired_starts {s : State} (hf : s.storeFree) (hr : s.on CAL_STS.ROTATING = false) (ha : s.cal.acceptedSince = true)
    (h0 : s.mode ≠ 0) (h11 : s.mode ≠ 11) :
    ∃ t, exec .calStoreIntervalExpired s = .next t
      ∧ t.rd .CAL_STS = CAL_STS.STORE_PEND.put (CAL_STS.STORING.put (s.rd .CAL_STS) 1) 0
      ∧ t.cal = { s.cal.storeStarted s.newSlot with intervalDue := true } ∧ s.frame t [.cal] [(.CAL_STS, 0)] := by
  have hdue : State.storeIfDue { s with cal := { s.cal with intervalDue := true } }
      = State.startStore { s with cal := { s.cal with intervalDue := true } } := by
    refine if_pos ?_
    simp [hr, ha, h0, h11]
  rw [← Cal.storeStarted_due]
  exact ⟨_, congrArg done hdue, State.startStore_cal hf rfl⟩

/-- R253: an abandoned store starts again once the warning has been clear. -/
theorem exec_calStoreResume_starts {s : State} (hf : s.storeFree) (ha : s.cal.abandoned = true) :
    ∃ t, exec .calStoreResume s = .next t
      ∧ t.rd .CAL_STS = CAL_STS.STORE_PEND.put (CAL_STS.STORING.put (s.rd .CAL_STS) 1) 0
      ∧ t.cal = { s.cal.storeStarted s.newSlot with abandoned := false } ∧ s.frame t [.cal] [(.CAL_STS, 0)] := by
  rw [← Cal.storeStarted_resumed]
  exact ⟨_, congrArg done (if_pos ⟨ha, by simp [hf.warning]⟩), State.startStore_cal hf rfl⟩

/-! ### The operations of a store and its ends (R252, R253) -/

theorem exec_calStoreOperationComplete {s : State} (ok : Bool) (hs : s.on CAL_STS.STORING = true) :
    exec (.calStoreOperationComplete ok) s = done (if (s.on MGMT_STS.PFW = true ∨ s.cal.abandonDue = true) ∧ s.cal.storeOp ≠ 5 then
      State.updateAfterStore { (s.set CAL_STS.STORING 0).inc .CAL_STORE_BLOCK_CNT with
        cal := { s.cal with storeOp := 0, abandonDue := false, abandoned := true } }
    else if !ok then ((s.inc .CAL_STORE_FAIL_CNT).log 8 2 1 (BitVec.ofNat 32 (s.cal.highSeq + 1)) 1 0).endStore
    else if s.cal.storeOp = 5 then s.commitStore else s.nextStoreOp) := congrArg done (if_neg (by simp [hs]))

/-- R252: what the end of operation `op` leaves in the slot that is written. -/
def Cal.operationEnded (x : Cal) : Cal :=
  if x.storeOp = 2 then x.putSlot { x.image with crc := 0xFFFFFFFF, commit := 0xFFFFFFFF }
  else if x.storeOp = 3 then x.putSlot { x.image with commit := 0xFFFFFFFF } else x

theorem State.nextStoreOp_eq (s : State) : s.nextStoreOp = { s with cal := { s.cal.operationEnded with storeOp := s.cal.storeOp + 1 } } := by
  unfold State.nextStoreOp Cal.operationEnded
  simp only [State.putSlot_eq]
  split_ifs <;> rfl

/-- R252: an operation before COMMIT ends, and the next begins. -/
theorem exec_calStoreOperationComplete_next {s : State} (hs : s.on CAL_STS.STORING = true) (hp : s.on MGMT_STS.PFW = false)
    (ha : s.cal.abandonDue = false) (ho : s.cal.storeOp ≠ 5) :
    ∃ t, exec (.calStoreOperationComplete true) s = .next t
      ∧ t.cal = { s.cal.operationEnded with storeOp := s.cal.storeOp + 1 } ∧ s.frame t [.cal] [] := by
  refine ⟨_, (exec_calStoreOperationComplete true hs).trans (congrArg done ((if_neg (by simp [hp, ha])).trans
    ((if_neg (by decide)).trans ((if_neg ho).trans s.nextStoreOp_eq)))), rfl, (s.changesOnly_cal _ _ (by simp)).frame⟩

theorem State.updateAfterStore_resting {s : State} (h : s.mgmt.updWait = false) : s.updateAfterStore = s := by
  rw [State.updateAfterStore, h]
  rfl

/-- R253: under the warning a store before COMMIT is abandoned after the operation under way. -/
theorem exec_calStoreOperationComplete_abandons {s : State} (ok : Bool) (hs : s.on CAL_STS.STORING = true) (hw : s.mgmt.updWait = false)
    (hp : s.on MGMT_STS.PFW = true ∨ s.cal.abandonDue = true) (ho : s.cal.storeOp ≠ 5) :
    ∃ t, exec (.calStoreOperationComplete ok) s = .next t
      ∧ s.counted t .CAL_STORE_BLOCK_CNT 0 1 ∧ t.rd .CAL_STS = CAL_STS.STORING.put (s.rd .CAL_STS) 0
      ∧ t.cal = { s.cal with storeOp := 0, abandonDue := false, abandoned := true }
      ∧ s.frame t [.cal] [(.CAL_STORE_BLOCK_CNT, 0), (.CAL_STS, 0)] := by
  have hw' : ((s.set CAL_STS.STORING 0).inc .CAL_STORE_BLOCK_CNT).mgmt.updWait = false := by rw [State.inc_mgmt, State.set_mgmt, hw]
  refine ⟨_, (exec_calStoreOperationComplete ok hs).trans (congrArg done ((if_pos ⟨hp, ho⟩).trans (State.updateAfterStore_resting hw'))),
    ?_, ?_, rfl, (((s.changesOnly_set CAL_STS.STORING 0 0 _ (by simp)).inc _ _ (by simp)).cal _ (by simp)).frame⟩
  · rw [State.counted, State.settle_rd_of, State.mk_rd, State.rd_inc_same, State.rd_set_ne _ _ _ _ (by decide)]
  · rw [State.settle_rd_of, State.mk_rd, State.rd_inc_ne _ _ _ (by decide), State.rd_set_same _ _ _ _ rfl]

/-- R302: of the management part an entry of the log changes the log only. -/
theorem State.log_mgmt (s : State) (code block sev : Nat) (d0 d1 d2 : Word) :
    ∃ l q n k, (s.log code block sev d0 d1 d2).mgmt = { s.mgmt with log := l, logSeq := q, logCopied := n, logTick := k } := by
  have htake (u : State) (hu : u.mgmt = s.mgmt) :
      ∃ l q n k, (u.logTake code block sev d0 d1 d2).mgmt = { s.mgmt with log := l, logSeq := q, logCopied := n, logTick := k } := by
    rw [← hu]
    unfold State.logTake State.cond
    dsimp only
    split
    · exact ⟨_, _, _, _, State.inc_mgmt ..⟩
    · exact ⟨_, _, _, _, rfl⟩
  obtain ⟨-, e⟩ | ⟨-, -, e⟩ | ⟨-, -, e | e⟩ := s.log_cases code block sev d0 d1 d2 <;> rw [e]
  · exact ⟨_, _, _, _, rfl⟩
  · exact htake s rfl
  · exact ⟨_, _, _, _, State.inc_mgmt ..⟩
  · exact htake _ rfl

theorem State.log_updWait (s : State) (code block sev : Nat) (d0 d1 d2 : Word) :
    (s.log code block sev d0 d1 d2).mgmt.updWait = s.mgmt.updWait := by
  obtain ⟨_, _, _, _, h⟩ := s.log_mgmt code block sev d0 d1 d2
  rw [h]

/-- R252, R255: a store ends with neither an update nor a store waiting for it. -/
theorem State.endStore_effect {s : State} (hw : s.mgmt.updWait = false) (hp : s.on CAL_STS.STORE_PEND = false) :
    s.endStore.rd .CAL_STS = CAL_STS.STORING.put (s.rd .CAL_STS) 0 ∧ s.endStore.on CAL_CMD.STORE = false
      ∧ s.endStore.cal = { s.cal with storeOp := 0, abandonDue := false } ∧ s.changesOnly s.endStore [.cal] [(.CAL_STS, 0), (.CAL_CMD, 0)] := by
  have hend : State.updateAfterStore { s.set CAL_STS.STORING 0 with cal := { s.cal with storeOp := 0, abandonDue := false } }
      = { s.set CAL_STS.STORING 0 with cal := { s.cal with storeOp := 0, abandonDue := false } } :=
    State.updateAfterStore_resting (by rw [State.set_mgmt, hw])
  have he : s.endStore = State.set { s.set CAL_STS.STORING 0 with cal := { s.cal with storeOp := 0, abandonDue := false } } CAL_CMD.STORE 0 := by
    unfold State.endStore
    rw [hend]
    refine if_neg ?_
    rw [State.mk_on, s.on_set_apart CAL_STS.STORING CAL_STS.STORE_PEND _ _ (by decide) (by decide) rfl (by decide), hp]
    decide
  rw [he]
  refine ⟨?_, State.on_set_same _ _ _ _ (by decide), State.set_cal ..,
    (((s.changesOnly_set CAL_STS.STORING 0 0 _ (by simp)).cal _ (by simp)).set _ _ _ (by simp))⟩
  rw [State.rd_set_ne _ _ _ _ (by decide), State.mk_rd, State.rd_set_same _ _ _ _ rfl]

/-- R252: what calibration holds once the COMMIT page is programmed. -/
def Cal.committed (x : Cal) : Cal := { x.putSlot x.image with
  highSeq := (x.highSeq + 1) % 2 ^ 32, highSlot := if x.highSlot = 1 then 2 else 1, acceptedSince := false, intervalDue := false }

/-- R252: the state as the COMMIT page is programmed, before its entry in the log. -/
def State.storeCommitted (s : State) : State :=
  { (s.inc .CAL_STORE_CNT).wr .CAL_SEQ 0 (BitVec.ofNat 32 ((s.cal.highSeq + 1) % 2 ^ 32)) with cal := s.cal.committed }

theorem State.commitStore_eq (s : State) :
    s.commitStore = (s.storeCommitted.log 8 2 0 (BitVec.ofNat 32 ((s.cal.highSeq + 1) % 2 ^ 32)) 0 0).endStore := by
  unfold State.commitStore State.storeCommitted Cal.committed
  simp only [State.putSlot_eq, Cal.putSlot_highSlot, State.wr_cal, State.inc_cal]
  rfl

theorem State.storeCommitted_changesOnly (s : State) : s.changesOnly s.storeCommitted [.cal] [(.CAL_STORE_CNT, 0), (.CAL_SEQ, 0)] :=
  ((s.changesOnly_inc _ _ _ (by simp)).wr _ _ _ (by simp)).cal _ (by simp)

/-- R252, R302: a store ends with its entry put to the log. -/
theorem State.logEndStore_effect {s : State} (code block sev : Nat) (d0 d1 d2 : Word) (hw : s.mgmt.updWait = false)
    (hp : s.on CAL_STS.STORE_PEND = false) :
    let v := s.log code block sev d0 d1 d2
    v.endStore.rd .CAL_STS = CAL_STS.STORING.put (s.rd .CAL_STS) 0 ∧ v.endStore.on CAL_CMD.STORE = false
      ∧ v.endStore.cal = { s.cal with storeOp := 0, abandonDue := false }
      ∧ v.changesOnly v.endStore [.cal] [(.CAL_STS, 0), (.CAL_CMD, 0)]
      ∧ s.changesOnly v.endStore [.cal, .mgmt, .free] [(.CAL_STS, 0), (.CAL_CMD, 0), (.MGMT_LOG_OVW_CNT, 0), (.MGMT_LOG_LOST_CNT, 0)] := by
  intro v
  have hlog := s.log_changesOnly code block sev d0 d1 d2
  have hp' : v.on CAL_STS.STORE_PEND = false := (hlog.on_eq _ (by decide)).trans hp
  obtain ⟨hrd, hcmd, hcal, honly⟩ := State.endStore_effect ((s.log_updWait ..).trans hw) hp'
  rw [hlog.rd_eq (by decide)] at hrd
  rw [hlog.part .cal (by simp)] at hcal
  exact ⟨hrd, hcmd, hcal, honly, (hlog.mono (by simp) (by simp [logWords])).trans (honly.mono (by simp) (by simp))⟩

/-- R252: the COMMIT page is programmed, and the store has ended well. -/
theorem exec_calStoreOperationComplete_commits {s : State} (hs : s.on CAL_STS.STORING = true) (hw : s.mgmt.updWait = false)
    (hp : s.on CAL_STS.STORE_PEND = false) (ho : s.cal.storeOp = 5) :
    ∃ t, exec (.calStoreOperationComplete true) s = .next t
      ∧ t.rd .CAL_SEQ = BitVec.ofNat 32 ((s.cal.highSeq + 1) % 2 ^ 32) ∧ s.counted t .CAL_STORE_CNT 0 1
      ∧ t.rd .CAL_STS = CAL_STS.STORING.put (s.rd .CAL_STS) 0 ∧ t.on CAL_CMD.STORE = false
      ∧ s.wrote t 8 2 0 (BitVec.ofNat 32 ((s.cal.highSeq + 1) % 2 ^ 32)) 0 0
      ∧ t.cal = { s.cal.committed with storeOp := 0, abandonDue := false }
      ∧ s.frame t [.cal, .mgmt, .free]
        [(.CAL_SEQ, 0), (.CAL_STORE_CNT, 0), (.CAL_STS, 0), (.CAL_CMD, 0), (.MGMT_LOG_OVW_CNT, 0), (.MGMT_LOG_LOST_CNT, 0)] := by
  have hu := s.storeCommitted_changesOnly
  have hw' : s.storeCommitted.mgmt.updWait = false := by rw [hu.part .mgmt (by simp), hw]
  have hp' : s.storeCommitted.on CAL_STS.STORE_PEND = false := (hu.on_eq _ (by decide)).trans hp
  obtain ⟨hrd, hcmd, hcal, hv, honly⟩ :=
    State.logEndStore_effect 8 2 0 (BitVec.ofNat 32 ((s.cal.highSeq + 1) % 2 ^ 32)) 0 0 hw' hp'
  refine ⟨_, (exec_calStoreOperationComplete true hs).trans (congrArg done ((if_neg (by simp [ho])).trans
    ((if_neg (by decide)).trans ((if_pos ho).trans s.commitStore_eq)))), ?_, ?_, ?_, hcmd,
    State.wrote_of_log hu rfl hv (by simp) (by decide) (by decide), hcal,
    ((hu.mono (by simp) (by simp)).trans (honly.mono (List.Subset.refl _) (by simp))).frame⟩
  · rw [State.settle_rd_of, honly.rd_eq (by decide), State.storeCommitted, State.mk_rd, State.rd_wr_same]
  · rw [State.counted, State.settle_rd_of, honly.rd_eq (by decide), State.storeCommitted, State.mk_rd, State.rd_wr_ne _ _ (by decide),
      State.rd_inc_same]
  · rw [State.settle_rd_of, hrd, hu.rd_eq (by decide)]

/-- R252: a failed operation ends the store. -/
theorem exec_calStoreOperationComplete_fails {s : State} (hs : s.on CAL_STS.STORING = true) (hw : s.mgmt.updWait = false)
    (hp : s.on CAL_STS.STORE_PEND = false) (hwarn : s.on MGMT_STS.PFW = false) (ha : s.cal.abandonDue = false) :
    ∃ t, exec (.calStoreOperationComplete false) s = .next t
      ∧ s.counted t .CAL_STORE_FAIL_CNT 0 1 ∧ t.rd .CAL_STS = CAL_STS.STORING.put (s.rd .CAL_STS) 0
      ∧ t.cal = { s.cal with storeOp := 0 }
      ∧ s.frame t [.cal, .mgmt, .free]
        [(.CAL_STORE_FAIL_CNT, 0), (.CAL_STS, 0), (.CAL_CMD, 0), (.MGMT_LOG_OVW_CNT, 0), (.MGMT_LOG_LOST_CNT, 0)] := by
  have hu : s.changesOnly (s.inc .CAL_STORE_FAIL_CNT) [] [(.CAL_STORE_FAIL_CNT, 0)] := s.changesOnly_inc _ _ _ (by simp)
  have hw' : (s.inc .CAL_STORE_FAIL_CNT).mgmt.updWait = false := by rw [State.inc_mgmt, hw]
  have hp' : (s.inc .CAL_STORE_FAIL_CNT).on CAL_STS.STORE_PEND = false := (hu.on_eq _ (by decide)).trans hp
  obtain ⟨hrd, -, hcal, -, honly⟩ := State.logEndStore_effect 8 2 1 (BitVec.ofNat 32 (s.cal.highSeq + 1)) 1 0 hw' hp'
  refine ⟨_, (exec_calStoreOperationComplete false hs).trans (congrArg done ((if_neg (by simp [hwarn, ha])).trans (if_pos rfl))), ?_, ?_, ?_,
    ((hu.mono (by simp) (by simp)).trans (honly.mono (List.Subset.refl _) (by simp))).frame⟩
  · rw [State.counted, State.settle_rd_of, honly.rd_eq (by decide), State.rd_inc_same]
  · rw [State.settle_rd_of, hrd, hu.rd_eq (by decide)]
  · rw [State.settle_cal, hcal, State.inc_cal, ← ha]

/-- Settles O41: one lemma for each start of a store and for each end of an operation. -/
theorem calibrationStores : Obligations.CalibrationStores := by
  unfold Obligations.CalibrationStores
  intro s
  refine ⟨fun hwarn hs hu hl => ?_, fun hs => ⟨fun hp ha ho => exec_calStoreOperationComplete_next hs hp ha ho,
    fun hw hp ho => exec_calStoreOperationComplete_commits hs hw hp ho, fun hw hp hwarn ha => exec_calStoreOperationComplete_fails hs hw hp hwarn ha,
    fun ok hw hp ho => exec_calStoreOperationComplete_abandons ok hs hw hp ho⟩⟩
  have hf : s.storeFree := ⟨hwarn, hs, hu, hl⟩
  exact ⟨fun p _ hr hm => exec_calStore_starts hf hr hm,
    fun hr ha h0 h11 => exec_calStoreIntervalExpired_starts hf hr ha h0 h11, exec_calStoreResume_starts hf⟩

end Sys2Proof.Machine

namespace Sys2Proof.Machine

/-! ### Calibration slots at BOOT (R254) -/

/-- A fold over the indices below `n` keeps what its steps keep. -/
theorem State.upto_keeps {P : State → Prop} {n : Nat} {f : Nat → State → State} (h : ∀ k < n, ∀ u, P u → P (f k u)) {s : State} (hs : P s) :
    P (State.upto n f s) := by
  induction n with
  | zero => exact hs
  | succ n ih =>
    rw [State.upto_succ]
    exact h n (by omega) _ (ih fun k hk => h k (by omega))

/-- The words of the tables, and of their records. -/
def allTapWords : List (Rg × Nat) := (List.range 37376).map fun w => (.TAP, w)

def allRecordWords : List (Rg × Nat) := (List.range 1168).map fun w => (.CALREC, w)

theorem mem_allTapWords {w : Nat} (h : w < 37376) : (Rg.TAP, w) ∈ allTapWords := List.mem_map.mpr ⟨w, List.mem_range.mpr h, rfl⟩

theorem mem_allRecordWords {w : Nat} (h : w < 1168) : (Rg.CALREC, w) ∈ allRecordWords := List.mem_map.mpr ⟨w, List.mem_range.mpr h, rfl⟩

theorem allRecordWords_key_ne {n : Nat} (h : n < 0x900a000) : ∀ q ∈ allRecordWords, q.1.key q.2 ≠ n := by
  intro q hq
  obtain ⟨w, -, rfl⟩ := List.mem_map.mp hq
  rw [Rg.calrec_key]
  omega

/-- R254: the nominal table of object `t`, and its record. -/
def State.nominalTable (s : State) (t : Nat) : State :=
  let s := State.upto 128 (fun w s => s.wr .TAP (t * 128 + w) (Rg.resetWord .TAP (t * 128 + w))) s
  ((s.wr .CALREC (t * 4) 0x8000#32).wr .CALREC (t * 4 + 1) 0).wr .CALREC (t * 4 + 2) (BitVec.ofNat 32 (calSensor t * 256))

theorem State.loadNominal_eq (s : State) : s.loadNominal = State.upto 292 (fun t s => s.nominalTable t) s := rfl

/-- The words that the nominal table of object `t` writes. -/
def nominalWords (t : Nat) : List (Rg × Nat) := tableWords t ++ [(.CALREC, t * 4), (.CALREC, t * 4 + 1), (.CALREC, t * 4 + 2)]

theorem State.nominalTable_changesOnly (s : State) (t : Nat) : s.changesOnly (s.nominalTable t) [] (nominalWords t) := by
  have htaps : s.changesOnly (State.upto 128 (fun w s => s.wr .TAP (t * 128 + w) (Rg.resetWord .TAP (t * 128 + w))) s) [] (nominalWords t) :=
    State.upto_changesOnly (fun k hk u => u.changesOnly_wr .TAP _ _ _ (by simp [nominalWords, tableWords, hk])) s
  exact ((htaps.wr _ _ _ (by simp [nominalWords])).wr _ _ _ (by simp [nominalWords])).wr _ _ _ (by simp [nominalWords])

/-- The words of table `t` are none of the records, and none of another table's. -/
theorem nominalWords_key_ne {t u j : Nat} (hu : u < 292) (hj : j < 128) (h : u ≠ t) : ∀ q ∈ nominalWords t, q.1.key q.2 ≠ Rg.TAP.key (u * 128 + j) := by
  intro q hq
  rw [Rg.tap_key]
  obtain hq | hq := List.mem_append.mp hq
  · obtain ⟨w, hw, rfl⟩ := List.mem_map.mp hq
    rw [List.mem_range] at hw
    rw [Rg.tap_key]
    omega
  · simp only [List.mem_cons, List.not_mem_nil, or_false] at hq
    obtain rfl | rfl | rfl := hq <;> rw [Rg.calrec_key] <;> omega

theorem State.nominalTable_rd (s : State) {t j : Nat} (ht : t < 292) (hj : j < 128) :
    (s.nominalTable t).rd .TAP (t * 128 + j) = Rg.resetWord .TAP (t * 128 + j) := by
  have hne (u : State) (i : Nat) (w : Word) : (u.wr .CALREC i w).rd .TAP (t * 128 + j) = u.rd .TAP (t * 128 + j) :=
    u.rd_wr_ne w (by rw [Rg.calrec_key, Rg.tap_key]; omega)
  rw [State.nominalTable, hne, hne, hne]
  exact State.rd_upto_wr .TAP (fun w => t * 128 + w) _ (fun i j hij => by rw [Rg.tap_key, Rg.tap_key]; omega) s hj

theorem State.nominalTables_rd (s : State) {n t j : Nat} (hn : n ≤ 292) (ht : t < n) (hj : j < 128) :
    (State.upto n (fun t s => s.nominalTable t) s).rd .TAP (t * 128 + j) = Rg.resetWord .TAP (t * 128 + j) := by
  induction n with
  | zero => omega
  | succ n ih =>
    rw [State.upto_succ]
    by_cases he : t = n
    · rw [he]
      exact State.nominalTable_rd _ (by omega) hj
    · rw [(State.nominalTable_changesOnly _ n).rd_eq (nominalWords_key_ne (by omega) hj he), ih (by omega) (by omega)]

theorem State.loadNominal_rd (s : State) {w : Nat} (h : w < 37376) : s.loadNominal.rd .TAP w = Rg.resetWord .TAP w := by
  have hw : w / 128 * 128 + w % 128 = w := Nat.div_add_mod' w 128
  rw [s.loadNominal_eq, ← hw]
  exact s.nominalTables_rd (Nat.le_refl _) (by omega) (Nat.mod_lt _ (by decide))

/-- The words of the tables and of their records. -/
def storedCalWords : List (Rg × Nat) := allTapWords ++ allRecordWords

theorem nominalWords_subset {t : Nat} (ht : t < 292) : nominalWords t ⊆ storedCalWords := by
  intro q hq
  rw [storedCalWords, List.mem_append]
  obtain hq | hq := List.mem_append.mp hq
  · obtain ⟨w, hw, rfl⟩ := List.mem_map.mp hq
    rw [List.mem_range] at hw
    exact .inl (mem_allTapWords (by omega))
  · simp only [List.mem_cons, List.not_mem_nil, or_false] at hq
    obtain rfl | rfl | rfl := hq <;> exact .inr (mem_allRecordWords (by omega))

theorem State.loadNominal_changesOnly (s : State) : s.changesOnly s.loadNominal [] storedCalWords :=
  State.upto_changesOnly (fun t ht u => (u.nominalTable_changesOnly t).mono (List.Subset.refl _) (nominalWords_subset ht)) s

theorem State.loadCalWords_changesOnly (s : State) (ws : List (Nat × Word)) : s.changesOnly (s.loadCalWords ws) [] storedCalWords := by
  induction ws generalizing s with
  | nil => exact s.changesOnly_refl _ _
  | cons w ws ih =>
    refine State.changesOnly.trans ?_ (ih _)
    dsimp only
    split_ifs with htap hrec
    · exact s.changesOnly_wr _ _ _ _ (List.mem_append_left _ (mem_allTapWords htap))
    · exact s.changesOnly_wr _ _ _ _ (List.mem_append_right _ (mem_allRecordWords (by omega)))
    · exact s.changesOnly_refl _ _

theorem storedCalWords_key_ne {n : Nat} (h : n < 0x9000000) : ∀ q ∈ storedCalWords, q.1.key q.2 ≠ n := by
  intro q hq
  obtain hq | hq := List.mem_append.mp hq
  · obtain ⟨w, -, rfl⟩ := List.mem_map.mp hq
    rw [Rg.tap_key]
    omega
  · exact allRecordWords_key_ne (by omega) q hq

/-- R254: the words of a slot are loaded, and its code and SEQ shown. -/
theorem State.loadSlot_effect (s : State) {code : Nat} (c : CalSlot) (hc : code < 4) :
    (s.loadSlot code c).get CAL_STS.SLOT = code ∧ (s.loadSlot code c).rd .CAL_SEQ = BitVec.ofNat 32 c.seq
      ∧ s.changesOnly (s.loadSlot code c) [] ([(.CAL_STS, 0), (.CAL_SEQ, 0)] ++ storedCalWords) := by
  refine ⟨?_, State.rd_wr_same .., ?_⟩
  · have hslot : (s.loadSlot code c).rd .CAL_STS = ((s.loadNominal.loadCalWords c.words).set CAL_STS.SLOT code).rd .CAL_STS :=
      State.rd_wr_ne _ _ (by decide)
    exact (congrArg CAL_STS.SLOT.of hslot).trans ((State.get_set_same _ CAL_STS.SLOT code 0 (by decide)).trans (Nat.mod_eq_of_lt hc))
  · exact (((s.loadNominal_changesOnly.trans (State.loadCalWords_changesOnly _ _)).mono (List.Subset.refl _) (List.subset_append_right _ _)).set
      CAL_STS.SLOT code 0 (by simp)).wr _ _ _ (by simp)

/-- R254: with no valid slot the nominal tables are loaded. -/
theorem State.loadNominal_effect (s : State) :
    (s.loadNominal.set CAL_STS.SLOT 3).get CAL_STS.SLOT = 3 ∧ (∀ w, w < 256 → (s.loadNominal.set CAL_STS.SLOT 3).rd .TAP w = Rg.resetWord .TAP w)
      ∧ s.changesOnly (s.loadNominal.set CAL_STS.SLOT 3) [] ([(.CAL_STS, 0), (.CAL_SEQ, 0)] ++ storedCalWords) := by
  refine ⟨State.get_set_same _ CAL_STS.SLOT 3 0 (by decide), fun w hw => ?_,
    (s.loadNominal_changesOnly.mono (List.Subset.refl _) (List.subset_append_right _ _)).set _ _ _ (by simp)⟩
  have hne : CAL_STS.SLOT.r.key 0 ≠ Rg.TAP.key w := by
    rw [Rg.tap_key]
    exact Nat.ne_of_lt (Nat.lt_of_lt_of_le (by decide) (Nat.le_add_right _ _))
  rw [State.rd_set_ne _ _ _ _ hne, s.loadNominal_rd (by omega)]

/-- R254, R258: the records of all tables are marked as taken from storage. -/
theorem State.markLoaded_effect (s : State) :
    (∀ t < 292, s.markLoaded.rd .CALREC (t * 4 + 3) = if t < 256 then 0x60000000#32 else 0x40000000#32)
      ∧ s.changesOnly s.markLoaded [] allRecordWords :=
  ⟨fun t ht => State.rd_upto_wr .CALREC (fun t => t * 4 + 3) (fun t => if t < 256 then 0x60000000#32 else 0x40000000#32)
      (fun i j hij => Rg.calrec_key_ne (by omega)) s ht,
    State.upto_changesOnly (fun t ht u => u.changesOnly_wr .CALREC _ _ _ (mem_allRecordWords (by omega))) s⟩

theorem State.markAllStale_changesOnly (s : State) : s.changesOnly s.markAllStale [] (outWords ++ allRecordWords) := by
  refine State.upto_changesOnly (fun t ht u => (u.markStale_changesOnly t).mono (List.Subset.refl _) ?_) s
  intro q hq
  simp only [List.mem_cons, List.not_mem_nil, or_false] at hq
  obtain rfl | rfl := hq
  · exact List.mem_append_left _ (List.mem_map.mpr ⟨_, List.mem_range.mpr (by omega), rfl⟩)
  · exact List.mem_append_right _ (mem_allRecordWords (by omega))

theorem markStale_key_ne {t j : Nat} (ht : t < 256) (h : j ≠ t * 4 + 3) :
    ∀ q ∈ [(Rg.OUT_STS, t / 2), (.CALREC, t * 4 + 3)], q.1.key q.2 ≠ Rg.CALREC.key j := by
  simp only [List.forall_mem_cons, Rg.outSts_key, Rg.calrec_key]
  refine ⟨?_, ?_, by simp⟩ <;> omega

/-- R247: a slice marked as taken from storage is stale, and its record stands. -/
theorem State.markStale_loaded {s : State} {t : Nat} (ht : t < 256) (h : s.rd .CALREC (t * 4 + 3) = 0x60000000#32) :
    (s.markStale t).rd .CALREC (t * 4 + 3) = 0x60000000#32 := by
  have hstale : s.sliceStale t = true := by
    rw [State.sliceStale, State.calRec, h]
    rfl
  rw [s.markStale_rd ht, State.calRec, h, hstale]
  decide

theorem State.markAllStale_loaded {s : State} (h : s.rd .CALREC 3 = 0x60000000#32) : s.markAllStale.rd .CALREC 3 = 0x60000000#32 := by
  refine State.upto_keeps (P := fun u => State.rd u .CALREC 3 = 0x60000000#32) (fun t ht u hu => ?_) h
  by_cases h0 : t = 0
  · subst h0
    exact State.markStale_loaded ht hu
  · rw [(u.markStale_changesOnly t).rd_eq (markStale_key_ne ht (by omega)), hu]

theorem State.markAllStale_tdc (s : State) : s.markAllStale.rd .CALREC 1167 = s.rd .CALREC 1167 :=
  State.upto_keeps (P := fun u => State.rd u .CALREC 1167 = s.rd .CALREC 1167)
    (fun t ht u hu => ((u.markStale_changesOnly t).rd_eq (markStale_key_ne ht (by omega))).trans hu) rfl

end Sys2Proof.Machine

namespace Sys2Proof.Machine

/-- R254: the code of the slot that BOOT loads: 1 and 2 the working slots, 0 the factory slot, 3 none. -/
def bootSlot (okF okA okB : Bool) (a b : CalSlot) : Nat :=
  if okA && (!okB || decide (b.seq < a.seq)) then 1 else if okB then 2 else if okF then 0 else 3

theorem bootSlot_le (okF okA okB : Bool) (a b : CalSlot) : bootSlot okF okA okB a b ≤ 3 := by
  unfold bootSlot
  split_ifs <;> decide

/-- R254: the SEQ of the slot of code `k`. -/
def bootSeq (k : Nat) (f a b : CalSlot) : Nat := if k = 1 then a.seq else if k = 2 then b.seq else f.seq

/-- R254: the slot of code `k` is loaded. -/
def State.slotTaken (s : State) (k : Nat) (f a b : CalSlot) : State :=
  if k = 1 then s.loadSlot 1 a else if k = 2 then s.loadSlot 2 b else if k = 0 then s.loadSlot 0 f else s.loadNominal.set CAL_STS.SLOT 3

/-- The words that the load of a slot writes. -/
def slotWords : List (Rg × Nat) := [(.CAL_STS, 0), (.CAL_SEQ, 0)] ++ storedCalWords

theorem State.slotTaken_effect (s : State) {k : Nat} (f a b : CalSlot) (hk : k ≤ 3) :
    (s.slotTaken k f a b).get CAL_STS.SLOT = k ∧ (k ≠ 3 → (s.slotTaken k f a b).rd .CAL_SEQ = BitVec.ofNat 32 (bootSeq k f a b))
      ∧ (k = 3 → ∀ w, w < 256 → (s.slotTaken k f a b).rd .TAP w = Rg.resetWord .TAP w)
      ∧ s.changesOnly (s.slotTaken k f a b) [] slotWords := by
  have hslot {j : Nat} (c : CalSlot) (hj : j < 3) (ht : s.slotTaken j f a b = s.loadSlot j c) (hq : bootSeq j f a b = c.seq) :
      (s.slotTaken j f a b).get CAL_STS.SLOT = j ∧ (j ≠ 3 → (s.slotTaken j f a b).rd .CAL_SEQ = BitVec.ofNat 32 (bootSeq j f a b))
        ∧ (j = 3 → ∀ w, w < 256 → (s.slotTaken j f a b).rd .TAP w = Rg.resetWord .TAP w)
        ∧ s.changesOnly (s.slotTaken j f a b) [] slotWords := by
    obtain ⟨hcode, hseq, honly⟩ := s.loadSlot_effect c (show j < 4 by omega)
    rw [ht, hq]
    exact ⟨hcode, fun _ => hseq, fun h3 => by omega, honly⟩
  have hcases : k = 0 ∨ k = 1 ∨ k = 2 ∨ k = 3 := by omega
  obtain rfl | rfl | rfl | rfl := hcases
  · exact hslot f (by decide) rfl rfl
  · exact hslot a (by decide) rfl rfl
  · exact hslot b (by decide) rfl rfl
  · obtain ⟨hcode, htaps, honly⟩ := s.loadNominal_effect
    exact ⟨hcode, fun h => absurd rfl h, fun _ => htaps, honly⟩

/-- R254: what calibration holds once the slot of code `k` is loaded. -/
def Cal.slotsRead (x : Cal) (k : Nat) (f a b : CalSlot) : Cal :=
  { x with highSlot := if k = 3 then 0 else k, highSeq := if k = 1 ∨ k = 2 then bootSeq k f a b else 0, slotA := a, slotB := b }

/-- R254, R258: the tables just loaded are marked as taken from storage. -/
def State.slotsKept (s : State) (x : Cal) : State := State.markAllStale { s.markLoaded with cal := x }

/-- R254: what BOOT leaves of the slots it has read, `k` the code of that loaded. -/
def State.slotsRead (s : State) (k : Nat) (f a b : CalSlot) : State :=
  (s.slotTaken k f a b).slotsKept ((s.slotTaken k f a b).cal.slotsRead k f a b)

theorem State.slotTaken_bootSlot (s : State) (okF okA okB : Bool) (f a b : CalSlot) :
    s.slotTaken (bootSlot okF okA okB a b) f a b = (if okA && (!okB || decide (b.seq < a.seq)) then s.loadSlot 1 a
      else if okB then s.loadSlot 2 b else if okF then s.loadSlot 0 f else s.loadNominal.set CAL_STS.SLOT 3) := by
  unfold bootSlot
  split_ifs <;> rfl

theorem bootSlot_high (okF okA okB : Bool) (f a b : CalSlot) :
    (if bootSlot okF okA okB a b = 3 then 0 else bootSlot okF okA okB a b)
        = (if okA && (!okB || decide (b.seq < a.seq)) then 1 else if okB then 2 else 0)
      ∧ (if bootSlot okF okA okB a b = 1 ∨ bootSlot okF okA okB a b = 2 then bootSeq (bootSlot okF okA okB a b) f a b else 0)
        = (if okA && (!okB || decide (b.seq < a.seq)) then a.seq else if okB then b.seq else 0) := by
  unfold bootSlot
  generalize (okA && (!okB || decide (b.seq < a.seq))) = useA
  cases useA <;> cases okB <;> cases okF <;> exact ⟨rfl, rfl⟩

/-- The number of slots that are not valid. -/
def invalidSlots (okF okA okB : Bool) : Nat := flag (!okF) + flag (!okA) + flag (!okB)

theorem exec_bootCalSlotsRead {s : State} {f a b : CalSlot} (hm : s.mode = 1) (hk : s.get RST_BOOT_STS.KIND = 1) :
    let ok (c : CalSlot) : Bool := slotValid s.fuse.dieId c
    exec (.bootCalSlotsRead f a b) s = done ((s.add .CAL_SLOT_INVALID_CNT (invalidSlots (ok f) (ok a) (ok b))).slotsRead
      (bootSlot (ok f) (ok a) (ok b) a b) f a b) := by
  refine congrArg done ((if_pos ⟨hm, hk⟩).trans ?_)
  obtain ⟨hs, hq⟩ := bootSlot_high (slotValid s.fuse.dieId f) (slotValid s.fuse.dieId a) (slotValid s.fuse.dieId b) f a b
  rw [State.slotsRead, Cal.slotsRead, hs, hq, State.slotTaken_bootSlot]
  rfl

theorem slotsRead_key_ne {r : Rg} {i : Nat} (h : r.key i < 0x10000c ∨ 0x10080c ≤ r.key i) (hr : r.key i < 0x900a000) :
    ∀ q ∈ outWords ++ allRecordWords, q.1.key q.2 ≠ r.key i := fun q hq =>
  (List.mem_append.mp hq).elim (outWords_key_ne h q) (allRecordWords_key_ne hr q)

/-- The words that reading the slots writes. -/
def slotsReadWords : List (Rg × Nat) :=
  [(.CAL_STS, 0), (.CAL_SEQ, 0), (.CAL_SLOT_INVALID_CNT, 0)] ++ outWords ++ allTapWords ++ allRecordWords

theorem mem_slotsReadWords_head {q : Rg × Nat} (h : q ∈ [(Rg.CAL_STS, 0), (.CAL_SEQ, 0), (.CAL_SLOT_INVALID_CNT, 0)]) : q ∈ slotsReadWords :=
  List.mem_append_left _ (List.mem_append_left _ (List.mem_append_left _ h))

theorem outWords_subset : outWords ⊆ slotsReadWords := fun _ h =>
  List.mem_append_left _ (List.mem_append_left _ (List.mem_append_right _ h))

theorem allRecordWords_subset : allRecordWords ⊆ slotsReadWords := fun _ h => List.mem_append_right _ h

theorem slotWords_subset : slotWords ⊆ slotsReadWords := by
  intro q hq
  obtain hq | hq := List.mem_append.mp hq
  · exact mem_slotsReadWords_head (List.mem_append_left [(Rg.CAL_SLOT_INVALID_CNT, 0)] hq)
  · obtain hq | hq := List.mem_append.mp hq
    · exact List.mem_append_left _ (List.mem_append_right _ hq)
    · exact allRecordWords_subset hq

theorem staleWords_subset : outWords ++ allRecordWords ⊆ slotsReadWords := List.append_subset.mpr ⟨outWords_subset, allRecordWords_subset⟩

/-- R247, R254, R258: what the marks of the loaded tables leave. -/
theorem State.slotsKept_effect (s : State) (x : Cal) :
    (∀ {r : Rg} {i : Nat}, r.key i < 0x10000c ∨ 0x10080c ≤ r.key i → r.key i < 0x900a000 → (s.slotsKept x).rd r i = s.rd r i)
      ∧ (s.slotsKept x).cal = x ∧ (s.slotsKept x).rd .CALREC 3 = 0x60000000#32 ∧ (s.slotsKept x).rd .CALREC 1167 = 0x40000000#32
      ∧ s.changesOnly (s.slotsKept x) [.cal] slotsReadWords := by
  obtain ⟨hmarked, hmark⟩ := s.markLoaded_effect
  have hstale := State.markAllStale_changesOnly { s.markLoaded with cal := x }
  rw [State.slotsKept]
  refine ⟨fun h hr => ?_, hstale.part .cal (by simp), State.markAllStale_loaded ?_, ?_,
    ((hmark.mono (List.nil_subset [.cal]) allRecordWords_subset).cal x (by simp)).trans (hstale.mono (List.nil_subset _) staleWords_subset)⟩
  · rw [hstale.rd_eq (slotsRead_key_ne h hr), State.mk_rd, hmark.rd_eq (allRecordWords_key_ne hr)]
  · rw [State.mk_rd]
    exact hmarked 0 (by decide)
  · rw [State.markAllStale_tdc, State.mk_rd]
    exact hmarked 291 (by decide)

theorem State.slotsRead_effect (s : State) {k : Nat} (f a b : CalSlot) (hk : k ≤ 3) :
    (s.slotsRead k f a b).get CAL_STS.SLOT = k ∧ (k ≠ 3 → (s.slotsRead k f a b).rd .CAL_SEQ = BitVec.ofNat 32 (bootSeq k f a b))
      ∧ (s.slotsRead k f a b).cal = s.cal.slotsRead k f a b
      ∧ (k = 3 → ∀ w, w < 256 → (s.slotsRead k f a b).rd .TAP w = Rg.resetWord .TAP w)
      ∧ (s.slotsRead k f a b).rd .CALREC 3 = 0x60000000#32 ∧ (s.slotsRead k f a b).rd .CALREC 1167 = 0x40000000#32
      ∧ (s.slotsRead k f a b).rd .CAL_SLOT_INVALID_CNT = s.rd .CAL_SLOT_INVALID_CNT
      ∧ s.changesOnly (s.slotsRead k f a b) [.cal] slotsReadWords := by
  obtain ⟨hslot, hseq, htaps, htaken⟩ := s.slotTaken_effect f a b hk
  obtain ⟨hkeep, hcal, hrec, hrec', hkept⟩ := (s.slotTaken k f a b).slotsKept_effect ((s.slotTaken k f a b).cal.slotsRead k f a b)
  have hcnt : ∀ q ∈ slotWords, q.1.key q.2 ≠ Rg.CAL_SLOT_INVALID_CNT.key 0 := fun q hq =>
    (List.mem_append.mp hq).elim
      ((show ∀ q ∈ [(Rg.CAL_STS, 0), (.CAL_SEQ, 0)], q.1.key q.2 ≠ Rg.CAL_SLOT_INVALID_CNT.key 0 by decide) q)
      (storedCalWords_key_ne (by decide) q)
  rw [State.slotsRead]
  refine ⟨?_, fun h3 => ?_, ?_, fun h3 w hw => ?_, hrec, hrec', ?_, (htaken.mono (by simp) slotWords_subset).trans hkept⟩
  · rw [State.get, hkeep (by decide) (by decide)]
    exact hslot
  · rw [hkeep (by decide) (by decide), hseq h3]
  · rw [hcal, htaken.part .cal (by simp)]
  · rw [hkeep (.inr (by rw [Rg.tap_key]; omega)) (by rw [Rg.tap_key]; omega), htaps h3 w hw]
  · rw [hkeep (by decide) (by decide), htaken.rd_eq hcnt]

/-- R254: in a cold BOOT the slot with the highest SEQ among the valid ones is loaded, and the invalid ones counted. -/
theorem exec_bootCalSlotsRead_effect {s : State} (f a b : CalSlot) (hm : s.mode = 1) (hk : s.get RST_BOOT_STS.KIND = 1) :
    ∃ t, exec (.bootCalSlotsRead f a b) s = .next t
      ∧ (let ok (c : CalSlot) : Bool := slotValid s.fuse.dieId c
         let k := bootSlot (ok f) (ok a) (ok b) a b
         t.get CAL_STS.SLOT = k ∧ (k ≠ 3 → t.rd .CAL_SEQ = BitVec.ofNat 32 (bootSeq k f a b)) ∧ t.cal = s.cal.slotsRead k f a b
           ∧ (k = 3 → ∀ w, w < 256 → t.rd .TAP w = Rg.resetWord .TAP w))
      ∧ t.rd .CALREC 3 = 0x60000000#32 ∧ t.rd .CALREC 1167 = 0x40000000#32
      ∧ s.counted t .CAL_SLOT_INVALID_CNT 0 (flag (!slotValid s.fuse.dieId f) + flag (!slotValid s.fuse.dieId a) + flag (!slotValid s.fuse.dieId b))
      ∧ s.frame t [.cal] slotsReadWords := by
  have hle := bootSlot_le (slotValid s.fuse.dieId f) (slotValid s.fuse.dieId a) (slotValid s.fuse.dieId b) a b
  obtain ⟨hslot, hseq, hcal, htaps, hrec, hrec', hcnt, honly⟩ := (s.add .CAL_SLOT_INVALID_CNT
    (invalidSlots (slotValid s.fuse.dieId f) (slotValid s.fuse.dieId a) (slotValid s.fuse.dieId b))).slotsRead_effect f a b hle
  refine ⟨_, exec_bootCalSlotsRead hm hk, ⟨?_, fun h3 => ?_, ?_, fun h3 w hw => ?_⟩, ?_, ?_, ?_,
    ((s.changesOnly_add _ _ _ _ (mem_slotsReadWords_head (by simp))).trans honly).frame⟩
  · rw [State.settle_get_of, hslot]
  · rw [State.settle_rd_of, hseq h3]
  · rw [State.settle_cal, hcal, State.add_cal]
  · rw [State.settle_rd_of, htaps h3 w hw]
  · rw [State.settle_rd_of, hrec]
  · rw [State.settle_rd_of, hrec']
  · rw [State.counted, State.settle_rd_of, hcnt, State.rd_add_same, invalidSlots]

end Sys2Proof.Machine

namespace Sys2Proof.Machine

/-! ### Firmware slots (R297) -/

/-- An entry whose log stands as in `s` when it is put is one of `s`. -/
theorem State.wrote_of_log_later {s u : State} (code block sev : Nat) (d0 d1 d2 : Word) (hmode : u.mode = s.mode) (hdev : u.dev = s.dev)
    (hlost : u.rd .MGMT_LOG_LOST_CNT = s.rd .MGMT_LOG_LOST_CNT)
    (hlog : u.mgmt.log = s.mgmt.log ∧ u.mgmt.logSeq = s.mgmt.logSeq ∧ u.mgmt.logTick = s.mgmt.logTick) :
    s.wrote (u.log code block sev d0 d1 d2).settle code block sev d0 d1 d2 := by
  obtain ⟨hl, hq, hk⟩ := hlog
  have hwrote := u.log_wrote code block sev d0 d1 d2
  simp only [State.wrote, State.counted, State.logRecent, hmode, hdev, hlost, hl, hq, hk] at hwrote
  simp only [State.wrote, State.counted, State.logRecent, State.settle_mgmt, State.settle_rd_of]
  exact hwrote

/-- R297: the field of the cause that refuses firmware slot `b`. -/
def fwCauseField (b : Bool) : Fld := if b then MGMT_FW_STS.CAUSE_B else MGMT_FW_STS.CAUSE_A

theorem fwCauseField_facts (b : Bool) : (fwCauseField b).r = .MGMT_FW_STS ∧ (fwCauseField b).ok = true
    ∧ (fwCauseField b).hi - (fwCauseField b).lo + 1 = 4
    ∧ ∀ g ∈ [MGMT_FW_STS.SLOT, MGMT_FW_STS.SEC_VER, MGMT_FW_STS.FW_VER], g.apart (fwCauseField b) = true := by
  cases b <;> decide

theorem fwCause_le (x : FwSlot) (n : Nat) : fwCause x n ≤ 6 := by
  unfold fwCause
  split_ifs <;> decide

/-- R297: the slot in turn has been checked, and its cause shown. -/
def State.fwChecked (s : State) (b : Bool) (rest : List Bool) (x : FwSlot) : State :=
  let cause := fwCause x s.fuse.arb
  State.set { s with mgmt := { s.mgmt with
    fwTry := rest, secVers := s.mgmt.secVers.set (flag b) (if cause = 0 then some x.header.secVer else none) } } (fwCauseField b) cause

theorem State.fwChecked_effect (s : State) (b : Bool) (rest : List Bool) (x : FwSlot) :
    let cause := fwCause x s.fuse.arb
    (s.fwChecked b rest x).get (fwCauseField b) = cause
      ∧ (s.fwChecked b rest x).mgmt = { s.mgmt with
          fwTry := rest, secVers := s.mgmt.secVers.set (flag b) (if cause = 0 then some x.header.secVer else none) }
      ∧ s.changesOnly (s.fwChecked b rest x) [.mgmt] [(.MGMT_FW_STS, 0)] := by
  obtain ⟨hr, hok, hwidth, -⟩ := fwCauseField_facts b
  refine ⟨?_, State.set_mgmt .., (s.changesOnly_mgmt _ _ (by simp)).set _ _ _ (by simp [hr])⟩
  have hle := fwCause_le x s.fuse.arb
  rw [State.fwChecked, State.get_set_same _ _ _ _ hok, hwidth, Nat.mod_eq_of_lt (by omega)]

theorem exec_firmwareSlotCheck {s : State} {b : Bool} {rest : List Bool} (x : FwSlot) (hm : s.mgmtRuns = true) (ht : s.mgmt.fwTry = b :: rest) :
    exec (.firmwareSlotCheck b x) s = done (if fwCause x s.fuse.arb = 0 then (s.fwChecked b rest x).startFw b x
      else ((s.fwChecked b rest x).inc .MGMT_FW_REFUSE_CNT).cond rest.isEmpty (·.set MGMT_STS.ROM_SVC 1)) := by
  refine congrArg done ?_
  rw [ht]
  exact if_neg (by simp [hm])

/-- R297: what accepted firmware shows of itself. -/
def State.fwShown (s : State) (b : Bool) (x : FwSlot) : State :=
  ((((s.set MGMT_FW_STS.SLOT (flag b)).set MGMT_FW_STS.SEC_VER x.header.secVer).set MGMT_FW_STS.FW_VER x.header.imgVer).set
    MGMT_STS.FW_RUN 1).set MGMT_STS.ROM_SVC 0

theorem State.fwShown_effect (s : State) (b : Bool) (x : FwSlot) :
    (s.fwShown b x).get (fwCauseField b) = s.get (fwCauseField b) ∧ (s.fwShown b x).on MGMT_STS.FW_RUN = true
      ∧ (s.fwShown b x).on MGMT_STS.ROM_SVC = false ∧ (s.fwShown b x).get MGMT_FW_STS.SLOT = flag b
      ∧ s.changesOnly (s.fwShown b x) [] [(.MGMT_FW_STS, 0), (.MGMT_STS, 0)] := by
  obtain ⟨hr, hok, -, hap⟩ := fwCauseField_facts b
  have hkey (f : Fld) (hf : f.r = .MGMT_STS) : f.r.key 0 ≠ (fwCauseField b).r.key 0 := by
    rw [hf, hr]
    decide
  refine ⟨?_, ?_, State.on_set_same _ _ _ _ (by decide), ?_,
    ((((s.changesOnly_set MGMT_FW_STS.SLOT _ 0 _ (by simp)).set MGMT_FW_STS.SEC_VER _ 0 (by simp)).set MGMT_FW_STS.FW_VER _ 0 (by simp)).set
      MGMT_STS.FW_RUN _ 0 (by simp)).set MGMT_STS.ROM_SVC _ 0 (by simp)⟩
  · rw [State.fwShown, State.get_set_ne _ _ _ _ _ _ (hkey _ rfl), State.get_set_ne _ _ _ _ _ _ (hkey _ rfl),
      State.get_set_apart _ _ _ _ _ (by decide) hok hr.symm (hap _ (by simp)), State.get_set_apart _ _ _ _ _ (by decide) hok hr.symm (hap _ (by simp)),
      State.get_set_apart _ _ _ _ _ (by decide) hok hr.symm (hap _ (by simp))]
  · rw [State.fwShown, State.on_set_apart _ MGMT_STS.ROM_SVC MGMT_STS.FW_RUN _ _ (by decide) (by decide) rfl (by decide),
      State.on_set_same _ _ _ _ (by decide)]
    rfl
  · rw [State.fwShown, State.get_set_ne _ _ _ _ _ _ (by decide), State.get_set_ne _ _ _ _ _ _ (by decide),
      State.get_set_apart _ MGMT_FW_STS.FW_VER MGMT_FW_STS.SLOT _ _ (by decide) (by decide) rfl (by decide),
      State.get_set_apart _ MGMT_FW_STS.SEC_VER MGMT_FW_STS.SLOT _ _ (by decide) (by decide) rfl (by decide),
      State.get_set_same _ _ _ _ (by decide)]
    exact Nat.mod_eq_of_lt (Nat.lt_of_le_of_lt (flag_le b) (by decide))

/-- R297, R313: accepted firmware has started with a new session. -/
def State.fwStarted (s : State) (b : Bool) (x : FwSlot) : State :=
  let u := State.fwShown { s with free := s.free + 1 } b x
  { u.wr .MGMT_INB_STS 0 (Config.freeWord s.free) with mgmt := { u.mgmt with lastSeq := 0, fwTry := [] } }

theorem State.startFw_eq (s : State) (b : Bool) (x : FwSlot) :
    s.startFw b x = (s.fwStarted b x).log 0x10 0xFF 0 (BitVec.ofNat 32 (flag b))
      (BitVec.ofNat 32 (x.header.imgVer % 65536 + x.header.secVer % 65536 * 65536)) (Config.freeWord s.free) := rfl

/-- The words that the start of firmware writes, its entry in the log apart. -/
def fwWords : List (Rg × Nat) := [(.MGMT_FW_STS, 0), (.MGMT_STS, 0), (.MGMT_INB_STS, 0)]

theorem State.fwStarted_effect (s : State) (b : Bool) (x : FwSlot) :
    (s.fwStarted b x).get (fwCauseField b) = s.get (fwCauseField b) ∧ (s.fwStarted b x).on MGMT_STS.FW_RUN = true
      ∧ (s.fwStarted b x).on MGMT_STS.ROM_SVC = false ∧ (s.fwStarted b x).get MGMT_FW_STS.SLOT = flag b
      ∧ (s.fwStarted b x).rd .MGMT_INB_STS = Config.freeWord s.free
      ∧ (s.fwStarted b x).mgmt = { s.mgmt with lastSeq := 0, fwTry := [] }
      ∧ s.changesOnly (s.fwStarted b x) [.mgmt, .free] fwWords := by
  obtain ⟨hcause, hrun, hrom, hslot, honly⟩ := State.fwShown_effect { s with free := s.free + 1 } b x
  obtain ⟨hr, -, -, -⟩ := fwCauseField_facts b
  have hne (f : Fld) (hf : Rg.MGMT_INB_STS.key 0 ≠ f.r.key 0) : (s.fwStarted b x).get f = (State.fwShown { s with free := s.free + 1 } b x).get f := by
    rw [State.fwStarted, State.mk_get]
    exact congrArg f.of (State.rd_wr_ne _ _ hf)
  have hon (f : Fld) (hf : Rg.MGMT_INB_STS.key 0 ≠ f.r.key 0) : (s.fwStarted b x).on f = (State.fwShown { s with free := s.free + 1 } b x).on f :=
    congrArg (· != 0) (hne f hf)
  have hcause' : (State.fwShown { s with free := s.free + 1 } b x).get (fwCauseField b) = s.get (fwCauseField b) := hcause.trans (State.mk_get ..)
  have hshown : s.changesOnly (State.fwShown { s with free := s.free + 1 } b x) [.mgmt, .free] fwWords :=
    (s.changesOnly_free _ _ (by simp)).trans (honly.mono (by simp) (by simp [fwWords]))
  refine ⟨(hne _ (by rw [hr]; decide)).trans hcause', (hon _ (by decide)).trans hrun, (hon _ (by decide)).trans hrom,
    (hne _ (by decide)).trans hslot, ?_, ?_, (hshown.wr _ _ _ (by simp [fwWords])).trans (State.changesOnly_mgmt _ _ _ (by simp))⟩
  · rw [State.fwStarted, State.mk_rd, State.rd_wr_same]
  · rw [State.fwStarted]
    dsimp only
    rw [honly.part .mgmt (by simp)]

/-- The words that the check of a firmware slot may write. -/
def fwCheckWords : List (Rg × Nat) :=
  [(.MGMT_FW_STS, 0), (.MGMT_STS, 0), (.MGMT_INB_STS, 0), (.MGMT_FW_REFUSE_CNT, 0), (.MGMT_LOG_OVW_CNT, 0), (.MGMT_LOG_LOST_CNT, 0)]

/-- R297, R303: a firmware slot that passes runs. -/
theorem exec_firmwareSlotCheck_runs {s : State} {b : Bool} {rest : List Bool} (x : FwSlot) (hm : s.mgmtRuns = true)
    (ht : s.mgmt.fwTry = b :: rest) (hc : fwCause x s.fuse.arb = 0) :
    ∃ t, exec (.firmwareSlotCheck b x) s = .next t
      ∧ t.get (fwCauseField b) = 0 ∧ t.mgmt.secVers = s.mgmt.secVers.set (flag b) (some x.header.secVer)
      ∧ (t.on MGMT_STS.FW_RUN = true ∧ t.on MGMT_STS.ROM_SVC = false ∧ t.get MGMT_FW_STS.SLOT = flag b
          ∧ t.mgmt.fwTry = [] ∧ t.mgmt.lastSeq = 0 ∧ t.rd .MGMT_INB_STS = Config.freeWord s.free
          ∧ s.wrote t 0x10 0xFF 0 (BitVec.ofNat 32 (flag b)) (BitVec.ofNat 32 (x.header.imgVer % 65536 + x.header.secVer % 65536 * 65536))
              (Config.freeWord s.free))
      ∧ s.frame t [.mgmt, .free] fwCheckWords := by
  obtain ⟨hcause, hmgmt, hcheck⟩ := s.fwChecked_effect b rest x
  obtain ⟨hcause', hrun, hrom, hslot, hinb, hmgmt', hstart⟩ := (s.fwChecked b rest x).fwStarted_effect b x
  have hfree : (s.fwChecked b rest x).free = s.free := hcheck.part .free (by simp)
  rw [hfree] at hinb
  rw [hmgmt, if_pos hc] at hmgmt'
  have hu : s.changesOnly ((s.fwChecked b rest x).fwStarted b x) [.mgmt, .free] fwWords :=
    (hcheck.mono (by simp) (by simp [fwWords])).trans hstart
  have hlog := ((s.fwChecked b rest x).fwStarted b x).log_changesOnly 0x10 0xFF 0 (BitVec.ofNat 32 (flag b))
    (BitVec.ofNat 32 (x.header.imgVer % 65536 + x.header.secVer % 65536 * 65536)) (Config.freeWord s.free)
  obtain ⟨l, q, n, k, hlogged⟩ := ((s.fwChecked b rest x).fwStarted b x).log_mgmt 0x10 0xFF 0 (BitVec.ofNat 32 (flag b))
    (BitVec.ofNat 32 (x.header.imgVer % 65536 + x.header.secVer % 65536 * 65536)) (Config.freeWord s.free)
  have hlogkey : ∀ q ∈ logWords, q.1.key q.2 ≠ (fwCauseField b).r.key 0 := by
    rw [(fwCauseField_facts b).1]
    decide
  have he := (exec_firmwareSlotCheck x hm ht).trans (congrArg done (if_pos hc))
  rw [State.startFw_eq, hfree] at he
  refine ⟨_, he, ?_, ?_, ⟨?_, ?_, ?_, ?_, ?_, ?_, State.wrote_of_log_later _ _ _ _ _ _ (hu.get_eq DEV_MODE.MODE (by decide)) (hu.part .dev (by simp))
    (hu.rd_eq (by decide)) (by rw [hmgmt']; exact ⟨rfl, rfl, rfl⟩)⟩,
    ((hu.mono (List.Subset.refl _) (by simp [fwWords, fwCheckWords])).trans
      (hlog.mono (List.Subset.refl _) (by simp [logWords, fwCheckWords]))).frame⟩
  · rw [State.settle_get_of, hlog.get_eq _ hlogkey, hcause', hcause, hc]
  · rw [State.settle_mgmt, hlogged, hmgmt']
  · rw [State.settle_on_of, hlog.on_eq _ (by decide), hrun]
  · rw [State.settle_on_of, hlog.on_eq _ (by decide), hrom]
  · rw [State.settle_get_of, hlog.get_eq _ (by decide), hslot]
  · rw [State.settle_mgmt, hlogged, hmgmt']
  · rw [State.settle_mgmt, hlogged, hmgmt']
  · rw [State.settle_rd_of, hlog.rd_eq (by decide), hinb]

/-- R297: a firmware slot that fails is refused and counted; with none left the ROM service runs. -/
theorem exec_firmwareSlotCheck_refuses {s : State} {b : Bool} {rest : List Bool} (x : FwSlot) (hm : s.mgmtRuns = true)
    (ht : s.mgmt.fwTry = b :: rest) (hc : fwCause x s.fuse.arb ≠ 0) :
    ∃ t, exec (.firmwareSlotCheck b x) s = .next t
      ∧ t.get (fwCauseField b) = fwCause x s.fuse.arb ∧ t.mgmt.secVers = s.mgmt.secVers.set (flag b) none
      ∧ (s.counted t .MGMT_FW_REFUSE_CNT 0 1 ∧ t.mgmt.fwTry = rest ∧ (rest = [] → t.on MGMT_STS.ROM_SVC = true))
      ∧ s.frame t [.mgmt, .free] fwCheckWords := by
  obtain ⟨hcause, hmgmt, hcheck⟩ := s.fwChecked_effect b rest x
  rw [if_neg hc] at hmgmt
  obtain ⟨hr, -, -, -⟩ := fwCauseField_facts b
  have hrom (u : State) : u.changesOnly (u.cond rest.isEmpty (·.set MGMT_STS.ROM_SVC 1)) [] [(.MGMT_STS, 0)] :=
    State.changesOnly_cond (u.changesOnly_set _ _ _ _ (by simp))
  have hcond := hrom ((s.fwChecked b rest x).inc .MGMT_FW_REFUSE_CNT)
  have hcount := (s.fwChecked b rest x).changesOnly_inc .MGMT_FW_REFUSE_CNT 0 [] (words := [(.MGMT_FW_REFUSE_CNT, 0)]) (by simp)
  refine ⟨_, (exec_firmwareSlotCheck x hm ht).trans (congrArg done (if_neg hc)), ?_, ?_, ⟨?_, ?_, ?_⟩,
    (((hcheck.mono (by simp) (by simp [fwCheckWords])).inc _ _ (by simp [fwCheckWords])).trans
      (hcond.mono (by simp) (by simp [fwCheckWords]))).frame⟩
  · rw [State.settle_get_of, hcond.get_eq _ (by rw [hr]; decide), hcount.get_eq _ (by rw [hr]; decide), hcause]
  · rw [State.settle_mgmt, hcond.part .mgmt (by simp), State.inc_mgmt, hmgmt]
  · rw [State.counted, State.settle_rd_of, hcond.rd_eq (by decide), State.rd_inc_same, hcheck.rd_eq (by decide)]
  · rw [State.settle_mgmt, hcond.part .mgmt (by simp), State.inc_mgmt, hmgmt]
  · rintro rfl
    exact State.on_set_same _ MGMT_STS.ROM_SVC 1 0 (by decide)

end Sys2Proof.Machine

namespace Sys2Proof.Machine

/-! ### A refused image (R280, R285) -/

theorem exec_bootImageCheck {s : State} {src : BootSrc} {rest : List BootSrc} (img : Image) (hm : s.mode = 1) (ht : s.rst.toTry = src :: rest) :
    exec (.bootImageCheck src img) s = done (if (s.checkImage img none).1 = 0
      then ((s.checkImage img none).2.acceptImage src).noteSecVer src (some img.header.secVer)
      else (s.refuseSource src (s.checkImage img none).1).noteSecVer src none) := by
  have hhead : s.rst.toTry.head? = some src := by rw [ht]; rfl
  exact congrArg done (if_pos ⟨hm, hhead⟩)

theorem causeField_facts (src : BootSrc) : (causeField src).r = .RST_BOOT_STS ∧ (causeField src).ok = true
    ∧ ∀ g ∈ [RST_BOOT_STS.SRC, RST_BOOT_STS.ACCEPTED], g.apart (causeField src) = true := by
  cases src <;> decide

/-- R280: what a refused source leaves of the sources to try. -/
def Rst.refused (x : Rst) (src : BootSrc) (rest : List BootSrc) : Rst :=
  { x with toTry := rest, cloneOpen := x.cloneOpen && src != .clone, refusedAll := rest.isEmpty }

theorem State.refuseSource_effect {s : State} {src : BootSrc} {rest : List BootSrc} (cause : Nat) (ht : s.rst.toTry = src :: rest) :
    (s.refuseSource src cause).rd .RST_BOOT_STS = (causeField src).put (s.rd .RST_BOOT_STS) cause
      ∧ (s.refuseSource src cause).rst = s.rst.refused src rest
      ∧ s.changesOnly (s.refuseSource src cause) [.rst] [(.RST_BOOT_STS, 0)] := by
  obtain ⟨hr, -, -⟩ := causeField_facts src
  have he : s.refuseSource src cause = { s.set (causeField src) cause with rst := s.rst.refused src rest } := by
    unfold State.refuseSource
    simp only [State.set_rst, ht, List.drop_succ_cons, List.drop_zero]
    rfl
  rw [he]
  refine ⟨?_, rfl, (s.changesOnly_set _ _ _ _ (by simp [hr])).trans (State.changesOnly_rst _ _ _ (by simp))⟩
  rw [State.mk_rd, s.rd_set_same _ _ _ hr]

/-- R311: the part that the security version of a checked source belongs to. -/
theorem State.noteSecVer_effect (s : State) (src : BootSrc) (v : Option Nat) :
    (s.noteSecVer src v).rst = s.rst
      ∧ (src = .slotA → (s.noteSecVer src v).mgmt.secVers = s.mgmt.secVers.set 2 v)
      ∧ (src = .slotB → (s.noteSecVer src v).mgmt.secVers = s.mgmt.secVers.set 3 v)
      ∧ s.changesOnly (s.noteSecVer src v) (if src = .slotA ∨ src = .slotB then [.rst, .mgmt] else [.rst]) [] := by
  cases src with
  | slotA => exact ⟨rfl, fun _ => rfl, nofun, s.changesOnly_mgmt (parts := [.rst, .mgmt]) _ _ (by simp)⟩
  | slotB => exact ⟨rfl, nofun, fun _ => rfl, s.changesOnly_mgmt (parts := [.rst, .mgmt]) _ _ (by simp)⟩
  | host => exact ⟨rfl, nofun, nofun, s.changesOnly_refl _ _⟩
  | clone => exact ⟨rfl, nofun, nofun, s.changesOnly_refl _ _⟩

/-- R280: a source whose image fails is refused with its cause, and the next is tried. -/
theorem exec_bootImageCheck_refuses {s : State} {src : BootSrc} {rest : List BootSrc} {img : Image} (hm : s.mode = 1)
    (ht : s.rst.toTry = src :: rest) (hc : (s.checkImage img none).1 ≠ 0) :
    ∃ t, exec (.bootImageCheck src img) s = .next t
      ∧ t.rd .RST_BOOT_STS = (causeField src).put (s.rd .RST_BOOT_STS) (s.checkImage img none).1
      ∧ t.rst = s.rst.refused src rest
      ∧ (src = .slotA → t.mgmt.secVers = s.mgmt.secVers.set 2 none) ∧ (src = .slotB → t.mgmt.secVers = s.mgmt.secVers.set 3 none)
      ∧ s.frame t (if src = .slotA ∨ src = .slotB then [.rst, .mgmt] else [.rst]) [(.RST_BOOT_STS, 0)] := by
  obtain ⟨hrd, hrst, href⟩ := State.refuseSource_effect (s.checkImage img none).1 ht
  obtain ⟨hrst', ha, hb, hnote⟩ := (s.refuseSource src (s.checkImage img none).1).noteSecVer_effect src none
  have hmgmt : (s.refuseSource src (s.checkImage img none).1).mgmt = s.mgmt := href.part .mgmt (by simp)
  rw [hmgmt] at ha hb
  have hparts : [Part.rst] ⊆ if src = .slotA ∨ src = .slotB then [Part.rst, .mgmt] else [Part.rst] := by
    split <;> simp
  refine ⟨_, (exec_bootImageCheck img hm ht).trans (congrArg done (if_neg hc)), ?_, ?_, ha, hb,
    ((href.mono hparts (List.Subset.refl _)).trans (hnote.mono (List.Subset.refl _) (by simp))).frame⟩
  · rw [State.settle_rd_of, hnote.rd_eq (by simp), hrd]
  · rw [State.settle_rst, hrst', hrst]

/-- R280: a clone that does not answer in time is refused. -/
theorem exec_cloneTimeout_refuses {s : State} {rest : List BootSrc} (hm : s.mode = 1) (ht : s.rst.toTry = .clone :: rest)
    (hs : s.rst.cloneSeen = false) :
    ∃ t, exec .cloneTimeout s = .next t
      ∧ t.rd .RST_BOOT_STS = RST_BOOT_STS.CAUSE_CLONE.put (s.rd .RST_BOOT_STS) 11
      ∧ t.rst = { s.rst with toTry := rest, cloneOpen := false, refusedAll := rest.isEmpty }
      ∧ s.frame t [.rst] [(.RST_BOOT_STS, 0)] := by
  obtain ⟨hrd, hrst, href⟩ := State.refuseSource_effect 11 ht
  have hhead : s.rst.toTry.head? = some .clone := by rw [ht]; rfl
  have hopen : (s.rst.cloneOpen && BootSrc.clone != .clone) = false := by
    rw [bne_self_eq_false, Bool.and_false]
  rw [Rst.refused, hopen] at hrst
  refine ⟨_, congrArg done (if_pos ⟨hm, hhead, by simp [hs]⟩), ?_, ?_, href.frame⟩
  · rw [State.settle_rd_of, hrd, causeField]
  · rw [State.settle_rst, hrst]

/-! ### Acceptance (R285) -/

theorem State.startAcq_changesOnly (s : State) : s.changesOnly s.startAcq [.msyn] [(.MSYN_STS, 0)] := by
  have hstart : s.changesOnly (((s.set MSYN_STS.LOCK 0).set MSYN_STS.ACQ 1).set MSYN_STS.ATTEMPT 1) [.msyn] [(.MSYN_STS, 0)] :=
    ((s.changesOnly_set MSYN_STS.LOCK 0 0 _ (by simp)).set MSYN_STS.ACQ 1 0 (by simp)).set MSYN_STS.ATTEMPT 1 0 (by simp)
  unfold State.startAcq
  dsimp only
  generalize ((s.set MSYN_STS.LOCK 0).set MSYN_STS.ACQ 1).set MSYN_STS.ATTEMPT 1 = u at hstart ⊢
  split
  · exact (hstart.msyn _ (by simp)).msyn _ (by simp)
  · exact ((hstart.msyn _ (by simp)).set MSYN_STS.HELD 0 0 (by simp)).set MSYN_STS.STATE _ 0 (by simp)

/-- R36: a retune at the end of the preload concerns the master only. -/
theorem State.bootRetune_changesOnly (s : State) : s.changesOnly s.bootRetune [.msyn, .rst] [(.MSYN_STS, 0)] := by
  have huse : s.changesOnly s.useStored [.msyn, .rst] [(.MSYN_STS, 0)] := s.useStored_changesOnly (by simp) (by simp)
  unfold State.bootRetune
  split_ifs
  · exact s.changesOnly_refl _ _
  · exact huse
  · exact (huse.trans (s.useStored.startAcq_changesOnly.mono (by simp) (List.Subset.refl _))).trans (State.changesOnly_rst _ _ _ (by simp))

/-- R285, R294: RST_BOOT_STS of an accepted image. -/
def State.acceptShown (s : State) (src : BootSrc) : State :=
  ((s.set (causeField src) 0).set RST_BOOT_STS.SRC (srcCode src)).set RST_BOOT_STS.ACCEPTED 1

theorem State.acceptShown_effect (s : State) (src : BootSrc) :
    (s.acceptShown src).on RST_BOOT_STS.ACCEPTED = true ∧ (s.acceptShown src).get RST_BOOT_STS.SRC = srcCode src
      ∧ (s.acceptShown src).get (causeField src) = 0 ∧ s.changesOnly (s.acceptShown src) [] [(.RST_BOOT_STS, 0)] := by
  obtain ⟨hr, hok, hap⟩ := causeField_facts src
  have hcode : srcCode src < 4 := by cases src <;> decide
  refine ⟨State.on_set_same _ RST_BOOT_STS.ACCEPTED 1 0 (by decide), ?_, ?_,
    ((s.changesOnly_set _ _ _ _ (by simp [hr])).set RST_BOOT_STS.SRC _ 0 (by simp)).set RST_BOOT_STS.ACCEPTED 1 0 (by simp)⟩
  · rw [State.acceptShown, State.get_set_apart _ RST_BOOT_STS.ACCEPTED RST_BOOT_STS.SRC _ _ (by decide) (by decide) rfl (by decide),
      State.get_set_same _ _ _ _ (by decide)]
    exact Nat.mod_eq_of_lt hcode
  · rw [State.acceptShown, State.get_set_apart _ RST_BOOT_STS.ACCEPTED _ _ _ (by decide) hok hr.symm (hap _ (by simp)),
      State.get_set_apart _ RST_BOOT_STS.SRC _ _ _ (by decide) hok hr.symm (hap _ (by simp)), State.get_set_same _ _ _ _ hok, Nat.zero_mod]

/-- R285: what an accepted image shows, and what it leaves. -/
theorem State.acceptImage_effect (s : State) (src : BootSrc) :
    (s.acceptImage src).on RST_BOOT_STS.ACCEPTED = true ∧ (s.acceptImage src).get RST_BOOT_STS.SRC = srcCode src
      ∧ (s.acceptImage src).get (causeField src) = 0
      ∧ (s.acceptImage src).rst.toTry = [] ∧ (s.acceptImage src).rst.cloneOpen = false ∧ (s.acceptImage src).rst.preloaded = true
      ∧ s.changesOnly (s.acceptImage src) [.msyn, .rst] [(.RST_BOOT_STS, 0), (.MSYN_STS, 0)] := by
  obtain ⟨hacc, hsrc, hcause, hshown⟩ := s.acceptShown_effect src
  have hretune := (s.acceptShown src).bootRetune_changesOnly
  have he : s.acceptImage src = { (s.acceptShown src).bootRetune with
      rst := { (s.acceptShown src).bootRetune.rst with toTry := [], cloneOpen := false, preloaded := true } } := rfl
  obtain ⟨hr, -, -⟩ := causeField_facts src
  rw [he]
  refine ⟨?_, ?_, ?_, rfl, rfl, rfl, ((hshown.mono (by simp) (by simp)).trans (hretune.mono (List.Subset.refl _) (by simp))).trans
    (State.changesOnly_rst _ _ _ (by simp))⟩
  · rw [State.mk_on, hretune.on_eq _ (by decide), hacc]
  · rw [State.mk_get, hretune.get_eq _ (by decide), hsrc]
  · rw [State.mk_get, hretune.get_eq _ (by rw [hr]; decide), hcause]

end Sys2Proof.Machine

namespace Sys2Proof.Machine

/-! ### A preload leaves the security versions of the slots (R284, R311) -/

theorem State.changesOnly.secVers {s t : State} {parts : List Part} {words : List (Rg × Nat)} (h : s.changesOnly t parts words)
    (hp : Part.mgmt ∉ parts) : t.mgmt.secVers = s.mgmt.secVers := congrArg Mgmt.secVers (h.part .mgmt hp)

theorem State.setPort_mgmt (s : State) (p : Port) (x : PortSt) : (s.setPort p x).mgmt = s.mgmt := by
  obtain ⟨d, hd⟩ := s.setPort_eq p x
  rw [hd]

theorem State.reject_mgmt (s : State) (e : Nat) (p : Port) (a : Nat) : (s.reject e p a).mgmt = s.mgmt := by
  rw [State.reject, State.setPort_mgmt, State.inc_mgmt, State.record, State.wr_mgmt]

theorem State.touched_mgmt (s : State) (r : Rg) : (s.touched r).mgmt = s.mgmt :=
  (s.touched_changesOnly r (parts := [.dev]) (words := [(.CFG_CRC_CTL, 0)]) (by simp) (by simp)).part .mgmt (by simp)

/-- A command bit leaves the security versions that its action leaves. -/
theorem State.bitCmd_secVers {s : State} (p : Port) (a : Nat) (w : Word) (bit : Nat) (v : Option Nat) {f : State → State}
    (hf : (f s).mgmt.secVers = s.mgmt.secVers) : (s.bitCmd p a w bit v f).mgmt.secVers = s.mgmt.secVers := by
  unfold State.bitCmd
  split
  · rfl
  · split
    · rw [State.reject_mgmt]
    · exact hf

theorem State.cond_set_mgmt (s : State) (b : Bool) (f : Fld) (v : Nat) : (s.cond b (·.set f v)).mgmt = s.mgmt := by
  cases b with
  | false => rfl
  | true => exact s.set_mgmt f v 0

/-- R289: the load as its octets are dropped. -/
def State.loadEmptied (s : State) : State :=
  (((s.cond (s.mgmt.hostLen != 0 || s.get RST_HLOAD_STS.STATE == 2) (·.set RST_BOOT_STS.CAUSE_HOST 12)).set RST_HLOAD_CTL.CHUNK 0).set
    RST_HLOAD_CTL.END 0).wr .RST_HLOAD_STS 0 0

theorem State.loadAbort_eq (s : State) : s.loadAbort = { s.loadEmptied.set RST_HLOAD_STS.STATE 1 with
    mgmt := { s.loadEmptied.mgmt with hostLen := 0 } } := rfl

theorem State.loadAbort_secVers (s : State) : s.loadAbort.mgmt.secVers = s.mgmt.secVers := by
  rw [State.loadAbort_eq]
  dsimp only
  rw [State.loadEmptied, State.wr_mgmt, State.set_mgmt, State.set_mgmt, State.cond_set_mgmt]

theorem State.loadCmd_secVers (s : State) (p : Port) (a : Nat) (w : Word) : (s.loadCmd p a w).mgmt.secVers = s.mgmt.secVers := by
  unfold State.loadCmd
  dsimp only
  rw [State.bitCmd_secVers _ _ _ _ _ (State.loadAbort_secVers _), State.bitCmd_secVers _ _ _ _ _ (by rw [State.set_mgmt, State.set_mgmt]),
    State.bitCmd_secVers _ _ _ _ _ (by rw [State.set_mgmt]), State.set_mgmt]

/-- R310: in BOOT no update command acts. -/
theorem State.updCmds_mgmt {s : State} (p : Port) (a : Nat) (w : Word) (hm : s.mode = 1) : (s.updCmds p a w).mgmt = s.mgmt := by
  have hacts : s.updateActs = false := by simp [State.updateActs, hm]
  unfold State.updCmds
  rw [hacts]
  split
  · rfl
  · exact s.reject_mgmt 1 p a

theorem State.freqCmd_secVers (s : State) (p : Port) (a : Nat) (w : Word) : (s.freqCmd p a w).mgmt.secVers = s.mgmt.secVers := by
  unfold State.freqCmd
  dsimp only
  rw [State.bitCmd_secVers _ _ _ _ _ (by rw [State.freqStart, State.set_mgmt, State.set_mgmt, State.wr_mgmt]), State.wr_mgmt]

theorem State.crcCmd_secVers (s : State) (p : Port) (a : Nat) (w : Word) : (s.crcCmd p a w).mgmt.secVers = s.mgmt.secVers := by
  unfold State.crcCmd
  dsimp only
  rw [State.bitCmd_secVers _ _ _ _ _ (by rw [State.defer, State.inc_mgmt, State.record, State.wr_mgmt, State.startCommit, State.set_mgmt]), State.wr_mgmt]

theorem State.takeModeReq_mgmt (s : State) (v : Nat) : (s.takeModeReq v).mgmt = s.mgmt := by
  unfold State.takeModeReq State.cond
  dsimp only
  split <;> rw [State.set_mgmt]

theorem State.freshLanes_mgmt (s : State) : (State.upto 4 (fun l s => s.freshLane l) s).mgmt = s.mgmt :=
  State.upto_keeps (P := fun u => u.mgmt = s.mgmt) (fun l _ u hu => by rw [State.freshLane, State.setLane, State.setBit_mgmt, hu]) rfl

theorem State.writeGate_mgmt (s : State) (w : Word) : (s.writeGate w).mgmt = s.mgmt := by
  refine State.upto_keeps (P := fun u => u.mgmt = s.mgmt) (fun b _ u hu => ?_) rfl
  dsimp only
  split
  · split
    · rw [State.inc_mgmt, State.setBit_mgmt, hu]
    · rw [State.setBit_mgmt, hu]
  · exact hu

/-- R284: a preload may name the register. -/
def Rg.preloadable (r : Rg) : Bool := !preloadBars r && r.cfgMask != 0 && !r.grouped

theorem State.effect_secVers {s : State} (a : Nat) {r : Rg} (i : Nat) (w : Word) (hr : r.preloadable = true) (hm : s.mode = 1) :
    (s.effect .preload a r i w).mgmt.secVers = s.mgmt.secVers := by
  have href (word : Nat) (m : Word) (hw : word < 4) : (s.writeRef i word m).mgmt.secVers = s.mgmt.secVers :=
    have ⟨_, _, h⟩ := s.writeRef_effect (i := i) m hw
    h.secVers (by simp)
  have hstored (m : Word) : (s.wr r i m).mgmt.secVers = s.mgmt.secVers := by rw [State.wr_mgmt]
  unfold State.effect
  split
  case h_1 => exact congrArg Mgmt.secVers (s.takeModeReq_mgmt _)
  case h_2 => exact congrArg Mgmt.secVers (s.writeGate_mgmt w)
  case h_6 =>
    dsimp only
    rw [State.wr_mgmt]
  case h_7 => exact s.crcCmd_secVers _ _ w
  case h_8 =>
    dsimp only [State.cond]
    split
    · rw [State.freshLanes_mgmt, State.wr_mgmt]
    · exact hstored _
  case h_10 | h_11 | h_12 | h_13 | h_14 =>
    dsimp only
    rw [State.setNpend, State.setB_mgmt, State.wr_mgmt]
  case h_16 => exact href 0 _ (by decide)
  case h_17 => exact href 1 _ (by decide)
  case h_18 => exact href 2 _ (by decide)
  case h_19 => exact href 3 _ (by decide)
  case h_23 => exact ((State.showRole_changesOnly _ [] (words := [(.PAIR_STS, 0)]) (by simp)).secVers (by simp)).trans (hstored _)
  case h_26 => exact s.freqCmd_secVers _ _ w
  case h_29 => exact s.loadCmd_secVers _ _ w
  case h_30 =>
    have hmode : (s.wr .MGMT_UPD_CTL i (mergeMask (s.rd .MGMT_UPD_CTL i) w (Rg.MGMT_UPD_CTL.maskAt i))).mode = 1 := by
      have hne : Rg.MGMT_UPD_CTL.key i ≠ Rg.DEV_MODE.key 0 := Nat.ne_of_gt (Nat.lt_of_lt_of_le (by decide) (Nat.le_add_right _ _))
      rw [State.mode, State.get, s.rd_wr_ne _ hne]
      exact hm
    exact (congrArg Mgmt.secVers (State.updCmds_mgmt _ _ _ hmode)).trans (hstored _)
  case h_32 => exact hstored _
  case h_3 | h_4 | h_5 | h_9 | h_15 | h_20 | h_21 | h_22 | h_24 | h_25 | h_27 | h_28 | h_31 => exact absurd hr (by decide)

theorem State.writeReg_secVers {s : State} (a : Nat) {r : Rg} (i : Nat) (w : Word) (hr : r.preloadable = true) (hm : s.mode = 1) :
    (s.writeReg .preload a r i w).mgmt.secVers = s.mgmt.secVers := by
  have hgroup : r.grouped = false := by
    simp only [Rg.preloadable, Bool.and_eq_true, Bool.not_eq_true'] at hr
    exact hr.2
  unfold State.writeReg
  rw [hgroup]
  split
  · unfold State.writeCounter
    split_ifs
    · rfl
    · rw [State.reject_mgmt]
    · rw [State.wr_mgmt]
  · rw [if_neg Bool.false_ne_true]
    split
    · rfl
    · split
      · rw [State.reject_mgmt]
      · rw [State.touched_mgmt, State.effect_secVers a i w hr hm]

/-- R284: a pair of a preload leaves the security versions. -/
theorem preloadPair_secVers (x : Preload) (pair : Nat × Word) : (preloadPair x pair).state.mgmt.secVers = x.state.mgmt.secVers := by
  unfold preloadPair
  split
  · rfl
  dsimp only
  split
  · rfl
  next r i _ =>
    split_ifs with hbar _ hgroup
    · rfl
    · rfl
    · rfl
    · exact congrArg Mgmt.secVers (x.state.writeGate_mgmt _)
    · rfl
    · have hr : r.preloadable = true := by
        simp only [Bool.or_eq_true, not_or, Bool.not_eq_true] at hbar
        obtain ⟨⟨hb, hmask⟩, -⟩ := hbar
        rw [Bool.not_eq_true] at hgroup
        rw [Rg.preloadable, hb, bne, hmask, hgroup]
        rfl
      have hmode : ((x.state.wr .DEV_CMD_STATUS 0 0).set DEV_MODE.MODE 1).mode = 1 := State.get_set_same _ DEV_MODE.MODE 1 0 (by decide)
      dsimp only
      rw [State.wr_mgmt, State.set_mgmt, State.writeReg_secVers _ _ _ hr hmode, State.set_mgmt, State.wr_mgmt]

theorem State.preload_secVers (s : State) (pairs : List (Nat × Word)) : (s.preload pairs).state.mgmt.secVers = s.mgmt.secVers := by
  have h : ∀ x : Preload, (pairs.foldl preloadPair x).state.mgmt.secVers = x.state.mgmt.secVers := by
    induction pairs with
    | nil => exact fun _ => rfl
    | cons pair pairs ih => exact fun x => (ih _).trans (preloadPair_secVers x pair)
  exact h _

end Sys2Proof.Machine

namespace Sys2Proof.Machine

/-! ### The sections of an image (R283, R288) -/

theorem Rg.pstore_key (k : Nat) : Rg.PSTORE.key k = 0x3000000 + k := congrArg (0x3000000 + ·) (Nat.one_mul k)

/-- The keys of the program store and of the word that shows it. -/
abbrev storeKey (k : Nat) : Prop := k = 0x120808 ∨ 0x3000000 ≤ k ∧ k < 0x3008000

/-- Neither the management part nor the program store has changed. -/
def State.keepsStore (s t : State) : Prop := t.mgmt = s.mgmt ∧ ∀ r i, storeKey (r.key i) → t.rd r i = s.rd r i

theorem State.keepsStore.trans {s t u : State} (h : s.keepsStore t) (h' : t.keepsStore u) : s.keepsStore u :=
  have ⟨hm, hw⟩ := h
  have ⟨hm', hw'⟩ := h'
  ⟨hm'.trans hm, fun r i hk => (hw' r i hk).trans (hw r i hk)⟩

theorem State.keepsStore_refl (s : State) : s.keepsStore s := ⟨rfl, fun _ _ _ => rfl⟩

theorem State.keepsStore_wr (s : State) {r : Rg} {i : Nat} (w : Word) (h : ¬ storeKey (r.key i)) : s.keepsStore (s.wr r i w) :=
  ⟨s.wr_mgmt .., fun _ _ hk => s.rd_wr_ne w fun he => h (he ▸ hk)⟩

theorem State.keepsStore_cond {s : State} {b : Bool} {f : State → State} (h : s.keepsStore (f s)) : s.keepsStore (s.cond b f) := by
  unfold State.cond
  split
  · exact h
  · exact s.keepsStore_refl

theorem State.keepsStore_foldl {α : Type} {f : State → α → State} {l : List α} (h : ∀ a ∈ l, ∀ u : State, u.keepsStore (f u a)) (s : State) :
    s.keepsStore (l.foldl f s) := by
  induction l generalizing s with
  | nil => exact s.keepsStore_refl
  | cons a l ih => exact (h a List.mem_cons_self s).trans (ih (fun b hb => h b (List.mem_cons_of_mem _ hb)) _)

theorem State.keepsStore_putWords (s : State) {r : Rg} {i0 : Nat} {ws : List Word} (h : ∀ k < ws.length, ¬ storeKey (r.key (i0 + k))) :
    s.keepsStore (s.putWords r i0 ws) :=
  State.keepsStore_foldl (fun k hk u => u.keepsStore_wr _ (h k (List.mem_range.mp hk))) s

/-- What a filter by key leaves of a table. -/
theorem Tab.get_filter {α : Type} (d : α) (t : Tab α) (p : Nat → Bool) {k : Nat} (h : p k = true) :
    Tab.get d (t.filter fun kv => p kv.1) k = Tab.get d t k := by
  induction t with
  | nil => rfl
  | cons x t ih =>
    obtain ⟨j, v⟩ := x
    rw [List.filter_cons]
    by_cases hj : j = k
    · subst hj
      rw [if_pos h, Tab.get, Tab.get, if_pos rfl, if_pos rfl]
    · rw [Tab.get, if_neg hj]
      split
      · rw [Tab.get, if_neg hj, ih]
      · exact ih

theorem State.keepsStore_blankKeys (s : State) {lo hi : Nat} (p : Nat → Bool) (h : 0x3008000 ≤ lo) : s.keepsStore (s.blankKeys lo hi p) := by
  refine ⟨rfl, fun r i hk => ?_⟩
  have hkeep : (!(decide (lo ≤ r.key i) && decide (r.key i < hi) && p (r.key i))) = true := by
    have hlo : ¬ lo ≤ r.key i := by unfold storeKey at hk; omega
    simp [hlo]
  exact congrArg (· ^^^ r.resetWord i)
    (Tab.get_filter 0 s.regs (fun k => !(decide (lo ≤ k) && decide (k < hi) && p k)) hkeep)

theorem State.keepsStore_touched (s : State) (r : Rg) : s.keepsStore (s.touched r) := by
  refine ⟨s.touched_mgmt r, fun q j hk => s.touched_rd_ne r ?_⟩
  have hcrc : Rg.CFG_CRC_CTL.key 0 = 0x88 := rfl
  unfold storeKey at hk
  omega

theorem State.keepsStore_loadPrograms (s : State) {img : Image} (h : ∀ p ∈ img.programs, p.ch < 512) : s.keepsStore (s.loadPrograms img) := by
  have kmap (c : Nat) : Rg.ENG_CHMAP.key c = 0x120000 + 4 * c := rfl
  have kparam (i : Nat) : Rg.PARAM.key i = 0x4000000 + 1 * i := rfl
  have hmap {c : Nat} (hc : c < 512) : ¬ storeKey (Rg.ENG_CHMAP.key c) := by
    rw [kmap]
    omega
  refine ((s.keepsStore_blankKeys _ (by decide)).trans (State.keepsStore_foldl (fun c hc u => ?_) _)).trans
    (State.keepsStore_foldl (fun p hp u => ?_) _)
  · exact State.keepsStore_cond (u.keepsStore_wr _ (hmap (List.mem_range.mp hc)))
  · refine (u.keepsStore_wr _ (hmap (h p hp))).trans (State.keepsStore_putWords _ fun k _ => ?_)
    rw [kparam]
    omega

theorem State.keepsStore_loadRules (s : State) {bank : Rg} (rules : Option (List (List Word))) (hb : 0x3008000 ≤ bank.info.base) :
    s.keepsStore (s.loadRules bank rules) := by
  have hkey (i : Nat) : ¬ storeKey (bank.key i) := by
    have : bank.key i = bank.info.base + bank.info.stride * i := rfl
    unfold storeKey
    omega
  cases rules with
  | none => exact s.keepsStore_refl
  | some rs =>
    refine (s.keepsStore_blankKeys _ (Nat.le_trans hb (Nat.le_add_right _ _))).trans (State.keepsStore_foldl (fun r _ u => ?_) _)
    exact u.keepsStore_putWords fun k _ => hkey _

theorem State.keepsStore_loadHopCtl (s : State) (ws : Option (List Word)) : s.keepsStore (s.loadHopCtl ws) := by
  have hkey {r : Rg} (hr : 0x3008000 ≤ r.info.base) (i : Nat) : ¬ storeKey (r.key i) := by
    have : r.key i = r.info.base + r.info.stride * i := rfl
    unfold storeKey
    omega
  cases ws with
  | none => exact s.keepsStore_refl
  | some w =>
    exact (((s.keepsStore_putWords fun k _ => hkey (by decide) _).trans (State.keepsStore_putWords _ fun k _ => hkey (by decide) _)).trans
      (State.keepsStore_putWords _ fun k _ => hkey (by decide) _)).trans (State.keepsStore_touched _ _)

theorem State.keepsStore_loadPresets (s : State) (es : List PresetEntry) : s.keepsStore (s.loadPresets es) := by
  refine State.keepsStore_foldl (fun e _ u => u.keepsStore_putWords fun k _ => ?_) s
  have : Rg.PRESET.key ((e.ch * 64 + e.idx) * 8 + k) = 0x8000000 + 1 * ((e.ch * 64 + e.idx) * 8 + k) := rfl
  unfold storeKey
  omega

/-- R283: the program store holds the words of section 3, and their hash is kept. -/
theorem State.loadStore_effect (s : State) (ws : List Word) :
    (s.loadStore ws).on ENG_POOL.PSTORE_OK = true ∧ (∀ k, k < ws.length → (s.loadStore ws).rd .PSTORE k = ws.getD k 0)
      ∧ (s.loadStore ws).mgmt = { s.mgmt with hash := crc32 (ws.flatMap fun w => octetsLe w.toNat 4) } := by
  let u := State.upto ws.length (fun k s => s.wr .PSTORE k (ws.getD k 0))
    (s.blankKeys (Rg.PSTORE.key 0) (Rg.PSTORE.key 0 + 0x8000) fun _ => true)
  have hmgmt : u.mgmt = s.mgmt := State.upto_keeps (P := fun v => v.mgmt = s.mgmt) (fun k _ v hv => (v.wr_mgmt ..).trans hv) rfl
  have he : s.loadStore ws = { u.set ENG_POOL.PSTORE_OK 1 with
      mgmt := { u.mgmt with hash := crc32 (ws.flatMap fun w => octetsLe w.toNat 4) } } := rfl
  have hne (k : Nat) : ENG_POOL.PSTORE_OK.r.key 0 ≠ Rg.PSTORE.key k := by
    rw [Rg.pstore_key]
    exact Nat.ne_of_lt (Nat.lt_of_lt_of_le (by decide) (Nat.le_add_right _ _))
  rw [he]
  refine ⟨?_, fun k hk => ?_, by rw [← hmgmt]⟩
  · rw [State.mk_on, State.on_set_same _ _ _ _ (by decide)]
    rfl
  · rw [State.mk_rd, State.rd_set_ne _ _ _ _ (hne k)]
    exact State.rd_upto_wr .PSTORE id _ (fun i j hij => by rw [Rg.pstore_key, Rg.pstore_key, id, id]; omega) _ hk

/-- R282, R288: the sections behind the program store take effect, those that L2 keeps in a cold start only. -/
def State.sectionsBehind (s : State) (img : Image) (cold : Bool) : State :=
  let s := s.cond (hasSect img 3 && cold) fun s => s.loadPrograms img
  let s := s.cond (hasSect img 4 && cold) fun s => s.loadRules .RULE_A img.ruleA
  let s := s.cond (hasSect img 5 && cold) fun s => s.loadRules .RULE_B img.ruleB
  let s := s.cond (hasSect img 6) fun s => s.loadHopCtl img.hopCtl
  s.cond (hasSect img 6 && cold) fun s => s.loadPresets img.presets

theorem State.keepsStore_sectionsBehind (s : State) {img : Image} (cold : Bool) (h : ∀ p ∈ img.programs, p.ch < 512) :
    s.keepsStore (s.sectionsBehind img cold) :=
  ((((State.keepsStore_cond (s.keepsStore_loadPrograms h)).trans (State.keepsStore_cond (State.keepsStore_loadRules _ _ (by decide)))).trans
    (State.keepsStore_cond (State.keepsStore_loadRules _ _ (by decide)))).trans (State.keepsStore_cond (State.keepsStore_loadHopCtl _ _))).trans
    (State.keepsStore_cond (State.keepsStore_loadPresets _ _))

/-- R283: the sections as they stand before the identity and the policy are taken. -/
def State.sectionsPut (s : State) (img : Image) : State :=
  (s.cond (hasSect img 3) fun s => s.loadStore img.pstore).sectionsBehind img (!(s.get RST_BOOT_STS.KIND == 2 && s.mode == 1))

theorem State.applySections_eq (s : State) (img : Image) : s.applySections img = { s.sectionsPut img with mgmt := { (s.sectionsPut img).mgmt with
    idMode := img.idMode, oui := img.oui, ids := img.ids
    policy := if hasSect img 7 then img.policy.getD JournalPolicy.unset else JournalPolicy.unset } } := rfl

/-- R282, R283: what the sections of an image leave of the identity, the program store and the versions of the slots. -/
theorem State.applySections_effect (s : State) {img : Image} (hprog : ∀ p ∈ img.programs, p.ch < 512) (hlen : img.pstore.length ≤ 32768) :
    (s.applySections img).mgmt.secVers = s.mgmt.secVers ∧ (s.applySections img).mgmt.idMode = img.idMode
      ∧ (s.applySections img).mgmt.ids = img.ids
      ∧ (hasSect img 3 = true → (s.applySections img).on ENG_POOL.PSTORE_OK = true
        ∧ (∀ k, k < img.pstore.length → (s.applySections img).rd .PSTORE k = img.pstore.getD k 0)
        ∧ (s.applySections img).mgmt.hash = crc32 (img.pstore.flatMap fun w => octetsLe w.toNat 4)) := by
  obtain ⟨hok, hwords, hmgmt⟩ := s.loadStore_effect img.pstore
  obtain ⟨hbehind, hkeep⟩ := State.keepsStore_sectionsBehind (s.cond (hasSect img 3) fun s => s.loadStore img.pstore)
    (!(s.get RST_BOOT_STS.KIND == 2 && s.mode == 1)) hprog
  have hput : (s.sectionsPut img).mgmt = (s.cond (hasSect img 3) fun s => s.loadStore img.pstore).mgmt := hbehind
  rw [s.applySections_eq img]
  refine ⟨?_, rfl, rfl, fun h3 => ?_⟩
  · dsimp only
    rw [hput, State.cond]
    split
    · rw [hmgmt]
    · rfl
  · rw [h3] at hput hkeep
    have hpool : (s.sectionsPut img).rd .ENG_POOL = (s.loadStore img.pstore).rd .ENG_POOL := by
      rw [State.sectionsPut, h3]
      exact hkeep .ENG_POOL 0 (.inl rfl)
    refine ⟨(congrArg (fun w => ENG_POOL.PSTORE_OK.of w != 0) hpool).trans hok, fun k hk => ?_, ?_⟩
    · rw [State.mk_rd, State.sectionsPut, h3]
      exact (hkeep .PSTORE k (.inr (by rw [Rg.pstore_key]; omega))).trans (hwords k hk)
    · dsimp only
      rw [hput, State.cond, if_pos rfl, hmgmt]

end Sys2Proof.Machine

namespace Sys2Proof.Machine

/-! ### An accepted image (R285) -/

/-- R283: what the content of the sections bounds. -/
theorem sectionsOk_bounds {t : State} {img : Image} (h : sectionsOk t img = true) :
    img.pstore.length ≤ 32768 ∧ ∀ p ∈ img.programs, p.ch < 512 := by
  simp only [sectionsOk, Bool.and_eq_true, decide_eq_true_eq, List.all_eq_true] at h
  obtain ⟨⟨⟨⟨⟨⟨⟨-, hlen⟩, hprog⟩, -⟩, -⟩, -⟩, -⟩, -⟩ := h
  exact ⟨hlen, fun p hp => (hprog p hp).1.1.1⟩

/-- R285: an image that every check passes is the one staged, its preload in a write group. -/
theorem State.checkImage_accepted {s : State} {img : Image} (h : (s.checkImage img none).1 = 0) :
    img.pstore.length ≤ 32768 ∧ (∀ p ∈ img.programs, p.ch < 512)
      ∧ (s.checkImage img none).2 = (let x := (s.applySections img).preload img.preload
        x.state.submitPreload x.words.reverse) := by
  unfold State.checkImage at h ⊢
  dsimp only at h ⊢
  split at h
  next hv => exact absurd h hv
  next hv =>
    rw [if_neg hv]
    split at h
    next => cases h
    next hbad =>
      rw [if_neg hbad]
      split at h
      next => cases h
      next hwords =>
        rw [if_neg hwords]
        split at h
        next => cases h
        next hsect =>
          rw [if_neg hsect]
          rw [Bool.not_eq_true', Bool.not_eq_false] at hsect
          obtain ⟨hlen, hprog⟩ := sectionsOk_bounds hsect
          exact ⟨hlen, hprog, rfl⟩

theorem State.submitPreload_mgmt (s : State) (ws : List GWord) : (s.submitPreload ws).mgmt = s.mgmt := by
  unfold State.submitPreload
  split <;> rfl

/-- R282 to R285: what an accepted image leaves of the device beside the preload. -/
theorem State.checkImage_effect {s : State} {img : Image} (h : (s.checkImage img none).1 = 0) :
    (s.checkImage img none).2.mgmt.secVers = s.mgmt.secVers
      ∧ (img.preload = [] → (s.checkImage img none).2 = s.applySections img) := by
  obtain ⟨hlen, hprog, he⟩ := State.checkImage_accepted h
  obtain ⟨hvers, -⟩ := s.applySections_effect hprog hlen
  rw [he]
  refine ⟨?_, fun hnil => by rw [hnil]; rfl⟩
  dsimp only
  rw [State.submitPreload_mgmt, State.preload_secVers, hvers]

theorem State.noteSecVer_mgmt (s : State) (src : BootSrc) (v : Option Nat) :
    (s.noteSecVer src v).mgmt.idMode = s.mgmt.idMode ∧ (s.noteSecVer src v).mgmt.ids = s.mgmt.ids
      ∧ (s.noteSecVer src v).mgmt.hash = s.mgmt.hash := by
  cases src <;> exact ⟨rfl, rfl, rfl⟩

/-- R280, R285: an image that passes is taken, and no further source is tried. -/
theorem exec_bootImageCheck_accepts {s : State} {src : BootSrc} {rest : List BootSrc} {img : Image} (hm : s.mode = 1)
    (ht : s.rst.toTry = src :: rest) (hc : (s.checkImage img none).1 = 0) :
    ∃ t, exec (.bootImageCheck src img) s = .next t
      ∧ t.on RST_BOOT_STS.ACCEPTED = true ∧ t.get RST_BOOT_STS.SRC = srcCode src ∧ t.get (causeField src) = 0
      ∧ t.rst.toTry = [] ∧ t.rst.cloneOpen = false ∧ t.rst.preloaded = true
      ∧ (src = .slotA → t.mgmt.secVers = s.mgmt.secVers.set 2 (some img.header.secVer))
      ∧ (img.preload = [] → t.mgmt.idMode = img.idMode ∧ t.mgmt.ids = img.ids)
      ∧ (img.preload = [] → hasSect img 3 = true → t.on ENG_POOL.PSTORE_OK = true ∧ (∀ k, k < img.pstore.length → t.rd .PSTORE k = img.pstore.getD k 0)
          ∧ t.mgmt.hash = crc32 (img.pstore.flatMap fun w => octetsLe w.toNat 4)) := by
  obtain ⟨hlen, hprog, -⟩ := State.checkImage_accepted hc
  obtain ⟨hvers, hnil⟩ := State.checkImage_effect hc
  obtain ⟨-, hmode, hids, hstore⟩ := s.applySections_effect hprog hlen
  obtain ⟨hacc, hsrc, hcause, htry, hopen, hpre, haccept⟩ := (s.checkImage img none).2.acceptImage_effect src
  obtain ⟨hrst, hA, -, hnote⟩ := ((s.checkImage img none).2.acceptImage src).noteSecVer_effect src (some img.header.secVer)
  obtain ⟨hnmode, hnids, hnhash⟩ := ((s.checkImage img none).2.acceptImage src).noteSecVer_mgmt src (some img.header.secVer)
  have hmgmt : ((s.checkImage img none).2.acceptImage src).mgmt = (s.checkImage img none).2.mgmt := haccept.part .mgmt (by simp)
  have hkeep {r : Rg} {i : Nat} (hk : ∀ q ∈ [(Rg.RST_BOOT_STS, 0), (.MSYN_STS, 0)], q.1.key q.2 ≠ r.key i) :
      (((s.checkImage img none).2.acceptImage src).noteSecVer src (some img.header.secVer)).rd r i = (s.checkImage img none).2.rd r i :=
    (hnote.rd_eq (by simp)).trans (haccept.rd_eq hk)
  have hpstore (k : Nat) : ∀ q ∈ [(Rg.RST_BOOT_STS, 0), (.MSYN_STS, 0)], q.1.key q.2 ≠ Rg.PSTORE.key k := Rg.key_ne_below (by decide)
  rw [hmgmt] at hnmode hnids hnhash
  refine ⟨_, (exec_bootImageCheck img hm ht).trans (congrArg done (if_pos hc)), ?_, ?_, ?_, ?_, ?_, ?_, fun h => ?_, fun h => ⟨?_, ?_⟩,
    fun h h3 => ⟨?_, fun k hk => ?_, ?_⟩⟩
  · rw [State.settle_on_of, hnote.on_eq _ (by simp), hacc]
  · rw [State.settle_get_of, hnote.get_eq _ (by simp), hsrc]
  · rw [State.settle_get_of, hnote.get_eq _ (by simp), hcause]
  · rw [State.settle_rst, hrst, htry]
  · rw [State.settle_rst, hrst, hopen]
  · rw [State.settle_rst, hrst, hpre]
  · rw [State.settle_mgmt, hA h, hmgmt, hvers]
  · rw [State.settle_mgmt, hnmode, hnil h, hmode]
  · rw [State.settle_mgmt, hnids, hnil h, hids]
  · obtain ⟨hok, -, -⟩ := hstore h3
    rw [State.settle_on_of, State.on, State.get, hkeep (by decide), hnil h]
    exact hok
  · obtain ⟨-, hwords, -⟩ := hstore h3
    rw [State.settle_rd_of, hkeep (hpstore k), hnil h, hwords k hk]
  · obtain ⟨-, -, hhash⟩ := hstore h3
    rw [State.settle_mgmt, hnhash, hnil h, hhash]

/-- R297: the check of a firmware slot, by its cause. -/
theorem exec_firmwareSlotCheck_effect {s : State} {b : Bool} {rest : List Bool} (x : FwSlot) (hm : s.mgmtRuns = true)
    (ht : s.mgmt.fwTry = b :: rest) :
    let cause := fwCause x s.fuse.arb
    ∃ t, exec (.firmwareSlotCheck b x) s = .next t
      ∧ t.get (fwCauseField b) = cause
      ∧ t.mgmt.secVers = s.mgmt.secVers.set (flag b) (if cause = 0 then some x.header.secVer else none)
      ∧ (cause = 0 → t.on MGMT_STS.FW_RUN = true ∧ t.on MGMT_STS.ROM_SVC = false ∧ t.get MGMT_FW_STS.SLOT = flag b
          ∧ t.mgmt.fwTry = [] ∧ t.mgmt.lastSeq = 0 ∧ t.rd .MGMT_INB_STS = Config.freeWord s.free
          ∧ s.wrote t 0x10 0xFF 0 (BitVec.ofNat 32 (flag b)) (BitVec.ofNat 32 (x.header.imgVer % 65536 + x.header.secVer % 65536 * 65536))
              (Config.freeWord s.free))
      ∧ (cause ≠ 0 → s.counted t .MGMT_FW_REFUSE_CNT 0 1 ∧ t.mgmt.fwTry = rest ∧ (rest = [] → t.on MGMT_STS.ROM_SVC = true))
      ∧ s.frame t [.mgmt, .free] fwCheckWords := by
  intro cause
  by_cases hc : fwCause x s.fuse.arb = 0
  · obtain ⟨t, he, hcause, hvers, hruns, hframe⟩ := exec_firmwareSlotCheck_runs x hm ht hc
    exact ⟨t, he, hcause.trans hc.symm, by rw [if_pos hc, hvers], fun _ => hruns, fun h => absurd hc h, hframe⟩
  · obtain ⟨t, he, hcause, hvers, hrefused, hframe⟩ := exec_firmwareSlotCheck_refuses x hm ht hc
    exact ⟨t, he, hcause, by rw [if_neg hc, hvers], fun h => absurd h hc, fun _ => hrefused, hframe⟩

/-- Settles O45: the calibration slots, the firmware slots, and the image of the source in turn. -/
theorem bootSources : Obligations.BootSources := by
  unfold Obligations.BootSources
  refine ⟨fun s f a b hm hk => exec_bootCalSlotsRead_effect f a b hm hk, fun s b rest x hm ht => exec_firmwareSlotCheck_effect x hm ht,
    fun s src rest img hm ht => ⟨exec_bootImageCheck_refuses hm ht, exec_bootImageCheck_accepts hm ht, fun hsrc hs => ?_⟩⟩
  subst hsrc
  exact exec_cloneTimeout_refuses hm ht hs

end Sys2Proof.Machine
